-- ==== Sys2Proof/Word.lean ====
section
/-!
DEFINITION. Sys2Proof/Word.lean: the word types of the device.
Registers, packet words and parameter values are 32-bit words (spec 00_scope R3 to R6). Quantities the spec counts
(cycles, indices, lengths) are natural numbers; quantities it signs (currents, charges) are integers.
-/
namespace Sys2Proof

/-- A 32-bit register or packet word. -/
abbrev U32 := BitVec 32
/-- A byte. -/
abbrev U8 := BitVec 8
/-- A binary32 value, held as its bit pattern (R398: f32 values travel as their bit pattern). -/
abbrev F32 := BitVec 32

end Sys2Proof
end

