-- ==== Sys2Proof/Machine/Tbl.lean ====
section
/-!
DEFINITION. Sys2Proof/Machine/Tbl.lean: sparse tables, and the bit fields of 32-bit words.
A table holds an entry per key (a register address, a string, a cell, an SRAM word). It lists only the entries that
differ from what an unlisted key reads as, in rising key order, so equal tables are equal data.
-/
namespace Sys2Proof.Machine

/-- A sparse table: (key, entry) pairs in rising key order. -/
abbrev Tbl (α : Type) := List (Nat × α)

/-- The entry of key `k`; an unlisted key reads as `d`. -/
def Tbl.get {α : Type} (d : α) (t : Tbl α) (k : Nat) : α :=
  match t.find? (fun p => p.1 == k) with
  | some p => p.2
  | none => d

/-- Put an entry at its place in key order. -/
def Tbl.insert {α : Type} (k : Nat) (v : α) : Tbl α → Tbl α
  | [] => [(k, v)]
  | p :: t => if k < p.1 then (k, v) :: p :: t else p :: Tbl.insert k v t

/-- Take key `k` out of the table. -/
def Tbl.erase {α : Type} (t : Tbl α) (k : Nat) : Tbl α := t.filter (fun p => p.1 != k)

/-- Write entry `v` at key `k`; writing what an unlisted key reads as removes the entry. -/
def Tbl.set {α : Type} [DecidableEq α] (d : α) (t : Tbl α) (k : Nat) (v : α) : Tbl α :=
  if v = d then Tbl.erase t k else Tbl.insert k v (Tbl.erase t k)

/-- Keys strictly rising from `lo`, and no entry equal to the default `d`. -/
def Tbl.wfFrom {α : Type} [DecidableEq α] (d : α) (lo : Nat) : Tbl α → Bool
  | [] => true
  | p :: t => decide (lo ≤ p.1) && decide (p.2 ≠ d) && Tbl.wfFrom d (p.1 + 1) t

/-- The canonical form: keys strictly rising, no entry equal to what an unlisted key reads as. -/
def Tbl.wf {α : Type} [DecidableEq α] (d : α) (t : Tbl α) : Bool := Tbl.wfFrom d 0 t

/-- Apply `f` to the entry of key `k`. -/
def Tbl.upd {α : Type} [DecidableEq α] (d : α) (t : Tbl α) (k : Nat) (f : α → α) : Tbl α :=
  Tbl.set d t k (f (Tbl.get d t k))

/-! ## Bit fields of 32-bit words -/

/-- The `len` bits of `w` from bit `lo` up, as a number. -/
def fld (w : U32) (lo len : Nat) : Nat := w.toNat / 2 ^ lo % 2 ^ len

/-- `w` with its `len` bits from bit `lo` up replaced by `v` modulo 2^len. -/
def putFld (w : U32) (lo len v : Nat) : U32 :=
  BitVec.ofNat 32 (w.toNat % 2 ^ lo + v % 2 ^ len * 2 ^ lo + w.toNat / 2 ^ (lo + len) * 2 ^ (lo + len))

/-- Bit `i` of `w`. -/
def bitOf (w : U32) (i : Nat) : Bool := fld w i 1 == 1

/-- 1 for true, 0 for false. -/
def b2n (b : Bool) : Nat := if b then 1 else 0

/-- `w` with bit `i` set to `b`. -/
def putBit (w : U32) (i : Nat) (b : Bool) : U32 := putFld w i 1 (b2n b)

/-- Bit `i` of a natural number. -/
def nbit (v i : Nat) : Bool := v / 2 ^ i % 2 == 1

/-- The number whose bit i is `f i`, for i below n. -/
def packBits (f : Nat → Bool) : Nat → Nat
  | 0 => 0
  | n + 1 => packBits f n + b2n (f n) * 2 ^ n

/-- A natural number as a 32-bit word, modulo 2^32. -/
def w32 (n : Nat) : U32 := BitVec.ofNat 32 n

/-- An integer as a 32-bit two's complement word. -/
def ws32 (i : Int) : U32 := BitVec.ofInt 32 i

/-- The low 16 bits of an integer, as s16 in a natural number. -/
def ws16 (i : Int) : Nat := (i % 65536).toNat

/-- A 16-bit value read as two's complement. -/
def toS16 (v : Nat) : Int := if v % 65536 < 32768 then ((v % 65536 : Nat) : Int) else ((v % 65536 : Nat) : Int) - 65536

/-- An integer held within [lo, hi]. -/
def clampInt (lo hi v : Int) : Int := if v < lo then lo else if hi < v then hi else v

/-- Insert a number into a strictly rising list, once. -/
def insertNat (k : Nat) : List Nat → List Nat
  | [] => [k]
  | x :: t => if k < x then k :: x :: t else if k = x then x :: t else x :: insertNat k t

/-- A bit vector held as a natural number, with bit `i` set to `b`. -/
def nput (v i : Nat) (b : Bool) : Nat := v - b2n (nbit v i) * 2 ^ i + b2n b * 2 ^ i

end Sys2Proof.Machine
end

