-- ==== Sys2Proof/Machine/TypesCore.lean ====
section
/-!
DEFINITION. Sys2Proof/Machine/TypesCore.lean: the shapes of the device's own state: device and string states, event posts,
and the parts of State that belong to the timebase, the rings and the acquisition (spec 01, 02, 03, 04, 18).
Every field's default is its value after reset.
-/
namespace Sys2Proof.Machine

/-- Device states (R20). -/
inductive DevState where
  | off | hibernate | boot | standby | connecting | connected | disconnecting | safeHold | service
  deriving DecidableEq, Repr, Inhabited

/-- String states (R20, R269). -/
inductive StrState where
  | sOpen | sPrecharging | sJoining | sClosed | sOpening | sLockedOut | sWeldSuspect
  deriving DecidableEq, Repr, Inhabited

/-- Debug modes (R21, R355). -/
inductive DebugMode where
  | off | live | service
  deriving DecidableEq, Repr, Inhabited

/-- An event posted by its detecting pair and not yet taken by P2 (R503, R504). -/
structure Post where
  /-- Event code. R503. -/
  code  : Nat
  /-- Argument, u64. R503. -/
  arg   : Nat
  /-- Cycle count at detection. R503. -/
  cyc   : Nat
  /-- TB_ANGLE at detection. R503. -/
  angle : Nat
  /-- Session of a host command, 0xF otherwise. R503. -/
  sess  : Nat := 0xF
  /-- Pair the record's SOURCE names: the detecting pair, or the gate's pair (R58). -/
  pair  : Nat
  deriving DecidableEq, Repr

/-- An event in force (R545): its code and the scope it is in force for. -/
structure InForce where
  /-- Event code. -/
  code  : Nat
  /-- Scope key: string, ring, channel and so on; 0x7F.. for the device (see `Scope`). -/
  scope : Nat
  /-- In force for the cycle of its logging only (R545, no persisting condition). -/
  once  : Bool := false
  deriving DecidableEq, Repr

/-! ## Timebase and piste -/

/-- Timebase states, numbered as TB_STATUS.STATE (R42, R52). -/
inductive TbState where
  | free | acquiring | locked | holdover
  deriving DecidableEq, Repr, Inhabited

/-- An open gate: the entry it started from (its deadline, class, action and argument stand, R63) and its cycle (R55). -/
structure OpenGate where
  /-- Gate index. R53. -/
  idx      : Nat
  /-- Word 1 of its entry, the deadline angle. -/
  deadline : U32
  /-- Word 2 of its entry. -/
  w2       : U32
  /-- Word 3 of its entry, ARG. -/
  arg      : U32
  /-- Cycle count of the cycle in which it started. R55. -/
  cyc      : Nat
  /-- TB_LOCAL_CYC of that cycle. -/
  local_   : Nat
  /-- The bank it started from has been replaced since. R63. -/
  old      : Bool := false
  deriving DecidableEq, Repr

/-- A start event in a pair's FIFO (R53, R55, R56). -/
structure StartEvent where
  idx : Nat
  arg : U32
  cyc : Nat
  deriving DecidableEq, Repr

/-- The phase unit beyond its registers (chapter 02). -/
structure Timebase where
  /-- Cycle count, u48. 02 R39. DC -/
  cyc        : Nat := 0
  /-- Lower 32 bits of the phase accumulator. 02 R38. DC -/
  angleLo    : Nat := 0
  /-- PHASE_OUT pulses given since reset. 02 R49. DC -/
  pulses     : Nat := 0
  /-- The source in force, as TB_CTRL.SRC encodes it: a change of TB_CTRL takes effect at the next angle 0. 02 R42, R52. -/
  src        : Nat := 0
  /-- TB_CTRL as the parameters last gave it. 02 R50. -/
  ctl        : Nat := 0
  /-- Deviation of the angle's rate from the tracked frequency, ppm. 02 R42, R46. DC -/
  dev        : Int := 0
  /-- The angle offset that acts, m°: it follows timebase.angle_offset_mdeg by slewing. 02 R46, R50. DC -/
  offset     : Int := 0
  /-- Running: the timebase starts 5.0 ms into BOOT. 02 R49, 17 R516. -/
  running    : Bool := false
  /-- Consecutive qualifying evaluations. 02 R41, R42. DC -/
  qual       : Nat := 0
  /-- Consecutive failing evaluations in LOCKED. 02 R42. DC -/
  bad        : Nat := 0
  /-- Consecutive evaluations with reversed rotation. 02 R37. DC -/
  rot        : Nat := 0
  /-- Frozen tracking frequency, µHz; none measured yet. 02 R41. DC -/
  frozen     : Option Nat := none
  /-- Held frequency, µHz. 02 R42. DC -/
  held       : Option Nat := none
  /-- Frequencies run at in the last 22 evaluations, newest first, µHz. 02 R42. DC -/
  freqHist   : List Nat := []
  /-- The holdover timer runs. 02 R42. DC -/
  holdTimer  : Bool := false
  /-- What the running holdover timer runs to, s: timebase.holdover_s, and 1 s while THM_STATUS.OTP_ERR. 02 R42, 08 R259. DC -/
  holdFor    : Nat := 0
  /-- At the next angle 0 the frequency changes to f_nom. 02 R42. DC -/
  fnomDue    : Bool := false
  /-- Cycle-count step awaiting the next angle 0, signed. 02 R48. DC -/
  step       : Option Int := none
  /-- TIMEBASE_ALIGN awaiting its step. 13 R401. DC -/
  alignDue   : Option Int := none
  deriving DecidableEq, Repr

/-- The piste sequencer beyond its registers (chapter 02). -/
structure Piste where
  /-- Open gates, oldest first. 02 R55. DC -/
  open_      : List OpenGate := []
  /-- Start FIFO of each pair P0 to P3, 256 entries each. 02 R56. DC -/
  fifo       : Tbl (List StartEvent) := []
  /-- Misses of each gate in consecutive cycles, and the local cycle of the last. 02 R59. DC -/
  misses     : Tbl Nat := []
  missAt     : Tbl Nat := []
  /-- Committed SINGLE piste where it differs from the default of R60: word index to word. 02 R65. -/
  single     : Tbl U32 := []
  /-- Committed DENSE piste where it differs from the default of R61. 02 R65. -/
  dense      : Tbl U32 := []
  deriving DecidableEq, Repr

/-! ## Rings -/

/-- What the device holds of one node (R67, R76, R79, R98, R108). -/
structure RingNode where
  /-- Assigned in the present enumeration. -/
  present : Bool := false
  /-- NODE_ID of its ACK. -/
  nodeId  : U32 := 0
  /-- Serial of its ACK, 64 bits. -/
  serial  : Nat := 0
  /-- UNIT_CFG of unit 0 and unit 1; 0 where the unit is absent. -/
  cfg0    : Nat := 0
  cfg1    : Nat := 0
  /-- Arrival latency from A, in units of 0.5 ns; none where not measured or computed. -/
  aLat    : Option Nat := none
  bLat    : Option Nat := none
  /-- NODE_MODE.ACTIVE as last written and answered. -/
  active  : Bool := false
  /-- SU_LINKLOSS as last written, ms (R96, R108). -/
  loss    : Nat := 1000
  /-- Taken in by a join and not yet made ACTIVE (R106). -/
  joining : Bool := false
  /-- Refused under R80, R67 or R91. -/
  refused : Bool := false
  /-- Serial check failed (R98, R106). -/
  wrongSerial : Bool := false
  /-- Programmed DLY_A and DLY_B, 10 ns units. -/
  dlyA    : Nat := 0
  dlyB    : Nat := 0
  /-- UNIT_SLICE of unit 0 and unit 1. -/
  slice0  : Nat := 0
  slice1  : Nat := 0
  /-- Reached from neither stub end (R101). -/
  unreach : Bool := false
  deriving DecidableEq, Repr

/-- Who awaits the outcome of an exchange. -/
inductive ExchFor where
  /-- P0: a CONTACTOR_SET or CONTACTOR_READ of a string (R266, R267). -/
  | contactor (str : Nat)
  /-- P1: NODE_READ of a host command (session, tag) (R405). -/
  | nodeRead (sess tag : Nat)
  /-- P1: a WRITE_REG of its own (R98, R106, R110). -/
  | config
  deriving DecidableEq, Repr

/-- A CMD exchange (R92 to R94). -/
structure Exch where
  pair    : Nat
  addr    : Nat
  unit    : Nat
  opcode  : Nat
  args    : List Nat
  seq     : Nat := 0
  retries : Nat := 0
  /-- The end it goes from whatever the stub ends say: a write that makes a node a stub end (R101). -/
  via     : Option Bool := none
  /-- Sent once more after a SEQ_GAP (R94). -/
  rebased : Bool := false
  /-- Retransmission is due (timeout, erroneous RESP or switchover); it goes with RETRY clear (R94). -/
  resend  : Bool := false
  clear   : Bool := false
  who     : ExchFor
  deriving DecidableEq, Repr

/-- Something a pair has released to a ring controller and that is not yet sent (R13, R95). -/
inductive RingTx where
  | cmd (e : Exch)
  /-- A BAL frame: its snapshot ID, CANCEL, and entries (position, unit, pattern) (R83). -/
  | bal (snap : Nat) (cancel : Bool) (entries : List (Nat × Nat × Nat))
  /-- An ENUM frame: action, payload after byte 0, and side A (false) or B (true) (R97). -/
  | enm (action : Nat) (payload : List Nat) (sideB : Bool)
  /-- The WRITE_REG of NODE_MODE that makes a node a stub end, from side A (false) or B (true) (R101). -/
  | stubEnd (addr : Nat) (sideB : Bool)
  deriving DecidableEq, Repr

/-- A frame the ring controller has put on the line, oldest first kept as the last ones sent (R72). -/
structure RingFrameOut where
  /-- TYPE (R73). -/
  ftype   : Nat
  addr    : Nat
  sideB   : Bool
  retry   : Bool
  token   : Bool := false
  payload : List Nat
  deriving DecidableEq, Repr

/-- Progress of an enumeration (R98). -/
structure EnumProg where
  /-- Enumerating from B. -/
  sideB   : Bool := false
  /-- Address of the ASSIGN awaiting its ACK; none between steps. -/
  addr    : Option Nat := none
  /-- Addresses taken from A, in order of reach; from B, in order of reach. -/
  fromA   : List Nat := []
  fromB   : List Nat := []
  /-- Nodes from here on are refused (R80, R67, R91). -/
  refuseA : Bool := false
  refuseB : Bool := false
  /-- This is a hot join through the A stub end (R106), not an enumeration of the ring. -/
  join    : Bool := false
  deriving DecidableEq, Repr

/-- The binary search for the stub ends (R101), one per side: the range still open. -/
structure StubSearch where
  /-- Addresses, ascending, still possible as the A stub end, and the last that answered. -/
  loA     : Nat := 0
  hiA     : Nat := 0
  loB     : Nat := 0
  hiB     : Nat := 0
  /-- The search is for the A stub end; for the B stub end (R105). -/
  doA     : Bool := true
  doB     : Bool := true
  /-- PING outstanding toward this address from A and from B. -/
  pingA   : Option Nat := none
  pingB   : Option Nat := none
  deriving DecidableEq, Repr

/-- What the segments of a train have changed, newest first, so that a train found in error has no effect (R11, R75). -/
structure TrainUndo where
  /-- Address and the bytes that stood there. -/
  mem  : List (Nat × List U8) := []
  /-- Unit-map index, its age, and whether it had already delivered. -/
  ages : List (Nat × Nat × Bool) := []
  /-- Address × 2 + unit, and its run of bad trains. -/
  bad  : List (Nat × Nat) := []
  deriving DecidableEq, Repr

/-- One ring controller beyond its registers (chapter 03). -/
structure Ring where
  /-- Enumerated nodes by address. 03 R98. -/
  nodes    : Tbl RingNode := []
  /-- Enumeration or join in progress. 03 R98, R106. -/
  enm      : Option EnumProg := none
  /-- The one CMD awaiting its RESP. 03 R93. -/
  exch     : Option Exch := none
  /-- The exchange whose timer and retry count stopped for a switchover. 03 R93. -/
  held     : Option Exch := none
  /-- Frames released by P0 and by P1, waiting. 03 R95. -/
  q0       : List RingTx := []
  q1       : List RingTx := []
  /-- Last sequence number per (address × 4 + unit × 2 + space). 03 R94. DC -/
  seqs     : Tbl Nat := []
  /-- Consecutive trains missed or failed, per address × 2 + unit. 03 R90. DC -/
  segBad   : Tbl Nat := []
  /-- Units (address × 2 + unit) whose valid segment of the present train has arrived. 03 R90. -/
  got      : List Nat := []
  /-- Next expected place in the train, per side. 03 R90. -/
  nextA    : Nat := 0
  nextB    : Nat := 0
  /-- Parsing ended for the train of each side. 03 R90. -/
  endedA   : Bool := false
  endedB   : Bool := false
  /-- Its ED has come, per side (R102). -/
  overA    : Bool := false
  overB    : Bool := false
  /-- Bytes of its segments so far, per side (R75). -/
  bodyA    : Nat := 0
  bodyB    : Nat := 0
  /-- What its segments have changed, per side. 03 R75. -/
  undoA    : TrainUndo := {}
  undoB    : TrainUndo := {}
  /-- The train of the slot has been sent once (R84). -/
  asked    : Bool := false
  /-- The train of the present snapshot has ended on this ring. 04 R115. -/
  trainDone : Bool := false
  /-- History slot of the train. 04 R122. -/
  slot     : Nat := 0
  /-- A train is in flight; in recovery. 03 R99, R103. -/
  trainOut : Bool := false
  recovery : Bool := false
  /-- RING_FRM_ERR increased in this cycle and EV_RING_FRAME_ERR was logged. 03 R112. -/
  errThisCyc : Bool := false
  /-- PING outstanding for declaring a break. 03 R100. -/
  breakPing : Bool := false
  /-- Stub-end search in progress. 03 R101. -/
  search   : Option StubSearch := none
  /-- Late segments of the train have been reported. 04 R127. -/
  lateRep  : Bool := false
  /-- Totals since BOOT of segment errors, frame errors and timeouts. 13 R394. -/
  totSeg   : Nat := 0
  totFrm   : Nat := 0
  totTmo   : Nat := 0
  /-- Frames sent since the last reset, newest last, at most the last 64 kept. 03 R72. -/
  sent     : List RingFrameOut := []
  /-- The last CLOSE_PROBE has not reached the B end. 03 R104. -/
  probeOut : Bool := false
  deriving DecidableEq, Repr

/-! ## Acquisition -/

/-- A snapshot whose window is open or closed but whose train has not launched (R113, R122). -/
structure Window where
  snap   : Nat
  cycHi  : Nat
  half   : Bool
  incoh  : Bool
  dense  : Bool
  local_ : Nat
  deriving DecidableEq, Repr

/-- The acquisition unit and P1's acquisition work beyond registers and SRAM (chapter 04). -/
structure Acq where
  /-- DENSE acquisition in force. 01 R21. -/
  dense     : Bool := false
  /-- Low 32 bits of the slot sequence number. 04 R122. -/
  seq       : Nat := 0
  /-- Windows opened and not yet claimed, oldest first. 04 R122. -/
  windows   : List Window := []
  /-- Serials that ring.join KNOWN admits, per unit-map index; 0 any. 13 R404. DC -/
  serials   : Tbl Nat := []
  /-- Snapshots since the last valid segment, per unit-map index. 04 R126. DC -/
  age       : Tbl Nat := []
  /-- Unit-map indexes whose valid segment of the slot being filled has arrived. 04 R123. -/
  delivered : List Nat := []
  /-- The slot being filled: claimed and not closed. 04 R122, R123. -/
  filling   : Option Nat := none
  /-- Local time, ms, at which each string first became stale, plus 1; 0 while not stale. 04 R128. -/
  staleAt   : Tbl Nat := []
  /-- Active lane B limits per string, bit-inverted. 04 R131. DC: as the shadow's reset. -/
  actB      : Tbl U32 := []
  /-- Screen FIFO: events of four words, oldest first, at most 256. 04 R132. -/
  fifo      : List (U32 × U32 × U32 × U32) := []
  /-- String × 2 + direction (1 high) already tripped in each slot's snapshot. 04 R132. -/
  tripped   : List Nat := []
  /-- An overflow episode is on. 04 R134. -/
  ovfOn     : Bool := false
  /-- Cells commanded for this cycle, for the cycle before and for the cycle to come. 04 R137, R139. -/
  balNow    : List Nat := []
  balPrev   : List Nat := []
  balNext   : List Nat := []
  /-- Unit-map entries that a commit changes and P1 has still to write. 13 R404. -/
  umapPend  : List (Nat × List U32) := []
  /-- Temperature inputs read since BOOT, ascending. 04 R124. -/
  tempRead  : List Nat := []
  /-- Consecutive cycles commanded but not sensed, and sensed but not commanded, per cell. 04 R139. -/
  balNoCur  : Tbl Nat := []
  balStuck  : Tbl Nat := []
  /-- Cells on which balancing is stopped. 04 R139. -/
  balStop   : List Nat := []
  /-- A CANCEL was broadcast on leaving the balancing states or SINGLE. 04 R137. -/
  balCancelled : Bool := false
  /-- The state that bars balancing whose entry the last CANCEL answered. 04 R137. -/
  balBar    : Option DevState := none
  /-- Comparator under test: channel, charge direction. 04 R145. -/
  focTest   : Option (Nat × Bool) := none
  /-- A trip of the channel under test, delayed to the end of the test, and its direction. 04 R145. -/
  focDelayed : Bool := false
  focChg    : Bool := false
  /-- Temperature inputs whose stamps the set check found missing. 03 R89. -/
  tempGap   : Bool := false
  deriving DecidableEq, Repr

end Sys2Proof.Machine
end

