-- ==== Sys2Proof/Machine/TypesBattery.lean ====
section
/-!
DEFINITION. Sys2Proof/Machine/TypesBattery.lean: the parts of State that belong to the estimator, charge counting, limits,
the thermal manager, the strings and the safety functions (spec 05 to 10). Tables the spec lays out in SRAM or in the
retained store are in State.mem; what stands here is what the owning pair or block keeps beside them.
Every field's default is its value after reset.
-/
namespace Sys2Proof.Machine

/-! ## Estimator -/

/-- An engine pass in progress (R157): what it latched at the snapshot boundary. -/
structure Pass where
  /-- History slot and ESTIMATE gate index named by EST_GO. -/
  slot  : Nat
  gate  : Nat
  /-- λ, SNAP_ID and half of the slot. -/
  lam   : Nat
  snap  : Nat
  half  : Bool
  /-- TB_FREQ at pass start, µHz. -/
  freq  : Nat
  /-- EST_STRCFG, EST_ANCHOR, EST_LANE_FENCE and the descriptors as latched: the engine's registers. -/
  regs  : Tbl U32
  /-- Strings served from master in this pass. -/
  fallback : List Nat
  /-- Reducer coefficients as latched: the bytes at 0x20DD_C000 to 0x20DD_DFFF (R211). -/
  coef  : List Host.Cell
  /-- Strings with UNEXCITED at pass start (R160). -/
  unexc : List Nat := []
  deriving DecidableEq, Repr

/-- P1's confidence record of a string (R176 to R180). Confidence is held as a fixed-point number with 64 fraction bits. -/
structure StrConf where
  /-- c at the last reference. -/
  cRef    : Nat := 0
  /-- Local time of that reference, in local cycles. -/
  refAt   : Nat := 0
  /-- c now. -/
  c       : Nat := 0
  /-- Kind and cycle count of the last reference since BOOT. -/
  kind    : Nat := 0
  refCyc  : Nat := 0
  /-- Quiet span below C/50: local ms at which it began, plus 1; 0 none. -/
  quietAt : Nat := 0
  /-- Steep span: local ms at which it began, plus 1; 0 none. -/
  steepAt : Nat := 0
  /-- QUIET_REQ; local ms of the last request, plus 1. -/
  quietReq  : Bool := false
  lastReq   : Nat := 0
  unanch    : Bool := false
  unexc     : Bool := false
  /-- Local ms of the first snapshot below the floor, plus 1; 0 none. -/
  floorAt   : Nat := 0
  /-- Consecutive snapshots at or above the floor in an episode. -/
  excCount  : Nat := 0
  /-- EV_TABLE_STALE episode; a published table has served the string since BOOT. -/
  stale     : Bool := false
  hadTable  : Bool := false
  deriving DecidableEq, Repr

/-- The engine and P1's supervision beyond registers and SRAM (chapter 05). -/
structure Est where
  /-- Pass in progress. 05 R157. -/
  pass      : Option Pass := none
  /-- The last pass that ended, for its audit. 05 R174. -/
  last      : Option Pass := none
  /-- Curator jobs queued or running, in order. 05 R168. -/
  jobs      : List Nat := []
  /-- Job finished in the clock cycle of the EST_GO: swaps at the following pass. 05 R168. -/
  lateSwap  : List Nat := []
  /-- P1's confidence records. 05 R176. -/
  conf      : Tbl StrConf := []
  /-- Consecutive gated updates per cell. 05 R184. -/
  gated     : Tbl Nat := []
  /-- Audit mismatches by lane, with the slot sequence number of their snapshot, newest first. 05 R175. -/
  mism      : List (Nat × Nat) := []
  /-- Slot sequence number at which each lane last passed its test, plus 1. 05 R175. -/
  passedAt  : Tbl Nat := []
  /-- A lane test runs. 05 R175. -/
  testing   : Bool := false
  /-- Records whose first update since BOOT or since VALID is still to come. 05 R153. -/
  fresh     : List Nat := []
  /-- Sets invalid under R163, of the eight. 05 R163. DC: as judged in BOOT. -/
  badSets   : List Nat := []
  /-- Strings that have asked for a rebuild: their job is to be written. 05 R167. -/
  rebuild   : List Nat := []
  /-- P1 has audited the last pass. 05 R174. -/
  audited   : Bool := false
  /-- Master sets loaded and still to be copied into SRAM. 05 R164. -/
  setCopy   : List Nat := []
  /-- Lane of each cell updated in the last pass. 05 R172, R175. -/
  laneOf    : Tbl Nat := []
  /-- Capacities that P1 writes once the pass in progress has ended: cell and CAP. 05 R152, 06 R197. -/
  capPend   : List (Nat × F32) := []
  deriving DecidableEq, Repr

/-- P1's charge-counting work per string, beside the charge entry in SRAM (R186 to R197). -/
structure ChgStr where
  /-- Remainder below 1 mC, mA·ns; charge of the last snapshot, mC. R186. -/
  rem      : Nat := 0
  dq       : Int := 0
  /-- Local ms of the last snapshot with a usable current and every cell measured, plus 1. R193. -/
  lastGood : Nat := 0
  /-- Full-charge criterion held since, local ms plus 1. R189. -/
  fullAt   : Nat := 0
  /-- QACC still to reach 1 % of CAP_S before another full reference. R190. -/
  fullBlock : Bool := false
  /-- Consecutive snapshots at the empty reference. R193. -/
  empty    : Nat := 0
  /-- Local ms of the full reference. R193. -/
  refMs    : Nat := 0
  /-- λ of the last snapshot counted, plus 1; 0 none. -/
  lamAt    : Nat := 0
  /-- A condition of R193 broke in a snapshot not yet judged: its reason, 0 none. R194. -/
  broken   : Nat := 0
  /-- The last snapshot lacked a usable current or a measurement. R193. -/
  inGap    : Bool := false
  /-- Half periods from the snapshot counted before to the last one: above 2, snapshots were not collected. R193. -/
  lamN     : Nat := 0
  /-- CAP_S comes from learning or the host. R197. -/
  capLearned : Bool := false
  deriving DecidableEq, Repr

/-! ## Limits and the PCS profile -/

/-- Window states of R220. -/
inductive WinState where
  | available | stepping | recovering | unavailable
  deriving DecidableEq, Repr, Inhabited

/-- One step of a snowplough schedule: snapshot ID and local cycle of its publication, and its level in 0.1 A (R222). -/
structure SnowStep where
  snap   : Nat
  local_ : Nat
  level  : Nat
  deriving DecidableEq, Repr

/-- One direction's window (R220 to R224). Device currents in 0.1 A. -/
structure Window220 where
  /-- State. 07 R220. -/
  st     : WinState := .unavailable
  /-- Steps announced and not yet in force. 07 R222. -/
  steps  : List SnowStep := []
  /-- Level in force while a schedule runs: its start level, then the last step's. 07 R220, R222. -/
  level  : Option Nat := none
  /-- A thermal reduction rides on the schedule; the schedule's target. 07 R223, R224. -/
  thermal : Bool := false
  target : Nat := 0
  /-- Continuous limit that the thermal steps in force leave. 07 R223. -/
  tlev   : Option Nat := none
  /-- A step of the schedule has taken effect. 07 R222, R230. -/
  begun  : Bool := false
  /-- I_NOW, continuous limit, 10 s peak and 2 s figure as P2 formed them. 07 R214, R220. -/
  now    : Nat := 0
  cont   : Nat := 0
  peak   : Nat := 0
  two    : Nat := 0
  /-- The same as P0 clamped them: what P3 publishes. 07 R217. -/
  oNow   : Nat := 0
  oCont  : Nat := 0
  oPeak  : Nat := 0
  oTwo   : Nat := 0
  /-- I_NOW before the last reduction, and the local ms of that reduction, plus 1. 07 R231. -/
  prev   : Nat := 0
  cutAt  : Nat := 0
  /-- I_NOW as last published. 07 R231. -/
  pubNow : Nat := 0
  /-- t_rem, µs; none unbounded. 07 R219. -/
  trem   : Option Nat := some 0
  /-- An excess began at this local ms, plus 1; 0 none. EV_PCS_EXCEED episode; the excess, 0.1 A. 07 R231. -/
  overAt : Nat := 0
  excess : Nat := 0
  deriving DecidableEq, Repr

/-- A string's integrators and limits (R214, R218); reals in fixed point with 32 fraction bits. -/
structure LimStr where
  x1 : Nat := 0
  x2 : Nat := 0
  x3 : Nat := 0
  /-- Last current used, mA. R218. -/
  cur : Int := 0
  /-- λ of the last advance, plus 1; 0 none. R218. -/
  lamAt : Nat := 0
  /-- Last valid RSUM / NCELL since BOOT, with 48 fraction bits; none yet. R218. -/
  rcell : Option Nat := none
  /-- Limits of the last publication: discharge cont, 10 s, 2 s, then charge. R214. -/
  cd : Nat := 0
  pd : Nat := 0
  sd : Nat := 0
  cc : Nat := 0
  pc : Nat := 0
  sc : Nat := 0
  /-- f_T that the continuous caps use, discharge and charge, 0.01 %: that of before while a thermal schedule runs. R223. -/
  fd : Nat := 10000
  fc : Nat := 10000
  /-- f_T as last posted: what a running schedule leads to. R223, R224. -/
  gd : Nat := 10000
  gc : Nat := 10000
  /-- Overrun episodes by integrator, bits 0 to 2. R221. -/
  ovr : Nat := 0
  deriving DecidableEq, Repr

/-- Liveness of one PCS controller (R229). -/
structure PcsCtl where
  /-- Last ALIVE of PCS_FEEDBACK and of HEARTBEAT. -/
  fb    : Option Nat := none
  hb    : Option Nat := none
  /-- ALIVE values whose feedback content was taken from this controller and whose copy has not come on the other, oldest first, each with the local
  ms of its frame. -/
  pend  : List (Nat × Nat) := []
  /-- An alive frame has arrived within the timeout. -/
  alive : Bool := false
  /-- Local ms of the last alive frame. -/
  at_   : Nat := 0
  deriving DecidableEq, Repr

/-- A RAMP_REQUEST as sent (R228, R282). -/
structure RampReq where
  kind     : Nat := 0
  cls      : Nat := 0
  target   : Nat := 0
  event    : Nat := 0
  /-- Local ms of the decision. -/
  since    : Nat := 0
  deriving DecidableEq, Repr

/-- Limit computation and PCS profile (chapter 07). -/
structure Lim where
  /-- Discharge and charge windows. 07 R220. -/
  dis     : Window220 := {}
  chg     : Window220 := {}
  /-- Per string. 07 R214, R218. -/
  str     : Tbl LimStr := []
  /-- Frames of the last publication, as words: LIMITS 12, PEAK_NOTICE discharge 12, charge 12. 07 R226, 13 R407. -/
  frames  : List U32 := []
  /-- Cycle count of that publication. 13 R407. -/
  pubCyc  : Nat := 0
  /-- Profile frames of the last publication that P3 queued, offset and words, in order. 15 R481. DC: none yet. -/
  queued  : List (Nat × List U32) := []
  /-- Snapshot and half the limits come from. 07 R226. -/
  snap    : Nat := 0
  half    : Bool := false
  /-- ALIVE counters by frame offset 0x0 to 0x4. 07 R226. DC -/
  alive   : Tbl Nat := []
  /-- FROZEN; clears at the next publication once an alive frame arrived. 07 R230. -/
  frozen  : Bool := false
  thaw    : Bool := false
  /-- PCS link records by controller. 07 R229. -/
  ctl     : Tbl PcsCtl := []
  /-- ALIVE values last taken: feedback and heartbeat. 07 R229. -/
  takenFb : Option Nat := none
  takenHb : Option Nat := none
  /-- Last PCS_FEEDBACK taken, as 4 words. 07 R229. -/
  fb      : List U32 := []
  /-- Consecutive snapshots of feedback mismatch. 07 R232. -/
  mism    : Nat := 0
  /-- RAMP_REQUEST content, and cycles since it cleared. 07 R225, R228. -/
  ramp    : RampReq := {}
  rampCyc : Nat := 50
  inj     : Bool := false
  /-- I_DEV of the last snapshot, 0.1 A. 07 R231. -/
  idev    : Int := 0
  /-- Local ms at which BOOT ended, for the silence timer. 07 R230. -/
  bootEnd : Nat := 0
  /-- V_MAX and V_MIN, 0.1 V, and CLOSED strings counted, of the last clamp. 07 R215, R217. -/
  vMax    : Nat := 0
  vMin    : Nat := 0
  nStr    : Nat := 0
  /-- A complete engine pass has ended since BOOT: `snap` and `half` are its own. 07 R226. -/
  passed  : Bool := false
  /-- Snapshot and half that P2's last figures come from. 01 R31, 07 R226. -/
  calcOf  : Option (Nat × Bool) := none
  /-- P2's and P0's PUBLISH gate has started and not completed: its output is not used. 01 R33, 02 R58. -/
  open2   : Bool := false
  open0   : Bool := false
  /-- SNAP_ID of the LIMITS last sent on the PCS controllers. 07 R232. -/
  sent    : Option U32 := none
  /-- Profile frames that wait for the outcome of every cancellation: urgent, offset, words. 15 R471. -/
  defer   : List (Bool × Nat × List U32) := []
  deriving DecidableEq, Repr

/-! ## Thermal manager -/

/-- P3's record of one temperature input beside its state byte (R236 to R238, R241). -/
structure ThmIn where
  /-- Stamp seen at the last evaluation; a new reading has been seen since BOOT. -/
  stamp : Nat := 0
  seen  : Bool := false
  /-- Last accepted reading, 1/64 K. -/
  acc   : Option Int := none
  /-- Last new reading as the high rules and as the low rules take it, substituted values among them. -/
  lastH : Option Int := none
  lastL : Option Int := none
  /-- Consecutive good readings while failed. -/
  good  : Nat := 0
  deriving DecidableEq, Repr

/-- P3's record of one string beside its thermal table entry (R241 to R250). -/
structure ThmStr where
  /-- Local ms at which the high and low relaxation dwell began, plus 1; 0 not running. -/
  dwHi    : Nat := 0
  dwLo    : Nat := 0
  /-- Dwell complete. -/
  dueHi   : Bool := false
  dueLo   : Bool := false
  /-- Local ms at which the hold ends, plus 1; 0 no hold. -/
  hold    : Nat := 0
  /-- The monitor row that began the blind step. -/
  row     : Nat := 0
  blind   : Bool := true
  /-- T_MAX_EFF has been given by an input: HOT_IDX names one. R251. -/
  hotSet  : Bool := false
  warmup  : Bool := true
  tripped : Bool := false
  /-- Local ms since which T_MAX_EFF has been below the trip's release, plus 1. -/
  tripRel : Nat := 0
  deriving DecidableEq, Repr

/-- An episode that ends under the dwell rule of R242. -/
structure DwellEp where
  on   : Bool := false
  /-- Consecutive crossings so far. -/
  hits : Nat := 0
  /-- Local ms since which the release condition has held, plus 1. -/
  rel  : Nat := 0
  deriving DecidableEq, Repr

/-- The thermal manager and die protection beyond registers and SRAM (chapter 08). -/
structure Thm where
  /-- Inputs by index. 08 R236. -/
  ins     : Tbl ThmIn := []
  /-- Strings. 08 R241. -/
  str     : Tbl ThmStr := []
  /-- EV_NODE_HOT episodes by monitor row; TH episodes by channel. 08 R253, R254. -/
  node    : Tbl DwellEp := []
  th      : Tbl DwellEp := []
  /-- Factors posted in this cycle; cycles since the last post. 08 R249. -/
  posted  : Bool := false
  noPost  : Nat := 0
  /-- Local cycle in which P2 last looked for a post. 08 R249. -/
  tookAt  : Option Nat := none
  /-- THM_DIE_PEAK holds a reading of after its last read. 08 R260. -/
  peakNew : Bool := false
  /-- Die-state transition timer: the state it leads to is under way. 08 R256. -/
  dieTimer : Bool := false
  /-- Sensors departed from the median, awaiting exclusion. 08 R255. -/
  departed : List Nat := []
  deriving DecidableEq, Repr

/-! ## Strings -/

/-- The opening of a string: none, waiting for release, first command out, gap running, second command out (R281, R282). -/
inductive OpenPhase where
  | none | rampWait | first | gap | second | seoDrop | openAll
  deriving DecidableEq, Repr, Inhabited

/-- Pre-charge and join progress (R272, R276). -/
inductive ConnPhase where
  | none | waitBus | closePC | weldTest | closeMN | tau1 | tau5 | joinWait | joinMN | joinMP | joinPC
  deriving DecidableEq, Repr, Inhabited

/-- One string (chapter 09). Coil and contact masks are [2] MP, [1] MN, [0] PC, in the order of R86. -/
structure Str where
  /-- State. 09 R269. -/
  st       : StrState := .sOpen
  conn     : ConnPhase := .none
  opn      : OpenPhase := .none
  /-- Coils last commanded (in the last RESP), and the coil state in the CONTACTOR_SET not yet resolved. 09 R266. -/
  coils    : Nat := 0
  cmdOut   : Option Nat := none
  /-- Coils wanted next, once the RESP is in. 09 R266. -/
  want     : Option Nat := none
  /-- Contactors changed by the last command and not yet confirmed; fb timer running. 09 R267. -/
  unconf   : Nat := 0
  polling  : Bool := false
  /-- Auxiliary contacts last read. 09 R267. -/
  aux      : Nat := 0
  /-- V_bus at the PC command, ΔV₀, in 50 mV; snapshots watched in the weld test. 09 R272. -/
  vbusPC   : Nat := 0
  dv0      : Int := 0
  watch    : Nat := 0
  /-- t₀, local time in µs. 09 R272. -/
  t0       : Nat := 0
  passed1  : Bool := false
  passed5  : Bool := false
  /-- E_acc in mJ. 09 R274. -/
  eacc     : Nat := 0
  /-- Consecutive snapshots meeting the join rule; first-in-line timer running. 09 R276, R277. -/
  joinOk   : Nat := 0
  inLine   : Bool := false
  /-- Reaction governing an opening: class (0 for a command), event, and whether it locks out. 09 R278, R279. -/
  rClass   : Nat := 0
  rEvent   : Nat := 0
  rLock    : Bool := false
  /-- Break current, mA, taken before the command; both poles take it; the opening is one of the OPENING rows, with its
EV_STRING_OPENED. 09 R269, R283, R288. -/
  brkCur   : Nat := 0
  bothTake : Bool := false
  asOpen   : Bool := false
  /-- Weld-suspect contactors. 09 R284. -/
  welds    : Nat := 0
  /-- Main poles found open against a closed coil, and contacts found closed against an open coil, in the snapshot before, as coil
masks. 09 R268. -/
  dropN    : Nat := 0
  weldN    : Nat := 0
  /-- Consecutive snapshots with every contact open, for a weld release; the release asked. 09 R286. -/
  relN     : Nat := 0
  relAsked : Bool := false
  /-- Local ms of failed attempts within the last hour. 09 R285. -/
  attempts : List Nat := []
  /-- Cause of the lock, and low 32 bits of the cycle count at the lock. 09 R293. -/
  lockEvt  : Nat := 0
  lockCyc  : Nat := 0
  /-- Status bit [0], opened by the link-loss watchdog, in the last snapshot. 09 R268. -/
  linkBit  : Bool := false
  /-- P0 has still to make its first-snapshot contact check. 09 R287. -/
  firstChk : Bool := false
  /-- The failure the opening ends in is a failed attempt, to be counted. 09 R285. -/
  failed   : Bool := false
  /-- Retained wear counts (R293). MP, MN, PC closings. -/
  opsMP    : Nat := 0
  opsMN    : Nat := 0
  opsPC    : Nat := 0
  /-- Breaks by band LO, MID, HI of MP and of MN. -/
  brkMP    : List Nat := [0, 0, 0]
  brkMN    : List Nat := [0, 0, 0]
  brkMax   : Nat := 0
  /-- Lifetime pre-charge resistor energy, mJ. -/
  pcE      : Nat := 0
  pcFail   : Nat := 0
  weldCnt  : Nat := 0
  wearEp   : Bool := false
  /-- Direction forbidden by SSW: discharge, charge; dwell done. 10 R303. -/
  sswDis   : Bool := false
  sswChg   : Bool := false
  /-- Settle time of a forbidden direction has passed: discharge, charge. 10 R301. -/
  setDis   : Bool := false
  setChg   : Bool := false
  /-- Main poles confirmed open in the present opening, as a coil mask; whether it carried load. 09 R288. -/
  openedM  : Nat := 0
  loaded   : Bool := false
  /-- The next pole command of an opening is due: the coils it leaves closed. 09 R281. -/
  gapDue   : Bool := false
  /-- Local ms since which SSW's condition to permit discharge, charge again has held, plus 1; 0 none. 10 R303. -/
  sswDisAt : Nat := 0
  sswChgAt : Nat := 0
  /-- Forbidden by SDR or SSW at the last check: discharge, charge. 10 R301. -/
  fbDis    : Bool := false
  /-- Session whose STRING_CONNECT is under way on the string, 0xF none: the record of its outcome names it. 12 R382, 16 R504. -/
  asked    : Nat := 0xF
  fbChg    : Bool := false
  /-- λ of the last snapshot of E_acc, plus 1. 09 R274. -/
  lamAt    : Nat := 0
  deriving DecidableEq, Repr

/-- One bus contactor on FBK input n (R289, R290, R293). -/
structure BusC where
  /-- Confirmed closed; feedback timer running; waiting for closed (true) or open (false). -/
  closed : Bool := false
  timer  : Bool := false
  wantClosed : Bool := false
  weld   : Bool := false
  ops    : Nat := 0
  drops  : Nat := 0
  welds  : Nat := 0
  deriving DecidableEq, Repr

/-! ## Safety functions -/

/-- One safe input (R305 to R310). -/
structure Sin where
  /-- First channel of the demand, and of the running discrepancy timer; its edge; timer runs. R307. -/
  firstB   : Bool := false
  discB    : Bool := false
  edgeRel  : Bool := false
  discRun  : Bool := false
  /-- Local ms of the last change of demand, plus 1. R309. -/
  changed  : Nat := 0
  /-- Both channels have read released since the fault latch was set. -/
  relSeen  : Bool := false
  deriving DecidableEq, Repr

/-- One SEO (R311 to R315). -/
structure Seo where
  /-- Channel under test pulse: none, A (false) or B (true); next channel to test. -/
  pulse   : Option Bool := none
  nextB   : Bool := false
  /-- A request to energize waits for the pulse's end. -/
  waitOn  : Bool := false
  /-- Local ms of the last change of the energize state or of P0's request, plus 1. R315. -/
  changed : Nat := 0
  /-- Strings that P0's backup keeps de-energized until all its strings are open. R299. -/
  held    : Bool := false
  deriving DecidableEq, Repr

/-- The safety I/O and P0's safety work beyond registers (chapter 10). -/
structure Saf where
  sin      : Tbl Sin := []
  seo      : Tbl Seo := []
  /-- TPO channel pulsing. 10 R308. -/
  tpoPulse : Option Nat := none
  /-- Strings whose SEO P0 de-energizes once their contactor exchange is resolved. 10 R299. -/
  backup   : List Nat := []
  /-- SEOs that P0 de-energizes after EV_SCREEN_OVF, each once its strings' exchanges are resolved. 10 R299. -/
  backSeo  : List Nat := []
  /-- Ramp wait: strings of the controlled route in progress, their decision time ms, class and event. 09 R282. -/
  rampStr  : List Nat := []
  rampAt   : Nat := 0
  /-- Consecutive failures of the current check. 10 R304. -/
  ichkN    : Nat := 0
  /-- A disconnect of every connected string, or of device scope, is in progress. 09 R291. -/
  devOpen  : Bool := false
  /-- Local ms of the last watchdog write, plus 1; 0 none since the last expiry. 10 R317, R319. -/
  wdogAt   : Nat := 0
  /-- F5 event that set the latch. 09 R285. -/
  latchEvt : Nat := 0
  /-- The claim's conditions lapsed and EV_CLAIM_LAPSED logged. 10 R325. -/
  lapsed   : Nat := 0
  deriving DecidableEq, Repr

end Sys2Proof.Machine
end

