-- ==== Sys2Proof/Machine/TypesExec.lean ====
section
/-!
DEFINITION. Sys2Proof/Machine/TypesExec.lean: the parts of State that belong to paired execution, the host transport,
the counters and the log (spec 11, 12, 13, 16), and what a release buffer holds (R13, R22).
Every field's default is its value after reset.
-/
namespace Sys2Proof.Machine

/-! ## Host commands -/

/-- A host command as P2 runs it: packet fields of words 0 and 1, and the payload (R364). -/
structure HostCmd where
  sess      : Nat
  queue     : Nat
  tag       : Nat
  payload   : List U32
  unordered : Bool := false
  noreply   : Bool := false
  urgent    : Bool := false
  /-- Protocol version 0x01 (R368). -/
  v1        : Bool := false
  /-- Transport: 0 QSPI, 1 CP0, 2 CP1. -/
  port      : Nat := 0
  /-- The host's MAC address on a cluster port (14 R430). -/
  mac       : Nat := 0
  /-- Tells it from one that agrees in all else, has timed out and still runs; 0 without such a one (R374). -/
  id        : Nat := 0
  deriving DecidableEq, Repr

/-- A reply or notice on its way to the host, from the moment its words are built (R365, R377). -/
structure OutPkt where
  /-- Session it goes to (R365). -/
  sess  : Nat
  /-- Queue whose order it keeps (R370). -/
  queue : Nat
  /-- Transport, as of the command (R389). -/
  port  : Nat
  /-- The host's MAC address on a cluster port (14 R430). -/
  mac   : Nat := 0
  /-- It keeps no place in its queue (R370, R372, R373, R383). -/
  loose : Bool := false
  /-- It is no reply of its session and carries no trailer (R367, R377). -/
  bare  : Bool := false
  /-- Its words without trailer and CRC (R365). -/
  raw   : List U32
  /-- Its words as they leave (R365, R377). -/
  words : List U32 := []
  deriving DecidableEq, Repr

/-! ## Release buffers -/

/-- What P2 is to do once a retained transaction is durable. -/
inductive RetFor where
  | save | config | health | masterSet (set : Nat) | boot
  deriving DecidableEq, Repr

/-- What P3 writes to a CAN controller beside frames: the filter list of R463, the committed settings of R483, CAN_TX_CANCEL for an element
or object, CAN_TX_RESUME, and CAN_CTRL.RECOVER. 15 R455. -/
inductive CanOp where
  | build
  | settle
  | cancel (buf i : Nat)
  | resume (v : U32)
  | recover
  deriving DecidableEq, Repr

/-- An external effect of a pair, as it waits in the pair's release buffer (R13, R22, R24). -/
inductive Effect where
  /-- A ring frame for ring `ring`, of P0 or P1 (R13, R14). -/
  | ring (ring : Nat) (tx : RingTx)
  /-- A CAN frame for transmit buffer `buf` of controller `n`, or object `buf - 4`: words of the element (R466, R467, R472),
  and the CAN_TX command it serves. -/
  | can (n buf : Nat) (words : List U32) (cmd : Option HostCmd)
  /-- A cluster frame body for a destination, by type (R431). -/
  | cluster (ftype : Nat) (dst : Nat) (words : List U32)
  /-- A reply or notice packet on its transport (R13, R365). -/
  | reply (x : OutPkt)
  /-- P0's request word for SAF_SEO_REQ (R311, R327). -/
  | seo (v : Nat)
  /-- P0's write of SAF_RESET, or of SAF_RESTART, for a command of a session (R310, R319, R327). -/
  | clear (sess : Nat) (restart : Bool) (v : U32)
  /-- P0's write of SAF_CTRL.SAFE for the F5 event `ev` (R316). -/
  | safe (ev : Nat)
  /-- P0 loads the screen limits: by string its limit word and whether it is enabled (R131, R136). -/
  | scr (l : List (Nat × U32 × Bool))
  /-- A pair's writes of configuration, in order: address, bits written, value: P0's in the safety and execution registers, P2's in the
counter block, P3's in the cluster block (R327, R359, R451, R501). -/
  | cfg (l : List (Nat × U32 × U32))
  /-- P1's writes of engine registers, in order: address, bits written, value (R181). -/
  | est (l : List (Nat × U32 × U32))
  /-- P2's segment registers and RET_GO: kind, what follows, snapshot, segments (R13, R527). -/
  | ret (kind : Nat) (why : RetFor) (snap : Nat) (segs : List (Nat × Nat × Nat))
  /-- P2's writes of the records not yet durable to the retained log (R13, R506). -/
  | flush
  /-- P3 is to cancel the frame of a CAN_TX that it queued before: the CAN_TX, its status, and the CMD_CANCEL to answer, if one asked
  (R374, R420). -/
  | canCancel (cmd : HostCmd) (status : Nat) (by_ : Option HostCmd)
  /-- P3's other writes to controller n (15 R455). -/
  | canOp (n : Nat) (w : CanOp)
  deriving DecidableEq, Repr

/-- What tagging observes of an instruction beside its retirement (16 R498, R499): its word, clock cycles from fetch to retire,
flags [15] and [7:0] of TFLAGS, data address, load latency, angle and cycle count [31:0] at retirement, and how many instructions fetched before it had not
yet retired when it was fetched. -/
structure Seen where
  insn   : U32 := 0
  lat    : Nat := 0
  flags  : Nat := 0
  addr   : U32 := 0
  memLat : Nat := 0
  angle  : U32 := 0
  cyc    : U32 := 0
  ahead  : Nat := 0
  deriving DecidableEq, Repr

/-- One retired instruction as a lane sees it (R338): PC; register writes (kind 1 x, 2 f, 3 CSR; number; value), the CSR last where an
instruction writes two (Log 133); store (byte mask, address, data); and what tagging sees of it. -/
structure Retired where
  pc   : U32
  wr   : List (Nat × Nat × U32) := []
  st   : Option (Nat × U32 × U32) := none
  seen : Seen := {}
  deriving DecidableEq, Repr

/-- A release-buffer entry: its effect and the compare window that produced it (R22). -/
structure RelEntry where
  win : Nat
  eff : Effect
  deriving DecidableEq, Repr

/-- Where a pair stands in recovery (R342, R343, R348). -/
inductive Recov where
  | run | vote | retry
  deriving DecidableEq, Repr, Inhabited

/-- The architectural state of a core as hardware clears it (R333): 97 words, PC, x1 to x31, f0 to f31, fcsr, and 32 machine-mode CSRs,
the 388 bytes of R340. -/
abbrev coreClear : List U32 := List.replicate 97 0

/-- One core pair (chapter 11). -/
structure Pair where
  primary  : Nat := 0
  shadow   : Nat := 1
  lane     : Nat := 0
  /-- Formed and running. 11 R332. -/
  formed   : Bool := false
  lost     : Bool := false
  broken   : Bool := false
  /-- Feed in force, EXCHANGE when set; EXCHANGE forced until BOOT. 11 R334, R352. -/
  exch     : Bool := false
  forced   : Bool := false
  /-- Recovery in progress, on the open window; a retry on two came before it. 11 R342, R348. -/
  recov    : Recov := .run
  retried  : Bool := false
  /-- A compare-path event lies within exe.cmp.retain_s: local ms of it, plus 1. 11 R353. -/
  suspAt   : Nat := 0
  /-- Recorded count of the window that is re-executed. 11 R337, R342. -/
  count    : Nat := 0
  /-- ID of the open window, and of the last checked clean. 11 R337. -/
  win      : Nat := 0
  clean    : Nat := 0
  /-- Release buffer, oldest first, and effects discarded by a mismatch that re-execution issues again. 11 R342. The buffer holds 64 entries:
what stands behind them is what the stalled pair issues once entries leave. 01 R24. -/
  rel      : List RelEntry := []
  redo     : List RelEntry := []
  /-- Input log of the open window: index of the instruction that consumed an input, and its value, oldest first. 11 R335. -/
  inLog    : List (Nat × U32) := []
  /-- Checkpoint of the last clean window, as `coreClear` lays it out. 11 R333, R340. -/
  ckpt     : List U32 := coreClear
  /-- Restarted and not yet advancing its heartbeat; local ms of the last restart, plus 1. 11 R351. -/
  restarting : Bool := false
  restartAt  : Nat := 0
  /-- Heartbeat last seen by P0, and local ms at which it changed. 11 R351. -/
  hbSeen   : Nat := 0
  hbAt     : Nat := 0
  /-- Lock-step is to be restored at the next window boundary. 11 R357. -/
  restore  : Bool := false
  deriving DecidableEq, Repr

/-- Core health record (R350). -/
structure Health where
  fenced     : Nat := 0
  retired    : Nat := 0
  transients : List Nat := [0, 0, 0, 0, 0, 0, 0, 0, 0]
  suspects   : List Nat := [0, 0, 0, 0]
  lastCyc    : Nat := 0
  deriving DecidableEq, Repr

/-- Paired execution beyond registers (chapter 11). -/
structure Exe where
  /-- Pairs P0 to P3 where they differ from the default assignment of R331. -/
  p0 : Pair := { primary := 0, shadow := 1, lane := 0 }
  p1 : Pair := { primary := 2, shadow := 3, lane := 1 }
  p2 : Pair := { primary := 4, shadow := 5, lane := 2 }
  p3 : Pair := { primary := 6, shadow := 7, lane := 3 }
  /-- Spare core; none. 11 R331, R347. -/
  spare    : Option Nat := some 8
  /-- Architectural state of the cores at their last window boundary, as `coreClear` lays it out, where it is not cleared. 11 R333, R340,
R342. -/
  cores    : Tbl (List U32) := []
  /-- Cores in logic self-test (bit mask). 11 R344. -/
  testing  : Nat := 0
  /-- Pair bound to lane 4. 11 R353. -/
  lane4    : Option Nat := none
  /-- Debug mode and cores halted (bit mask). 11 R355. -/
  debug    : DebugMode := .off
  halted   : Nat := 0
  /-- Cores that the debug module reports as unavailable: of each the last halt request was refused (bit mask, output). 11 R355. -/
  unavail  : Nat := 0
  /-- Self-tests that follow a vote: core, pair, window, kind (1 outvoted, 2 spare that disagreed, 4 outvoted after a retry on
two). 11 R344. -/
  votes    : List (Nat × Nat × Nat × Nat) := []
  /-- LEGACY policy in force. 11 R354. -/
  legacy   : Bool := false
  /-- Retained core health record as P2 holds it. 11 R350. -/
  health   : Health := {}
  /-- The record has changed and is still to be written. 11 R350. -/
  healthDue : Bool := false
  /-- Corrections since the last EV_ECC_CORRECTED, and local ms of that event, plus 1. 11 R358. -/
  eccSince : Nat := 0
  eccAt    : Nat := 0
  /-- Next line of the scrubber, 64-byte lines of SRAM. 11 R358. -/
  scrub    : Nat := 0
  /-- Catalogue records, SRAM slots and tables marked by an uncorrectable read and to be rewritten: addresses. 11 R358. -/
  bad      : List Nat := []
  deriving DecidableEq, Repr

/-! ## Host transport -/

/-- A command in flight (R369, R374). -/
structure InFlight where
  op     : Nat
  cmd    : HostCmd
  /-- It has begun (R374). -/
  begun  : Bool := false
  /-- Privilege of its session (R382). -/
  priv   : Nat := 0
  /-- An interim ST_PENDING reply has been sent (R373). -/
  interim : Bool := false
  /-- Its tag has left flight by ST_TIMEOUT; the command continues (R374). -/
  timedOut : Bool := false
  /-- Strings a disconnect has removed from this waiting STRING_CONNECT (R413). -/
  cut    : List Nat := []
  deriving DecidableEq, Repr

/-- A place in a queue's reply order (R370): the reply once built. -/
structure Place where
  sess  : Nat
  tag   : Nat
  /-- The reply's words, once built; an empty list for a NOREPLY command that ended ST_OK. -/
  reply : Option (List U32) := none
  /-- Transport and MAC address of the host that it goes to (R389, 14 R430). -/
  port  : Nat := 0
  mac   : Nat := 0
  /-- The reply carries no trailer (R367 step 5, R377). -/
  bare  : Bool := false
  deriving DecidableEq, Repr

/-- Slot states of a session. -/
inductive SessSt where
  | free | authWait | active | held
  deriving DecidableEq, Repr, Inhabited

/-- One session slot (R375 to R380). -/
structure Session where
  st      : SessSt := .free
  priv    : Nat := 0
  /-- Authenticated: packets carry a trailer (R376). -/
  auth    : Bool := false
  nh      : List U32 := []
  nd      : List U32 := []
  /-- K_s (R376). -/
  key     : List U8 := []
  /-- Highest CTR accepted, and the 64 values below it accepted (bit i = highest − 1 − i) (R378). -/
  rxTop   : Nat := 0
  rxWin   : Nat := 0
  /-- Next CTR of the device's direction. -/
  tx      : Nat := 1
  /-- This held session waits for the SESSION_AUTH of a RESUME (R380). -/
  resume  : Bool := false
  /-- Classes subscribed (R375); records waiting; records lost in the episode (R383). -/
  sub     : Nat := 0
  notices : List Nat := []
  lost    : Nat := 0
  /-- Port and host MAC of the last accepted packet; local ms at which it was taken. -/
  port    : Nat := 0
  mac     : Nat := 0
  lastAt  : Nat := 0
  /-- Replies held while in hold, in queue order (R379); and what had left P2 before and met the hold on its way, oldest first. -/
  heldRep : List OutPkt := []
  back    : List OutPkt := []
  deriving DecidableEq, Repr

/-- An entry of the outcome table (R382). -/
structure Outcome382 where
  sess   : Nat
  tag    : Nat
  op     : Nat
  status : Nat
  cyc    : Nat
  priv   : Nat
  /-- Of a command that shared its tag with one that had timed out, its number (R374). -/
  id     : Nat := 0
  /-- A CAN_TX ended without its frame sent (13 R420). -/
  noFrame : Bool := false
  deriving DecidableEq, Repr

/-- The configuration transaction (R384). -/
structure Txn where
  owner   : Nat
  /-- Staged values by parameter ID. -/
  vals    : List (Nat × Nat) := []
  /-- Staged piste words: (piste 0 SINGLE / 1 DENSE, word index, value). -/
  pistes  : List (Nat × Nat × U32) := []
  /-- Staged unit-map entries: (index, words) (R404). -/
  umap    : List (Nat × List U32) := []
  deriving DecidableEq, Repr

/-- A commit that waits for its retained copy to be durable (R385). -/
structure Commit where
  cmd    : HostCmd
  txn    : Txn
  seq    : Nat
  crc    : U32
  copyB  : Bool
  deriving DecidableEq, Repr

/-- A packet being rebuilt from COMMAND fragments (R389). -/
structure Reasm where
  port   : Nat
  src    : Nat
  sess   : Nat
  tag    : Nat
  nfrag  : Nat
  frags  : List (Nat × List U8) := []
  deriving DecidableEq, Repr

/-- The host transport (chapter 12). -/
structure HostT where
  /-- Session slots 0 to 7. 12 R375. -/
  sess     : Tbl Session := []
  /-- Owner session of each queue, plus 1; 0 free. 12 R369. -/
  owner    : Tbl Nat := []
  /-- Reply order of each queue. 12 R370. -/
  places   : Tbl (List Place) := []
  /-- STRING_WELD_RELEASE commands that wait for two snapshots: command, codes by string so far. 09 R286, 13 R412. -/
  welds    : List (HostCmd × List (Nat × Nat)) := []
  /-- CATALOGUE_READ commands that wait for the audit. 13 R394. -/
  catWait  : List HostCmd := []
  /-- RING_ENUMERATE commands that wait for the rings named, of their mask. 13 R403. -/
  enums    : List (HostCmd × List Nat) := []
  /-- TIMEBASE_ALIGN that waits for its step. 13 R401. -/
  align    : Option HostCmd := none
  /-- Commands in flight, in intake order. 12 R369. -/
  flight   : List InFlight := []
  /-- Replies and notices waiting for room in the reply ring, or behind one of their queue that waits, in order. 12 R370, R388. -/
  waiting  : List OutPkt := []
  /-- Outcome table, newest first, at most 512. 12 R382. -/
  outcomes : List Outcome382 := []
  /-- K_dev, 32 bytes; none before it is written. 12 R376. DC: as a device leaves the factory without one. -/
  kdev     : Option (List U8) := none
  /-- Local ms of authentication failures per privilege; refusal running. 12 R376. -/
  fails    : Tbl (List Nat) := []
  lockout  : Tbl Nat := []
  /-- Configuration transaction. 12 R384. -/
  txn      : Option Txn := none
  /-- Commit waiting for durability. 12 R385. -/
  commit   : Option Commit := none
  /-- Local ms of the last commit, plus 1. 12 R385. -/
  commitAt : Nat := 0
  /-- Sequence number of the configuration in force, its CRC, and the retained copy it stands in, B when set. 12 R385. DC -/
  cfgSeq   : Nat := 0
  cfgCrc   : U32 := 0
  cfgCopy  : Option Bool := none
  /-- Offset at which the packet after the last taken begins: ends of packets not yet taken in. 12 R388. -/
  ends     : List Nat := []
  /-- Packets in reassembly. 12 R389. -/
  reasm    : List Reasm := []
  /-- Packets refused while 16 were in reassembly, by host MAC, session and tag, until 100 ms after that: their later fragments are
  discarded too. 12 R389. -/
  refused  : List (Nat × Nat × Nat) := []
  /-- Replies sent to cluster ports, oldest first: port and words. 12 R389. -/
  portOut  : List (Nat × List U32) := []
  /-- The command ring had drained to half full or less. 12 R387. -/
  spaceLow : Bool := true
  /-- QSPI bytes given by the last read transaction (output). 12 R386. -/
  qspiOut  : List U8 := []
  deriving DecidableEq, Repr

/-! ## Counters and log -/

/-- The counter block beyond registers and SRAM (chapter 16). -/
structure Cnt where
  /-- Per pair: the latch that CNTn_HI reads. 16 R489. DC -/
  latch    : Tbl U32 := []
  /-- Per pair: staged low half; none staged. 16 R490. -/
  staged   : Tbl (Option U32) := []
  /-- The dump record being written. 16 R493. -/
  dumpBuf  : List U32 := []
  /-- Captures skipped since the last record, and the episode of EV_DUMP_SKIP. 16 R493, R496. -/
  skipped  : Nat := 0
  skipEp   : Bool := false
  /-- Next DSEQ. 16 R496. -/
  dseq     : Nat := 0
  /-- Per bandwidth monitor: bytes counted in the present window. 16 R497. -/
  bw       : Tbl Nat := []
  /-- Tagging: its LFSR; the distance drawn, and the instructions retired since; the next sample's number. 16 R498 to R500. -/
  lfsr     : Nat := 0xACE1
  tagN     : Option Nat := none
  tagCnt   : Nat := 0
  tseq     : Nat := 0
  /-- VITRINE in force (capture mode). 16 R492. -/
  vitrine  : Bool := false
  /-- VITRINE_TAKE commands waiting for the freeze. 16 R494. -/
  vitWait  : List HostCmd := []
  deriving DecidableEq, Repr

/-- The accession log beside its slots (R503 to R508). -/
structure Log where
  /-- Next sequence number. 16 R504, R508. -/
  next    : Nat := 1
  /-- Posts of each pair, oldest first. 16 R504. -/
  posts   : Tbl (List Post) := []
  /-- Records taken in the present second; suppressed count and first suppressed code. 16 R505. -/
  taken   : Nat := 0
  supp    : Nat := 0
  suppFst : Nat := 0
  /-- Records assigned and not yet in the retained log, and local ms of the oldest. 16 R506. -/
  dirty   : List Nat := []
  dirtyAt : Nat := 0
  deriving DecidableEq, Repr

end Sys2Proof.Machine
end

