-- ==== Sys2Proof/Machine/TypesSys.lean ====
section
/-!
DEFINITION. Sys2Proof/Machine/TypesSys.lean: the parts of State that belong to the cluster, the CAN controllers, power, boot,
firmware and the retained store, and the pins (spec 14, 15, 17, 19).
Every field's default is its value after reset.
-/
namespace Sys2Proof.Machine

/-! ## Cluster -/

/-- What a device holds of one cluster index (R436 to R438). -/
structure Member where
  /-- Local cycle of the last HELLO, plus 1; 0 none. -/
  at_      : Nat := 0
  /-- Serial, STATE, FLAGS and CFG_CRC of that HELLO. -/
  serial   : Nat := 0
  state    : Nat := 0
  flags    : Nat := 0
  cfgCrc   : Nat := 0
  /-- Another serial seen on this index, and the local cycle of its last HELLO, plus 1. -/
  dupSer   : Nat := 0
  dupAt    : Nat := 0
  /-- Port of its latest HELLO, plus 1; 0 none. -/
  port     : Nat := 0
  /-- In the view at the last evaluation; consecutive evaluations present and healthy. -/
  viewed   : Bool := false
  evals    : Nat := 0
  deriving DecidableEq, Repr

/-- A REDUCE contribution held for the collection (R443, R444): body words 0 to 31. -/
structure Contrib where
  idx   : Nat
  words : List U32
  deriving DecidableEq, Repr

/-- A frame in or out of the cluster switch (R430, R431). -/
structure ClFrame where
  /-- Destination and source MAC, 48 bits each, most significant byte first on the wire. -/
  dst  : Nat := 0
  src  : Nat := 0
  /-- Header words 0, 1, 2 and body bytes. -/
  h0   : U32
  h1   : U32
  h2   : U32
  body : List U8
  /-- Port it left on: 0 CP0, 1 CP1. -/
  port : Nat
  /-- Sent on with a wrong FCS (R434). -/
  bad  : Bool := false
  deriving DecidableEq, Repr

/-- The cluster (chapter 14). -/
structure Cl where
  /-- Members by index. 14 R437. -/
  members : Tbl Member := []
  /-- Head in force. 14 R438. -/
  head    : Option Nat := none
  /-- Path delay results, newest first, at most three, ns; the request outstanding: (SEQ, t1). 14 R441. -/
  delays  : List Nat := []
  req     : Option (Nat × Nat) := none
  /-- Port on which SYNC arrives. 14 R441. -/
  syncPort : Option Nat := none
  /-- Next SEQ by kind. 14 R440. DC -/
  seqs    : Tbl Nat := []
  /-- A SYNC is due 2 ms after becoming head. 14 R440. -/
  entrySync : Bool := false
  /-- Contributions received for the coming collection. 14 R444. -/
  contribs : List Contrib := []
  /-- Last result formed or received: its 32 words, and the head it came from. 14 R447, 13 R417. -/
  result  : List U32 := []
  resFrom : Nat := 0
  /-- Link of each port up: SGMII and PHY. 14 R435. -/
  link    : Tbl Bool := []
  /-- Port of the latest COMMAND from the host, and the host's MAC. 14 R433, R430. DC -/
  hostPort : Nat := 0
  hostMac : Nat := 0
  /-- By host MAC: port of that host's latest COMMAND, plus 1. 14 R430, R433. -/
  hosts : Tbl Nat := []
  /-- Frames waiting in each port's egress buffer, in order of arrival; bytes fit 64 KiB. 14 R434. -/
  egress  : Tbl (List ClFrame) := []
  /-- Frames that have left since reset, newest last, the last 64 kept. 14 R433. -/
  sent    : List ClFrame := []
  /-- A frame error was counted on CP0, CP1 in this cycle, as a bit mask. 14 R432. -/
  errCyc  : Nat := 0
  /-- Reference of the last SYNC taken: its corrected angle, the sender's COHERENT, and the local cycle it was taken. 02 R47, 14 R441. -/
  refAngle : Option Nat := none
  refCoh  : Bool := false
  refAt   : Nat := 0
  /-- Its phase error against the member's own angle, phase units, and its frequency, µHz. 02 R47. -/
  refErr  : Int := 0
  refFreq : Nat := 0
  deriving DecidableEq, Repr

/-! ## CAN -/

/-- A frame on a CAN bus (R464, R466). -/
structure CanFrame where
  dlc  : Nat
  fdf  : Bool := false
  brs  : Bool := false
  rtr  : Bool := false
  xtd  : Bool := false
  esi  : Bool := false
  /-- The res bit recessive: not a CAN FD frame, a protocol exception (R457). -/
  res  : Bool := false
  /-- Identifier, and data bytes (R464, R466). -/
  id   : Nat
  data : List U8 := []
  deriving DecidableEq, Repr

/-- A bus error as a controller detects it (R474): its kind as LEC encodes it, the phase, the part the controller plays, and
what ISO 11898-1 fault confinement needs to know beside. -/
structure CanError where
  /-- LEC: 1 bit (recessive sent), 2 bit (dominant sent), 3 stuff, 4 CRC, 5 form, 6 ACK. -/
  kind   : Nat
  data   : Bool := false
  /-- The controller was transmitter. -/
  tx     : Bool
  /-- Its attempt had won arbitration; the error lies before the ACK slot. -/
  won    : Bool := false
  preAck : Bool := false
  /-- One of ISO 11898-1's exceptions holds, and TEC does not change. -/
  exempt : Bool := false
  /-- Further increments of 8 that ISO 11898-1 gives for dominant bits after the error flag. -/
  extra  : Nat := 0
  /-- Where a bit error in the data phase of a frame it sent was seen: clock cycles after the start of the bit as sent (R458). -/
  seenAt : Option Nat := none
  /-- The edges that the loop-delay measurement of an FD frame in the attempt saw, none where the error lies before (R458). -/
  edges  : List Nat := []
  deriving DecidableEq, Repr

/-- An attempt in progress (R467, R470). -/
structure Attempt where
  /-- Buffer 0 to 2, or 3 for a message object; element index or object number. -/
  buf  : Nat
  idx  : Nat
  /-- TSC at SOF. -/
  sof  : U32
  deriving DecidableEq, Repr

/-- What a controller keeps of a head element (R469, R470, R478). -/
structure HeadRec where
  /-- Attempts started, saturating at 255. -/
  attempts : Nat := 0
  /-- An attempt of it won arbitration. -/
  won      : Bool := false
  /-- A cancel of it was late. -/
  late     : Bool := false
  /-- Consecutive clash attempts. -/
  clash    : Nat := 0
  deriving DecidableEq, Repr

/-- A CAN_TX command waiting for its frame's outcome (R419). -/
structure CanWait where
  cmd : HostCmd
  buf : Nat
  idx : Nat
  deriving DecidableEq, Repr

/-- One CAN controller beside its registers and message RAM (chapter 15). -/
structure Can where
  attempt  : Option Attempt := none
  /-- It receives the rest of a frame whose attempt was withdrawn. 15 R470, R482. -/
  rx       : Bool := false
  /-- P3 is to build the filter list once the swap asked for is made. 15 R462, R463. -/
  rebuild  : Bool := false
  /-- The last frame sent, as on the bus: ESI recessive from an error passive controller. 15 R457, R469. -/
  sent     : Option CanFrame := none
  /-- Head records by buffer (0 to 2) or 4 + object. 15 R469, R478. -/
  heads    : Tbl HeadRec := []
  /-- Receive FIFO and event FIFO fill levels. 15 R465, R469. -/
  fill0    : Nat := 0
  fill1    : Nat := 0
  evFill   : Nat := 0
  /-- Frames lost to a full pass-through FIFO since BOOT, and that total at the last CAN_RX_READ. 13 R394, R421. -/
  lostTot  : Nat := 0
  lostRead : Nat := 0
  /-- Suspended buffers (bits 0 to 2) and objects. 15 R478. -/
  susp     : Nat := 0
  suspObj  : Nat := 0
  /-- TEC and REC in full. 15 R474. -/
  tec      : Nat := 0
  rec_     : Nat := 0
  busoff   : Bool := false
  /-- Recovery sequence running; waiting to start. 15 R475. -/
  recov    : Bool := false
  recWait  : Bool := false
  /-- Local ms of recovery starts and of bus-offs in the last 60 s. 15 R475, R485. -/
  recAt    : List Nat := []
  offAt    : List Nat := []
  /-- INIT set by a commit, to clear after the settings are applied; INIT waits for the end of a frame. 15 R482, R483. -/
  initDue  : Bool := false
  /-- Waiting for 11 recessive bits. 15 R483. -/
  integ    : Bool := false
  /-- TXB1, or object 1 in OBJECT mode, has held a frame since the gate's start. 15 R468, R472. -/
  held1    : Bool := false
  gateOn   : Bool := false
  /-- Filter stage word in force with the published bank. 15 R462. -/
  fltNow   : U32 := 0
  /-- Commands waiting for an outcome. 15 R477, 13 R419. -/
  waits    : List CanWait := []
  /-- A cancellation that waits for room in the event FIFO: (buffer, element, outcome). 15 R469. -/
  evWait   : List (Nat × Nat × Nat) := []
  /-- Cyclic profile frames that wait for object 1, oldest first. 15 R472. -/
  cycWait  : List (List U32) := []
  /-- Elements (buffer, index) withdrawn from behind the head, to be passed over. 15 R470. -/
  gone     : List (Nat × Nat) := []
  /-- P3 is to reinitialize the controller after a message-RAM error. 15 R477. -/
  reinit   : Bool := false
  /-- The restricted state comes from a commit. 15 R476. -/
  restCommit : Bool := false
  deriving DecidableEq, Repr

/-! ## Power, boot and the retained store -/

/-- A retained transaction released to the engine (R527). -/
structure RetTxn where
  kind : Nat
  tseq : Nat
  snap : U32
  /-- Segments: source, destination, length. -/
  segs : List (Nat × Nat × Nat)
  dcrc : U32
  deriving DecidableEq, Repr

/-- The boot record (R522), as P2 holds it. -/
structure BootRec where
  /-- BSEQ of the copy in force, and whether that is the second copy; the value without a valid copy is the first write's base. -/
  bseq   : Nat := 0
  second : Bool := true
  /-- ACTIVE and PREV: bank B when set. -/
  active : Bool := false
  trial  : Bool := false
  tries  : Nat := 0
  prev   : Bool := false
  minSec : Nat := 0
  /-- BFLAGS: bits 0 and 1 invalid, 2 and 3 verified, A before B. -/
  flags  : Nat := 0
  verA   : Nat := 0
  verB   : Nat := 0
  deriving DecidableEq, Repr

/-- Power, boot, firmware and the retained store beside registers and memory (chapter 17). -/
structure Pwr where
  /-- Levels: RESET_N high, PGOOD_IN high, VAON above its threshold. 17 R512. -/
  resetN   : Bool := true
  pgood    : Bool := true
  vaon     : Bool := true
  /-- BOOTSEL at the last BOOT; reason of the coming BOOT. 17 R518, R540. -/
  selBoot  : Nat := 0
  reason   : Nat := 0
  /-- Hibernation marker; wake sources fired; a wake waits for PGOOD_IN. 17 R539, R538. -/
  marker   : Bool := false
  woken    : Nat := 0
  /-- Recovery service runs. 17 R519. -/
  recovery : Bool := false
  /-- BOOT has not ended. 17 R517. -/
  booting  : Bool := false
  /-- Power-fail sequence runs. 17 R514. -/
  failing  : Bool := false
  /-- Transaction applying, and what follows it. 17 R527. -/
  txn      : Option RetTxn := none
  txnFor   : Option RetFor := none
  /-- Local ms of the transactions started in the last second. 17 R527. -/
  starts   : List Nat := []
  /-- Next TSEQ. 17 R528. -/
  tseq     : Nat := 1
  /-- The boot record, and a write of it that is due. 17 R522. -/
  boot     : BootRec := {}
  bootDue  : Bool := false
  /-- A configuration copy waits for the engine. 12 R385. -/
  cfgDue   : Bool := false
  /-- A save is due, and the commands waiting for its durability. 17 R532, 13 R424. -/
  saveDue  : Bool := false
  saveWait : List HostCmd := []
  /-- A save fell due while the engine was busy: it is retried at the next cycle. 17 R532. -/
  saveHold : Bool := false
  /-- Commands that the save being written answers. 13 R424. -/
  saveAns  : List HostCmd := []
  /-- Local ms of the last save, plus 1; 0 when none was made. 06 R204. -/
  saveAt   : Nat := 0
  /-- The records reflect one snapshot: its audit is done and no EST_GO has followed. 06 R204. -/
  saveOk   : Bool := true
  /-- Hibernation step reached (0 none), its wake sources and timer period. 17 R535. -/
  hibStep  : Nat := 0
  hibSrc   : Nat := 0
  hibTimer : Nat := 0
  /-- Firmware stage: owner session and declared size; byte ranges written, as (first, end). 13 R425. -/
  stage    : Option (Nat × Nat) := none
  staged   : List (Nat × Nat) := []
  /-- Activation waits for its restart: the bank to run, B when set. 13 R426. -/
  activate : Option Bool := none
  /-- Bank named by FW_ACTIVATE under BOOTSEL 0b11, to run once BOOTSEL is changed. 17 R519. -/
  named    : Option Bool := none
  /-- Trial running in this start; failed and waiting to roll back. 17 R524. -/
  trial    : Bool := false
  trialBad : Bool := false
  /-- Local ms at the end of BOOT. 17 R524. -/
  bootEnd  : Nat := 0
  /-- Local ms of the last master-set write, plus 1. 17 R534. -/
  masterAt : Nat := 0
  /-- Master set being loaded: set and owner session; its bytes stand in the SRAM reserve. 13 R410. -/
  load     : Option (Nat × Nat) := none
  /-- MASTER_TABLE_LOAD with LAST, waiting for its write; the write waits for the engine. 13 R410. -/
  loadWait : Option HostCmd := none
  loadDue  : Bool := false
  /-- Boundary-scan instruction EXTEST or CLAMP in force. 19 R575. -/
  scan     : Bool := false
  deriving DecidableEq, Repr

/-- An instruction the TAP loads (R574, R575). -/
inductive JtagIns where
  | bypass | idcode | samplePreload | extest | intest | clamp
  deriving DecidableEq, Repr

/-! ## Pins -/

/-- The output pins (R311, R318, R387, R356, R567, R568, R536). -/
structure Pins where
  /-- SEO0 to SEO7 channels A and B, TPO0 to TPO3, high bits. -/
  seoA     : Nat
  seoB     : Nat
  tpo      : Nat
  faultN   : Bool
  qirqN    : Bool
  dbg      : Bool
  /-- CANn_TXD driven (recessive) rather than high impedance. -/
  canTx    : Bool
  /-- PHASE_OUT: pulses given since reset. Each is 1,000 CLK_PHASE clock cycles high within its row; between rows the pin is low (R49). -/
  phaseOut : Nat
  deriving DecidableEq, Repr

/-! ## What a row brings, of more than one part -/

/-- What has come in of a train at an end: with the first of it `head`, its header to header CRC (empty otherwise), and a segment from header
to CRC (empty where the train's ED follows at once), R84 to R90. -/
structure TrainPart where
  head : List U8
  seg  : List U8
  deriving DecidableEq, Repr

/-- How a re-execution ends beside what its cores retire: an uncorrectable error in the checkpoint or the log, and the state at the
window's end of the cores that go on (R333, R342, R348). -/
structure RunEnd where
  bad  : Bool
  ckpt : List U32
  deriving DecidableEq, Repr

/-- A word written, and the bits that hardware sets in the same clock cycle (R8). -/
structure RegWrite where
  val : U32
  set : U32
  deriving DecidableEq, Repr

/-- A register read: its address, the bits that hardware sets in the clock cycle of the read (R8), and the index of the reading
instruction in its window (R335). -/
structure RegRead where
  addr : Nat
  set  : U32
  idx  : Nat
  deriving DecidableEq, Repr

/-- Bytes that the host writes, and the bits of HP_IRQ that hardware sets in the same clock cycle (R8). -/
structure HostWrite where
  bytes : List U8
  set   : U32
  deriving DecidableEq, Repr

/-- The body of a SYNC, and the member's own angle at its ingress timestamp (R441). -/
structure SyncFrame where
  own  : U32
  body : List U8
  deriving DecidableEq, Repr

/-- The MAC addresses of a cluster frame and the first word of its cluster header (R430). -/
structure ClHead where
  dst  : Nat
  src  : Nat
  word : U32
  deriving DecidableEq, Repr

end Sys2Proof.Machine
end

