-- ==== Sys2Proof/Syntax.lean ====
section
/-!
DEFINITION. Sys2Proof/Syntax.lean: the commands of the block, one constructor per row of the opcode table. Operands beside a
host command's packet are what the world gives the block at that event: the value written and the pair or port that writes it, the
bytes of a frame, a level, a measurement.
-/
namespace Sys2Proof

open Machine in
/-- A command. -/
inductive Instr where
  /-- ANGLE_ZERO, R39. The phase angle wraps through 0: the cycle count increments, its low 32 bits become the snapshot ID, and the changes that fall due at angle 0 are applied. -/
  | angleZero (tsc : U32)
  /-- TIMEBASE_EVALUATION, R41. At 0° and 180° the timebase evaluates its reference, coasts or tracks, and applies the state transitions of R42. -/
  | timebaseEvaluation (half : Bool) (freq : Nat) (e : Int) (pos neg : Nat)
  /-- HOLDOVER_TIMER_EXPIRY, R42. The holdover timer reaches timebase.holdover_s, so the timebase goes to FREE at nominal frequency and COHERENT clears. -/
  | holdoverTimerExpiry
  /-- TB_ANGLE_READ, R40. A read of TB_ANGLE latches the cycle count of the same clock cycle into TB_CYC_LAT_LO and TB_CYC_LAT_HI. -/
  | tbAngleRead (a : U32)
  /-- GATE_START, R55. The angle reaches a gate's start in a cycle its divider selects, so its start event is sent to its pair's FIFO and the pair runs the gate's work. -/
  | gateStart (k : Nat)
  /-- GATE_DEADLINE, R58. The angle reaches an open gate's deadline, so completion is judged. -/
  | gateDeadline (k : Nat)
  /-- PISTE_DONE, R57. A released write of a gate index completes that open gate, or is counted as STRAY. -/
  | pisteDone (p k : Nat)
  /-- PISTE_SWAP_REQ, R62. A write of PISTE_CTRL.SWAP_REQ requests publication of the staging bank at the next angle 0. -/
  | pisteSwapReq
  /-- RING_FRAME_TRANSMIT, R95. The ring controller starts a frame or exchange from a release buffer once no train, frame or trigger conflicts, P0 frames first. -/
  | ringFrameTransmit (n : Nat)
  /-- PHASEREF_BROADCAST, R82. At 90° the device broadcasts PHASEREF on every ring. -/
  | phaserefBroadcast
  /-- TRAIN_LAUNCH, R87. At window close the device launches a collection train, or tokens in dual stub, on each ring. -/
  | trainLaunch (direct : List (Nat × Int × Int × Int × Bool))
  /-- SEGMENT_RECEIVED, R90. A train segment arrives, is parsed against the enumerated layout, CRC-checked, screened and stored. -/
  | segmentReceived (n : Nat) (sideB : Bool) (x : TrainPart) (last : Bool)
  /-- RESP_RECEIVED, R93. A node's RESP to the outstanding CMD arrives and resolves the exchange for the issuing pair. -/
  | respReceived (n : Nat) (frame : List U8)
  /-- RING_CMD_TIMEOUT, R93. No RESP SD arrives in time, so the CMD is resent with RETRY, or the exchange fails after the retries. -/
  | ringCmdTimeout (n : Nat)
  /-- CMD_ECHO_CHECK, R93. In ring mode a CMD reaching the B end is compared bit for bit with what was sent, and EV_RING_ECHO is logged on a difference. -/
  | cmdEchoCheck (n : Nat) (frame : List U8)
  /-- TRIGGER_ARRIVAL_CHECK, R100. A frame's arrival at the B end is checked, and a failure followed by a failed PING declares a break. -/
  | triggerArrivalCheck (n : Nat) (ok : Bool)
  /-- TRAIN_RETURN_TIMEOUT, R100. A train header has not reached the B end within 2 ms, or carrier is lost before the ED. -/
  | trainReturnTimeout (n : Nat) (sideB : Bool)
  /-- STUB_ENDS_SET, R101. The dual-stub switchover completes with both stub ends programmed, and suspended exchanges resume. -/
  | stubEndsSet (n : Nat)
  /-- PONG_RECEIVED, R97. A PONG answers an ENUM PING from the addressed node. -/
  | pongReceived (n : Nat) (sideB : Bool) (addr : Nat)
  /-- ENUM_ACK_RECEIVED, R98. An ACK to ASSIGN arrives, so latency, limits and serial are checked and enumeration continues. -/
  | enumAckReceived (n rtt id serial c0 c1 : Nat)
  /-- ASSIGN_ACK_TIMEOUT, R98. No ACK arrives within 50 µs, so enumeration detects a closed ring or continues from the B end. -/
  | assignAckTimeout (n : Nat) (arrived : Bool) (lat : Nat)
  /-- CLOSURE_PROBE_TIMER, R104. Every ring.closure_probe_s the device sends CLOSE_PROBE to the A stub end. -/
  | closureProbeTimer
  /-- CLOSE_PROBE_ARRIVED, R104. A probe reaches the B end, so L_tot is re-measured, RING is broadcast and EV_RING_CLOSED is logged. -/
  | closeProbeArrived (n lat : Nat)
  /-- RING_ENUMERATE_REQUEST, R109. A W1S write of RING_CTRL bit 1 requests enumeration of the ring. -/
  | ringEnumerateRequest (n : Nat)
  /-- STRING_DATA_LOST_TIMEOUT, R128. A string still stale 250 ms after it became stale draws EV_STRING_DATA_LOST (F3). -/
  | stringDataLostTimeout (x : Nat)
  /-- ACQ_SCR_EVT3_READ, R132. A read of ACQ_SCR_EVT3 removes the oldest screen event from the FIFO. -/
  | acqScrEvt3Read
  /-- ACQ_SCR_APPLY, R131. A write transfers a string's screen shadows to the active copies and sets its enable bit, or rejects them. -/
  | acqScrApply (p : Nat) (v : U32)
  /-- FOC_COMPARATOR_TRIP, R143. A comparator asserted for acq.foc.filter_us latches its trip bit and de-energizes the masked SEOs in hardware. -/
  | focComparatorTrip (n : Nat) (chg : Bool)
  /-- FOC_TRIP_CLEAR, R144. A W1C write to ACQ_FOC_STATUS clears a trip bit unless the comparator is still asserted. -/
  | focTripClear (p : Nat) (v held : U32)
  /-- FOC_COMPARATOR_TEST, R145. Every 10 s each enabled comparator is tested for 20 µs against a moved threshold. -/
  | focComparatorTest (n : Nat) (chg : Bool)
  /-- PROTECTED_SRAM_STORE, R120. A core store to hardware- or engine-owned SRAM is terminated with a bus error and sets a status flag. -/
  | protectedSramStore (a : Nat)
  /-- EST_GO, R157. A write of EST_GO starts an engine pass at the snapshot boundary, or is ignored with GO_ERR. -/
  | estGo (p k gate : Nat)
  /-- ESTIMATOR_PASS_COMPLETE, R210. The engine completes a pass, and the limit reducer writes its output table. -/
  | estimatorPassComplete (clk : Nat) (upsets : List (Nat × Nat × Nat))
  /-- EST_CUR_JOB, R168. A write names a string for a Curator rebuild; the descriptor is validated or DESC_ERR is set. -/
  | estCurJob (p x : Nat)
  /-- CURATOR_JOB_COMPLETE, R168. A working-table build completes and sets the string's swap-pending bit. -/
  | curatorJobComplete (atGo : Bool)
  /-- LANE_TEST_REQUEST, R175. A write of EST_CTRL.LTEST requests the 20 µs lane test. -/
  | laneTestRequest (p : Nat)
  /-- LANE_TEST_COMPLETE, R175. The lane test ends and reports per-lane results in EST_LANE_TEST. -/
  | laneTestComplete (mask : U32)
  /-- EST_LANE_FENCE_WRITE, R175. A write fences engine lanes, or is ignored with DESC_ERR if fewer than 30 would stay unfenced. -/
  | estLaneFenceWrite (p : Nat) (v : U32)
  /-- EST_WT_DESC_WRITE, R169. A write to a staging descriptor is ignored with DESC_ERR while a job or swap is pending. -/
  | estWtDescWrite (p x b w : Nat) (v : U32)
  /-- QUIET_WINDOW_COMPLETE, R179. 10 minutes below C/50 complete a quiet window, which sets EST_ANCHOR and confidence 1. -/
  | quietWindowComplete (x : Nat)
  /-- UNEXCITED_TIMEOUT, R160. The current phasor stays below the floor for est.z.unexcited_s, so the string is marked UNEXCITED. -/
  | unexcitedTimeout (x : Nat)
  /-- CAP_LEARN_ARM_TIMEOUT, R194. 30 minutes in ARMED without a discharge start return learning to IDLE. -/
  | capLearnArmTimeout (x : Nat)
  /-- PCS_FEEDBACK_RECEIVED, R229. A PCS_FEEDBACK frame arrives and is judged alive and taken, or ignored. -/
  | pcsFeedbackReceived (n : Nat) (fdf : Bool) (data : List U8)
  /-- PCS_HEARTBEAT_RECEIVED, R229. A PCS HEARTBEAT arrives and refreshes the liveness of its controller. -/
  | pcsHeartbeatReceived (n : Nat) (data : List U8)
  /-- PCS_SILENT_TIMEOUT, R230. No alive frame arrives on either controller for pcs.hb_timeout_ms, so FROZEN is set and EV_PCS_SILENT is logged. -/
  | pcsSilentTimeout
  /-- PCS_BUS_SILENT_TIMEOUT, R229. One controller is silent for pcs.hb_timeout_ms while the other is alive, so EV_PCS_BUS_DEGRADED is logged. -/
  | pcsBusSilentTimeout (n : Nat)
  /-- PCS_OVERLIMIT_TIMEOUT, R231. Current stays in excess for pcs.overlimit_ms, so EV_PCS_OVERLIMIT (F3) applies to every CLOSED string. -/
  | pcsOverlimitTimeout (chg : Bool)
  /-- THERMAL_EVALUATION, R249. P3 evaluates every string's temperatures after the slot closes and posts f_T to P2. -/
  | thermalEvaluation
  /-- THERMAL_DWELL_EXPIRY, R242. A dwell of thermal.dwell_ms completes, so the string relaxes one step unless a hold runs. -/
  | thermalDwellExpiry (x : Nat) (low : Bool)
  /-- THERMAL_HOLD_EXPIRY, R247. A failed-sensor hold of thermal.hold_s ends, which releases a relaxation held back by it. -/
  | thermalHoldExpiry (x : Nat)
  /-- THERMAL_STALL, R249. 5 consecutive cycles without posted factors raise EV_THERMAL_STALL and a device-wide derate. -/
  | thermalStall
  /-- DIE_TEMPERATURE_UPDATE, R256. The 1 ms die-sensor update drives the die state transitions on temperature thresholds. -/
  | dieTemperatureUpdate (l : List Int)
  /-- DIE_STATE_DWELL_EXPIRY, R256. A die temperature held for its stated time completes a die-state transition. -/
  | dieStateDwellExpiry
  /-- DIE_SENSOR_EXCLUSION, R255. A die sensor that departs from the median by more than 8 K for 100 ms is excluded. -/
  | dieSensorExclusion (k : Nat)
  /-- COMPENSATION_UPDATE, R258. Every 10 ms the oscillator and reference corrections are recomputed and applied. -/
  | compensationUpdate
  /-- SNAPSHOT_SAFETY_CHECK, R300. P0 checks each snapshot's string data for SLC, SDR, SSW, contactor status, pre-charge and join rules. -/
  | snapshotSafetyCheck (tUs : Nat)
  /-- CONTACTOR_POLL, R267. Every 2 ms after a coil change P0 reads the string unit until the auxiliary contacts match. -/
  | contactorPoll (x : Nat)
  /-- CONTACTOR_FB_TIMEOUT, R267. string.fb_ms passes without a matching auxiliary contact, so the contactor has failed to follow or is weld suspect. -/
  | contactorFbTimeout (x mask : Nat)
  /-- POLE_GAP_EXPIRY, R281. string.pole_gap_ms after the first RESP, P0 commands the other main pole open. -/
  | poleGapExpiry (x : Nat)
  /-- RAMP_TIMEOUT, R282. string.ramp_ms passes since the decision, which meets the release condition. -/
  | rampTimeout
  /-- JOIN_WAIT_TIMEOUT, R277. string.join.wait_s passes while first in line without the join rule, so the attempt fails. -/
  | joinWaitTimeout (x : Nat)
  /-- PRECHARGE_DURATION_TIMEOUT, R272. The join rule is not met by t0 + 10τ, so pre-charge fails with reason 6. -/
  | prechargeDurationTimeout (x : Nat)
  /-- FBK_INPUT_CHANGE, R289. An FBK input is accepted at a new level after 3 equal 1 ms samples. -/
  | fbkInputChange (n : Nat) (high : Bool)
  /-- BUS_CONTACTOR_FB_TIMEOUT, R290. A bus contactor is not confirmed within string.fb_ms of its SEO change, giving EV_BUS_FB or EV_BUS_WELD. -/
  | busContactorFbTimeout (n : Nat)
  /-- SAFETY_TICK, R299. The 1 ms timer interrupt to P0 acts on SEO backups and checks pair heartbeats. -/
  | safetyTick (direct : List (Nat × Int))
  /-- SIN_CHANNEL_CHANGE, R306. A safe-input channel is accepted at a new level; demand acts, hardware trips run, and the discrepancy timer starts. -/
  | sinChannelChange (n : Nat) (chB high : Bool)
  /-- SIN_DISCREPANCY_TIMEOUT, R307. The other channel does not follow within disc_ms, so EV_SIN_DISCREPANCY latches the input in demand. -/
  | sinDiscrepancyTimeout (n : Nat)
  /-- TPO_PULSE, R308. A test-pulse output pulses low at its slot, and excited channels are blanked. -/
  | tpoPulse (k : Nat)
  /-- TPO_PULSE_END, R308. A TPO pulse ends, and the channel observations yield pass, EV_SIN_TEST or EV_SIN_CROSS. -/
  | tpoPulseEnd (k : Nat) (low crossed : List Nat)
  /-- SSW_DWELL_EXPIRY, R303. safety.ssw.dwell_s within hysteresis permits the forbidden direction again. -/
  | sswDwellExpiry (x : Nat) (chg : Bool)
  /-- DIRECTION_SETTLE_EXPIRY, R301. safety.dir.settle_ms after a direction became forbidden, violations of it begin to count. -/
  | directionSettleExpiry (x : Nat) (chg : Bool)
  /-- SEO_READBACK_MISMATCH, R313. An SEO readback differs from its output beyond 300 µs, which sets the SEO lock and an F4. -/
  | seoReadbackMismatch (n : Nat) (chB back : Bool)
  /-- SEO_TEST_PULSE, R314. Every safety.seo.test_s an energized SEO channel is pulsed off for the test. -/
  | seoTestPulse (n : Nat)
  /-- SEO_TEST_PULSE_END, R314. An SEO test pulse ends and the channel's readback is judged. -/
  | seoTestPulseEnd (n : Nat) (off on : Bool)
  /-- SAF_WDOG_WRITE, R317. A released write of 0x5A services the P0 watchdog. -/
  | safWdogWrite (p v : Nat)
  /-- WATCHDOG_EXPIRY, R317. No watchdog write for 10 ms sets the safe-state latch and WDOG_EXP. -/
  | watchdogExpiry
  /-- SAF_CTRL_SAFE, R316. A write of SAF_CTRL.SAFE sets the safe-state latch as the F5 reaction. -/
  | safCtrlSafe (p ev : Nat)
  /-- SAF_SEO_REQ_WRITE, R311. P0 writes its per-SEO energize requests, and each SEO energizes only when no hold or latch applies. -/
  | safSeoReqWrite (p v : Nat)
  /-- SAF_RESET_WRITE, R327. A write clears fault latches, the safe-state latch or SEO locks, where R319 permits. -/
  | safResetWrite (p : Nat) (v : U32)
  /-- SAF_RESTART_WRITE, R327. A write clears the MANUAL restart latches of released inputs. -/
  | safRestartWrite (p : Nat) (v : U32)
  /-- COMPARE_WINDOW_CLOSE, R339. A pair's compare window closes and the lane compares signatures, counts and store counts. -/
  | compareWindowClose (p : Nat) (prim shad : List Retired) (bad : Bool) (inputs : List (Nat × U32)) (ckpt : List U32)
  /-- RECOVERY_VOTE, R343. Re-execution completes and lane 4 votes, so the pair continues, S replaces a core, or the pair is lost. -/
  | recoveryVote (p : Nat) (prim shad spr : List Retired) (x : RunEnd)
  /-- RETRY_COMPARE, R348. A retry on two completes and is compared on the pair's own lane. -/
  | retryCompare (p : Nat) (prim shad : List Retired) (x : RunEnd)
  /-- RECOVERY_TIMEOUT, R343. Re-execution is not complete by 18.95 µs, so the pair cannot continue. -/
  | recoveryTimeout (p : Nat)
  /-- CORE_SELFTEST_COMPLETE, R344. A 250 µs logic self-test ends, and the core becomes the spare or is fenced. -/
  | coreSelftestComplete (core : Nat) (ok : Bool)
  /-- SPARE_SELFTEST_TIMER, R345. Every exe.spare.test_s the spare core starts logic self-test. -/
  | spareSelftestTimer
  /-- SPARE_TEST_REQUEST, R359. A write of EXE_CTRL.SPARE_TEST starts a spare self-test at once. -/
  | spareTestRequest (p : Nat)
  /-- PAIR_HEARTBEAT_TIMEOUT, R351. A pair's heartbeat has not advanced for 10 ms, so P0 logs EV_PAIR_RESTART and restarts the pair. -/
  | pairHeartbeatTimeout (p : Nat)
  /-- EXE_RESTART_WRITE, R351. A write restarts P1, P2 or P3 after its clean entries drain. -/
  | exeRestartWrite (p : Nat) (v : U32)
  /-- PAIR_RESTART_TIMEOUT, R351. A restarted pair fails to advance its heartbeat within 100 ms and is lost. -/
  | pairRestartTimeout (p : Nat)
  /-- DEBUG_HALT, R356. A permitted debug halt of a core breaks its pair's lock-step. -/
  | debugHalt (core : Nat)
  /-- SCRUB_TICK, R358. The scrubber reads and corrects an SRAM line on its exe.scrub_s cadence. -/
  | scrubTick (err : Bool)
  /-- ECC_UNCORRECTABLE_READ, R358. An uncorrectable SRAM read returns a bus error with a region-specific consequence. -/
  | eccUncorrectableRead (req a : Nat)
  /-- BUS_TRANSACTION_TIMEOUT, R16. A transaction not complete within 1 µs ends in a bus error to its requester. -/
  | busTransactionTimeout
  /-- QSPI_FAST_READ, R386. Instruction 0x0B reads the mailbox window on one line with 8 dummy clocks. -/
  | qspiFastRead (a : BitVec 24) (len : Nat)
  /-- QSPI_QUAD_IO_READ, R386. Instruction 0xEB reads the mailbox window on four lines. -/
  | qspiQuadIoRead (a : BitVec 24) (len : Nat)
  /-- QSPI_WRITE, R386. Instruction 0x02 writes whole words of the mailbox window on one line. -/
  | qspiWrite (a : BitVec 24) (x : HostWrite)
  /-- QSPI_QUAD_IO_WRITE, R386. Instruction 0x38 writes whole words of the mailbox window on four lines. -/
  | qspiQuadIoWrite (a : BitVec 24) (x : HostWrite)
  /-- QSPI_READ_STATUS_BYTE, R386. Instruction 0x05 returns the status byte. -/
  | qspiReadStatusByte
  /-- HP_CMD_WP_WRITE, R388. The host advances the command ring write offset, or the write is ignored with PTR_ERR. -/
  | hpCmdWpWrite (v : U32)
  /-- HP_RPL_RP_WRITE, R388. The host frees reply-ring space, letting held replies enter, or the write is ignored with PTR_ERR. -/
  | hpRplRpWrite (v : U32)
  /-- PACKET_INTAKE, R367. P2 takes a whole command packet and checks it in order before queueing it. -/
  | packetIntake
  /-- CLUSTER_COMMAND_FRAGMENT, R389. A COMMAND fragment arrives and joins or opens a reassembly. -/
  | clusterCommandFragment (p mac : Nat) (body : List U8)
  /-- REASSEMBLY_TIMEOUT, R389. A packet incomplete 100 ms after its first fragment is discarded as a frame error. -/
  | reassemblyTimeout (mac sn tag : Nat)
  /-- COMMAND_TIMEOUT, R374. An opcode's execution timeout expires and the command is answered ST_TIMEOUT. -/
  | commandTimeout (sn tag : Nat)
  /-- PENDING_INTERIM, R373. After host.pending_ms of execution an interim ST_PENDING reply is sent. -/
  | pendingInterim (sn tag : Nat)
  /-- SESSION_EXPIRY, R379. 2 s without an accepted packet expire a session, whose items are held for 10 s. -/
  | sessionExpiry (n : Nat)
  /-- SESSION_HOLD_EXPIRY, R380. The 10 s hold ends, and held replies, notices and the transaction are dropped. -/
  | sessionHoldExpiry (n : Nat)
  /-- AUTH_DEADLINE_EXPIRY, R376. A session without SESSION_AUTH within 2 s of its opening has its slot freed. -/
  | authDeadlineExpiry (n : Nat)
  /-- AUTH_LOCKOUT_EXPIRY, R376. The 30 s refusal of SESSION_OPEN at a privilege ends. -/
  | authLockoutExpiry (p : Nat)
  /-- CONFIG_IDLE_TIMEOUT, R384. An idle transaction is aborted after host.config_idle_s. -/
  | configIdleTimeout
  /-- IDENTIFY, R396. The command returns part, serial, firmware and cluster identity. -/
  | identify (c : HostCmd)
  /-- STATUS_GET, R397. The command returns an 11-word device status image. -/
  | statusGet (c : HostCmd)
  /-- SERVICE_ENTER, R395. The command takes the device from STANDBY to SERVICE. -/
  | serviceEnter (c : HostCmd)
  /-- SERVICE_LEAVE, R395. The command leaves SERVICE, going to SAFE_HOLD if the latch is set. -/
  | serviceLeave (c : HostCmd)
  /-- CONFIG_BEGIN, R384. The command opens the device's single configuration transaction. -/
  | configBegin (c : HostCmd)
  /-- PARAM_SET, R384. The command stages parameter values after three checking passes. -/
  | paramSet (c : HostCmd)
  /-- PARAM_GET, R398. The command returns values in force, or staged values to the owner. -/
  | paramGet (c : HostCmd)
  /-- CONFIG_COMMIT, R385. The command checks the cross-rules, writes a retained copy and applies the staged parameters. -/
  | configCommit (c : HostCmd)
  /-- CONFIG_ABORT, R384. The command discards everything staged. -/
  | configAbort (c : HostCmd)
  /-- TIMEBASE_GET, R400. The command returns the timebase status, angle, counts and frequency. -/
  | timebaseGet (c : HostCmd)
  /-- TIMEBASE_ALIGN, R401. The command steps the cycle count at the next angle 0 on the reference sender. -/
  | timebaseAlign (c : HostCmd)
  /-- PISTE_READ, R400. The command returns piste entries from a chosen bank or committed piste. -/
  | pisteRead (c : HostCmd)
  /-- PISTE_WRITE, R402. The command validates and stages piste entries in the transaction. -/
  | pisteWrite (c : HostCmd)
  /-- RING_STATUS, R403. The command returns ring registers and totals for a range of rings. -/
  | ringStatus (c : HostCmd)
  /-- RING_ENUMERATE, R403. The command enumerates the rings of a mask in STANDBY or SERVICE. -/
  | ringEnumerate (c : HostCmd)
  /-- RING_LEAVE, R107. The command sets stub ends at a leaving node's neighbours and releases it. -/
  | ringLeave (c : HostCmd)
  /-- NODE_READ, R405. The command passes one READ_REG or READ_AUX exchange to a node through P1. -/
  | nodeRead (c : HostCmd)
  /-- UNIT_MAP_SET, R404. The command stages unit-map entries for commit. -/
  | unitMapSet (c : HostCmd)
  /-- UNIT_MAP_GET, R403. The command returns unit-map entries. -/
  | unitMapGet (c : HostCmd)
  /-- HISTORY_READ, R406. The command returns a closed history slot's header and cell entries. -/
  | historyRead (c : HostCmd)
  /-- STRING_SAMPLE_READ, R403. The command returns string-table entries of a history slot. -/
  | stringSampleRead (c : HostCmd)
  /-- DIRECT_READ, R403. The command returns the direct channels' 1 ms means and comparator status. -/
  | directRead (c : HostCmd)
  /-- BAL_CLEAR, R403. The command lifts a balancing stop and resets the feedback comparison. -/
  | balClear (c : HostCmd)
  /-- CATALOGUE_READ, R408. The command returns catalogue records from one pass. -/
  | catalogueRead (c : HostCmd)
  /-- STRING_EST_READ, R407. The command returns string estimator and charge entries. -/
  | stringEstRead (c : HostCmd)
  /-- CAPACITY_WRITE, R409. The command replaces string or cell capacities. -/
  | capacityWrite (c : HostCmd)
  /-- MASTER_TABLE_LOAD, R410. The command stages a master set in chunks and writes it at LAST if it is valid. -/
  | masterTableLoad (c : HostCmd)
  /-- LIMITS_READ, R407. The command returns the frames of the last publication. -/
  | limitsRead (c : HostCmd)
  /-- THERMAL_READ, R407. The command returns string thermal-table entries. -/
  | thermalRead (c : HostCmd)
  /-- SENSOR_READ, R407. The command returns sensor-state bytes. -/
  | sensorRead (c : HostCmd)
  /-- STRING_CONNECT, R270. The command requests connection of the named strings, each judged on its own. -/
  | stringConnect (c : HostCmd)
  /-- STRING_DISCONNECT, R413. The command starts disconnection of the named strings and cancels waiting connects. -/
  | stringDisconnect (c : HostCmd)
  /-- STRING_LOCK, R285. The command locks out OPEN strings. -/
  | stringLock (c : HostCmd)
  /-- STRING_UNLOCK, R285. The command releases locks whose cause no longer holds. -/
  | stringUnlock (c : HostCmd)
  /-- STRING_WELD_RELEASE, R286. The command releases weld suspicion once the contacts read open. -/
  | stringWeldRelease (c : HostCmd)
  /-- STRING_READ, R414. The command returns string states, E_acc and wear counts. -/
  | stringRead (c : HostCmd)
  /-- SAFETY_RESET, R319. The command clears the safe-state latch, SEO locks, fault latches and F5 locks when the conditions hold. -/
  | safetyReset (c : HostCmd)
  /-- SIN_RESET, R310. The command clears MANUAL restart latches of released inputs. -/
  | sinReset (c : HostCmd)
  /-- SAFETY_READ, R415. The command returns the safety I/O status registers. -/
  | safetyRead (c : HostCmd)
  /-- EXEC_READ, R415. The command returns the execution registers and the core health record. -/
  | execRead (c : HostCmd)
  /-- CORE_UNFENCE, R415. The command clears the fence bits of the named cores in the core health record. -/
  | coreUnfence (c : HostCmd)
  /-- DEBUG_SET, R355. The command sets the debug mode, and OFF resumes halted cores. -/
  | debugSet (c : HostCmd)
  /-- SESSION_OPEN, R375. The command opens or resumes a session and returns the device nonce. -/
  | sessionOpen (c : HostCmd)
  /-- SESSION_AUTH, R376. The command checks the host proof, returns the device proof and derives K_s. -/
  | sessionAuth (c : HostCmd)
  /-- SESSION_CLOSE, R380. The command ends a session at once and drops its held items. -/
  | sessionClose (c : HostCmd)
  /-- SESSION_PING, R379. The command keeps a session alive. -/
  | sessionPing (c : HostCmd)
  /-- CMD_CANCEL, R374. The command cancels a not-yet-begun command of the same session. -/
  | cmdCancel (c : HostCmd)
  /-- TAG_QUERY, R382. The command returns an outcome-table entry. -/
  | tagQuery (c : HostCmd)
  /-- NOTICE_SUBSCRIBE, R375. The command sets the fault classes delivered as notices. -/
  | noticeSubscribe (c : HostCmd)
  /-- KEY_PROVISION, R376. The command writes the device key. -/
  | keyProvision (c : HostCmd)
  /-- CLUSTER_READ, R417. The command returns cluster membership and the last REDUCE result. -/
  | clusterRead (c : HostCmd)
  /-- CAN_TX, R419. The command queues a pass-through frame to TXB2 or an object. -/
  | canTx (c : HostCmd)
  /-- CAN_RX_READ, R421. The command removes frames from the pass-through receive FIFO. -/
  | canRxRead (c : HostCmd)
  /-- CAN_STATUS, R418. The command returns a controller's error state, counts and TSC. -/
  | canStatus (c : HostCmd)
  /-- CAN_RECOVER, R418. The command starts a supervised bus-off recovery or clears clash suspensions. -/
  | canRecover (c : HostCmd)
  /-- LOG_READ, R423. The command returns accession-log records without gaps. -/
  | logRead (c : HostCmd)
  /-- COUNTER_READ, R422. The command returns counters with their overflow flags, live or from the vitrine. -/
  | counterRead (c : HostCmd)
  /-- VITRINE_TAKE, R494. The command requests a counter freeze at the next angle 0. -/
  | vitrineTake (c : HostCmd)
  /-- DUMP_READ, R422. The command returns dump records or tagging pages. -/
  | dumpRead (c : HostCmd)
  /-- FW_STAGE_BEGIN, R425. The command marks the inactive bank as staging. -/
  | fwStageBegin (c : HostCmd)
  /-- FW_STAGE_DATA, R425. The command writes an image chunk into the staging bank. -/
  | fwStageData (c : HostCmd)
  /-- FW_STAGE_VERIFY, R425. The command verifies the staged image. -/
  | fwStageVerify (c : HostCmd)
  /-- FW_ACTIVATE, R426. The command makes the verified bank active on trial and restarts. -/
  | fwActivate (c : HostCmd)
  /-- FW_INFO, R424. The command returns version, state and size of both banks. -/
  | fwInfo (c : HostCmd)
  /-- HIBERNATE, R427. The command brings a save forward and enters HIBERNATE with the chosen wake sources. -/
  | hibernate (c : HostCmd)
  /-- RETAINED_SAVE, R424. The command brings the next retained save forward and replies when it is durable. -/
  | retainedSave (c : HostCmd)
  /-- HELLO_BROADCAST, R436. Each member broadcasts HELLO at 180°. -/
  | helloBroadcast
  /-- HELLO_RECEIVED, R437. A HELLO updates the view and the port the sender is reached on. -/
  | helloReceived (p : Nat) (body : List U8)
  /-- VIEW_EVALUATION, R438. At 270° each device evaluates its view and elects the head. -/
  | viewEvaluation
  /-- PHASE_SYNC_BROADCAST, R440. The head broadcasts PHASE SYNC at 90°. -/
  | phaseSyncBroadcast (angle : U32)
  /-- PHASE_SYNC_RECEIVED, R441. A SYNC with a valid path delay gives the phase measurement and the cycle count. -/
  | phaseSyncReceived (p src : Nat) (x : SyncFrame)
  /-- DELAY_REQ_SEND, R441. A member sends DELAY_REQ at its 270° slot or after a change of head or port. -/
  | delayReqSend (t1 : Nat)
  /-- DELAY_REQ_RECEIVED, R441. The head answers a DELAY_REQ with DELAY_RESP. -/
  | delayReqReceived (p src seq corr t2 t3 : Nat)
  /-- DELAY_RESP_RECEIVED, R441. A member computes its path delay D and keeps the median. -/
  | delayRespReceived (seq corr corrReq t2 t3 t4 : Nat)
  /-- REDUCE_CONTRIBUTION_RECEIVED, R444. The head receives a member's REDUCE contribution. -/
  | reduceContributionReceived (src : Nat) (words : List U32)
  /-- REDUCE_COLLECTION, R444. At the collection angle the head forms the cluster limits, broadcasts the result and publishes under quorum. -/
  | reduceCollection
  /-- REDUCE_RESULT_RECEIVED, R447. A member receives the REDUCE result. -/
  | reduceResultReceived (src : Nat) (words : List U32)
  /-- CLUSTER_FRAME_ARRIVAL, R433. A frame arrives on a cluster port and is delivered, forwarded or dropped. -/
  | clusterFrameArrival (p : Nat) (h : ClHead) (h1 h2 : U32) (body : List U8) (fcsOk : Bool) (residence : Nat) (busy : Bool)
  /-- CLUSTER_PORT_DOWN, R435. A port goes down on link loss or 3 cycles without a valid frame. -/
  | clusterPortDown (p : Nat)
  /-- PHY_POLL, R429. P3 polls every PHY over MDC and MDIO every 10 ms. -/
  | phyPoll (links : Nat)
  /-- CAN_ATTEMPT_START, R467. At bus idle the controller offers the head element of the highest-priority eligible buffer. -/
  | canAttemptStart (n : Nat) (tsc : U32)
  /-- CAN_TRANSMIT_COMPLETE, R469. An element leaves its buffer and a transmit event records its outcome. -/
  | canTransmitComplete (n : Nat) (edges : List Nat)
  /-- TXB2_HOLD_START, R468. 10° before a P3 PUBLISH gate TXB2 is held on a PCS controller. -/
  | txb2HoldStart
  /-- CAN_FRAME_RECEIVED, R461. A valid frame is filtered and stored in a FIFO or object, or rejected. -/
  | canFrameReceived (n : Nat) (f : CanFrame) (tsc : U32)
  /-- CAN_BUS_ERROR, R474. A detected bus error updates the error counters and the confinement state. -/
  | canBusError (n : Nat) (e : CanError)
  /-- CAN_RECOVERY_COMPLETE, R475. The bus-off recovery sequence ends with the controller error active. -/
  | canRecoveryComplete (n : Nat)
  /-- CAN_TXB_PUT_WRITE, R467. P3 advances a transmit buffer's PUT, unless it would pass GET. -/
  | canTxbPutWrite (p n k v : Nat)
  /-- CAN_TX_CANCEL_WRITE, R470. A write cancels an element, withdrawn or late depending on arbitration. -/
  | canTxCancelWrite (p n : Nat) (v : U32) (win : Bool)
  /-- CAN_TX_RESUME_WRITE, R478. A write resumes suspended buffers or objects. -/
  | canTxResumeWrite (p n : Nat) (v : U32)
  /-- CAN_TXEV_ACK_WRITE, R469. A write acknowledges transmit events and frees event FIFO entries. -/
  | canTxevAckWrite (p n v : Nat)
  /-- CAN_RXF_ACK_WRITE, R465. A write releases read elements of a receive FIFO. -/
  | canRxfAckWrite (p n k v : Nat)
  /-- CAN_FLT_SWAP_REQ, R462. A write of SWAP_REQ requests publication of the staged filter list. -/
  | canFltSwapReq (p n : Nat)
  /-- CAN_FILTER_SWAP, R462. At the first frame-free moment the staged list is validated and published or rejected. -/
  | canFilterSwap (n : Nat)
  /-- CAN_CTRL_RECOVER, R475. A write of CAN_CTRL.RECOVER starts supervised bus-off recovery. -/
  | canCtrlRecover (p n : Nat)
  /-- CAN_OBJ_SEND, R472. A W1S write requests transmission of message objects. -/
  | canObjSend (p n w : Nat) (v : U32)
  /-- CAN_RAM_UNCORRECTABLE, R476. An uncorrectable message-RAM error enters restricted operation and sets RAM_UE. -/
  | canRamUncorrectable (n off : Nat)
  /-- CAN_WAKE_PATTERN, R479. In hibernation a complete ISO 11898-2 wake-up pattern on CAN0_RXD sets DETECTED. -/
  | canWakePattern
  /-- CNT_LO_READ, R489. A read of CNTn_LO latches the high half and the flag in the pair's latch. -/
  | cntLoRead (p n : Nat)
  /-- CNT_LO_WRITE, R490. A write of CNTn_LO stages a low half. -/
  | cntLoWrite (p n : Nat) (v : U32)
  /-- CNT_HI_WRITE, R490. A write of CNTn_HI loads all 48 bits at once. -/
  | cntHiWrite (p n : Nat) (v : U32)
  /-- DUMP_RECORD_WRITTEN, R493. A dump record write completes in the dump ring. -/
  | dumpRecordWritten
  /-- VIT_REQ_WRITE, R494. A write of CNT_CTRL.VIT_REQ requests a freeze at the next angle 0. -/
  | vitReqWrite (p : Nat)
  /-- BW_WINDOW_END, R497. A bandwidth window ends and updates BW_LAST, BW_PEAK and BW_WIN. -/
  | bwWindowEnd (k bytes : Nat)
  /-- BW_CFG_WRITE, R497. A write of BW_CFGk restarts the monitor. -/
  | bwCfgWrite (p k : Nat) (v : U32)
  /-- LOG_INTAKE, R504. P2 takes waiting event posts in pair order and assigns sequence numbers. -/
  | logIntake
  /-- LOG_SECOND_BOUNDARY, R505. At the start of a second the count of suppressed events is logged as EV_LOG_SUPPRESSED. -/
  | logSecondBoundary
  /-- RESET_N_CHANGE, R512. RESET_N falling forces OFF and resets every domain. -/
  | resetNChange (high : Bool)
  /-- VAON_POWER_ON, R512. VAON crossing its power-on threshold ends or enters OFF. -/
  | vaonPowerOn (above : Bool)
  /-- BROWN_OUT, R513. VDD or VDDM below its threshold for 1 µs enters OFF at once. -/
  | brownOut
  /-- PGOOD_IN_FALL, R514. PGOOD_IN low for 20 µs starts the power-fail sequence with the latch set. -/
  | pgoodInFall
  /-- POWER_FAIL_RESET, R514. 4.0 ms after PGOOD_IN fell the device resets internally into OFF. -/
  | powerFailReset
  /-- BOOT_START, R516. 1 ms after the OFF conditions end, BOOT runs its ordered steps. -/
  | bootStart (bootsel failed : Nat)
  /-- BOOT_WATCHDOG_EXPIRY, R517. BOOT not ended 500 ms after its start restarts the device. -/
  | bootWatchdogExpiry (bootsel failed : Nat)
  /-- RET_GO_WRITE, R527. A released write commits a retained transaction, or is ignored with REJ. -/
  | retGoWrite (p : Nat) (v : U32)
  /-- RETAINED_TRANSACTION_DONE, R527. The engine writes state DONE and sets RET_STATUS.DONE. -/
  | retainedTransactionDone
  /-- PERIODIC_SAVE, R532. Every retained.save_s P2 writes the per-cell and per-string records as one transaction. -/
  | periodicSave
  /-- PWR_CTRL_HIB_REQ, R535. A write of HIB_REQ makes the always-on domain arm the sources and gate the domains. -/
  | pwrCtrlHibReq (p : Nat)
  /-- PWR_CTRL_RESTART, R540. A write of RESTART restarts into BOOT with reason 5. -/
  | pwrCtrlRestart (p bootsel failed : Nat)
  /-- HIBERNATE_ABORT_TIMEOUT, R535. Step 6 not reached 2.5 s after the reply logs EV_HIB_ABORT and stays in STANDBY. -/
  | hibernateAbortTimeout
  /-- WAKE_SOURCE_FIRED, R538. An armed wake source fires and starts BOOT with reason wake. -/
  | wakeSourceFired (srcs bootsel failed : Nat)
  /-- TRIAL_CONFIRM_TIMEOUT, R524. fw.trial_s without a pair restart or loss confirms the trial image. -/
  | trialConfirmTimeout
  /-- TRIAL_ROLLBACK_RESTART, R524. After a failed trial the device rolls back and restarts at the first STANDBY or SAFE_HOLD. -/
  | trialRollbackRestart (bootsel failed : Nat)
  /-- REGISTER_WRITE, R4. A write to a register without a row of its own acts by its access code. -/
  | registerWrite (p a : Nat) (x : RegWrite)
  /-- READ_CLEAR_REGISTER, R4. A read of an RC register returns its value and clears it. -/
  | readClearRegister (p : Nat) (x : RegRead)
  /-- PING_TIMEOUT, R100. An ENUM PING draws no PONG in time, so the node counts as not reached, for declaring a break or for the binary search for the stub ends. -/
  | pingTimeout (n : Nat) (sideB : Bool)
  /-- FOC_TEST_END, R145. The 20 µs comparator test ends: the result is judged into ACQ_FOC_TEST or EV_FOC_TEST, and SEO gating and any delayed real trip resume. -/
  | focTestEnd (changed : Bool)
  /-- BUSOFF_RECOVERY_START, R475. In AUTO confinement the bus-off recovery sequence starts once the limit of 3 sequences per 60 s allows it. -/
  | busoffRecoveryStart (n : Nat)
  /-- CAN_INTEGRATION_COMPLETE, R483. After INIT clears or protocol exception handling, the controller sees 11 recessive bits and rejoins the bus. -/
  | canIntegrationComplete (n : Nat)
  /-- ACTIVATION_RESTART, R426. At least 100 ms after the FW_ACTIVATE reply is released, the device saves its retained state and restarts into BOOT from the new bank. -/
  | activationRestart (bootsel failed : Nat)
  /-- JTAG_INSTRUCTION_UPDATE, R575. A TAP instruction is loaded; EXTEST or CLAMP in SERVICE debug forces the SEO and TPO cells low and sets the safe-state latch, and is executed as BYPASS otherwise. -/
  | jtagInstructionUpdate (ins : JtagIns)
  /-- HEAD_ENTRY_SYNC, R440. 2 ms after becoming head, once it has answered the delay requests, the new head sends an extra PHASE SYNC. -/
  | headEntrySync (angle : U32)
  deriving DecidableEq, Repr

end Sys2Proof
end

