-- ==== Sys2Proof/Machine/Fp.lean ====
section
/-!
DEFINITION. Sys2Proof/Machine/Fp.lean: binary32 arithmetic as R156 uses it (each operation exact, then rounded to nearest
even), the correctly rounded exponential of R156, and fixed-point values for what the spec leaves to the evaluator.
-/
namespace Sys2Proof.Machine

/-- A binary32 value taken apart: not a number, an infinity, or `mag` times 2^`e` with a sign. -/
inductive FVal where
  | nan
  | inf (neg : Bool)
  | fin (neg : Bool) (mag : Nat) (e : Int)
  deriving DecidableEq, Repr

/-- The value a bit pattern stands for. -/
def fdec (x : F32) : FVal :=
  let neg := bitOf x 31
  let ef := fld x 23 8
  let fr := fld x 0 23
  if ef = 255 then (if fr = 0 then .inf neg else .nan)
  else if ef = 0 then .fin neg fr (-149)
  else .fin neg (fr + 2 ^ 23) ((ef : Int) - 150)

/-- Bit patterns with a sign. -/
def fsign (neg : Bool) (v : Nat) : F32 := w32 (b2n neg * 2 ^ 31 + v)
abbrev fNan : F32 := 0x7FC00000
def fInf (neg : Bool) : F32 := fsign neg 0x7F800000

/-- mag times 2^e, rounded to nearest even. `sticky` says the exact value lies strictly between mag and mag + 1 times 2^e. -/
def fround (neg : Bool) (mag : Nat) (e : Int) (sticky : Bool) : F32 :=
  if mag = 0 then fsign neg 0
  else
    let q : Int := max ((Nat.log2 mag : Int) + e - 23) (-149)
    let hi : Nat :=
      if q ≤ e then mag * 2 ^ (e - q).toNat
      else
        let sh := (q - e).toNat
        let h := mag / 2 ^ sh
        let r := mag % 2 ^ sh
        let half := 2 ^ (sh - 1)
        if r > half ∨ (r = half ∧ (sticky ∨ h % 2 = 1)) then h + 1 else h
    let hq : Nat × Int := if hi = 2 ^ 24 then (2 ^ 23, q + 1) else (hi, q)
    if hq.1 < 2 ^ 23 then fsign neg hq.1
    else
      let ef := hq.2 + 150
      if ef ≥ 255 then fInf neg else fsign neg (ef.toNat * 2 ^ 23 + (hq.1 - 2 ^ 23))

/-- The signed integer m times 2^e, rounded; an exact zero takes the sign given. -/
def froundInt (zneg : Bool) (m : Int) (e : Int) : F32 :=
  if m = 0 then fsign zneg 0 else fround (decide (m < 0)) m.natAbs e false

/-- An integer with its sign. -/
def sgnInt (neg : Bool) (m : Nat) : Int := if neg then -(m : Int) else (m : Int)

/-- a × b + c with one rounding (R156). -/
def ffma (a b c : F32) : F32 :=
  match fdec a, fdec b, fdec c with
  | .nan, _, _ => fNan
  | _, .nan, _ => fNan
  | _, _, .nan => fNan
  | .inf n, .inf m, .inf k => if (n != m) = k then fInf k else fNan
  | .inf n, .inf m, .fin _ _ _ => fInf (n != m)
  | .inf n, .fin m v _, .inf k => if v = 0 then fNan else if (n != m) = k then fInf k else fNan
  | .inf n, .fin m v _, .fin _ _ _ => if v = 0 then fNan else fInf (n != m)
  | .fin n v _, .inf m, .inf k => if v = 0 then fNan else if (n != m) = k then fInf k else fNan
  | .fin n v _, .inf m, .fin _ _ _ => if v = 0 then fNan else fInf (n != m)
  | .fin _ _ _, .fin _ _ _, .inf k => fInf k
  | .fin n v e, .fin m w f, .fin k u g =>
    let lo := min (e + f) g
    let p := sgnInt (n != m) (v * w) * 2 ^ (e + f - lo).toNat
    let q := sgnInt k u * 2 ^ (g - lo).toNat
    froundInt ((n != m) && k) (p + q) lo

/-- 1 and the sign change. -/
abbrev fOne : F32 := 0x3F800000
def fneg (a : F32) : F32 := a ^^^ 0x80000000
def fabs (a : F32) : F32 := a &&& 0x7FFFFFFF
/-- Sum, difference and product, each rounded once. -/
def fadd (a b : F32) : F32 := ffma a fOne b
def fsub (a b : F32) : F32 := ffma a fOne (fneg b)
def fmul (a b : F32) : F32 :=
  match fdec a, fdec b with
  | .fin n v e, .fin m w f => froundInt (n != m) (sgnInt (n != m) (v * w)) (e + f)
  | _, _ => ffma a b 0

/-- Quotient, rounded once. -/
def fdiv (a b : F32) : F32 :=
  match fdec a, fdec b with
  | .nan, _ => fNan
  | _, .nan => fNan
  | .inf _, .inf _ => fNan
  | .inf n, .fin m _ _ => fInf (n != m)
  | .fin n _ _, .inf m => fsign (n != m) 0
  | .fin n v e, .fin m w f =>
    if w = 0 then (if v = 0 then fNan else fInf (n != m))
    else
      let num := v * 2 ^ 64
      fround (n != m) (num / w) (e - f - 64) (decide (num % w ≠ 0))

/-- Square root by bits: the largest r with r² at most n. -/
def isqrtBits (n : Nat) : Nat → Nat → Nat
  | 0, r => r
  | k + 1, r => if (r + 2 ^ k) * (r + 2 ^ k) ≤ n then isqrtBits n k (r + 2 ^ k) else isqrtBits n k r
def isqrt (n : Nat) : Nat := isqrtBits n (Nat.log2 n / 2 + 1) 0

/-- Square root, rounded once. -/
def fsqrt (a : F32) : F32 :=
  match fdec a with
  | .nan => fNan
  | .inf n => if n then fNan else fInf false
  | .fin n v e =>
    if v = 0 then fsign n 0
    else if n then fNan
    else
      let odd := e % 2 ≠ 0
      let m := (if odd then v * 2 else v) * 2 ^ 80
      let e' := (if odd then e - 1 else e) - 80
      let r := isqrt m
      fround false r (e' / 2) (decide (r * r ≠ m))

/-- a < b and a ≤ b on values (false when either is not a number). -/
def fcmpLt (a b : F32) : Bool :=
  match fdec a, fdec b with
  | .nan, _ => false
  | _, .nan => false
  | .inf n, .inf m => n && !m
  | .inf n, .fin _ _ _ => n
  | .fin _ _ _, .inf m => !m
  | .fin n v e, .fin m w f =>
    let lo := min e f
    decide (sgnInt n v * 2 ^ (e - lo).toNat < sgnInt m w * 2 ^ (f - lo).toNat)
def fisNan (a : F32) : Bool := fdec a == .nan
def fle (a b : F32) : Bool := !fisNan a && !fisNan b && !fcmpLt b a
def fmin (a b : F32) : F32 := if fcmpLt b a then b else a
def fmax (a b : F32) : F32 := if fcmpLt a b then b else a

/-- An integer times 2^e, and the quotient of two integers, as the nearest binary32. -/
def fofInt (m : Int) : F32 := froundInt false m 0
def fofRat (num : Int) (den : Nat) : F32 :=
  if den = 0 then (if num = 0 then fNan else fInf (decide (num < 0)))
  else
    let n := num.natAbs * 2 ^ 64
    fround (decide (num < 0)) (n / den) (-64) (decide (n % den ≠ 0))

/-! ## The exponential -/

/-- Fraction bits of the working precision of exp, and ln 2 with them. -/
abbrev expBits : Nat := 200
def ln2Fix : Nat := 1113844574712631719546256151097547306333272293549090750737802

/-- The sum of rⁿ/n! for n from k on down the given number of terms, r a fixed-point number below 1. -/
def expTerms (r : Nat) : Nat → Nat → Nat → Nat
  | 0, _, _ => 0
  | n + 1, k, t => t + expTerms r n (k + 1) (t * r / (k * 2 ^ expBits))

/-- e^x for the fixed-point number x, as (mantissa with `expBits` fraction bits, power of two). -/
def expFix (x : Int) : Nat × Int :=
  let k : Int := x / (ln2Fix : Int)
  let r : Nat := (x % (ln2Fix : Int)).toNat
  (expTerms r 48 1 (2 ^ expBits), k)

/-- `exp` of R156: the binary32 value nearest e^x. -/
def fexp (a : F32) : F32 :=
  match fdec a with
  | .nan => fNan
  | .inf n => if n then 0 else fInf false
  | .fin n v e =>
    if v = 0 then fOne
    else if 7 < (Nat.log2 v : Int) + e then (if n then 0 else fInf false)
    else
      let sh := e + expBits
      let m : Int := if 0 ≤ sh then sgnInt n v * 2 ^ sh.toNat else sgnInt n v / 2 ^ (-sh).toNat
      let x := expFix m
      fround false x.1 (x.2 - expBits) true

/-- e^(-num/den) with 64 fraction bits, rounded down: the decay factors that the spec states as real numbers. Log 10. -/
def expNeg (num den : Nat) : Nat :=
  if den = 0 then 0
  else if num / den ≥ 64 then 0
  else
    let x := expFix (-((num * 2 ^ expBits / den : Nat) : Int))
    x.1 / 2 ^ ((expBits : Int) - 64 - x.2).toNat

/-- The value of a binary32 number in units of 2^-bits, rounded down; 0 for what is not a finite number. Log 10. -/
def ffix (a : F32) (bits : Nat) : Int :=
  match fdec a with
  | .fin n v e =>
    let sh := e + bits
    if 0 ≤ sh then sgnInt n v * 2 ^ sh.toNat else sgnInt n v / 2 ^ (-sh).toNat
  | _ => 0
def ffixN (a : F32) (bits : Nat) : Nat := (ffix a bits).toNat

/-- The arctangent of t, at most 1, in units of 2^-64: two half-angle steps, then its series. Log 10. -/
def atanFix (t : Nat) : Nat :=
  let one := 2 ^ 64
  let h := fun x : Nat => x * one / (one + isqrt (one * one + x * x))
  let u := h (h t)
  let uu := u * u / one
  let ser := (List.range 24).foldl (fun (a : Int × Nat) i => (a.1 + (if i % 2 = 0 then 1 else -1) * ((a.2 / (2 * i + 1) : Nat) : Int), a.2 * uu / one)) (0, u)
  4 * ser.1.toNat

/-- The angle of x + jy in 1/65,536 turn, rounded to nearest, as s16 in a natural number (R6). Log 10. -/
def phaseTurns (x y : Int) : Nat :=
  let a := x.natAbs
  let b := y.natAbs
  if a = 0 ∧ b = 0 then 0
  else
    let quarter := 2 ^ 78
    let tr := fun t : Nat => t * 2 ^ 79 / 57952155664616982739
    let q := if b ≤ a then tr (atanFix (b * 2 ^ 64 / a)) else quarter - tr (atanFix (a * 2 ^ 64 / b))
    let q := if x < 0 then 2 * quarter - q else q
    let r := (q + 2 ^ 63) / 2 ^ 64
    if y < 0 then (65536 - r % 65536) % 65536 else r % 65536

/-- -ln(1 - d) of d/10,000, d at most 2,000, in units of 2^-80. Log 10. -/
def lnDecay (d : Nat) : Nat :=
  ((List.range 60).foldl (fun (a : Nat × Nat) i => (a.1 + a.2 / (i + 1), a.2 * d / 10000)) (0, d * 2 ^ 80 / 10000)).1

/-- ln(1 + d) of d/10,000, d at most 500, in units of 2^-80. Log 10. -/
def lnGrow (d : Nat) : Nat :=
  ((List.range 60).foldl (fun (a : Int × Nat) i => (a.1 + (if i % 2 = 0 then 1 else -1) * ((a.2 / (i + 1) : Nat) : Int), a.2 * d / 10000)) (0, d * 2 ^ 80 / 10000)).1.toNat

/-- A binary32 value as binary16, rounded to nearest even (R168). -/
def fToHalf (a : F32) : Nat :=
  match fdec a with
  | .nan => 0x7E00
  | .inf n => b2n n * 0x8000 + 0x7C00
  | .fin n v e =>
    if v = 0 then b2n n * 0x8000
    else
      let q : Int := max ((Nat.log2 v : Int) + e - 10) (-24)
      let m :=
        if q ≤ e then v * 2 ^ (e - q).toNat
        else
          let sh := (q - e).toNat
          let h := v / 2 ^ sh
          let r := v % 2 ^ sh
          let half := 2 ^ (sh - 1)
          if r > half ∨ (r = half ∧ h % 2 = 1) then h + 1 else h
      let mq : Nat × Int := if m = 2048 then (1024, q + 1) else (m, q)
      if mq.1 < 1024 then b2n n * 0x8000 + mq.1
      else if mq.2 + 25 ≥ 31 then b2n n * 0x8000 + 0x7C00
      else b2n n * 0x8000 + (mq.2 + 25).toNat * 1024 + (mq.1 - 1024)

/-- A binary16 value as binary32. -/
def fOfHalf (v : Nat) : F32 :=
  let n := nbit v 15
  let ef := v / 1024 % 32
  let fr := v % 1024
  if ef = 31 then (if fr = 0 then fInf n else fNan)
  else if ef = 0 then fround n fr (-24) false
  else fround n (fr + 1024) ((ef : Int) - 25) false

end Sys2Proof.Machine
end

