-- ==== Sys2Proof/Config.lean ====
section
/-!
DEFINITION. Sys2Proof/Config.lean: what one device fixes, and the free values.
The factory data of a device, and the values the spec leaves open: constants with no body.
-/
namespace Sys2Proof.Config

/-! ## Free values: the spec leaves them open, so nothing here gives them a body. -/

/-- An open bit, one per index (the index is advanced by State.freeCtr). Log 3. -/
opaque freeBit : Nat → Bool
/-- An open 32-bit value, one per index. Log 3. -/
opaque freeWord : Nat → BitVec 32
/-- An open natural number, one per index. Log 3. -/
opaque freeNat : Nat → Nat
/-- Steps that the tagging register makes at a draw, by k, and what its value gives of the range of distances (R498). Log 55. -/
opaque tagSteps : Nat → Nat
opaque tagDist : Nat → Nat

/-! ## Factory data of a device (OTP and marking; the spec gives the fields, each device its values). Log 4. -/

/-- Device serial number, 64 bits (R396). -/
opaque serial : BitVec 64
/-- Silicon revision, as IDENTIFY reports it (R396). -/
opaque siliconRev : BitVec 8
/-- Bits [11:1] of IDCODE, as the boundary-scan description file of the device states them (R574). -/
opaque scanId : BitVec 11
/-- OTP coefficients of the oscillator compensation pass their check (R259). -/
opaque otpValid : Bool
/-- OTP coefficients of the oscillator and reference correction, indexed (R258). -/
opaque otpCoeff : Nat → Int
/-- Hashes of the firmware signing keys in OTP, by key number (R520). -/
opaque otpKeyHash : Nat → BitVec 256
/-- Signing keys revoked in OTP, by key number (R521). -/
opaque keyRevoked : Nat → Bool

end Sys2Proof.Config
end

