-- ==== Sys2Proof/Machine/Events.lean ====
section
/-!
DEFINITION. Sys2Proof/Machine/Events.lean: the event catalogue: codes and fault classes (spec 18 R550, R551, and the
event table of each chapter named there).
-/
namespace Sys2Proof.Machine.Ev

abbrev STATE_CHANGE : Nat := 0x0001
abbrev MODE_CHANGE : Nat := 0x0002
abbrev CONDITION_CLEARED : Nat := 0x0003
abbrev TB_LOCK : Nat := 0x1001
abbrev TB_HOLDOVER : Nat := 0x1002
abbrev TB_FREE : Nat := 0x1003
abbrev TB_ROTATION : Nat := 0x1004
abbrev CYCLE_STEP : Nat := 0x1005
abbrev GATE_MISS_SAFETY : Nat := 0x1010
abbrev GATE_MISS_MEASURE : Nat := 0x1011
abbrev GATE_MISS_ESTIMATE : Nat := 0x1012
abbrev GATE_MISS_PUBLISH : Nat := 0x1013
abbrev GATE_MISS_HOUSEKEEP : Nat := 0x1014
abbrev ESTIMATE_OVERRUN : Nat := 0x1015
abbrev PUBLISH_OVERRUN : Nat := 0x1016
abbrev PISTE_SWAP : Nat := 0x1020
abbrev PISTE_REJECT : Nat := 0x1021
abbrev RING_BREAK : Nat := 0x2001
abbrev RING_CLOSED : Nat := 0x2002
abbrev RING_NODE_TIMEOUT : Nat := 0x2003
abbrev RING_SEG_ERR : Nat := 0x2004
abbrev RING_FRAME_ERR : Nat := 0x2005
abbrev RING_ECHO : Nat := 0x2006
abbrev RING_SEQ : Nat := 0x2007
abbrev RING_JOIN : Nat := 0x2008
abbrev RING_JOIN_REFUSED : Nat := 0x2009
abbrev RING_LEAVE : Nat := 0x200A
abbrev RING_UNREACHABLE : Nat := 0x200B
abbrev RING_LOAD : Nat := 0x200C
abbrev RING_SU_LINKLOSS : Nat := 0x200D
abbrev CELL_STALE : Nat := 0x3001
abbrev STRING_DATA_LOST : Nat := 0x3002
abbrev SCREEN_TRIP : Nat := 0x3003
abbrev SCREEN_LANE : Nat := 0x3004
abbrev SCREEN_SELFTEST : Nat := 0x3005
abbrev SCREEN_OVF : Nat := 0x3006
abbrev SCREEN_CFG : Nat := 0x3007
abbrev ACQ_LATE : Nat := 0x3008
abbrev BAL_NO_CURRENT : Nat := 0x3009
abbrev BAL_STUCK : Nat := 0x300A
abbrev DIRECT_RANGE : Nat := 0x300B
abbrev FOC_TRIP : Nat := 0x300C
abbrev FOC_TEST : Nat := 0x300D
abbrev TABLE_STALE : Nat := 0x4001
abbrev TABLE_INVALID : Nat := 0x4002
abbrev Z_UNEXCITED : Nat := 0x4003
abbrev Z_EXCITED : Nat := 0x4004
abbrev INNOV_GATE : Nat := 0x4005
abbrev AUDIT_MISMATCH : Nat := 0x4006
abbrev ENGINE_LANE : Nat := 0x4007
abbrev ENGINE_FAULT : Nat := 0x4008
abbrev SOC_UNANCHORED : Nat := 0x4009
abbrev QUIET_REQUEST : Nat := 0x400A
abbrev QUIET_DONE : Nat := 0x400B
abbrev QUIET_ABORT : Nat := 0x400C
abbrev ESTIMATOR_DISAGREE : Nat := 0x4020
abbrev FULL_CHARGE : Nat := 0x4021
abbrev CAP_LEARN_START : Nat := 0x4022
abbrev CAP_LEARN_ABORT : Nat := 0x4023
abbrev CAP_LEARNED : Nat := 0x4024
abbrev CAP_HELD : Nat := 0x4025
abbrev SOH_LOW : Nat := 0x4026
abbrev CELL_RESTORE : Nat := 0x4027
abbrev SCHUSS_STEP : Nat := 0x5001
abbrev SCHUSS_REARM : Nat := 0x5002
abbrev SCHUSS_OVERRUN : Nat := 0x5003
abbrev LIMIT_REDUCER : Nat := 0x5004
abbrev PCS_SILENT : Nat := 0x5005
abbrev PCS_BACK : Nat := 0x5006
abbrev PCS_BUS_DEGRADED : Nat := 0x5007
abbrev PCS_EXCEED : Nat := 0x5008
abbrev PCS_OVERLIMIT : Nat := 0x5009
abbrev PCS_LAG : Nat := 0x500A
abbrev PCS_NO_INJECT : Nat := 0x500B
abbrev PCS_FB_MISMATCH : Nat := 0x500C
abbrev CELL_OVERTEMP : Nat := 0x6001
abbrev THERMAL_STEP : Nat := 0x6002
abbrev THERMAL_RELAX : Nat := 0x6003
abbrev TEMP_SENSOR_FAIL : Nat := 0x6004
abbrev TEMP_SENSOR_OK : Nat := 0x6005
abbrev THERMAL_BLIND : Nat := 0x6006
abbrev THERMAL_STALL : Nat := 0x6007
abbrev LOCAL_WARM : Nat := 0x6008
abbrev LOCAL_HOT : Nat := 0x6009
abbrev NODE_HOT : Nat := 0x600A
abbrev DIE_HOT : Nat := 0x600B
abbrev DIE_LIMIT : Nat := 0x600C
abbrev DIE_OVERTEMP : Nat := 0x600D
abbrev DIE_SENSOR : Nat := 0x600E
abbrev COMP_OTP : Nat := 0x600F
abbrev STRING_CLOSED : Nat := 0x7001
abbrev STRING_OPENED : Nat := 0x7002
abbrev PRECHARGE_FAIL : Nat := 0x7003
abbrev PRECHARGE_BUDGET : Nat := 0x7004
abbrev JOIN_TIMEOUT : Nat := 0x7005
abbrev CONTACTOR_FB : Nat := 0x7006
abbrev CONTACTOR_DROP : Nat := 0x7007
abbrev COIL_FAULT : Nat := 0x7008
abbrev WELD_SUSPECT : Nat := 0x7009
abbrev WELD_BOTH : Nat := 0x700A
abbrev BREAK_UNDER_LOAD : Nat := 0x700B
abbrev SU_CMD_FAIL : Nat := 0x700C
abbrev STRING_LOCKOUT : Nat := 0x700D
abbrev STRING_UNLOCK : Nat := 0x700E
abbrev CONTACTOR_WEAR : Nat := 0x700F
abbrev BUS_FB : Nat := 0x7010
abbrev BUS_DROP : Nat := 0x7011
abbrev BUS_WELD : Nat := 0x7012
abbrev DISCONNECT_CMD : Nat := 0x7013
abbrev SLC_EXCEED : Nat := 0x8001
abbrev SDR_VIOLATION : Nat := 0x8002
abbrev SSW_LIMIT : Nat := 0x8003
abbrev SSW_VIOLATION : Nat := 0x8004
abbrev CURRENT_CHECK : Nat := 0x8005
abbrev SIN_TRIP_F3 : Nat := 0x8006
abbrev SIN_TRIP_F4 : Nat := 0x8007
abbrev SIN_TRIP_F5 : Nat := 0x8008
abbrev SIN_BLOCK : Nat := 0x8009
abbrev SIN_DISCREPANCY : Nat := 0x800A
abbrev SIN_TEST : Nat := 0x800B
abbrev SIN_CROSS : Nat := 0x800C
abbrev SIN_RELEASE : Nat := 0x800D
abbrev SEO_STUCK : Nat := 0x800E
abbrev SEO_DROP : Nat := 0x800F
abbrev SEO_TEST_INT : Nat := 0x8010
abbrev P0_WATCHDOG : Nat := 0x8011
abbrev SAFE_RESET : Nat := 0x8012
abbrev CLAIM_LAPSED : Nat := 0x8013
abbrev LOCKSTEP_MISMATCH : Nat := 0x9001
abbrev CORE_TRANSIENT : Nat := 0x9002
abbrev CORE_FENCED : Nat := 0x9003
abbrev COMPARE_PATH_SUSPECT : Nat := 0x9004
abbrev COMPARATOR_RETIRED : Nat := 0x9005
abbrev RETRY_CLEAN : Nat := 0x9006
abbrev PAIR_LOST : Nat := 0x9007
abbrev PAIR_LOST_P3 : Nat := 0x9008
abbrev PAIR_LOST_P0 : Nat := 0x9009
abbrev LEGACY_MISMATCH : Nat := 0x900A
abbrev PAIR_RESTART : Nat := 0x900B
abbrev LOCKSTEP_BROKEN : Nat := 0x900C
abbrev LOCKSTEP_RESTORED : Nat := 0x900D
abbrev ECC_CORRECTED : Nat := 0x900E
abbrev ECC_UNCORR : Nat := 0x900F
abbrev CORE_SHORTAGE : Nat := 0x9010
abbrev P0_DATA_ERROR : Nat := 0x9011
abbrev SESSION_OPEN : Nat := 0xA001
abbrev SESSION_CLOSED : Nat := 0xA002
abbrev SESSION_EXPIRED : Nat := 0xA003
abbrev SESSION_DROPPED : Nat := 0xA004
abbrev AUTH_FAIL : Nat := 0xA005
abbrev REPLAY : Nat := 0xA006
abbrev CMD_TIMEOUT : Nat := 0xA007
abbrev CONFIG_COMMIT : Nat := 0xA008
abbrev CONFIG_ABORT : Nat := 0xA009
abbrev NOTICE_LOST : Nat := 0xA00A
abbrev CLUSTER_JOIN : Nat := 0xB001
abbrev CLUSTER_LEAVE : Nat := 0xB002
abbrev CLUSTER_HEAD : Nat := 0xB003
abbrev CLUSTER_DUP_INDEX : Nat := 0xB004
abbrev CLUSTER_STRANGER : Nat := 0xB005
abbrev CLUSTER_CFG : Nat := 0xB006
abbrev CLUSTER_NO_QUORUM : Nat := 0xB007
abbrev CLUSTER_PORT_DOWN : Nat := 0xB008
abbrev CLUSTER_PORT_UP : Nat := 0xB009
abbrev CLUSTER_REDUCE_MISS : Nat := 0xB00A
abbrev CLUSTER_VRANGE : Nat := 0xB00B
abbrev CLUSTER_PATH : Nat := 0xB00C
abbrev CLUSTER_DROP : Nat := 0xB00D
abbrev CLUSTER_FRAME_ERR : Nat := 0xB00E
abbrev CAN_PASSIVE : Nat := 0xC001
abbrev CAN_BUSOFF : Nat := 0xC002
abbrev CAN_RECOVERED : Nat := 0xC003
abbrev CAN_ID_CLASH : Nat := 0xC004
abbrev CAN_RX_LOST : Nat := 0xC005
abbrev CAN_FLT_REJECT : Nat := 0xC006
abbrev CAN_RESTRICTED : Nat := 0xC007
abbrev CAN_RAM_ECC : Nat := 0xC008
abbrev CAN_TDC_SAT : Nat := 0xC009
abbrev LOG_SUPPRESSED : Nat := 0xD001
abbrev LOG_CLOSED : Nat := 0xD002
abbrev LOG_RESUME : Nat := 0xD003
abbrev DUMP_SKIP : Nat := 0xD004
abbrev BOOT : Nat := 0xE001
abbrev POWER_FAIL : Nat := 0xE002
abbrev FW_BANK_INVALID : Nat := 0xE003
abbrev FW_ROLLBACK : Nat := 0xE004
abbrev FW_CONFIRMED : Nat := 0xE005
abbrev CONFIG_RESTORED : Nat := 0xE006
abbrev CONFIG_DEFAULTS : Nat := 0xE007
abbrev CONFIG_UNKNOWN_ID : Nat := 0xE008
abbrev RETAINED_TORN : Nat := 0xE009
abbrev RETAINED_ECC : Nat := 0xE00A
abbrev HIB_ABORT : Nat := 0xE00B
abbrev BOOT_RECOVERY : Nat := 0xE00C

/-- The fault class of an event code (R544: F0 to F5); a code outside the catalogue has class 0. -/
def cls (code : Nat) : Nat :=
  if [GATE_MISS_SAFETY, WELD_BOTH, SIN_TRIP_F5, P0_WATCHDOG, PAIR_LOST_P0, LEGACY_MISMATCH, CORE_SHORTAGE,
      P0_DATA_ERROR].contains code then 5
    else if [RING_SU_LINKLOSS, SCREEN_TRIP, SCREEN_OVF, FOC_TRIP, CELL_OVERTEMP, CONTACTOR_DROP, COIL_FAULT,
      SU_CMD_FAIL, BUS_DROP, SLC_EXCEED, SDR_VIOLATION, SIN_TRIP_F4, SEO_STUCK, SEO_DROP, PAIR_LOST_P3].contains
      code then 4
    else if [STRING_DATA_LOST, SCREEN_LANE, SCREEN_SELFTEST, FOC_TEST, TABLE_INVALID, ENGINE_FAULT, SCHUSS_OVERRUN,
      PCS_OVERLIMIT, DIE_OVERTEMP, SSW_VIOLATION, CURRENT_CHECK, SIN_TRIP_F3, PAIR_LOST].contains code then 3
    else if [ESTIMATE_OVERRUN, PUBLISH_OVERRUN, CELL_STALE, BAL_STUCK, LIMIT_REDUCER, THERMAL_STALL,
      LOCAL_HOT].contains code then 2
    else if [TB_HOLDOVER, TB_FREE, TB_ROTATION, GATE_MISS_MEASURE, GATE_MISS_ESTIMATE, GATE_MISS_PUBLISH,
      PISTE_REJECT, RING_BREAK, RING_NODE_TIMEOUT, RING_SEG_ERR, RING_ECHO, RING_SEQ, RING_JOIN_REFUSED,
      RING_LEAVE, RING_UNREACHABLE, RING_LOAD, SCREEN_CFG, BAL_NO_CURRENT, DIRECT_RANGE, Z_UNEXCITED, INNOV_GATE,
      AUDIT_MISMATCH, ENGINE_LANE, SOC_UNANCHORED, QUIET_REQUEST, QUIET_ABORT, ESTIMATOR_DISAGREE, CAP_HELD,
      SOH_LOW, CELL_RESTORE, PCS_SILENT, PCS_BUS_DEGRADED, PCS_EXCEED, PCS_LAG, PCS_NO_INJECT, PCS_FB_MISMATCH,
      TEMP_SENSOR_FAIL, THERMAL_BLIND, LOCAL_WARM, NODE_HOT, DIE_HOT, DIE_LIMIT, DIE_SENSOR, COMP_OTP,
      PRECHARGE_FAIL, JOIN_TIMEOUT, CONTACTOR_FB, WELD_SUSPECT, BREAK_UNDER_LOAD, STRING_LOCKOUT, CONTACTOR_WEAR,
      BUS_FB, BUS_WELD, SSW_LIMIT, SIN_BLOCK, SIN_DISCREPANCY, SIN_TEST, SIN_CROSS, CLAIM_LAPSED, CORE_FENCED,
      COMPARE_PATH_SUSPECT, COMPARATOR_RETIRED, RETRY_CLEAN, PAIR_RESTART, LOCKSTEP_BROKEN, ECC_UNCORR,
      SESSION_EXPIRED, SESSION_DROPPED, AUTH_FAIL, REPLAY, CMD_TIMEOUT, NOTICE_LOST, CLUSTER_LEAVE,
      CLUSTER_DUP_INDEX, CLUSTER_STRANGER, CLUSTER_CFG, CLUSTER_NO_QUORUM, CLUSTER_PORT_DOWN, CLUSTER_REDUCE_MISS,
      CLUSTER_VRANGE, CLUSTER_PATH, CLUSTER_DROP, CAN_PASSIVE, CAN_BUSOFF, CAN_ID_CLASH, CAN_RX_LOST,
      CAN_FLT_REJECT, CAN_RESTRICTED, CAN_RAM_ECC, CAN_TDC_SAT, LOG_SUPPRESSED, POWER_FAIL, FW_BANK_INVALID,
      FW_ROLLBACK, CONFIG_DEFAULTS, RETAINED_TORN, RETAINED_ECC, HIB_ABORT, BOOT_RECOVERY].contains code then 1
  else 0

end Sys2Proof.Machine.Ev
end

