-- ==== Sys2Proof/Machine/Params.lean ====
section
/-!
DEFINITION. Sys2Proof/Machine/Params.lean: the parameter catalogue
(spec R50, R110, R147, R182, R206, R233, R261, R294, R328, R361, R390, R452, R483, R509, R541) and when values apply (R385).
-/
namespace Sys2Proof.Machine.Params

/-- When a committed value takes effect (spec 00_scope, "Takes effect"; R385). -/
inductive Takes where
  | immediate | nextSnapshot | nextCycle | atCommit
  deriving DecidableEq, Repr

/-- How a parameter's 32-bit word is read when its range is judged (R398). -/
inductive PKind where
  | unsigned | signed | float
  deriving DecidableEq, Repr

/-- One row of a parameter table: `count` parameters from `first` on. `also` is a value allowed outside the range,
`mult` the multiple it must be, `standby` marks "in STANDBY only", `safety` a SAFETY parameter. -/
structure ParamRow where
  first   : Nat
  count   : Nat
  kind    : PKind
  lo      : Int
  hi      : Int
  dflt    : Nat
  takes   : Takes
  safety  : Bool := false
  standby : Bool := false
  also    : Option Nat := none
  mult    : Nat := 1
  deriving DecidableEq, Repr

open Takes PKind

/-- R50, the timebase parameters. -/
def rowsTimebase : List ParamRow := [
  ⟨0x1001, 1, unsigned, 0, 2, 0, nextCycle, false, false, none, 1⟩,
  ⟨0x1002, 1, unsigned, 0, 1, 0, nextCycle, false, false, none, 1⟩,
  ⟨0x1003, 1, unsigned, 0, 1, 0, nextCycle, false, false, none, 1⟩,
  ⟨0x1004, 1, signed, -180000, 179999, 0, nextCycle, false, false, none, 1⟩,
  ⟨0x1005, 1, unsigned, 100, 800, 600, nextCycle, false, false, none, 1⟩,
  ⟨0x1006, 1, unsigned, 10, 90, 30, nextCycle, false, false, none, 1⟩,
  ⟨0x1007, 1, unsigned, 5, 80, 20, nextCycle, false, false, none, 1⟩,
  ⟨0x1008, 1, unsigned, 500, 10000, 2000, nextCycle, false, false, none, 1⟩,
  ⟨0x1009, 1, unsigned, 1000, 10000, 5000, nextCycle, false, false, none, 1⟩,
  ⟨0x100A, 1, unsigned, 1, 10, 10, nextCycle, false, false, none, 1⟩]

/-- R110, the ring parameters. -/
def rowsRing : List ParamRow := [
  ⟨0x2001, 1, unsigned, 0, 0xFFFFFFFF, 0xFFFFFFFF, nextCycle, false, false, none, 1⟩,
  ⟨0x2002, 1, unsigned, 0, 2, 2, immediate, false, false, none, 1⟩,
  ⟨0x2003, 1, unsigned, 500, 5000, 1000, nextCycle, false, false, none, 1⟩,
  ⟨0x2004, 1, unsigned, 1, 16, 3, immediate, false, false, none, 1⟩,
  ⟨0x2005, 1, unsigned, 1, 60, 1, immediate, false, false, none, 1⟩,
  ⟨0x2006, 1, unsigned, 0, 2, 0, immediate, false, false, none, 1⟩]

/-- R147, the acquisition parameters. -/
def rowsAcq : List ParamRow := [
  ⟨0x3001, 1, unsigned, 0, 1, 0, nextCycle, false, false, none, 1⟩,
  ⟨0x3002, 1, unsigned, 10000, 50000, 36500, atCommit, true, false, none, 1⟩,
  ⟨0x3003, 1, unsigned, 5000, 40000, 25000, atCommit, true, false, none, 1⟩,
  ⟨0x3004, 1, unsigned, 0, 1, 1, nextCycle, false, false, none, 1⟩,
  ⟨0x3005, 1, unsigned, 10, 2000, 100, nextCycle, false, false, none, 1⟩,
  ⟨0x3006, 1, unsigned, 1, 16, 8, nextCycle, false, false, none, 1⟩,
  ⟨0x3007, 1, unsigned, 1, 16, 3, immediate, false, false, none, 1⟩,
  ⟨0x3008, 1, unsigned, 10, 400, 50, atCommit, true, false, none, 1⟩,
  ⟨0x3100, 16, unsigned, 0, 1000000, 0, nextCycle, false, false, none, 1⟩,
  ⟨0x3110, 16, unsigned, 0, 65535, 0, atCommit, true, false, none, 1⟩,
  ⟨0x3120, 16, unsigned, 0, 65535, 0, atCommit, true, false, none, 1⟩,
  ⟨0x3130, 16, unsigned, 0, 255, 0, atCommit, true, false, none, 1⟩,
  ⟨0x3140, 8, unsigned, 0, 10000000, 0, nextCycle, false, false, none, 1⟩,
  ⟨0x3150, 16, unsigned, 0, 10000, 3435, nextCycle, false, false, none, 1⟩,
  ⟨0x3160, 16, unsigned, 1000, 100000, 10000, nextCycle, false, false, none, 1⟩]

/-- R182, the estimator parameters. The f32 bounds of `est.q_noise` are 0 and the pattern of 1e-6, its default the
pattern of 2.8e-9. -/
def rowsEst : List ParamRow := [
  ⟨0x4001, 1, unsigned, 100, 10000, 1000, nextSnapshot, false, false, none, 1⟩,
  ⟨0x4002, 1, float, 0, 0x358637BD, 0x31406A1F, nextSnapshot, false, false, none, 1⟩,
  ⟨0x4003, 1, unsigned, 1000, 60000, 25000, nextSnapshot, false, false, none, 1⟩,
  ⟨0x4004, 1, unsigned, 100, 20000, 2000, nextSnapshot, false, false, none, 1⟩,
  ⟨0x4005, 1, unsigned, 0, 10, 6, nextSnapshot, false, false, none, 1⟩,
  ⟨0x4006, 1, unsigned, 10, 100, 50, nextSnapshot, false, false, none, 1⟩,
  ⟨0x4007, 1, unsigned, 10, 3600, 60, nextCycle, false, false, none, 1⟩,
  ⟨0x4008, 1, unsigned, 0, 1, 0, nextCycle, false, false, none, 1⟩,
  ⟨0x4009, 1, unsigned, 500, 20000, 3000, nextCycle, false, false, none, 1⟩,
  ⟨0x400A, 1, unsigned, 1, 5, 2, nextCycle, false, false, none, 1⟩,
  ⟨0x400B, 1, unsigned, 5, 50, 20, nextCycle, false, false, none, 1⟩,
  ⟨0x400C, 1, unsigned, 10, 2000, 300, nextCycle, false, false, none, 1⟩,
  ⟨0x400D, 1, unsigned, 0, 2000, 500, nextCycle, false, false, none, 1⟩,
  ⟨0x400E, 1, unsigned, 500, 20000, 2000, nextCycle, false, false, none, 1⟩,
  ⟨0x400F, 1, unsigned, 0, 1, 0, nextCycle, false, false, none, 1⟩,
  ⟨0x4010, 1, unsigned, 1, 168, 12, nextCycle, false, false, none, 1⟩,
  ⟨0x4011, 1, unsigned, 100, 2000, 500, nextSnapshot, false, false, none, 1⟩,
  ⟨0x4012, 1, unsigned, 0, 2000, 100, nextSnapshot, false, false, none, 1⟩,
  ⟨0x4100, 128, unsigned, 0, 7, 0, atCommit, false, false, none, 1⟩]

/-- R206, the charge and health parameters. -/
def rowsChg : List ParamRow := [
  ⟨0x4200, 1, unsigned, 100, 2000, 500, nextCycle, false, false, none, 1⟩,
  ⟨0x4201, 1, unsigned, 0, 1, 1, nextCycle, false, false, none, 1⟩,
  ⟨0x4202, 1, unsigned, 100, 2000, 500, nextCycle, false, false, none, 1⟩,
  ⟨0x4203, 1, unsigned, 5000, 9500, 8000, nextCycle, false, false, none, 1⟩,
  ⟨0x4204, 1, unsigned, 0, 500, 150, nextCycle, false, false, none, 1⟩,
  ⟨0x4205, 1, unsigned, 110, 500, 200, nextCycle, false, false, none, 1⟩,
  ⟨0x4300, 128, unsigned, 3600, 36000000, 1008000, atCommit, false, false, none, 1⟩]

/-- R233, the limit and PCS parameters. -/
def rowsLim : List ParamRow := [
  ⟨0x5001, 1, unsigned, 10000, 50000, 36000, nextCycle, false, false, none, 1⟩,
  ⟨0x5002, 1, unsigned, 5000, 40000, 28000, nextCycle, false, false, none, 1⟩,
  ⟨0x5003, 1, unsigned, 1, 5000, 280, nextCycle, false, false, none, 1⟩,
  ⟨0x5004, 1, unsigned, 1, 10000, 400, nextCycle, false, false, none, 1⟩,
  ⟨0x5005, 1, unsigned, 0, 100, 50, nextCycle, false, false, none, 1⟩,
  ⟨0x5006, 1, unsigned, 0, 1, 1, nextCycle, false, false, none, 1⟩,
  ⟨0x5007, 1, unsigned, 10, 600, 50, nextCycle, false, false, none, 1⟩,
  ⟨0x5008, 1, unsigned, 10, 600, 100, nextCycle, false, false, none, 1⟩,
  ⟨0x5009, 1, unsigned, 10, 3600, 60, nextCycle, false, false, none, 1⟩,
  ⟨0x500A, 1, unsigned, 0, 4000000000, 0, nextCycle, false, false, none, 1⟩,
  ⟨0x500B, 1, unsigned, 10, 80, 50, nextCycle, false, false, none, 1⟩,
  ⟨0x500C, 1, unsigned, 1, 600, 30, nextCycle, false, false, none, 1⟩,
  ⟨0x500D, 1, unsigned, 1, 20, 5, nextCycle, false, false, none, 1⟩,
  ⟨0x500E, 1, unsigned, 100, 60000, 5000, nextCycle, false, false, none, 1⟩,
  ⟨0x500F, 1, unsigned, 60, 14400, 1200, nextCycle, false, false, none, 1⟩,
  ⟨0x5010, 1, unsigned, 101, 120, 105, nextCycle, false, false, none, 1⟩,
  ⟨0x5011, 1, unsigned, 3, 8, 3, nextCycle, false, false, none, 1⟩,
  ⟨0x5012, 1, unsigned, 200, 5000, 200, nextCycle, false, false, none, 1⟩,
  ⟨0x5013, 1, unsigned, 2, 50, 3, nextCycle, false, false, none, 1⟩,
  ⟨0x5080, 1, unsigned, 0, 2, 0, atCommit, false, false, none, 1⟩,
  ⟨0x5081, 1, unsigned, 0, 7, 0, atCommit, false, false, none, 1⟩,
  ⟨0x5082, 1, unsigned, 0, 7, 1, atCommit, false, false, some 0xFF, 1⟩,
  ⟨0x5083, 1, unsigned, 0, 0x1FFFFFF0, 0x180, atCommit, false, false, none, 0x10⟩,
  ⟨0x5084, 1, unsigned, 0, 1, 0, atCommit, false, false, none, 1⟩,
  ⟨0x5085, 1, unsigned, 100, 1000, 300, nextCycle, false, false, none, 1⟩,
  ⟨0x5086, 1, unsigned, 100, 5000, 1000, nextCycle, false, false, none, 1⟩,
  ⟨0x5087, 1, unsigned, 20, 1000, 100, nextCycle, false, false, none, 1⟩,
  ⟨0x5088, 1, unsigned, 0, 1000, 10, nextCycle, false, false, none, 1⟩,
  ⟨0x5089, 1, unsigned, 0, 1000, 200, nextCycle, false, false, none, 1⟩,
  ⟨0x508A, 1, unsigned, 2, 100, 10, nextCycle, false, false, none, 1⟩]

/-- A temperature of d hundredths of a degree, in 1/64 K units, as a 32-bit word (R261, R6). -/
def temp (d : Int) : Nat := (d * 64 / 100 % 4294967296).toNat

/-- R261, the thermal parameters; temperatures and differences at 1/64 K/LSB. R244 gives the step defaults. -/
def rowsThermal : List ParamRow := [
  ⟨0x6001, 1, signed, 2560, 5760, temp 6000, atCommit, true, false, none, 1⟩,
  ⟨0x6002, 1, unsigned, 32, 640, 128, nextCycle, false, false, none, 1⟩,
  ⟨0x6003, 1, unsigned, 1000, 60000, 5000, nextCycle, false, false, none, 1⟩,
  ⟨0x6004, 1, unsigned, 64, 1280, 320, nextCycle, false, false, none, 1⟩,
  ⟨0x6005, 1, unsigned, 60, 3600, 600, nextCycle, false, false, none, 1⟩,
  ⟨0x6006, 1, unsigned, 0, 100, 50, nextCycle, false, false, none, 1⟩,
  ⟨0x6007, 1, signed, -3840, -1280, temp (-4500), nextCycle, false, false, none, 1⟩,
  ⟨0x6008, 1, unsigned, 128, 1920, 640, nextCycle, false, false, none, 1⟩,
  ⟨0x6009, 1, unsigned, 320, 2560, 960, nextCycle, false, false, none, 1⟩,
  ⟨0x600A, 1, unsigned, 2, 32, 8, nextCycle, false, false, none, 1⟩,
  ⟨0x600B, 1, signed, 3840, 8000, temp 10000, nextCycle, false, false, none, 1⟩,
  ⟨0x6010, 1, signed, 1280, 5760, temp 4500, nextCycle, false, false, some 0x7FFF, 1⟩,
  ⟨0x6011, 1, signed, 1280, 5760, temp 5000, nextCycle, false, false, some 0x7FFF, 1⟩,
  ⟨0x6012, 1, signed, 1280, 5760, temp 5500, nextCycle, false, false, some 0x7FFF, 1⟩,
  ⟨0x6013, 1, signed, 1280, 5760, temp 5700, nextCycle, false, false, some 0x7FFF, 1⟩,
  ⟨0x6014, 1, unsigned, 0, 100, 80, nextCycle, false, false, none, 1⟩,
  ⟨0x6015, 1, unsigned, 0, 100, 60, nextCycle, false, false, none, 1⟩,
  ⟨0x6016, 1, unsigned, 0, 100, 30, nextCycle, false, false, none, 1⟩,
  ⟨0x6017, 1, unsigned, 0, 100, 10, nextCycle, false, false, none, 1⟩,
  ⟨0x6018, 1, unsigned, 0, 100, 70, nextCycle, false, false, none, 1⟩,
  ⟨0x6019, 1, unsigned, 0, 100, 40, nextCycle, false, false, none, 1⟩,
  ⟨0x601A, 1, unsigned, 0, 100, 0, nextCycle, false, false, none, 1⟩,
  ⟨0x601B, 1, unsigned, 0, 100, 0, nextCycle, false, false, none, 1⟩,
  ⟨0x6020, 1, signed, -2560, 1920, temp 1000, nextCycle, false, false, some 0xFFFF8000, 1⟩,
  ⟨0x6021, 1, signed, -2560, 1920, temp 500, nextCycle, false, false, some 0xFFFF8000, 1⟩,
  ⟨0x6022, 1, signed, -2560, 1920, temp 0, nextCycle, false, false, some 0xFFFF8000, 1⟩,
  ⟨0x6023, 1, signed, -2560, 1920, temp (-1000), nextCycle, false, false, some 0xFFFF8000, 1⟩,
  ⟨0x6024, 1, unsigned, 0, 100, 100, nextCycle, false, false, none, 1⟩,
  ⟨0x6025, 1, unsigned, 0, 100, 100, nextCycle, false, false, none, 1⟩,
  ⟨0x6026, 1, unsigned, 0, 100, 80, nextCycle, false, false, none, 1⟩,
  ⟨0x6027, 1, unsigned, 0, 100, 50, nextCycle, false, false, none, 1⟩,
  ⟨0x6028, 1, unsigned, 0, 100, 50, nextCycle, false, false, none, 1⟩,
  ⟨0x6029, 1, unsigned, 0, 100, 20, nextCycle, false, false, none, 1⟩,
  ⟨0x602A, 1, unsigned, 0, 100, 0, nextCycle, false, false, none, 1⟩,
  ⟨0x602B, 1, unsigned, 0, 100, 0, nextCycle, false, false, none, 1⟩,
  ⟨0x6040, 16, signed, -2560, 8000, 0x7FFF, nextCycle, false, false, some 0x7FFF, 1⟩,
  ⟨0x6050, 16, unsigned, 0, 1, 0, nextCycle, false, false, none, 1⟩]

/-- R294, the string parameters; R295 as rows with a default per index (`string.s.seo` is s divided by 16). -/
def rowsString : List ParamRow := [
  ⟨0x7001, 1, unsigned, 20, 5000, 200, nextCycle, false, false, none, 1⟩,
  ⟨0x7002, 1, unsigned, 1, 10000, 500, nextCycle, false, false, none, 1⟩,
  ⟨0x7003, 1, unsigned, 100, 1000000, 5000, nextCycle, false, false, none, 1⟩,
  ⟨0x7004, 1, unsigned, 10, 3600, 300, nextCycle, false, false, none, 1⟩,
  ⟨0x7005, 1, unsigned, 10, 1000, 150, nextCycle, false, false, none, 1⟩,
  ⟨0x7006, 1, unsigned, 1, 5000, 100, nextCycle, false, false, none, 1⟩,
  ⟨0x7007, 1, unsigned, 0, 1000000, 5000, nextCycle, false, false, none, 1⟩,
  ⟨0x7008, 1, unsigned, 1, 3600, 60, nextCycle, false, false, none, 1⟩,
  ⟨0x7009, 1, unsigned, 20, 500, 60, nextCycle, false, false, none, 1⟩,
  ⟨0x700A, 1, unsigned, 1, 5000, 50, nextCycle, false, false, none, 1⟩,
  ⟨0x700B, 1, unsigned, 50, 4600, 500, atCommit, true, false, none, 1⟩,
  ⟨0x700C, 1, unsigned, 10, 200, 20, nextCycle, false, false, none, 1⟩,
  ⟨0x700D, 1, unsigned, 0, 1, 1, nextCycle, false, false, none, 1⟩,
  ⟨0x700E, 1, unsigned, 50, 1000, 300, nextCycle, false, false, none, 1⟩,
  ⟨0x700F, 1, unsigned, 1, 10, 3, nextCycle, false, false, none, 1⟩,
  ⟨0x7010, 1, unsigned, 1000, 10000000, 100000, nextCycle, false, false, none, 1⟩,
  ⟨0x7011, 1, unsigned, 1, 10000, 20, nextCycle, false, false, none, 1⟩,
  ⟨0x7100, 128, unsigned, 0, 15, 0, atCommit, false, true, none, 1⟩,
  ⟨0x7180, 16, unsigned, 0, 7, 0, atCommit, true, true, none, 1⟩,
  ⟨0x7190, 16, unsigned, 0, 7, 1, atCommit, true, true, none, 1⟩,
  ⟨0x71A0, 16, unsigned, 0, 7, 2, atCommit, true, true, none, 1⟩,
  ⟨0x71B0, 16, unsigned, 0, 7, 3, atCommit, true, true, none, 1⟩,
  ⟨0x71C0, 16, unsigned, 0, 7, 4, atCommit, true, true, none, 1⟩,
  ⟨0x71D0, 16, unsigned, 0, 7, 5, atCommit, true, true, none, 1⟩,
  ⟨0x71E0, 16, unsigned, 0, 7, 6, atCommit, true, true, none, 1⟩,
  ⟨0x71F0, 16, unsigned, 0, 7, 7, atCommit, true, true, none, 1⟩,
  ⟨0x7200, 128, unsigned, 0, 1, 0, nextCycle, false, false, none, 1⟩,
  ⟨0x7300, 16, unsigned, 0, 2, 0, atCommit, false, true, none, 1⟩,
  ⟨0x7310, 16, unsigned, 0, 7, 0, atCommit, true, true, none, 1⟩,
  ⟨0x7320, 16, unsigned, 0, 15, 0, atCommit, false, true, none, 1⟩,
  ⟨0x7400, 128, unsigned, 10000, 50000, 0, atCommit, true, false, some 0, 1⟩,
  ⟨0x7480, 128, unsigned, 5000, 40000, 0, atCommit, true, false, some 0, 1⟩]

/-- R328, the safety parameters: R328 marks every one of them SAFETY. -/
def rowsSafety : List ParamRow := [
  ⟨0x8001, 1, unsigned, 0, 1, 1, atCommit, true, false, none, 1⟩,
  ⟨0x8002, 1, unsigned, 1, 3600, 60, atCommit, true, false, none, 1⟩,
  ⟨0x8003, 1, unsigned, 100, 1000, 500, atCommit, true, false, none, 1⟩,
  ⟨0x8004, 1, unsigned, 100, 10000, 1000, atCommit, true, false, none, 1⟩,
  ⟨0x8005, 1, unsigned, 100, 500, 200, atCommit, true, false, none, 1⟩,
  ⟨0x8006, 1, unsigned, 1, 12000, 450, atCommit, true, false, none, 1⟩,
  ⟨0x8007, 1, unsigned, 1, 500, 5, atCommit, true, false, none, 1⟩,
  ⟨0x8008, 1, unsigned, 100, 5000, 500, atCommit, true, false, none, 1⟩,
  ⟨0x8009, 1, unsigned, 10000, 50000, 36200, atCommit, true, false, none, 1⟩,
  ⟨0x800A, 1, unsigned, 5000, 40000, 26000, atCommit, true, false, none, 1⟩,
  ⟨0x800B, 1, unsigned, 10, 500, 50, atCommit, true, false, none, 1⟩,
  ⟨0x800C, 1, unsigned, 1, 600, 30, atCommit, true, false, none, 1⟩,
  ⟨0x800D, 1, unsigned, 0, 15, 0xFF, atCommit, true, false, some 0xFF, 1⟩,
  ⟨0x8100, 16, unsigned, 0, 5, 0, atCommit, true, false, none, 1⟩,
  ⟨0x8110, 16, unsigned, 0, 1, 0, atCommit, true, false, none, 1⟩,
  ⟨0x8120, 16, unsigned, 0, 1, 1, atCommit, true, false, none, 1⟩,
  ⟨0x8130, 16, unsigned, 0, 4, 0, atCommit, true, false, none, 1⟩,
  ⟨0x8140, 16, unsigned, 0, 4, 0, atCommit, true, false, none, 1⟩,
  ⟨0x8150, 16, unsigned, 100, 1000, 250, atCommit, true, false, none, 50⟩,
  ⟨0x8160, 16, unsigned, 10, 2000, 100, atCommit, true, false, none, 1⟩,
  ⟨0x8170, 16, unsigned, 0, 255, 0, atCommit, true, false, none, 1⟩,
  ⟨0x8200, 128, unsigned, 0, 2, 0, atCommit, true, false, none, 1⟩]

/-- R361 (execution), R390 (host), R452 (cluster), R509 (counters), R541 (power) parameters. -/
def rowsSystem : List ParamRow := [
  ⟨0x9001, 1, unsigned, 0, 1, 0, atCommit, true, true, none, 1⟩,
  ⟨0x9002, 1, unsigned, 60, 86400, 3600, nextCycle, false, false, none, 1⟩,
  ⟨0x9003, 1, unsigned, 16, 3600, 64, nextCycle, false, false, none, 1⟩,
  ⟨0x9004, 1, unsigned, 1, 600, 10, nextCycle, false, false, none, 1⟩,
  ⟨0x9010, 4, unsigned, 0, 1, 0, immediate, false, false, none, 1⟩,
  ⟨0xA001, 1, unsigned, 0, 1, 1, atCommit, false, false, none, 1⟩,
  ⟨0xA002, 1, unsigned, 0, 1, 0, atCommit, false, false, none, 1⟩,
  ⟨0xA003, 1, unsigned, 100, 5000, 1000, immediate, false, false, none, 1⟩,
  ⟨0xA004, 1, unsigned, 10, 3600, 60, immediate, false, false, none, 1⟩,
  ⟨0xB001, 1, unsigned, 0, 1, 0, atCommit, false, true, none, 1⟩,
  ⟨0xB002, 1, unsigned, 0, 255, 0, atCommit, false, true, none, 1⟩,
  ⟨0xB003, 1, unsigned, 0, 63, 0, atCommit, false, true, none, 1⟩,
  ⟨0xB004, 1, unsigned, 0, 0xFFFFFFFF, 1, atCommit, false, false, none, 1⟩,
  ⟨0xB005, 1, unsigned, 0, 0xFFFFFFFF, 0, atCommit, false, false, none, 1⟩,
  ⟨0xB006, 1, unsigned, 0, 1, 1, nextCycle, false, false, none, 1⟩,
  ⟨0xB007, 1, unsigned, 0, 1, 0, atCommit, false, true, none, 1⟩,
  ⟨0xB008, 1, unsigned, 0, 1, 0, nextCycle, false, false, none, 1⟩,
  ⟨0xD001, 1, unsigned, 0, 1, 0, atCommit, false, false, none, 1⟩,
  ⟨0xD002, 1, unsigned, 0, 1, 0, nextCycle, false, false, none, 1⟩,
  ⟨0xD003, 1, unsigned, 0, 65535, 50, nextCycle, false, false, none, 1⟩,
  ⟨0xD004, 1, unsigned, 0, 2047, 0, nextCycle, false, false, none, 1⟩,
  ⟨0xD005, 1, unsigned, 1, 504, 504, nextCycle, false, false, none, 1⟩,
  ⟨0xD006, 1, unsigned, 0, 1, 0, nextCycle, false, false, none, 1⟩,
  ⟨0xD007, 1, unsigned, 0, 3, 1, nextCycle, false, false, none, 1⟩,
  ⟨0xD008, 1, unsigned, 8, 20, 14, nextCycle, false, false, none, 1⟩,
  ⟨0xD020, 16, unsigned, 0, 0xFF, 0xFF, nextCycle, false, false, none, 1⟩,
  ⟨0xD030, 16, unsigned, 1, 65535, 1000, nextCycle, false, false, none, 1⟩,
  ⟨0xD100, 2048, unsigned, 0, 0xFFFF, 0, nextCycle, false, false, none, 1⟩,
  ⟨0xE001, 1, unsigned, 1, 600, 10, nextCycle, false, false, none, 1⟩,
  ⟨0xE002, 1, unsigned, 60, 3600, 300, immediate, false, false, none, 1⟩,
  ⟨0xE003, 1, unsigned, 0, 15, 0, atCommit, false, false, none, 1⟩,
  ⟨0xE004, 1, unsigned, 0, 65535, 0, atCommit, false, false, none, 1⟩]

/-- R483, the parameters of CAN controller n, at 0xC000 + n × 0x100; enabled by default for n = 0 and 1. -/
def rowsCan (n : Nat) : List ParamRow :=
  let b := 0xC000 + n * 0x100
  [⟨b, 1, unsigned, 0, 1, if n < 2 then 1 else 0, atCommit, false, false, none, 1⟩,
   ⟨b + 1, 1, unsigned, 0, 2, 2, atCommit, false, false, none, 1⟩,
   ⟨b + 2, 1, unsigned, 0, 0xFFFFFFFF, 0x0027CF9F, atCommit, false, false, none, 1⟩,
   ⟨b + 3, 1, unsigned, 0, 0xFFFFFFFF, 0x04F32000, atCommit, false, false, none, 1⟩,
   ⟨b + 4, 1, unsigned, 0, 0xFFFFFFFF, 0x80300010, atCommit, false, false, none, 1⟩,
   ⟨b + 5, 1, unsigned, 0, 1, 0, atCommit, false, false, none, 1⟩,
   ⟨b + 6, 1, unsigned, 0, 1, 0, atCommit, false, false, none, 1⟩,
   ⟨b + 7, 1, unsigned, 0, 1, 0, atCommit, false, false, none, 1⟩,
   ⟨b + 8, 1, unsigned, 0, 1, 0, atCommit, false, false, none, 1⟩,
   ⟨b + 0x10, 16, unsigned, 0, 0xFFFFFFFF, 0, atCommit, false, false, none, 1⟩,
   ⟨b + 0x20, 16, unsigned, 0, 0xFFFFFFFF, 0, atCommit, false, false, none, 1⟩]

/-- The parameter catalogue of a subsystem, selected by the high nibble of the ID (00_scope; R363). -/
def rowsOf (id : Nat) : List ParamRow :=
  if id / 0x1000 = 1 then rowsTimebase
  else if id / 0x1000 = 2 then rowsRing
  else if id / 0x1000 = 3 then rowsAcq
  else if id / 0x1000 = 4 then rowsEst ++ rowsChg
  else if id / 0x1000 = 5 then rowsLim
  else if id / 0x1000 = 6 then rowsThermal
  else if id / 0x1000 = 7 then rowsString
  else if id / 0x1000 = 8 then rowsSafety
  else if id / 0x1000 = 12 ∧ id < 0xC800 then rowsCan (id / 0x100 % 16)
  else rowsSystem

/-- The row that names a parameter ID, if the catalogue has one. -/
def paramRow (id : Nat) : Option ParamRow :=
  (rowsOf id).find? fun r => decide (r.first ≤ id ∧ id < r.first + r.count)

/-- A parameter's default value, 0 where no parameter has the ID. -/
def paramDefault (id : Nat) : Nat :=
  match paramRow id with
  | some r => r.dflt
  | none => 0

/-- The value of a 32-bit word read as two's complement. -/
def toS32 (v : Nat) : Int := if v % 4294967296 < 2147483648 then (v % 4294967296 : Nat) else (v % 4294967296 : Nat) - (4294967296 : Int)

/-- A value lies in its parameter's Range column (R384 pass 3). -/
def ParamRow.admits (r : ParamRow) (v : Nat) : Bool :=
  r.also == some v ||
  ((match r.kind with
    | .signed => decide (r.lo ≤ toS32 v ∧ toS32 v ≤ r.hi)
    | .unsigned => decide (r.lo ≤ v ∧ (v : Int) ≤ r.hi)
    | .float => decide (v = 0x80000000 ∨ (r.lo ≤ v ∧ (v : Int) ≤ r.hi))) && decide (v % r.mult = 0))

end Sys2Proof.Machine.Params
end

