-- ==== Sys2Proof/Machine/Regs.lean ====
section
/-!
DEFINITION. Sys2Proof/Machine/Regs.lean: the register map: address, reset value, access masks and writing pairs of every
register (spec R52, R65 tables of chapter 02; R109; R146; R181; R260; R327; R359; HP registers of chapter 12; R451; R482;
R501; R540; access codes of R4).
-/
namespace Sys2Proof.Machine

/-- A run of `count` registers from address `first`, `stride` bytes apart. `rw`, `w1c` and `w1s` are the bits of each access
code (R4); `rc` marks a register cleared by a read; `owners` has bit p for each pair p whose writes are taken. -/
structure RegRow where
  first  : Nat
  count  : Nat
  stride : Nat
  reset  : Nat
  rw     : Nat
  w1c    : Nat
  w1s    : Nat
  rc     : Bool
  owners : Nat
  deriving DecidableEq, Repr

/-- Read-only registers. -/
def roRow (a n st rst own : Nat) : RegRow := ⟨a, n, st, rst, 0, 0, 0, false, own⟩
/-- Read-clear registers. -/
def rcRow (a n st own : Nat) : RegRow := ⟨a, n, st, 0, 0, 0, 0, true, own⟩
/-- Registers with bits written as given, and bits cleared or set by writing 1. -/
def rwRow (a n st rst rw w1c w1s own : Nat) : RegRow := ⟨a, n, st, rst, rw, w1c, w1s, false, own⟩

/-- R52 and the piste registers of chapter 02. The spec names no owner, so any pair's write is taken. -/
def regsTimebase : List RegRow := [
  rwRow 0x40010000 1 4 0 0xF 0 0 0xF,
  rwRow 0x40010004 1 4 1 0 0x1C0 0 0xF,
  roRow 0x40010008 9 4 0 0xF,
  rwRow 0x40010040 1 4 0 0xFFFF0000 0 2 0xF,
  rwRow 0x40010044 1 4 0 0 7 0 0xF,
  roRow 0x40010048 1 4 0 0xF,
  roRow 0x40010060 8 4 0 0xF,
  rwRow 0x40011000 2048 4 0 0xFFFFFFFF 0 0 0xF]

/-- R109: the registers of ring n. -/
def regsRing : List RegRow := [
  rwRow 0x40020000 32 0x100 0 1 0 2 0xF,
  rwRow 0x40020004 32 0x100 0 0 0x38 0 0xF,
  roRow 0x40020008 32 0x100 0 0xF,
  roRow 0x4002000C 32 0x100 0 0xF,
  roRow 0x40020010 32 0x100 0 0xF,
  rcRow 0x40020014 32 0x100 0xF,
  rcRow 0x40020018 32 0x100 0xF,
  rcRow 0x4002001C 32 0x100 0xF]

/-- R146: the acquisition registers. P0 alone writes the screen and fast-overcurrent registers (R136). -/
def regsAcq : List RegRow := [
  rwRow 0x40030000 1 4 0 0 0x3F 0 0xF,
  roRow 0x40030004 1 4 0 0xF,
  roRow 0x40030008 1 4 0 1,
  roRow 0x40030010 4 4 0 1,
  roRow 0x40030020 4 4 0 1,
  rwRow 0x40030030 1 4 0 0 0xFFFFFFFF 0 1,
  roRow 0x40030034 1 4 0 1,
  roRow 0x40030100 32 4 0 0xF,
  roRow 0x40030200 40 4 0 0xF,
  rwRow 0x40031000 128 4 0x0000FFFF 0xFFFFFFFF 0 0 1,
  rwRow 0x40031200 128 4 0xFFFF0000 0xFFFFFFFF 0 0 1,
  roRow 0x40031400 128 4 0x0000FFFF 1,
  rwRow 0x40130000 8128 8 0 0xFF9FFFFF 0 0 0xF,
  rwRow 0x40130004 8128 8 0 0xFFFF7FFF 0 0 0xF]

/-- R181: the engine registers, written by P1. -/
def regsEst : List RegRow := [
  rwRow 0x40040000 1 4 0 1 0 2 2,
  rwRow 0x40040004 1 4 0 0 0x3E 0 2,
  roRow 0x40040008 5 4 0 2,
  rwRow 0x4004001C 1 4 0 0xFFFFFFFF 0 0 2,
  roRow 0x40040020 1 4 0 2,
  rwRow 0x40040024 1 4 0x14 0x3F 0 0 2,
  roRow 0x40040028 1 4 0 2,
  roRow 0x40040030 4 4 0 2,
  roRow 0x40040040 4 4 0 2,
  roRow 0x40040050 4 4 0 2,
  rwRow 0x40040060 4 4 0 0xFFFFFFFF 0 0 2,
  rwRow 0x40041000 256 8 0 0xFFFFF000 0 0 2,
  rwRow 0x40041004 256 8 0 0xFFFFFFFF 0 0 2,
  rwRow 0x40041800 128 8 0 0xFFFFFFFF 0 0 2,
  rwRow 0x40041804 128 8 0 0x80000007 0 0 2]

/-- R260: the thermal monitor registers, written by P3. -/
def regsThm : List RegRow := [
  rwRow 0x40060000 1 4 0 0 0x60 0 8,
  roRow 0x40060004 1 4 0 8,
  rcRow 0x40060008 1 4 8,
  roRow 0x4006000C 2 4 0 8,
  roRow 0x40060020 8 4 0 8]

/-- R327: the safety registers, written by P0. -/
def regsSaf : List RegRow := [
  rwRow 0x40080000 1 4 1 0 0xF00 0 1,
  rwRow 0x40080004 1 4 0 0 0 1 1,
  rwRow 0x40080008 1 4 0 0xFF 0 0 1,
  roRow 0x4008000C 5 4 0 1,
  roRow 0x40080020 5 4 0 1,
  rwRow 0x40080040 1 4 0x03E800C8 0xFFFFFFFF 0 0 1,
  rwRow 0x40080044 1 4 0x003C01F4 0xFFFFFFFF 0 0 1,
  rwRow 0x40080100 16 8 0 0xFFFFFF00 0 0 1,
  rwRow 0x40080104 16 8 0 0x00000FFF 0 0 1]

/-- R359: the execution registers, written by P0; pair n writes its own EXE_HBn. -/
def regsExe : List RegRow := [
  rwRow 0x40090000 1 4 0 4 0 0xA 1,
  rwRow 0x40090004 1 4 0 0 0xE 0 1,
  roRow 0x40090008 1 4 8 1,
  roRow 0x4009000C 1 4 0 1,
  roRow 0x40090010 1 4 0x00000100 1,
  roRow 0x40090014 1 4 0x00002320 1,
  roRow 0x40090018 1 4 0x00004540 1,
  roRow 0x4009001C 1 4 0x00006760 1,
  roRow 0x40090020 1 4 0 1,
  rcRow 0x40090030 4 4 1,
  rwRow 0x40090044 1 4 0 0xFFFFFFFF 0 0 2,
  rwRow 0x40090048 1 4 0 0xFFFFFFFF 0 0 4,
  rwRow 0x4009004C 1 4 0 0xFFFFFFFF 0 0 8,
  roRow 0x40090050 1 4 0 1,
  rwRow 0x40090054 1 4 0 0xF 0 0 1,
  roRow 0x40090060 1 4 0xF000 1,
  rcRow 0x40090070 1 4 1,
  roRow 0x40090074 1 4 0 1]

/-- R451: the cluster registers, written by P3. -/
def regsCl : List RegRow := [
  rwRow 0x400B0000 1 4 0 3 0 0 8,
  rwRow 0x400B0004 1 4 0 0 0xF 0 8,
  roRow 0x400B0008 5 4 0 8,
  rcRow 0x400B0020 3 4 8]

/-- R482: the registers of the eight CAN controllers, CAN_TSC and CAN_WAKE, written by P3. -/
def regsCan : List RegRow := [
  rwRow 0x400C0000 8 0x1000 0x80 0xFC 0 2 8,
  roRow 0x400C0004 8 0x1000 0 8,
  rwRow 0x400C0008 8 0x1000 0 0xFFFFFFFF 0 0 8,
  rwRow 0x400C000C 8 0x1000 0 0xFFFFE000 0 0 8,
  rwRow 0x400C0010 8 0x1000 0 0x803F007F 0 0 8,
  roRow 0x400C0014 8 0x1000 0 8,
  rwRow 0x400C0018 8 0x1000 0 0 0xFFFF 0 8,
  rwRow 0x400C001C 8 0x1000 0 0xFFFF 0 0 8,
  rwRow 0x400C0020 8 0x1000 0 0xFFFF0000 0 2 8,
  rwRow 0x400C0024 8 0x1000 0 0xF80001FF 0 0 8,
  rwRow 0x400C0028 8 0x1000 0 0 0xC 0 8,
  roRow 0x400C0030 8 0x1000 0 8,
  roRow 0x400C0034 8 0x1000 0 8,
  rcRow 0x400C0038 8 0x1000 8,
  roRow 0x400C0040 8 0x1000 0 8,
  roRow 0x400C0044 8 0x1000 0 8,
  rcRow 0x400C0048 8 0x1000 8,
  roRow 0x400C0050 8 0x1000 0 8,
  roRow 0x400C0054 8 0x1000 0 8,
  roRow 0x400C0058 8 0x1000 0 8,
  rwRow 0x400C0060 8 0x1000 0 0x1F 0 0 8,
  rwRow 0x400C0064 8 0x1000 0 0x1F 0 0 8,
  rwRow 0x400C0068 8 0x1000 0 0x1F 0 0 8,
  roRow 0x400C006C 8 0x1000 0 8,
  roRow 0x400C0070 8 0x1000 0 8,
  roRow 0x400C0074 8 0x1000 0 8,
  roRow 0x400C0078 8 0x1000 0 8,
  roRow 0x400C007C 8 0x1000 0 8,
  roRow 0x400C0080 8 0x1000 0 8,
  roRow 0x400C0084 8 0x1000 0 8,
  roRow 0x400C0088 8 0x1000 0 8,
  rwRow 0x400C0090 8 0x1000 0 0 0 0xFFFFFFFF 8,
  rwRow 0x400C0094 8 0x1000 0 0 0 0xFFFFFFFF 8,
  rwRow 0x400C0098 8 0x1000 0 0 0xFFFFFFFF 0 8,
  rwRow 0x400C009C 8 0x1000 0 0 0xFFFFFFFF 0 8,
  rwRow 0x400C00A0 8 0x1000 0 0 0xFFFFFFFF 0 8,
  rwRow 0x400C00A4 8 0x1000 0 0 0xFFFFFFFF 0 8,
  roRow 0x400C8000 1 4 0 8,
  rwRow 0x400C8004 1 4 0 1 2 0 8]

/-- R501: the counter block registers, written by P2. CNTn and VITn pairs are the halves of their banks. -/
def regsCnt : List RegRow := [
  rwRow 0x400D0000 1 4 0 1 0 2 4,
  rwRow 0x400D0004 1 4 0 0 2 0 4,
  roRow 0x400D0008 2 4 0 4,
  rwRow 0x400D0010 1 4 0x32 0xFFFF 0 0 4,
  rwRow 0x400D0014 1 4 0x1F8 0x07FF01FF 0 0 4,
  roRow 0x400D0018 1 4 0 4,
  rwRow 0x400D001C 1 4 0x10E 0x8000031F 0 0 4,
  roRow 0x400D0020 1 4 0 4,
  rwRow 0x400D0100 64 4 0 0 0xFFFFFFFF 0 4,
  rwRow 0x400D0200 16 16 0 0x80FFFFFF 0 0 4,
  roRow 0x400D0204 16 16 0 4,
  rcRow 0x400D0208 16 16 4,
  roRow 0x400D020C 16 16 0 4,
  rwRow 0x400D4000 2048 4 0 0xFFFF 0 0 4,
  rwRow 0x400D8000 4096 4 0 0xFFFFFFFF 0 0 4,
  roRow 0x400DC000 4096 4 0 4]

/-- R540: the power and retained-store registers, written by P2. -/
def regsPwr : List RegRow := [
  roRow 0x400E0000 1 4 0 4,
  rwRow 0x400E0004 1 4 0 0 0 3 4,
  rwRow 0x400E0008 1 4 0 0xF 0 0 4,
  rwRow 0x400E000C 1 4 0 0xFFFFFFFF 0 0 4,
  rwRow 0x400E0010 1 4 0 0xF03FF 0 0 4,
  rwRow 0x400E0020 1 4 0 0 0x1A 0 4,
  roRow 0x400E0024 1 4 0 4,
  rwRow 0x400E0028 1 4 0 0xFFFFFFFF 0 0 4,
  roRow 0x400E002C 2 4 0 4,
  rwRow 0x400E0040 8 16 0 0xFFFFFFFF 0 0 4,
  rwRow 0x400E0044 8 16 0 0xFFFFFFFF 0 0 4,
  rwRow 0x400E0048 8 16 0 0xFFFFFFFF 0 0 4]

/-- Window registers of R387; the model keeps window offset w at 0x50000000 + w (Log 7). The host writes them. -/
def regsHp : List RegRow := [
  roRow 0x50000000 1 4 0x96400102 0,
  roRow 0x50000004 1 4 0 0,
  rwRow 0x50000008 1 4 0 0 0x1F 0 0,
  rwRow 0x5000000C 1 4 0 0x1F 0 0 0,
  rwRow 0x50000010 1 4 0 0xFFFF 0 0 0,
  roRow 0x50000014 1 4 0 0,
  roRow 0x50000018 1 4 0 0,
  rwRow 0x5000001C 1 4 0 0xFFFF 0 0 0,
  rcRow 0x50000020 1 4 0]

/-- The register rows of the block an address lies in. -/
def regRowsAt (a : Nat) : List RegRow :=
  if a < 0x40020000 then regsTimebase
  else if a < 0x40030000 then regsRing
  else if a < 0x40040000 then regsAcq
  else if a < 0x40060000 then regsEst
  else if a < 0x40080000 then regsThm
  else if a < 0x40090000 then regsSaf
  else if a < 0x400B0000 then regsExe
  else if a < 0x400C0000 then regsCl
  else if a < 0x400D0000 then regsCan
  else if a < 0x400E0000 then regsCnt
  else if a < 0x40130000 then regsPwr
  else if a < 0x50000000 then regsAcq
  else regsHp

/-- The row holds address `a`. -/
def RegRow.holds (r : RegRow) (a : Nat) : Bool :=
  decide (r.first ≤ a) && decide ((a - r.first) % r.stride = 0) && decide ((a - r.first) / r.stride < r.count)

/-- The row of a register address; none where the map has no register. -/
def regRow (a : Nat) : Option RegRow := (regRowsAt a).find? (fun r => r.holds a)

/-- Reset value of a register; 0 where the map has none (R5). -/
def regReset (a : Nat) : U32 :=
  match regRow a with
  | some r => w32 r.reset
  | none => 0

/-! ## Addresses by name -/

abbrev TB_CTRL : Nat := 0x40010000
abbrev TB_STATUS : Nat := 0x40010004
abbrev TB_ANGLE : Nat := 0x40010008
abbrev TB_CYC_LAT_LO : Nat := 0x4001000C
abbrev TB_CYC_LAT_HI : Nat := 0x40010010
abbrev TB_FREQ : Nat := 0x40010014
abbrev TB_PERR : Nat := 0x40010018
abbrev TB_AMPL : Nat := 0x4001001C
abbrev TB_TSC_CAP : Nat := 0x40010020
abbrev TB_TSC_PER : Nat := 0x40010024
abbrev TB_LOCAL_CYC : Nat := 0x40010028
abbrev PISTE_CTRL : Nat := 0x40010040
abbrev PISTE_STATUS : Nat := 0x40010044
abbrev PISTE_DONE : Nat := 0x40010048
abbrev PISTE_OPEN : Nat := 0x40010060
abbrev PISTE_BANK : Nat := 0x40011000
abbrev RING_BASE : Nat := 0x40020000
abbrev ACQ_STATUS : Nat := 0x40030000
abbrev ACQ_HIST_HEAD : Nat := 0x40030004
abbrev ACQ_SCR_APPLY : Nat := 0x40030008
abbrev ACQ_SCR_EN : Nat := 0x40030010
abbrev ACQ_SCR_EVT : Nat := 0x40030020
abbrev ACQ_FOC_STATUS : Nat := 0x40030030
abbrev ACQ_FOC_TEST : Nat := 0x40030034
abbrev ACQ_HIST_SLOT : Nat := 0x40030100
abbrev ACQ_DIR_NOW : Nat := 0x40030200
abbrev ACQ_SCR_A : Nat := 0x40031000
abbrev ACQ_SCR_B : Nat := 0x40031200
abbrev ACQ_SCR_ACT : Nat := 0x40031400
abbrev ACQ_UMAP : Nat := 0x40130000
abbrev EST_CTRL : Nat := 0x40040000
abbrev EST_STATUS : Nat := 0x40040004
abbrev EST_GO : Nat := 0x40040008
abbrev EST_LAST_SNAP : Nat := 0x4004000C
abbrev EST_LAST_LSNAP : Nat := 0x40040010
abbrev EST_PASS_CLK : Nat := 0x40040014
abbrev EST_AUDIT_CNT : Nat := 0x40040018
abbrev EST_LANE_FENCE : Nat := 0x4004001C
abbrev EST_LANE_TEST : Nat := 0x40040020
abbrev EST_CUR_SHARE : Nat := 0x40040024
abbrev EST_CUR_JOB : Nat := 0x40040028
abbrev EST_WT_SEL : Nat := 0x40040030
abbrev EST_SWAP_PEND : Nat := 0x40040040
abbrev EST_FALLBACK : Nat := 0x40040050
abbrev EST_ANCHOR : Nat := 0x40040060
abbrev EST_WT_DESC : Nat := 0x40041000
abbrev EST_STRCFG : Nat := 0x40041800
abbrev THM_STATUS : Nat := 0x40060000
abbrev THM_DIE_MAX : Nat := 0x40060004
abbrev THM_DIE_PEAK : Nat := 0x40060008
abbrev THM_OSC_CORR : Nat := 0x4006000C
abbrev THM_REF_CORR : Nat := 0x40060010
abbrev THM_DIE : Nat := 0x40060020
abbrev SAF_STATUS : Nat := 0x40080000
abbrev SAF_CTRL : Nat := 0x40080004
abbrev SAF_SEO_REQ : Nat := 0x40080008
abbrev SAF_SEO_STATE : Nat := 0x4008000C
abbrev SAF_SEO_HOLD : Nat := 0x40080010
abbrev SAF_SIN_LEVEL : Nat := 0x40080014
abbrev SAF_SIN_DEMAND : Nat := 0x40080018
abbrev SAF_SIN_LATCH : Nat := 0x4008001C
abbrev SAF_RESET : Nat := 0x40080020
abbrev SAF_RESTART : Nat := 0x40080024
abbrev SAF_WDOG : Nat := 0x40080028
abbrev SAF_FBK : Nat := 0x4008002C
abbrev SAF_TEST : Nat := 0x40080030
abbrev SAF_TPO_CFG : Nat := 0x40080040
abbrev SAF_SEO_TCFG : Nat := 0x40080044
abbrev SAF_SIN_CFG : Nat := 0x40080100
abbrev EXE_CTRL : Nat := 0x40090000
abbrev EXE_STATUS : Nat := 0x40090004
abbrev EXE_SPARE : Nat := 0x40090008
abbrev EXE_CORE : Nat := 0x4009000C
abbrev EXE_PAIR : Nat := 0x40090010
abbrev EXE_LANES : Nat := 0x40090020
abbrev EXE_MM_CNT : Nat := 0x40090030
abbrev EXE_HB : Nat := 0x40090040
abbrev EXE_RESTART : Nat := 0x40090050
abbrev EXE_FEED : Nat := 0x40090054
abbrev EXE_LAST_MM : Nat := 0x40090060
abbrev EXE_ECC_CE : Nat := 0x40090070
abbrev EXE_ECC_UE_ADDR : Nat := 0x40090074
abbrev CL_CTRL : Nat := 0x400B0000
abbrev CL_STATUS : Nat := 0x400B0004
abbrev CL_VIEW_LO : Nat := 0x400B0008
abbrev CL_VIEW_HI : Nat := 0x400B000C
abbrev CL_TS_LO : Nat := 0x400B0010
abbrev CL_TS_HI : Nat := 0x400B0014
abbrev CL_PATH_D : Nat := 0x400B0018
abbrev CL_FRM_ERR : Nat := 0x400B0020
abbrev CL_DROP : Nat := 0x400B0028
abbrev CAN_BASE : Nat := 0x400C0000
abbrev CAN_TSC : Nat := 0x400C8000
abbrev CAN_WAKE : Nat := 0x400C8004
abbrev CNT_CTRL : Nat := 0x400D0000
abbrev CNT_STATUS : Nat := 0x400D0004
abbrev CNT_VIT_CYC_LO : Nat := 0x400D0008
abbrev CNT_VIT_CYC_HI : Nat := 0x400D000C
abbrev CNT_DUMP_PER : Nat := 0x400D0010
abbrev CNT_DUMP_CFG : Nat := 0x400D0014
abbrev CNT_DUMP_SEQ : Nat := 0x400D0018
abbrev TAG_CTRL : Nat := 0x400D001C
abbrev TAG_SEQ : Nat := 0x400D0020
abbrev CNT_OVF : Nat := 0x400D0100
abbrev BW_CFG : Nat := 0x400D0200
abbrev CNT_SEL : Nat := 0x400D4000
abbrev CNT_VAL : Nat := 0x400D8000
abbrev CNT_VIT : Nat := 0x400DC000
abbrev PWR_BOOT : Nat := 0x400E0000
abbrev PWR_CTRL : Nat := 0x400E0004
abbrev PWR_WAKE_CFG : Nat := 0x400E0008
abbrev PWR_HIB_TIMER : Nat := 0x400E000C
abbrev PWR_CWAKE : Nat := 0x400E0010
abbrev RET_STATUS : Nat := 0x400E0020
abbrev RET_GO : Nat := 0x400E0024
abbrev RET_SNAP : Nat := 0x400E0028
abbrev RET_TSEQ : Nat := 0x400E002C
abbrev RET_DCRC : Nat := 0x400E0030
abbrev RET_SEG : Nat := 0x400E0040
abbrev HP_ID : Nat := 0x50000000
abbrev HP_STATUS : Nat := 0x50000004
abbrev HP_IRQ : Nat := 0x50000008
abbrev HP_IRQ_EN : Nat := 0x5000000C
abbrev HP_CMD_WP : Nat := 0x50000010
abbrev HP_CMD_RP : Nat := 0x50000014
abbrev HP_RPL_WP : Nat := 0x50000018
abbrev HP_RPL_RP : Nat := 0x5000001C
abbrev HP_CRC_ERR : Nat := 0x50000020

end Sys2Proof.Machine
end

