-- ==== Sys2Proof/Machine/Device.lean ====
section
/-!
DEFINITION. Sys2Proof/Machine/Device.lean: the device: all State but the queue of waiting commands.
-/
namespace Sys2Proof.Machine

/-- The device. Registers not listed in `regs` hold their reset value (Regs.lean); memory not listed reads 0. -/
structure Dev where
  /-- Device state. 01 R20; a device without power or in reset is OFF (17 R512). -/
  dev      : DevState := .off
  /-- Registers by address, where they differ from their reset values. 00 R4. -/
  regs     : Tbl U32 := []
  /-- Code MRAM, retained store, SRAM and CAN message RAM by byte address. 01 R17. -/
  mem      : List Host.Cell := []
  /-- Host window: command ring and reply ring by window offset. 12 R387. -/
  win      : List Host.Cell := []
  /-- Committed parameters, and parameters in force, where they differ from their defaults. 12 R384, R385. -/
  parCfg   : Tbl Nat := []
  parNow   : Tbl Nat := []
  tb       : Timebase := {}
  piste    : Piste := {}
  rings    : Tbl Ring := []
  acq      : Acq := {}
  est      : Est := {}
  chg      : Tbl ChgStr := []
  lim      : Lim := {}
  thm      : Thm := {}
  strs     : Tbl Str := []
  bus      : Tbl BusC := []
  saf      : Saf := {}
  exe      : Exe := {}
  host     : HostT := {}
  cl       : Cl := {}
  can      : Tbl Can := []
  cnt      : Cnt := {}
  log      : Log := {}
  pwr      : Pwr := {}
  /-- Events in force. 18 R545. -/
  inForce  : List InForce := []
  /-- Local time since reset, ms. 18 R557. -/
  uptimeMs : Nat := 0
  /-- Session whose command is running, 0xF none. 16 R503. -/
  actor    : Nat := 0xF
  /-- Index of the next free value (the model's own). -/
  freeCtr  : Nat := 0
  /-- The last bus transaction ended in a bus error. 01 R16. -/
  busErr   : Bool := false
  /-- The value the last register or counter read returned. 00 R4. -/
  readVal  : U32 := 0
  deriving DecidableEq, Repr

end Sys2Proof.Machine
end

