-- ==== Sys2Proof/Machine/Ops.lean ====
section
/-!
DEFINITION. Sys2Proof/Machine/Ops.lean: the shared operations over registers, memory, parameters, events and release
buffers (spec 00 R3 to R8, 01 R13 to R24, 16 R503 and R504, 18 R545 to R547).
-/
namespace Sys2Proof.Machine

/-! ## Registers -/

/-- A register's stored value. -/
def rd (s : Dev) (a : Nat) : U32 := Tbl.get (regReset a) s.regs a

/-- A hardware write of a whole register. -/
def wr (s : Dev) (a : Nat) (v : U32) : Dev := { s with regs := Tbl.set (regReset a) s.regs a v }

/-- A register as a number. -/
def rdN (s : Dev) (a : Nat) : Nat := (rd s a).toNat

/-- A field of a register. -/
def rdF (s : Dev) (a lo len : Nat) : Nat := fld (rd s a) lo len

/-- Write a field of a register. -/
def wrF (s : Dev) (a lo len v : Nat) : Dev := wr s a (putFld (rd s a) lo len v)

/-- A bit of a register. -/
def rdB (s : Dev) (a i : Nat) : Bool := bitOf (rd s a) i

/-- Write a bit of a register. -/
def wrB (s : Dev) (a i : Nat) (b : Bool) : Dev := wr s a (putBit (rd s a) i b)

/-- Write a natural number to a register, modulo 2^32. -/
def wrN (s : Dev) (a v : Nat) : Dev := wr s a (w32 v)

/-- Add to a counting register, saturating at 2^32 - 1. -/
def bumpReg (s : Dev) (a n : Nat) : Dev := wrN s a (min (rdN s a + n) 0xFFFFFFFF)

/-- The registers of ring n, of CAN controller n. -/
def ringReg (n off : Nat) : Nat := RING_BASE + n * 0x100 + off
def canReg (n off : Nat) : Nat := CAN_BASE + n * 0x1000 + off

/-! ## Memory: one byte space (R17); a list of bytes in canonical form -/

/-- The canonical form of memory: addresses rising, no listed zero byte. -/
abbrev Memory.wf (m : List Host.Cell) : Prop := Tbl.wf (0 : U8) m = true

/-- The byte at an address; an unlisted byte reads 0. Log 2. -/
def Memory.read (m : List Host.Cell) (a : Nat) : U8 := Tbl.get 0 m a

/-- Write one byte. -/
def Memory.write (m : List Host.Cell) (a : Nat) (v : U8) : List Host.Cell := Tbl.set 0 m a v

/-- The cells below an address, and from an address up. -/
def Memory.below (m : List Host.Cell) (a : Nat) : List Host.Cell := m.filter (fun c => decide (c.1 < a))
def Memory.above (m : List Host.Cell) (a : Nat) : List Host.Cell := m.filter (fun c => decide (a ≤ c.1))

/-- The listed cells of a run of bytes from `a` up. -/
def Memory.cells (a : Nat) : List U8 → List Host.Cell
  | [] => []
  | v :: t => if v = 0 then Memory.cells (a + 1) t else (a, v) :: Memory.cells (a + 1) t

/-- Write a run of bytes from an address up. -/
def Memory.writeBytes (m : List Host.Cell) (a : Nat) (l : List U8) : List Host.Cell :=
  Memory.below m a ++ Memory.cells a l ++ Memory.above m (a + l.length)

/-- Make `n` bytes from `a` zero. -/
def Memory.clear (m : List Host.Cell) (a n : Nat) : List Host.Cell := Memory.below m a ++ Memory.above m (a + n)

/-- Copy `n` bytes from `src` to `dst`, reading all before writing any. -/
def Memory.copy (m : List Host.Cell) (src dst n : Nat) : List Host.Cell :=
  Memory.below m dst ++ (Memory.below (Memory.above m src) (src + n)).map (fun c => (c.1 - src + dst, c.2)) ++ Memory.above m (dst + n)

/-- `n` bytes from `a` up. -/
def Memory.bytes (m : List Host.Cell) (a n : Nat) : List U8 := (List.range n).map (fun i => Memory.read m (a + i))

/-- Little-endian bytes of a number (R3). -/
def leBytes : Nat → Nat → List U8
  | 0, _ => []
  | n + 1, v => BitVec.ofNat 8 v :: leBytes n (v / 256)

/-- The number little-endian bytes spell (R3). -/
def leNat : List U8 → Nat
  | [] => 0
  | b :: t => b.toNat + 256 * leNat t

/-- Read an n-byte little-endian number. -/
def ldN (s : Dev) (a n : Nat) : Nat := leNat (Memory.bytes s.mem a n)
def ld8 (s : Dev) (a : Nat) : Nat := ldN s a 1
def ld16 (s : Dev) (a : Nat) : Nat := ldN s a 2
def ld32 (s : Dev) (a : Nat) : Nat := ldN s a 4
def ld64 (s : Dev) (a : Nat) : Nat := ldN s a 8
/-- A signed 16-bit, and a signed 64-bit, number in memory. -/
def lds16 (s : Dev) (a : Nat) : Int := toS16 (ld16 s a)
def lds64 (s : Dev) (a : Nat) : Int :=
  let v := ld64 s a
  if v < 2 ^ 63 then (v : Int) else (v : Int) - 2 ^ 64

/-- Write an n-byte little-endian number. -/
def stN (s : Dev) (a n v : Nat) : Dev := { s with mem := Memory.writeBytes s.mem a (leBytes n v) }
def st8 (s : Dev) (a v : Nat) : Dev := stN s a 1 v
def st16 (s : Dev) (a v : Nat) : Dev := stN s a 2 v
def st32 (s : Dev) (a v : Nat) : Dev := stN s a 4 v
def st64 (s : Dev) (a v : Nat) : Dev := stN s a 8 v
/-- Write bytes. -/
def stBytes (s : Dev) (a : Nat) (l : List U8) : Dev := { s with mem := Memory.writeBytes s.mem a l }
/-- Words of memory. -/
def ldWords (s : Dev) (a n : Nat) : List U32 := (List.range n).map (fun i => w32 (ld32 s (a + 4 * i)))
/-- Write words to memory. -/
def stWords (s : Dev) (a : Nat) (l : List U32) : Dev := stBytes s a (l.flatMap (fun w => leBytes 4 w.toNat))
/-- Zero a range of memory. -/
def clearMem (s : Dev) (a n : Nat) : Dev := { s with mem := Memory.clear s.mem a n }

/-- Words of a byte list, little-endian, the last padded with zero bytes. -/
def bytesToWords : List U8 → List U32
  | [] => []
  | a :: b :: c :: d :: t => w32 (leNat [a, b, c, d]) :: bytesToWords t
  | l => [w32 (leNat l)]
/-- Bytes of a word list, little-endian (R3). -/
def wordsToBytes (l : List U32) : List U8 := l.flatMap (fun w => leBytes 4 w.toNat)

/-! ## Parameters (R384, R385) -/

/-- The value of a parameter in force. -/
def par (s : Dev) (id : Nat) : Nat := Tbl.get (Params.paramDefault id) s.parNow id
/-- The committed value of a parameter. -/
def parC (s : Dev) (id : Nat) : Nat := Tbl.get (Params.paramDefault id) s.parCfg id
/-- A signed parameter in force. -/
def parI (s : Dev) (id : Nat) : Int := Params.toS32 (par s id)
/-- A parameter value in force as a flag. -/
def parB (s : Dev) (id : Nat) : Bool := par s id != 0

/-! ## Free values (Log 3) -/

/-- A fresh free bit. -/
def takeBit (s : Dev) : Bool × Dev := (Config.freeBit s.freeCtr, { s with freeCtr := s.freeCtr + 1 })
/-- A fresh free word. -/
def takeWord (s : Dev) : U32 × Dev := (Config.freeWord s.freeCtr, { s with freeCtr := s.freeCtr + 1 })
/-- A fresh free number below n (n at least 1). -/
def takeNat (s : Dev) (n : Nat) : Nat × Dev := (Config.freeNat s.freeCtr % n, { s with freeCtr := s.freeCtr + 1 })

/-! ## Time and the timebase -/

/-- TB_LOCAL_CYC (R52). -/
def localCyc (s : Dev) : Nat := rdN s TB_LOCAL_CYC
/-- Cycles from local cycle `a` to now, modulo 2^32. -/
def cycSince (s : Dev) (a : Nat) : Nat := (localCyc s + 0x100000000 - a % 0x100000000) % 0x100000000
/-- The snapshot ID: low 32 bits of the cycle count (R39). -/
def snapId (s : Dev) : Nat := s.tb.cyc % 0x100000000
/-- TB_STATUS.COHERENT, HOLDOVER (R44, R45). -/
def coherent (s : Dev) : Bool := rdB s TB_STATUS 1
/-- The timebase state in TB_STATUS.STATE (R42). -/
def tbState (s : Dev) : TbState :=
  match rdF s TB_STATUS 2 3 with
  | 1 => .acquiring
  | 2 => .locked
  | 3 => .holdover
  | _ => .free
/-- Nominal frequency in µHz (R50: 0 is 50 Hz, 1 is 60 Hz). -/
def fNom (s : Dev) : Nat := if rdB s TB_CTRL 2 then 60000000 else 50000000
/-- Device frequency in µHz: TB_FREQ, or nominal before any has been tracked (R46). -/
def freqNow (s : Dev) : Nat := let f := rdN s TB_FREQ; if f = 0 then fNom s else f

/-- The rate of the angle in force, µHz: the frequency run at with the deviation of R46 (R38, R113). -/
def rateNow (s : Dev) : Nat := ((freqNow s : Int) * (1000000 + s.tb.dev) / 1000000).toNat

/-! ## Pairs and release buffers (R13, R22) -/

/-- Pair p. -/
def getPair (s : Dev) (p : Nat) : Pair :=
  if p = 0 then s.exe.p0 else if p = 1 then s.exe.p1 else if p = 2 then s.exe.p2 else s.exe.p3
/-- Replace pair p. -/
def setPair (s : Dev) (p : Nat) (v : Pair) : Dev :=
  if p = 0 then { s with exe := { s.exe with p0 := v } }
  else if p = 1 then { s with exe := { s.exe with p1 := v } }
  else if p = 2 then { s with exe := { s.exe with p2 := v } }
  else { s with exe := { s.exe with p3 := v } }
/-- Pair p is formed and not lost. -/
def pairUp (s : Dev) (p : Nat) : Bool := (getPair s p).formed && !(getPair s p).lost

/-- An external effect enters the release buffer of pair p, tagged with the open window; behind 64 entries it waits with the stalled pair
(R22, R24). -/
def emit (s : Dev) (p : Nat) (e : Effect) : Dev :=
  if pairUp s p then
    let q := getPair s p
    setPair s p { q with rel := q.rel ++ [{ win := q.win, eff := e }] }
  else s

/-! ## Events (R503, R504, R545, R547) -/

/-- Post an event record: code, argument, the cycle count and angle now, from pair p (R503, R504). -/
def post (s : Dev) (p code arg : Nat) : Dev :=
  let q := Tbl.get [] s.log.posts p
  let r : Post := { code := code, arg := arg % 2 ^ 64, cyc := s.tb.cyc, angle := rdN s TB_ANGLE, sess := s.actor, pair := p }
  { s with log := { s.log with posts := Tbl.set [] s.log.posts p (q ++ [r]) } }

/-- Scope key of the whole device. Other scopes are string, ring, channel and so on, by number. -/
abbrev devScope : Nat := 0xFFFF

/-- The event is in force on the scope, with its condition persisting. -/
def inForceB (s : Dev) (code scope : Nat) : Bool :=
  s.inForce.any (fun e => e.code == code && e.scope == scope && !e.once)
/-- The event is in force on some scope. -/
def anyForce (s : Dev) (code : Nat) : Bool := s.inForce.any (fun e => e.code == code && !e.once)

/-- An event with a persisting condition: posted when its condition begins, and not again while the episode lasts on its
scope (R545, R547). F0 events are never in force. -/
def raise (s : Dev) (p code arg scope : Nat) : Dev :=
  if inForceB s code scope then s
  else
    let s := post s p code arg
    if Ev.cls code = 0 then s else { s with inForce := s.inForce ++ [{ code := code, scope := scope }] }

/-- An event without a persisting condition: posted, and in force for the cycle in which it is logged (R545). -/
def note (s : Dev) (p code arg : Nat) : Dev :=
  let s := post s p code arg
  if Ev.cls code = 0 then s else { s with inForce := s.inForce ++ [{ code := code, scope := devScope, once := true }] }

/-- End an event on a scope without a record (F4 and F5 events, R545). -/
def unforce (s : Dev) (code scope : Nat) : Dev :=
  { s with inForce := s.inForce.filter (fun e => !(e.code == code && e.scope == scope && !e.once)) }

/-- The condition of an event ends: EV_CONDITION_CLEARED for classes F1 to F3 (R545, R550). `str` is the string of the
record, 0x7F for device scope. -/
def clearCond (s : Dev) (p code scope str : Nat) : Dev :=
  if inForceB s code scope then
    let s := unforce s code scope
    if 1 ≤ Ev.cls code ∧ Ev.cls code ≤ 3 then post s p Ev.CONDITION_CLEARED (code + str * 0x10000) else s
  else s

/-- Raise or end an event as its condition holds or not. -/
def track (s : Dev) (cond : Bool) (p code arg scope str : Nat) : Dev :=
  if cond then raise s p code arg scope else clearCond s p code scope str

/-- FCLASS: the highest class in force, 0 when none is (R545). -/
def fclass (s : Dev) : Nat := s.inForce.foldl (fun m e => max m (Ev.cls e.code)) 0

/-- A mode change takes effect (R550): mode, new value, pair or controller. -/
def modeChange (s : Dev) (p mode value which : Nat) : Dev :=
  post s p Ev.MODE_CHANGE (mode + value * 0x100 + which * 0x10000)

/-! ## Counters (R486 to R488) -/

/-- Counter n's value, 48 bits. -/
def counterVal (s : Dev) (n : Nat) : Nat := rdN s (CNT_VAL + n * 8) + (rdN s (CNT_VAL + n * 8 + 4) % 0x10000) * 0x100000000
/-- Write counter n's value. -/
def setCounter (s : Dev) (n v : Nat) : Dev := wrN (wrN s (CNT_VAL + n * 8) (v % 0x100000000)) (CNT_VAL + n * 8 + 4) (v / 0x100000000 % 0x10000)
/-- Counter n's overflow flag. -/
def counterOvf (s : Dev) (n : Nat) : Bool := rdB s (CNT_OVF + n / 32 * 4) (n % 32)
/-- Add k to counter n; a wrap sets its overflow flag (R488). -/
def bumpCounter (s : Dev) (n k : Nat) : Dev :=
  let v := counterVal s n + k
  let s := setCounter s n (v % 2 ^ 48)
  if v < 2 ^ 48 then s else wrB s (CNT_OVF + n / 32 * 4) (n % 32) true
/-- The counters whose selector names a unit and an event. -/
def countersOf (s : Dev) (unit ev : Nat) : List Nat :=
  (s.regs.filter (fun e => decide (CNT_SEL ≤ e.1) && decide (e.1 < CNT_SEL + 0x2000) && e.2 == w32 (unit * 0x100 + ev))).map
    (fun e => (e.1 - CNT_SEL) / 4)
/-- An event of a unit counts k in every counter that selects it (R486, R487). -/
def countEv (s : Dev) (unit ev k : Nat) : Dev := (countersOf s unit ev).foldl (fun s n => bumpCounter s n k) s

/-- Bytes of a unit: its byte event in the counters, and in the monitors that watch it (R486, R487, R497). -/
def countBytes (s : Dev) (unit k : Nat) : Dev :=
  let s := countEv s unit 0x10 k
  let on := (List.range 16).filter (fun m => rdB s (BW_CFG + m * 16) 31 && rdF s (BW_CFG + m * 16) 16 8 == unit)
  { s with cnt := { s.cnt with bw := on.foldl (fun (t : Tbl Nat) m => Tbl.set 0 t m (Tbl.get 0 t m + k)) s.cnt.bw } }
/-- Restart monitor k: BW_LASTk and BW_WINk at 0, and a new window (R497). -/
def bwRestart (s : Dev) (k : Nat) : Dev :=
  wrN (wrN { s with cnt := { s.cnt with bw := Tbl.set 0 s.cnt.bw k 0 } } (BW_CFG + k * 16 + 4) 0) (BW_CFG + k * 16 + 12) 0

/-! ## Bus errors (R16) -/

/-- The transaction ends in a bus error and changes nothing else (R4, R16). -/
def busError (s : Dev) : Dev := { s with busErr := true }

/-- Unit code of a pair as a requester: 0x40 and its place in R16's order (R16, R487). -/
def reqUnit (p : Nat) : Nat := if p = 0 then 0x41 else if p = 1 then 0x43 else if p = 2 then 0x44 else 0x45
/-- A transaction of pair p ends in a bus error, which counts as one of its requester's (R16, R487). -/
def busErrorTo (s : Dev) (p : Nat) : Dev := countEv (busError s) (reqUnit p) 3 1

/-! ## The input log of a pair (R335) -/

/-- An input of pair p enters its log with the index of the instruction that consumes it. -/
def logInput (s : Dev) (p idx : Nat) (v : U32) : Dev :=
  let q := getPair s p
  setPair s p { q with inLog := (q.inLog ++ [(idx, v)]).take 1024 }
/-- The same where the row does not tell the instruction: its index is free (Log 120). -/
def logFree (s : Dev) (p : Nat) (v : U32) : Dev :=
  if pairUp s p then
    let (i, s) := takeNat s 512
    logInput s p i v
  else s

/-- The primary core of pair p is halted by debug: the pair does nothing (R356). -/
def primHalted (s : Dev) (p : Nat) : Bool := nbit s.exe.halted (getPair s p).primary

/-! ## Lists of indices -/

/-- Fold a state change over the indices below n. -/
def forN (s : Dev) (n : Nat) (f : Dev → Nat → Dev) : Dev := (List.range n).foldl f s
/-- Fold a state change over a list. -/
def forL {α : Type} (s : Dev) (l : List α) (f : Dev → α → Dev) : Dev := l.foldl f s

/-- A ring, and its update. -/
def getRing (s : Dev) (n : Nat) : Ring := Tbl.get {} s.rings n
def setRing (s : Dev) (n : Nat) (r : Ring) : Dev := { s with rings := Tbl.set {} s.rings n r }
/-- A string, and its update. -/
def getStr (s : Dev) (n : Nat) : Str := Tbl.get {} s.strs n
def setStr (s : Dev) (n : Nat) (x : Str) : Dev := { s with strs := Tbl.set {} s.strs n x }
/-- A core's architectural state, and its update (R333, R340). -/
def getCore (s : Dev) (n : Nat) : List U32 := Tbl.get coreClear s.exe.cores n
def setCore (s : Dev) (n : Nat) (w : List U32) : Dev := { s with exe := { s.exe with cores := Tbl.set coreClear s.exe.cores n w } }
/-- A CAN controller, and its update. -/
def getCan (s : Dev) (n : Nat) : Can := Tbl.get {} s.can n
def setCan (s : Dev) (n : Nat) (x : Can) : Dev := { s with can := Tbl.set {} s.can n x }
/-- A member of the cluster, and its update. -/
def getMem (s : Dev) (n : Nat) : Member := Tbl.get {} s.cl.members n
def setMem (s : Dev) (n : Nat) (x : Member) : Dev := { s with cl := { s.cl with members := Tbl.set {} s.cl.members n x } }

/-- Exclusive or of two words. -/
def xor32 (a b : U32) : U32 := a ^^^ b

end Sys2Proof.Machine
end

