-- ==== Sys2Proof/Machine/Crc.lean ====
section
/-!
DEFINITION. Sys2Proof/Machine/Crc.lean: the check sequences: CRC-32 (IEEE 802.3) and the CRC-16 of R74.
-/
namespace Sys2Proof.Machine

/-- One bit of the reflected CRC-32 with polynomial 0xEDB88320. -/
def crc32Step (c : U32) : U32 := if bitOf c 0 then (c >>> 1) ^^^ 0xEDB88320#32 else c >>> 1
/-- One byte of CRC-32. -/
def crc32Byte (c : U32) (b : U8) : U32 :=
  crc32Step (crc32Step (crc32Step (crc32Step (crc32Step (crc32Step (crc32Step (crc32Step (c ^^^ b.setWidth 32))))))))
/-- CRC-32 (IEEE 802.3) of a byte sequence. -/
def crc32 (l : List U8) : U32 := (l.foldl crc32Byte 0xFFFFFFFF#32) ^^^ 0xFFFFFFFF#32
/-- CRC-32 of words, bytes little-endian. -/
def crc32Words (l : List U32) : U32 := crc32 (wordsToBytes l)
/-- CRC-32 of `n` bytes of memory from `a`. -/
def crc32Mem (s : Dev) (a n : Nat) : U32 := crc32 (Memory.bytes s.mem a n)

/-- One bit of the CRC-16 of R74, polynomial 0x1021, most significant bit first. -/
def crc16Step (c : BitVec 16) : BitVec 16 := if c.msb then (c <<< 1) ^^^ 0x1021#16 else c <<< 1
/-- One byte of CRC-16. -/
def crc16Byte (c : BitVec 16) (b : U8) : BitVec 16 :=
  crc16Step (crc16Step (crc16Step (crc16Step (crc16Step (crc16Step (crc16Step (crc16Step (c ^^^ (b.setWidth 16 <<< 8)))))))))
/-- The CRC-16 of R74 over a byte sequence, from 0xFFFF. -/
def crc16 (l : List U8) : Nat := (l.foldl crc16Byte 0xFFFF#16).toNat

end Sys2Proof.Machine
end

