-- ==== Sys2Proof/Machine/Sha.lean ====
section
/-!
DEFINITION. Sys2Proof/Machine/Sha.lean: SHA-256 and HMAC-SHA-256, as R376, R377 and R520 name them (FIPS 180-4, RFC 2104).
-/
namespace Sys2Proof.Machine

/-- The eight words a 256-bit number spells, the highest first. -/
def eightWords (n : Nat) : List U32 := [7, 6, 5, 4, 3, 2, 1, 0].map (fun i => w32 (n / 2 ^ (32 * i)))
/-- The round constants of SHA-256, eight to a number. -/
def shaK : List U32 :=
  ([0x428A2F9871374491B5C0FBCFE9B5DBA53956C25B59F111F1923F82A4AB1C5ED5,
    0xD807AA9812835B01243185BE550C7DC372BE5D7480DEB1FE9BDC06A7C19BF174,
    0xE49B69C1EFBE47860FC19DC6240CA1CC2DE92C6F4A7484AA5CB0A9DC76F988DA,
    0x983E5152A831C66DB00327C8BF597FC7C6E00BF3D5A7914706CA635114292967,
    0x27B70A852E1B21384D2C6DFC53380D13650A7354766A0ABB81C2C92E92722C85,
    0xA2BFE8A1A81A664BC24B8B70C76C51A3D192E819D6990624F40E3585106AA070,
    0x19A4C1161E376C082748774C34B0BCB5391C0CB34ED8AA4A5B9CCA4F682E6FF3,
    0x748F82EE78A5636F84C878148CC7020890BEFFFAA4506CEBBEF9A3F7C67178F2] : List Nat).flatMap eightWords

/-- The exclusive or of a word turned right by two counts with a third word. -/
def turned (x : U32) (m n : Nat) (y : U32) : U32 := x.rotateRight m ^^^ x.rotateRight n ^^^ y

/-- One round with constant `k`: the chaining words a to h and the window of the next 16 message words, whose first the round uses and whose
last it adds. -/
def shaRound (st : List U32 × List U32) (k : U32) : List U32 × List U32 :=
  match st with
  | ([a, b, c, d, e, f, g, h], m :: win) =>
    let near := win.getD 0 0
    let far := win.getD 13 0
    let t := m + k + h + turned e 6 11 (e.rotateRight 25) + (g ^^^ (e &&& (f ^^^ g)))
    let u := turned a 2 13 (a.rotateRight 22) + ((a &&& (b ||| c)) ||| (b &&& c))
    let fresh := turned far 17 19 (far >>> 10) + win.getD 8 0 + turned near 7 18 (near >>> 3) + m
    ([t + u, a, b, c, t + d, e, f, g], win ++ [fresh])
  | _ => st

/-- The chaining words after a block of 16 message words. -/
def shaBlock (v blk : List U32) : List U32 := List.zipWith (· + ·) v (shaK.foldl shaRound (v, blk)).1

/-- Big-endian bytes of a number. -/
def beBytes (n v : Nat) : List U8 := (leBytes n v).reverse
/-- The number big-endian bytes spell. -/
def beNat (l : List U8) : Nat := leNat l.reverse

/-- Big-endian words of bytes. -/
def beWords : List U8 → List U32
  | a :: b :: c :: d :: t => w32 (beNat [a, b, c, d]) :: beWords t
  | _ => []

/-- Split a list into runs of n, at most `fuel` of them. -/
def runsOf {α : Type} (n : Nat) : Nat → List α → List (List α)
  | 0, _ => []
  | _, [] => []
  | fuel + 1, l => l.take n :: runsOf n fuel (l.drop n)

/-- The padded message. -/
def shaPad (l : List U8) : List U8 :=
  let n := l.length
  l ++ [0x80#8] ++ List.replicate ((119 - n % 64) % 64) 0#8 ++ beBytes 8 (8 * n)

/-- SHA-256 of bytes: 32 bytes. -/
def sha256 (l : List U8) : List U8 :=
  let w := beWords (shaPad l)
  let start := eightWords 0x6A09E667BB67AE853C6EF372A54FF53A510E527F9B05688C1F83D9AB5BE0CD19
  ((runsOf 16 (w.length / 16) w).foldl shaBlock start).flatMap (fun x => beBytes 4 x.toNat)

/-- HMAC-SHA-256 of a message under a key of at most 64 bytes. -/
def hmac256 (key msg : List U8) : List U8 :=
  let k := key ++ List.replicate (64 - key.length) 0#8
  sha256 (k.map (· ^^^ 0x5C#8) ++ sha256 (k.map (· ^^^ 0x36#8) ++ msg))

/-- ASCII bytes of a name. -/
def ascii (t : String) : List U8 := t.toList.map (fun c => BitVec.ofNat 8 c.toNat)

end Sys2Proof.Machine
end

