-- ==== Sys2Proof/Machine/Views.lean ====
section
/-!
DEFINITION. Sys2Proof/Machine/Views.lean: registers that show state held elsewhere: execution state (R347, R359), and
what a read of each register returns.
-/
namespace Sys2Proof.Machine

/-- The device has no power or sleeps: its outputs are held (R536, R568). -/
def asleep (s : Dev) : Bool := s.dev == .off || s.dev == .hibernate

/-- The pairs 0 to 3, as a bit mask of a property. -/
def pairMask (s : Dev) (f : Pair → Bool) : Nat := packBits (fun p => f (getPair s p)) 4

/-- Some pair is lost (R347, PAIR_LOST). -/
def anyLost (s : Dev) : Bool := pairMask s (·.lost) != 0
/-- A pair has been formed in this start (R332). -/
def anyFormed (s : Dev) : Bool := pairMask s (·.formed) != 0
/-- A pair votes with the spare (R342). -/
def voting (s : Dev) : Bool := pairMask s (fun q => q.recov == .vote) != 0
/-- The spare core can serve a recovery: it exists, is not halted, serves no vote, and lane 4 is free (R347, FULL). -/
def spareFree (s : Dev) : Bool :=
  match s.exe.spare with
  | some c => !nbit s.exe.halted c && s.exe.lane4.isNone && !nbit s.exe.health.retired 4 && !voting s
  | none => false
/-- A first mismatch is voted on: NATIVE policy in FULL; with a pair lost, too, it runs retry on two (R342, R347). -/
def voteFree (s : Dev) : Bool := !s.exe.legacy && spareFree s && !anyLost s
/-- SPARE_BUSY: the spare serves a pair, or awaits its self-test after a vote, and will come back (R347). -/
def spareBusy (s : Dev) : Bool :=
  anyFormed s && s.exe.lane4.isNone && (voting s || (s.exe.spare.isNone && s.exe.testing != 0))
/-- NO_SPARE: no core can take the spare role (R347). -/
def noSpare (s : Dev) : Bool := anyFormed s && !spareFree s && !spareBusy s
/-- DEGRADED: NO_SPARE or PAIR_LOST (R347). -/
def degraded (s : Dev) : Bool := noSpare s || anyLost s
/-- A pair's lock-step is broken by debug (R356). -/
def lockstepBroken (s : Dev) : Bool := pairMask s (·.broken) != 0

/-- EXE_STATUS as it reads (R359): execution state over the sticky bits [3:1]. -/
def exeStatus (s : Dev) : U32 :=
  w32 (rdN s EXE_STATUS % 16 + b2n (degraded s) * 2 ^ 4 + b2n (spareBusy s) * 2 ^ 5 + b2n (noSpare s) * 2 ^ 6 +
    pairMask s (·.lost) * 2 ^ 7 + pairMask s (·.broken) * 2 ^ 11 + b2n (s.exe.halted != 0) * 2 ^ 15)

/-- Local time `t` seconds has not passed since the ms mark `m` (0: no mark; else the time plus 1). -/
def within (s : Dev) (m ms : Nat) : Bool := m != 0 && decide (s.uptimeMs + 1 - m < ms)

/-- EXE_PAIRn as it reads (R359). -/
def exePair (s : Dev) (p : Nat) : U32 :=
  let q := getPair s p
  w32 (q.clean * 0x10000 + q.primary * 0x1000 + q.shadow * 0x100 + q.lane * 0x20 + b2n q.exch * 16 +
    b2n (q.formed && !voteFree s) * 8 + b2n q.broken * 4 + b2n q.lost * 2 + b2n (within s q.suspAt (par s 0x9002 * 1000)))

/-- EXE_SPARE, EXE_CORE, EXE_LANES and EXE_FEED as they read (R359). EXE_LANES reads 0 until pairs form (its reset value). -/
def exeSpare (s : Dev) : U32 := w32 (s.exe.spare.getD 0xF)
def exeCore (s : Dev) : U32 := w32 (s.exe.health.fenced % 512 + s.exe.testing % 512 * 0x10000)
def exeLanes (s : Dev) : U32 :=
  if anyFormed s then w32 (s.exe.health.retired % 32 + (s.exe.lane4.getD 7) * 0x100) else 0
def exeFeed (s : Dev) : U32 := w32 (packBits (fun p => bitOf (rd s EXE_FEED) p || (getPair s p).forced) 4)

/-- What a read of a register returns: the stored value, or the view of the state it shows. -/
def regRead (s : Dev) (a : Nat) : U32 :=
  if a = EXE_STATUS then exeStatus s
  else if a = EXE_SPARE then exeSpare s
  else if a = EXE_CORE then exeCore s
  else if a = EXE_LANES then exeLanes s
  else if a = EXE_FEED then exeFeed s
  else if EXE_PAIR ≤ a ∧ a < EXE_PAIR + 16 then exePair s ((a - EXE_PAIR) / 4)
  else rd s a

/-- Device states as the reply summary encodes them, with 0 OFF and 1 HIBERNATE (R365, R550). -/
def devCode : DevState → Nat
  | .off => 0
  | .hibernate => 1
  | .boot => 2
  | .standby => 3
  | .connecting => 4
  | .connected => 5
  | .disconnecting => 6
  | .safeHold => 7
  | .service => 8

/-- The device state a reply names: BOOT in the recovery service (R519). -/
def shownState (s : Dev) : Nat := if s.pwr.recovery then 2 else devCode s.dev

/-- Some string's flag bit in the string estimator table (R180). -/
def anySflag (s : Dev) (bit : Nat) : Bool := (List.range 128).any (fun i => nbit (ld16 s (0x20DD8000 + i * 16 + 4)) bit)

/-- SUMMARY of the reply word and of STATUS bytes 2 and 3 (R365). -/
def summaryBits (s : Dev) : Nat :=
  b2n (rdB s TB_STATUS 0) + b2n (noSpare s) * 2 + b2n (anySflag s 0) * 4 + b2n (degraded s) * 8 +
  b2n (lockstepBroken s) * 16 + b2n (anySflag s 3) * 32 + b2n (anySflag s 1) * 64

/-- Move the device to a state, with EV_STATE_CHANGE and its cause event, 0 for a command (R550). P0 derives the state. -/
def setDev (s : Dev) (p : Nat) (d : DevState) (cause : Nat) : Dev :=
  if s.dev = d then s
  else
    let s' := { s with dev := d }
    post s' p Ev.STATE_CHANGE (devCode s.dev + devCode d * 16 + cause * 0x10000)

end Sys2Proof.Machine
end

