-- ==== Sys2Proof/Machine/HostOps.lean ====
section
/-!
DEFINITION. Sys2Proof/Machine/HostOps.lean: the command transport's shared operations: replies and their order, sessions,
keys and MACs, the outcome table (spec 12 R364 to R383, R388).
-/
namespace Sys2Proof.Machine

/-- Status codes (R366). -/
abbrev ST_OK : Nat := 0x0000
abbrev ST_PENDING : Nat := 0x0001
abbrev ST_BAD_OPCODE : Nat := 0x0010
abbrev ST_BAD_PARAM : Nat := 0x0011
abbrev ST_LENGTH : Nat := 0x0012
abbrev ST_STATE : Nat := 0x0013
abbrev ST_AUTH : Nat := 0x0014
abbrev ST_BUSY : Nat := 0x0015
abbrev ST_TIMEOUT : Nat := 0x0016
abbrev ST_CANCELLED : Nat := 0x0017
abbrev ST_CONFLICT : Nat := 0x0018
abbrev ST_NOT_PRESENT : Nat := 0x0019
abbrev ST_INTEGRITY : Nat := 0x001A
abbrev ST_PRIVILEGE : Nat := 0x001B
abbrev ST_OK_DEGRADED : Nat := 0x0020

/-! ## Sessions -/

/-- Session n, and its update. -/
def getSess (s : Dev) (n : Nat) : Session := Tbl.get {} s.host.sess n
def setSess (s : Dev) (n : Nat) (x : Session) : Dev := { s with host := { s.host with sess := Tbl.set {} s.host.sess n x } }
/-- The session is open: active, or waiting for SESSION_AUTH. -/
def sessOpen (s : Dev) (n : Nat) : Bool := decide (n < 8) && ((getSess s n).st == .active || (getSess s n).st == .authWait)
/-- Sessions open, for HP_STATUS.SESSIONS. -/
def openCount (s : Dev) : Nat := ((List.range 8).filter (fun n => sessOpen s n)).length
/-- HP_STATUS as it stands (R387). -/
def syncHp (s : Dev) : Dev :=
  let s := wrF s HP_STATUS 4 4 (openCount s)
  let s := wrB s HP_STATUS 3 (parB s 0xA002)
  wrB s HP_STATUS 0 (rdN s HP_RPL_WP != rdN s HP_RPL_RP)

/-- Privilege names (R376). -/
def privName (p : Nat) : List U8 :=
  ascii (if p = 0 then "OBSERVER" else if p = 1 then "OPERATOR" else if p = 2 then "ENGINEER" else "SAFETY")
/-- The device serial, 8 bytes little-endian (R376). -/
def serialBytes : List U8 := leBytes 8 Config.serial.toNat
/-- K_p of a privilege (R376). -/
def privKey (kdev : List U8) (p : Nat) : List U8 := hmac256 kdev (privName p ++ serialBytes)
/-- Host proof or device proof, by label (R376). -/
def proofOf (label : String) (kdev : List U8) (sn p : Nat) (nh nd : List U32) : List U8 :=
  hmac256 (privKey kdev p) (ascii label ++ serialBytes ++ leBytes 1 sn ++ leBytes 1 p ++ wordsToBytes nh ++ wordsToBytes nd)
/-- K_s (R376). -/
def sessKey (kdev : List U8) (sn p : Nat) (nh nd : List U32) : List U8 :=
  hmac256 (privKey kdev p) (ascii "GXSESS" ++ wordsToBytes nh ++ wordsToBytes nd ++ leBytes 1 sn)
/-- The 16-byte MAC of bytes from word 0 through CTR (R377). -/
def macOf (key : List U8) (l : List U8) : List U8 := (hmac256 key l).take 16

/-- Privilege of a command's session; SESSION 0xF and version 0x01 serve at OBSERVER (R368, R375). -/
def privOf (s : Dev) (sn : Nat) : Nat := if sn < 8 then (getSess s sn).priv else 0

/-! ## Building and releasing replies (R365, R370, R371, R379) -/

/-- Notice records waiting for a session, saturating at 255. -/
def noticesOf (s : Dev) (sn : Nat) : Nat := if sn < 8 then min (getSess s sn).notices.length 255 else 0

/-- The device summary, word 3 of a reply (R365). -/
def replySummary (s : Dev) (sn : Nat) : U32 :=
  w32 (shownState s * 2 ^ 28 + fclass s * 2 ^ 24 + noticesOf s sn * 2 ^ 16 + summaryBits s)

/-- Words 0 to 3 and payload of a reply (R365). -/
def buildReply (s : Dev) (op status q sn tag : Nat) (payload : List U32) : List U32 :=
  [w32 (op * 0x10000 + status), w32 (q * 2 ^ 28 + sn * 2 ^ 24 + tag), w32 payload.length, replySummary s sn] ++ payload

/-- A packet of this device leaves P2: with the trailer when the session is authenticated (R365, R376, R377), and the CRC. A counter at its end
stays there: the session accepts nothing further (R378, Log 134). -/
def sendPkt (s : Dev) (x : OutPkt) : Dev :=
  let y := getSess s x.sess
  if !x.bare && decide (x.sess < 8) && y.auth then
    let body := x.raw ++ [w32 y.tx]
    let mac := bytesToWords (macOf y.key (wordsToBytes body))
    let full := body ++ mac
    emit (setSess s x.sess { y with tx := min (y.tx + 1) 0xFFFFFFFF }) 2 (.reply { x with words := full ++ [crc32Words full] })
  else emit s 2 (.reply { x with words := x.raw ++ [crc32Words x.raw] })

/-- The session of a packet is in hold, and the packet is one of its own. -/
def inHold (s : Dev) (x : OutPkt) : Bool := decide (x.sess < 8) && !x.bare && (getSess s x.sess).st == .held

/-- Release a built reply to its host: held while its session is in hold (R379). An answer to a packet that was not accepted as its session's
(`bare`) is no reply of the session and leaves at once (Log 59). -/
def releaseReply (s : Dev) (x : OutPkt) : Dev :=
  if x.raw.isEmpty then s
  else if inHold s x then
    let y := getSess s x.sess
    setSess s x.sess { y with heldRep := y.heldRep ++ [x] }
  else sendPkt s x

/-- Places of queue q in reply order (R370). -/
def getPlaces (s : Dev) (q : Nat) : List Place := Tbl.get [] s.host.places q
def setPlaces (s : Dev) (q : Nat) (l : List Place) : Dev := { s with host := { s.host with places := Tbl.set [] s.host.places q l } }

/-- Release the built replies at the head of queue q, in order (R370, R371). -/
def flushFrom (s : Dev) (q : Nat) : List Place → Dev
  | [] => setPlaces s q []
  | p :: t =>
    match p.reply with
    | some w => flushFrom (releaseReply s { sess := p.sess, queue := q, port := p.port, mac := p.mac, bare := p.bare, raw := w }) q t
    | none => setPlaces s q (p :: t)
def flushQueue (s : Dev) (q : Nat) : Dev := flushFrom s q (getPlaces s q)

/-- Fill the place of (session, tag) in queue q. -/
def fillPlace (l : List Place) (sn tag : Nat) (w : List U32) : List Place :=
  match l with
  | [] => []
  | p :: t => if p.sess = sn ∧ p.tag = tag ∧ p.reply.isNone then { p with reply := some w } :: t else p :: fillPlace t sn tag w

/-- The entry of a command's ST_TIMEOUT. -/
def isLateEntry (op : Nat) (c : HostCmd) (e : Outcome382) : Bool :=
  e.status == ST_TIMEOUT && e.sess == c.sess && e.tag == c.tag && e.op == op && e.id == c.id
/-- Record a final status in the outcome table; the status of a command that timed out before takes the place of its ST_TIMEOUT (R382). -/
def recordOutcome (s : Dev) (op : Nat) (c : HostCmd) (status priv : Nat) (late : Bool) : Dev :=
  let e : Outcome382 := { sess := c.sess, tag := c.tag, op := op, status := status, cyc := s.tb.cyc, priv := priv, id := c.id }
  let l := if late then s.host.outcomes.eraseP (isLateEntry op c) else s.host.outcomes
  { s with host := { s.host with outcomes := (e :: l).take 512 } }
/-- The newest entry says that no frame was sent (13 R420). -/
def noteNoFrame (s : Dev) : Dev :=
  match s.host.outcomes with
  | [] => s
  | e :: t => { s with host := { s.host with outcomes := { e with noFrame := true } :: t } }

/-- The command of (session, tag) in flight: a command that has timed out has left flight (R374). -/
def inFlight? (s : Dev) (sn tag : Nat) : Option InFlight :=
  s.host.flight.find? (fun f => f.cmd.sess == sn && f.cmd.tag == tag && !f.timedOut)
/-- The entry of a command, in flight or timed out and running on. -/
def flightOf (s : Dev) (c : HostCmd) : Option InFlight := s.host.flight.find? (fun f => f.cmd == c)
/-- Take it out of flight. -/
def dropFlight (s : Dev) (c : HostCmd) : Dev := { s with host := { s.host with flight := s.host.flight.filter (fun f => f.cmd != c) } }
/-- Change the commands of (session, tag) in flight. -/
def updFlight (s : Dev) (sn tag : Nat) (f : InFlight → InFlight) : Dev :=
  { s with host := { s.host with flight := s.host.flight.map (fun x =>
      if x.cmd.sess = sn ∧ x.cmd.tag = tag ∧ !x.timedOut then f x else x) } }

/-- An urgent command that has passed intake and not begun goes before this one: urgent commands begin first, in their order of intake
(R372). -/
def urgentAhead (s : Dev) (c : HostCmd) : Bool :=
  match s.host.flight.find? (fun f => f.cmd.urgent && !f.begun && !f.timedOut) with
  | some f => f.cmd != c
  | none => false

/-- A reply goes to its place in its queue, or leaves at once when it need not keep one: UNORDERED, URGENT, or SESSION 0xF,
which owns no queue (R369 to R372, Log 8). -/
def deliverReply (s : Dev) (c : HostCmd) (words : List U32) : Dev :=
  if c.unordered || c.urgent || decide (c.sess ≥ 8) then
    releaseReply s { sess := c.sess, queue := c.queue, port := c.port, mac := c.mac, loose := true, raw := words }
  else flushQueue (setPlaces s c.queue (fillPlace (getPlaces s c.queue) c.sess c.tag words)) c.queue

/-- A command's final status: its reply is built, its tag leaves flight, its outcome is recorded (R369, R371, R382). A command
that timed out before records its status only (R374). -/
def finish (s : Dev) (op : Nat) (c : HostCmd) (status : Nat) (payload : List U32) : Dev :=
  let late := match flightOf s c with
    | some f => f.timedOut
    | none => false
  let priv := match flightOf s c with
    | some f => f.priv
    | none => privOf s c.sess
  let s := recordOutcome (dropFlight s c) op c status priv late
  if late then s
  else if c.noreply && decide (status = ST_OK) then deliverReply s c []
  else deliverReply s c (buildReply s op status c.queue c.sess c.tag payload)

/-- A command answered by a status alone. -/
def answer (s : Dev) (op : Nat) (c : HostCmd) (status : Nat) : Dev := finish s op c status []

/-- A reply to a packet rejected at intake, with word 1 as received: it takes no tag, and its place stands in its queue's order
unless it need not keep one (R367, R369). While the session it names is in hold it is none of that session's (Log 59). -/
def rejectAt (s : Dev) (op status : Nat) (w1 : U32) (port mac : Nat) (loose bare : Bool) : Dev :=
  let sn := fld w1 24 4
  let q := fld w1 28 4
  let bare := bare || (decide (sn < 8) && (getSess s sn).st == .held)
  let w := [w32 (op * 0x10000 + status), w1, 0, replySummary s sn]
  if loose || decide (sn ≥ 8) then releaseReply s { sess := sn, queue := q, port := port, mac := mac, loose := true, bare := bare, raw := w }
  else flushQueue (setPlaces s q (getPlaces s q ++ [{ sess := sn, tag := fld w1 0 16, reply := some w, port := port, mac := mac, bare := bare }])) q

/-! ## Notices (R383) -/

/-- A record with number `n` and class `cls` is queued for every subscribed session; a full queue counts it as lost. -/
def queueNotice (s : Dev) (n cls : Nat) : Dev :=
  forN s 8 (fun s i =>
    let x := getSess s i
    if (x.st == .active || x.st == .held) && nbit x.sub cls then
      if x.notices.length < 256 then setSess s i { x with notices := x.notices ++ [n] }
      else setSess s i { x with lost := x.lost + 1 }
    else s)

/-- The 32 bytes of log slot s mod 32,768 in SRAM (R506). -/
def logSlot (n : Nat) : Nat := 0x21600000 + n % 32768 * 32
/-- The slot in the retained log (R506). -/
def logRet (n : Nat) : Nat := 0x10180000 + n % 32768 * 32

/-- EV_NOTICE_LOST at the end of an episode of session i (R383). -/
def endNoticeLoss (s : Dev) (i : Nat) : Dev :=
  let x := getSess s i
  if x.lost = 0 then s else note (setSess s i { x with lost := 0 }) 2 Ev.NOTICE_LOST (i + x.lost % 2 ^ 32 * 2 ^ 32)

/-! ## The reply ring (R387, R388) -/

/-- Free bytes of a 64 KiB ring: one word always stays free (R388). -/
def ringFree (rp wp : Nat) : Nat := (rp + 65536 - wp - 4) % 65536

/-- A packet is a notice (R383). -/
def isNotice (x : OutPkt) : Bool := fld (x.raw.getD 0 0) 16 16 == 0xA0FF

/-- Place a packet in the reply ring where it has room; none while it has not (R388). -/
def tryEnter (s : Dev) (x : OutPkt) : Option Dev :=
  let wp := rdF s HP_RPL_WP 0 16
  let free := ringFree (rdF s HP_RPL_RP 0 16) wp
  let n := x.words.length * 4
  let put := fun (s : Dev) (o : Nat) (l : List U32) => { s with win := Memory.writeBytes s.win (0x20000 + o) (wordsToBytes l) }
  let done := fun (s : Dev) (w : Nat) =>
    let s := wrB (wrN (countBytes s 0x7A n) HP_RPL_WP (w % 65536)) HP_IRQ 0 true
    syncHp (if isNotice x then wrB s HP_IRQ 2 true else s)
  if wp + n > 65536 then
    if 65536 - wp + n ≤ free then some (done (put (put s wp [0xFFFFFFFF]) 0 x.words) n) else none
  else if n ≤ free then some (done (put s wp x.words) (wp + n))
  else none

/-- P2 can send session i a notice of n words more: none of its notices is still on its way, and on QSPI the ring has room for it (R383, R388). -/
def noticeRoom (s : Dev) (i port n : Nat) : Bool :=
  let mine := fun (x : OutPkt) => isNotice x && x.sess == i
  !s.host.waiting.any mine && !((getPair s 2).redo ++ (getPair s 2).rel).any (fun e => match e.eff with | .reply x => mine x | _ => false) &&
    (port != 0 || (tryEnter s { sess := i, queue := 0, port := 0, raw := [], words := List.replicate (n + 6) 0 }).isSome)

/-- Send the notices waiting for active sessions, up to 16 records a packet, to the port of the session's last packet, as room allows (R383,
Log 134). -/
def sendNotices (s : Dev) : Dev :=
  forN s 8 (fun s i =>
    let x := getSess s i
    let l := x.notices.take 16
    if x.st == .active && !x.notices.isEmpty && noticeRoom s i x.port (4 + 8 * l.length) then
      let words := l.flatMap (fun n => ldWords s (logSlot n) 8)
      let s := setSess s i { x with notices := x.notices.drop 16 }
      let s := endNoticeLoss s i
      sendPkt s { sess := i, queue := 0, port := x.port, mac := x.mac, loose := true, raw := buildReply s 0xA0FF ST_OK 0 i 0xFFFF words }
    else s)

end Sys2Proof.Machine
end

