-- ==== Sys2Proof/Machine/HostServe.lean ====
section
/-!
DEFINITION. Sys2Proof/Machine/HostServe.lean: the opcode tables' general columns and the checks each command meets as it begins
(spec 13 R392, R393, and the tables R395, R400, R403, R407, R411, R415, R417, R418, R422, R424; 12 R366 to R375).
-/
namespace Sys2Proof.Machine

/-- The States column (R392). -/
inductive OpStates where
  | all | idle | standby | service | connect
  deriving DecidableEq, Repr

/-- One row of the opcode tables. `empty` marks a command with no payload; timeout in ms. -/
structure OpRow where
  op      : Nat
  priv    : Nat
  states  : OpStates
  timeout : Nat := 5000
  urgent  : Bool := false
  v1      : Bool := false
  empty   : Bool := false
  deriving DecidableEq, Repr

/-- Opcodes by number. -/
abbrev OP_IDENTIFY : Nat := 0x0001
abbrev OP_STATUS_GET : Nat := 0x0002
abbrev OP_SERVICE_ENTER : Nat := 0x0003
abbrev OP_SERVICE_LEAVE : Nat := 0x0004
abbrev OP_CONFIG_BEGIN : Nat := 0x0020
abbrev OP_PARAM_SET : Nat := 0x0021
abbrev OP_PARAM_GET : Nat := 0x0022
abbrev OP_CONFIG_COMMIT : Nat := 0x0023
abbrev OP_CONFIG_ABORT : Nat := 0x0024
abbrev OP_TIMEBASE_GET : Nat := 0x1001
abbrev OP_TIMEBASE_ALIGN : Nat := 0x1002
abbrev OP_PISTE_READ : Nat := 0x1003
abbrev OP_PISTE_WRITE : Nat := 0x1004
abbrev OP_RING_STATUS : Nat := 0x2001
abbrev OP_RING_ENUMERATE : Nat := 0x2002
abbrev OP_RING_LEAVE : Nat := 0x2003
abbrev OP_NODE_READ : Nat := 0x2004
abbrev OP_UNIT_MAP_SET : Nat := 0x2005
abbrev OP_UNIT_MAP_GET : Nat := 0x2006
abbrev OP_HISTORY_READ : Nat := 0x3001
abbrev OP_STRING_SAMPLE_READ : Nat := 0x3002
abbrev OP_DIRECT_READ : Nat := 0x3003
abbrev OP_BAL_CLEAR : Nat := 0x3004
abbrev OP_CATALOGUE_READ : Nat := 0x4001
abbrev OP_STRING_EST_READ : Nat := 0x4002
abbrev OP_CAPACITY_WRITE : Nat := 0x4003
abbrev OP_MASTER_TABLE_LOAD : Nat := 0x4004
abbrev OP_LIMITS_READ : Nat := 0x5001
abbrev OP_THERMAL_READ : Nat := 0x6001
abbrev OP_SENSOR_READ : Nat := 0x6002
abbrev OP_STRING_CONNECT : Nat := 0x7001
abbrev OP_STRING_DISCONNECT : Nat := 0x7002
abbrev OP_STRING_LOCK : Nat := 0x7003
abbrev OP_STRING_UNLOCK : Nat := 0x7004
abbrev OP_STRING_WELD_RELEASE : Nat := 0x7005
abbrev OP_STRING_READ : Nat := 0x7006
abbrev OP_SAFETY_RESET : Nat := 0x8001
abbrev OP_SIN_RESET : Nat := 0x8002
abbrev OP_SAFETY_READ : Nat := 0x8003
abbrev OP_EXEC_READ : Nat := 0x9001
abbrev OP_CORE_UNFENCE : Nat := 0x9002
abbrev OP_DEBUG_SET : Nat := 0x9003
abbrev OP_SESSION_OPEN : Nat := 0xA001
abbrev OP_SESSION_AUTH : Nat := 0xA002
abbrev OP_SESSION_CLOSE : Nat := 0xA003
abbrev OP_SESSION_PING : Nat := 0xA004
abbrev OP_CMD_CANCEL : Nat := 0xA005
abbrev OP_TAG_QUERY : Nat := 0xA006
abbrev OP_NOTICE_SUBSCRIBE : Nat := 0xA007
abbrev OP_KEY_PROVISION : Nat := 0xA008
abbrev OP_CLUSTER_READ : Nat := 0xB001
abbrev OP_CAN_TX : Nat := 0xC001
abbrev OP_CAN_RX_READ : Nat := 0xC002
abbrev OP_CAN_STATUS : Nat := 0xC003
abbrev OP_CAN_RECOVER : Nat := 0xC004
abbrev OP_LOG_READ : Nat := 0xD001
abbrev OP_COUNTER_READ : Nat := 0xD002
abbrev OP_VITRINE_TAKE : Nat := 0xD003
abbrev OP_DUMP_READ : Nat := 0xD004
abbrev OP_FW_STAGE_BEGIN : Nat := 0xE001
abbrev OP_FW_STAGE_DATA : Nat := 0xE002
abbrev OP_FW_STAGE_VERIFY : Nat := 0xE003
abbrev OP_FW_ACTIVATE : Nat := 0xE004
abbrev OP_FW_INFO : Nat := 0xE005
abbrev OP_HIBERNATE : Nat := 0xE006
abbrev OP_RETAINED_SAVE : Nat := 0xE007

/-- R395, R400, R403. -/
def opsLow : List OpRow := [
  { op := OP_IDENTIFY, priv := 0, states := .all, v1 := true, empty := true },
  { op := OP_STATUS_GET, priv := 0, states := .all, urgent := true, v1 := true, empty := true },
  { op := OP_SERVICE_ENTER, priv := 2, states := .standby, empty := true },
  { op := OP_SERVICE_LEAVE, priv := 2, states := .service, empty := true },
  { op := OP_CONFIG_BEGIN, priv := 2, states := .all, empty := true },
  { op := OP_PARAM_SET, priv := 2, states := .all },
  { op := OP_PARAM_GET, priv := 0, states := .all, v1 := true },
  { op := OP_CONFIG_COMMIT, priv := 2, states := .all, timeout := 1000, empty := true },
  { op := OP_CONFIG_ABORT, priv := 2, states := .all, empty := true },
  { op := OP_TIMEBASE_GET, priv := 0, states := .all, empty := true },
  { op := OP_TIMEBASE_ALIGN, priv := 2, states := .all, timeout := 1000 },
  { op := OP_PISTE_READ, priv := 0, states := .all },
  { op := OP_PISTE_WRITE, priv := 2, states := .all },
  { op := OP_RING_STATUS, priv := 0, states := .all },
  { op := OP_RING_ENUMERATE, priv := 2, states := .idle, timeout := 2000 },
  { op := OP_RING_LEAVE, priv := 2, states := .all, timeout := 1000 },
  { op := OP_NODE_READ, priv := 2, states := .all, timeout := 100 },
  { op := OP_UNIT_MAP_SET, priv := 2, states := .idle },
  { op := OP_UNIT_MAP_GET, priv := 0, states := .all },
  { op := OP_HISTORY_READ, priv := 0, states := .all },
  { op := OP_STRING_SAMPLE_READ, priv := 0, states := .all },
  { op := OP_DIRECT_READ, priv := 0, states := .all, empty := true },
  { op := OP_BAL_CLEAR, priv := 1, states := .all }]

/-- R407, R411, R415. -/
def opsMid : List OpRow := [
  { op := OP_CATALOGUE_READ, priv := 0, states := .all },
  { op := OP_STRING_EST_READ, priv := 0, states := .all },
  { op := OP_CAPACITY_WRITE, priv := 2, states := .all },
  { op := OP_MASTER_TABLE_LOAD, priv := 2, states := .idle, timeout := 2000 },
  { op := OP_LIMITS_READ, priv := 0, states := .all, empty := true },
  { op := OP_THERMAL_READ, priv := 0, states := .all },
  { op := OP_SENSOR_READ, priv := 0, states := .all },
  { op := OP_STRING_CONNECT, priv := 1, states := .connect, timeout := 1000 },
  { op := OP_STRING_DISCONNECT, priv := 1, states := .all, timeout := 1000, urgent := true },
  { op := OP_STRING_LOCK, priv := 1, states := .all, timeout := 1000 },
  { op := OP_STRING_UNLOCK, priv := 2, states := .all, timeout := 1000 },
  { op := OP_STRING_WELD_RELEASE, priv := 3, states := .idle, timeout := 1000 },
  { op := OP_STRING_READ, priv := 0, states := .all, v1 := true },
  { op := OP_SAFETY_RESET, priv := 3, states := .all, timeout := 500, urgent := true, empty := true },
  { op := OP_SIN_RESET, priv := 1, states := .all },
  { op := OP_SAFETY_READ, priv := 0, states := .all, empty := true },
  { op := OP_EXEC_READ, priv := 0, states := .all, empty := true },
  { op := OP_CORE_UNFENCE, priv := 3, states := .service },
  { op := OP_DEBUG_SET, priv := 2, states := .all }]

/-- R375, R417, R418, R422, R424. The privilege of SESSION_OPEN and SESSION_AUTH is judged by the commands themselves. -/
def opsHigh : List OpRow := [
  { op := OP_SESSION_OPEN, priv := 0, states := .all },
  { op := OP_SESSION_AUTH, priv := 0, states := .all },
  { op := OP_SESSION_CLOSE, priv := 0, states := .all, empty := true },
  { op := OP_SESSION_PING, priv := 0, states := .all, urgent := true, empty := true },
  { op := OP_CMD_CANCEL, priv := 0, states := .all, urgent := true },
  { op := OP_TAG_QUERY, priv := 0, states := .all },
  { op := OP_NOTICE_SUBSCRIBE, priv := 0, states := .all },
  { op := OP_KEY_PROVISION, priv := 0, states := .all },
  { op := OP_CLUSTER_READ, priv := 0, states := .all, empty := true },
  { op := OP_CAN_TX, priv := 2, states := .all, timeout := 1000 },
  { op := OP_CAN_RX_READ, priv := 1, states := .all },
  { op := OP_CAN_STATUS, priv := 0, states := .all },
  { op := OP_CAN_RECOVER, priv := 2, states := .all },
  { op := OP_LOG_READ, priv := 0, states := .all, v1 := true },
  { op := OP_COUNTER_READ, priv := 0, states := .all },
  { op := OP_VITRINE_TAKE, priv := 1, states := .all, empty := true },
  { op := OP_DUMP_READ, priv := 1, states := .all },
  { op := OP_FW_STAGE_BEGIN, priv := 2, states := .all },
  { op := OP_FW_STAGE_DATA, priv := 2, states := .all },
  { op := OP_FW_STAGE_VERIFY, priv := 2, states := .all, timeout := 2000, empty := true },
  { op := OP_FW_ACTIVATE, priv := 3, states := .standby },
  { op := OP_FW_INFO, priv := 0, states := .all, empty := true },
  { op := OP_HIBERNATE, priv := 1, states := .standby, timeout := 3000 },
  { op := OP_RETAINED_SAVE, priv := 1, states := .all, timeout := 3000, empty := true }]

/-- The row of an opcode; none where the opcode is unknown. -/
def opRow (op : Nat) : Option OpRow := (opsLow ++ opsMid ++ opsHigh).find? (fun r => r.op == op)

/-- The privilege an opcode needs: COUNTER_READ needs OPERATOR, or OBSERVER while counters.user_read is set (R422);
KEY_PROVISION needs SAFETY once a key exists (R417). -/
def opPriv (s : Dev) (r : OpRow) : Nat :=
  if r.op = OP_COUNTER_READ then (if parB s 0xD001 then 0 else 1)
  else if r.op = OP_KEY_PROVISION then (if s.host.kdev.isSome then 3 else 0)
  else r.priv

/-- The opcodes the recovery service accepts, whatever their States columns say (R519). -/
def recoveryOps : List Nat :=
  [OP_IDENTIFY, OP_FW_INFO, OP_SESSION_OPEN, OP_SESSION_AUTH, OP_SESSION_CLOSE, OP_SESSION_PING,
   OP_FW_STAGE_BEGIN, OP_FW_STAGE_DATA, OP_FW_STAGE_VERIFY, OP_FW_ACTIVATE]

/-- The device state permits the opcode (R392, R417, R519). -/
def stateOk (s : Dev) (r : OpRow) : Bool :=
  if s.pwr.recovery then recoveryOps.contains r.op
  else if r.op = OP_KEY_PROVISION ∧ s.host.kdev.isSome then s.dev == .service
  else
    match r.states with
    | .all => !(s.dev == .off || s.dev == .hibernate || s.dev == .boot)
    | .idle => s.dev == .standby || s.dev == .service
    | .standby => s.dev == .standby
    | .service => s.dev == .service
    | .connect => s.dev == .standby || s.dev == .connecting || s.dev == .connected

/-- The opcode may come with SESSION 0xF (R375), or in a version 0x01 packet (R368). -/
def noSessOk (s : Dev) (r : OpRow) (v1 : Bool) : Bool :=
  if v1 then parB s 0xA002 && r.v1
  else r.op = OP_IDENTIFY ∨ r.op = OP_SESSION_OPEN ∨ r.op = OP_SESSION_AUTH ∨ (r.op = OP_KEY_PROVISION ∧ s.host.kdev.isNone)

/-- The command's session may run it: an active session, one waiting for SESSION_AUTH for SESSION_AUTH alone, or none (R375). -/
def sessOk (s : Dev) (r : OpRow) (c : HostCmd) : Bool :=
  if c.sess ≥ 8 then noSessOk s r c.v1
  else (getSess s c.sess).st == .active || (((getSess s c.sess).st == .authWait || (getSess s c.sess).resume) && r.op == OP_SESSION_AUTH)

/-- The command begins: it is in flight, with a place in its queue's order unless its reply keeps none (R369, R370). -/
def beginCmd (s : Dev) (op : Nat) (c : HostCmd) : Dev :=
  match flightOf s c with
  | some _ => { s with host := { s.host with flight := s.host.flight.map (fun f => if f.cmd = c then { f with begun := true } else f) } }
  | none =>
    let s := { s with host := { s.host with flight := s.host.flight ++ [{ op := op, cmd := c, begun := true, priv := privOf s c.sess }] } }
    if c.unordered || c.urgent || decide (c.sess ≥ 8) then s
    else setPlaces s c.queue (getPlaces s c.queue ++ [{ sess := c.sess, tag := c.tag, port := c.port, mac := c.mac }])

/-- The command has begun already: it does not begin twice. -/
def hasBegun (s : Dev) (c : HostCmd) : Bool :=
  match flightOf s c with
  | some f => f.begun
  | none => false

/-- The status of the checks every command meets as it begins, in the order of R367; none when all pass. A command that has
passed intake (`known`) was judged there for its session and its privilege, and runs to completion without it (R379). -/
def cmdCheck (s : Dev) (r : OpRow) (c : HostCmd) (known : Bool) : Option Nat :=
  if !known && !sessOk s r c then some ST_AUTH
  else if !known && decide (privOf s c.sess < opPriv s r) then some ST_PRIVILEGE
  else if !stateOk s r then some ST_STATE
  else if r.empty && !c.payload.isEmpty then some ST_LENGTH
  else none

/-- P2 runs a command: the checks of R367 that stand at its beginning, then its own effect. P2 does nothing while it is not
formed or lost (R349, R516), and a command does not begin while an urgent one is to begin before it (R372). -/
def serve (s : Dev) (op : Nat) (c : HostCmd) (body : Dev → Dev) : Dev :=
  if !pairUp s 2 || hasBegun s c || urgentAhead s c then s
  else
    match opRow op with
    | none => s
    | some r =>
      let known := (flightOf s c).isSome
      let s := beginCmd { s with actor := if c.sess < 8 then c.sess else 0xF } op c
      let s := match cmdCheck s r c known with
        | some st => answer s op c st
        | none => body s
      { s with actor := 0xF }

/-- Word i of the payload; 0 beyond it. -/
def pw (c : HostCmd) (i : Nat) : U32 := c.payload.getD i 0
def pwN (c : HostCmd) (i : Nat) : Nat := (pw c i).toNat

/-- A range payload (R393): FIRST and COUNT of word i. -/
def rangeFirst (c : HostCmd) (i : Nat) : Nat := fld (pw c i) 0 16
def rangeCount (c : HostCmd) (i : Nat) : Nat := fld (pw c i) 16 16

/-- The status a range fails with: beyond the table, or a reply above 4,096 words (R393). -/
def rangeStatus (first count size head per : Nat) : Option Nat :=
  if first + count > size then some ST_BAD_PARAM
  else if head + count * per > 4096 then some ST_LENGTH
  else none

/-- Serve a range command of `size` items with a payload of `len` words: its reply is `head` then `item` of each index. -/
def serveRange (s : Dev) (op : Nat) (c : HostCmd) (size per : Nat) (head : List U32) (item : Nat → List U32) : Dev :=
  if c.payload.length ≠ 1 then answer s op c ST_LENGTH
  else
    match rangeStatus (rangeFirst c 0) (rangeCount c 0) size head.length per with
    | some st => answer s op c st
    | none => finish s op c ST_OK (head ++ (List.range (rangeCount c 0)).flatMap (fun i => item (rangeFirst c 0 + i)))

end Sys2Proof.Machine
end

