-- ==== Sys2Proof/Machine/CanOps.lean ====
section
/-!
DEFINITION. Sys2Proof/Machine/CanOps.lean: shared operations of the CAN controllers: message RAM, filters, FIFOs, transmit
buffers, events, confinement (spec 15 R455 to R478).
-/
namespace Sys2Proof.Machine

/-! ## Registers and layout -/

/-- Controller n's message RAM, the base of a transmit buffer and its size (R459). -/
def canRam (n : Nat) : Nat := 0x30000000 + n * 0x10000
def txbOff (k : Nat) : Nat := if k = 0 then 0x4C00 else if k = 1 then 0x5080 else 0x5980
def txbSize (k : Nat) : Nat := if k = 0 then 16 else 32
/-- Message object i (R472). -/
def objAddr (n i : Nat) : Nat := canRam n + 0x6880 + i * 80

/-- A frame is in progress, sent or received. DESIGN CHOICE: a frame received without an attempt of the controller's own begins and ends
within its row (log 138). -/
def canBusy (s : Dev) (n : Nat) : Bool := (getCan s n).attempt.isSome || (getCan s n).rx
/-- INIT in effect, from the end of a frame in progress on, and OBJECT, SUPERVISED, RESTRICTED and FORMAT of CAN_CTRL (R482). -/
def canInit (s : Dev) (n : Nat) : Bool := rdB s (canReg n 0) 7 && !canBusy s n
def canObject (s : Dev) (n : Nat) : Bool := rdB s (canReg n 0) 6
def canSupervised (s : Dev) (n : Nat) : Bool := rdB s (canReg n 0) 5
def canRestricted (s : Dev) (n : Nat) : Bool := rdB s (canReg n 0) 4
def canFormat (s : Dev) (n : Nat) : Nat := rdF s (canReg n 0) 2 2
/-- can.n.enable and the other parameters of controller n. -/
def canPar (s : Dev) (n k : Nat) : Nat := par s (0xC000 + n * 0x100 + k)
/-- The controller takes part in bus traffic (R455). -/
def canOnBus (s : Dev) (n : Nat) : Bool :=
  canPar s n 0 != 0 && !canInit s n && !(getCan s n).integ && !(getCan s n).busoff && anyFormed s
/-- Controller n is pcs.can_a or pcs.can_b (R225). -/
def isPcs (s : Dev) (n : Nat) : Bool := par s 0x5081 == n || par s 0x5082 == n
/-- The PCS controllers. -/
def pcsCtls (s : Dev) : List Nat := if par s 0x5082 = 0xFF ∨ par s 0x5082 = par s 0x5081 then [par s 0x5081] else [par s 0x5081, par s 0x5082]

/-- Set a bit of CAN_IR (R8, R482). -/
def canIr (s : Dev) (n i : Nat) : Dev := wrB s (canReg n 0x18) i true

/-- Data length of a DLC: classical frames carry at most 8 bytes (R419). -/
def dlcLen (dlc : Nat) (fdf : Bool) : Nat :=
  if dlc ≤ 8 then dlc
  else if !fdf then 8
  else [12, 16, 20, 24, 32, 48, 64].getD (dlc - 9) 64
/-- Data bytes of a frame (16 R487; Log 139). -/
def frameData (dlc : Nat) (fdf rtr : Bool) : Nat := if rtr && !fdf then 0 else dlcLen dlc fdf

/-! ## Transmit buffers (R466, R467) -/

/-- GET and PUT of buffer k, from CAN_TXBk_STATE. -/
def txbGet (s : Dev) (n k : Nat) : Nat := rdF s (canReg n (0x50 + 4 * k)) 8 5
def txbPut (s : Dev) (n k : Nat) : Nat := rdF s (canReg n (0x50 + 4 * k)) 0 5
/-- Buffer k is suspended (R478). -/
def txbSusp (s : Dev) (n k : Nat) : Bool := nbit (getCan s n).susp k
/-- CAN_TXBk_STATE and CAN_TXBk_PUT for new offsets. -/
def txbSync (s : Dev) (n k get put : Nat) : Dev :=
  let full := decide ((put + 1) % txbSize k = get)
  let s := wrN s (canReg n (0x50 + 4 * k)) (put + get * 0x100 + b2n full * 2 ^ 30 + b2n (txbSusp s n k) * 2 ^ 31)
  wrN s (canReg n (0x60 + 4 * k)) put
/-- Elements queued in buffer k, head first. -/
def txbQueued (s : Dev) (n k : Nat) : List Nat :=
  let z := txbSize k
  ((List.range ((txbPut s n k + z - txbGet s n k) % z)).map (fun i => (txbGet s n k + i) % z)).filter
    (fun i => !(getCan s n).gone.contains (k, i))
/-- Address of element i of buffer k. -/
def txbElem (n k i : Nat) : Nat := canRam n + txbOff k + i * 72

/-- Move GET past the elements that have left: the head element and those withdrawn behind it (R467, R470). -/
def txbAdvance (s : Dev) (n k : Nat) : Nat → Dev
  | 0 => s
  | fuel + 1 =>
    let g := txbGet s n k
    if g ≠ txbPut s n k ∧ (getCan s n).gone.contains (k, g) then
      let c := getCan s n
      let s := setCan s n { c with gone := c.gone.filter (fun p => p != (k, g)), heads := Tbl.set {} c.heads k {} }
      txbAdvance (txbSync s n k ((g + 1) % txbSize k) (txbPut s n k)) n k fuel
    else s

/-! ## Transmit events (R469) -/

/-- Event FIFO is full: no attempt starts and no cancellation completes. -/
def evFull (s : Dev) (n : Nat) : Bool := decide ((getCan s n).evFill ≥ 96)
/-- No cancellation completes: the FIFO is full but for the entry of an attempt in progress, whose outcome must not be lost (R469). -/
def evTight (s : Dev) (n : Nat) : Bool := decide ((getCan s n).evFill + b2n (getCan s n).attempt.isSome ≥ 96)

/-- A ring status word: PUT, GET, fill level and, for a receive FIFO, full. -/
def ringStatus (put get fill : Nat) (full : Bool) : Nat := fill * 0x100 + get * 0x10000 + put * 0x1000000 + b2n full * 2 ^ 31

/-- Write an event entry at PUT of the event FIFO. -/
def pushTxEvent (s : Dev) (n : Nat) (w : List U32) : Dev :=
  let a := canReg n 0x78
  let put := rdF s a 24 7
  let get := rdF s a 16 7
  let c := getCan s n
  let s := stWords s (canRam n + 0x6280 + put * 16) w
  let s := setCan s n { c with evFill := c.evFill + 1 }
  canIr (wrN s a (ringStatus ((put + 1) % 96) get (c.evFill + 1) false)) n 6

/-- Element words, of a buffer element or a message object. -/
def elemWords (s : Dev) (n buf i : Nat) : List U32 := if buf = 3 then ldWords s (objAddr n i) 20 else ldWords s (txbElem n buf i) 18

/-- Key of a head record: the buffer, or 4 + object. -/
def headKey (buf i : Nat) : Nat := if buf = 3 then 4 + i else buf
def getHead (s : Dev) (n buf i : Nat) : HeadRec := Tbl.get {} (getCan s n).heads (headKey buf i)
def setHead (s : Dev) (n buf i : Nat) (h : HeadRec) : Dev :=
  let c := getCan s n
  setCan s n { c with heads := Tbl.set {} c.heads (headKey buf i) h }

/-- Offset of ALIVE in a device frame of the profile, by frame offset (R226 to R228). -/
def aliveByte (off : Nat) : Nat := if off = 0 then 2 else if off = 1 then 6 else if off = 2 then 2 else if off = 3 then 4 else 0

/-- A profile frame that has reached TRANSMITTED carries its type's ALIVE on, to one above the highest of either controller (R471). DESIGN
CHOICE: which of two values is the higher is judged modulo 256 by the shorter way (log 138). -/
def noteAlive (s : Dev) (n : Nat) (w : List U32) (dataWord : Nat) : Dev :=
  let id := fld (w.getD 1 0) 0 29
  let base := par s 0x5083
  if isPcs s n && decide (base ≤ id) && decide (id ≤ base + 4) then
    let off := id - base
    let v := ((wordsToBytes (w.drop dataWord)).getD (aliveByte off) 0).toNat
    if (v + 257 - Tbl.get 0 s.lim.alive off) % 256 < 128 then { s with lim := { s.lim with alive := Tbl.set 0 s.lim.alive off ((v + 1) % 256) } } else s
  else s

/-- A CAN_TX that waited for this element is answered (R418, R419, R477). -/
def answerCanWait (s : Dev) (n buf i outcome : Nat) (sof : U32) : Dev :=
  match (getCan s n).waits.find? (fun w => w.buf == buf && w.idx == i) with
  | none => s
  | some w =>
    let c := getCan s n
    let s := setCan s n { c with waits := c.waits.filter (fun x => !(x.buf == buf && x.idx == i)) }
    if outcome ≤ 1 then finish s OP_CAN_TX w.cmd ST_OK [sof, w32 outcome]
    else if outcome = 3 then answer s OP_CAN_TX w.cmd ST_BAD_PARAM
    else answer s OP_CAN_TX w.cmd ST_CANCELLED

/-- Load object i with an element's words and request its transmission (R472). -/
def objLoad (s : Dev) (n i : Nat) (w : List U32) : Dev :=
  let a := objAddr n i
  let s := st32 s a ((w.getD 0 0 &&& 0xFD000000#32).toNat + 2 * 2 ^ 22)
  let s := st32 s (a + 4) (w.getD 1 0).toNat
  let s := stWords s (a + 16) ((w.drop 2) ++ List.replicate (18 - w.length) 0)
  wrB s (canReg n (0x90 + i / 32 * 4)) (i % 32) true

/-- The next cyclic profile frame enters object 1 once the one before has reported its outcome (R472). -/
def cycNext (s : Dev) (n : Nat) : Dev :=
  match (getCan s n).cycWait with
  | [] => s
  | w :: t => objLoad (setCan s n { getCan s n with cycWait := t }) n 1 w

/-- An element or object leaves: its event is written, and GET advances past a head (R467, R469). -/
def leaveElem (s : Dev) (n buf i outcome : Nat) (sof : U32) : Dev :=
  let w := elemWords s n buf i
  let h := getHead s n buf i
  let isHead := decide (buf = 3 ∨ txbGet s n buf = i)
  let att := if isHead then h.attempts else 0
  let w0 := (w.getD 0 0 &&& 0xFF000000#32).toNat + (if buf = 3 then 0 else fld (w.getD 0 0) 16 8 * 0x10000) +
    buf * 0x4000 + i * 0x100 + outcome
  let s := pushTxEvent s n [w32 w0, w.getD 1 0 &&& 0x1FFFFFFF#32, if outcome ≤ 1 then sof else 0, w32 att]
  let s := if outcome ≤ 1 then noteAlive s n w (if buf = 3 then 4 else 2) else s
  let s :=
    if buf = 3 then
      let s := wrB (setHead s n 3 i {}) (canReg n (0x90 + i / 32 * 4)) (i % 32) false
      if i = 1 then cycNext s n else s
    else
      let c := getCan s n
      txbAdvance (setCan s n { c with gone := c.gone ++ [(buf, i)] }) n buf 64
  answerCanWait s n buf i outcome sof

/-- The invalid elements of R466. -/
def elemInvalid (s : Dev) (n : Nat) (w0 w1 : U32) : Bool :=
  let fdf := bitOf w0 27
  let brs := bitOf w0 26
  (bitOf w0 25 && fdf) || (brs && !fdf) || (fdf && (canFormat s n == 0 || canFormat s n == 3)) || (brs && canFormat s n == 1) ||
  fld w0 0 16 != 0 || fld w1 29 3 != 0

/-- Pass-through is held on a PCS controller (R468). -/
def txHeld (s : Dev) (n : Nat) : Bool := rdB s (canReg n 0x74) 0

/-- Elements and objects waiting to leave whose cancellation awaits room in the event FIFO. -/
def cancelPending (s : Dev) (n buf i : Nat) : Bool := (getCan s n).evWait.any (fun e => e.1 == buf && e.2.1 == i)

/-- Transmit objects whose SEND is set and which are neither suspended nor held, lowest first (R468, R472, R478). -/
def objReady (s : Dev) (n : Nat) : List Nat :=
  (List.range 64).filter (fun i => rdB s (canReg n (0x90 + i / 32 * 4)) (i % 32) && ld32 s (objAddr n i) / 2 ^ 22 % 4 == 2 &&
    !nbit (getCan s n).suspObj i && !(txHeld s n && decide (i ≥ 4)) && !cancelPending s n 3 i)

/-- The element the controller offers next: the head of TXB0, else of TXB1, else of TXB2 (R467), or the lowest object (R472). -/
def offer (s : Dev) (n : Nat) : Option (Nat × Nat) :=
  if canObject s n then (objReady s n).head?.map (fun i => (3, i))
  else
    let ok := fun k => !txbSusp s n k && !(txbQueued s n k).isEmpty && !cancelPending s n k ((txbQueued s n k).headD 0)
    if ok 0 then some (0, (txbQueued s n 0).headD 0)
    else if ok 1 then some (1, (txbQueued s n 1).headD 0)
    else if ok 2 && !txHeld s n then some (2, (txbQueued s n 2).headD 0)
    else none

/-- A cyclic profile frame waits: in TXB1, or for object 1 (R456, R472). -/
def cycQueued (s : Dev) (n : Nat) : Bool :=
  if canObject s n then rdB s (canReg n 0x90) 1 || !(getCan s n).cycWait.isEmpty else !(txbQueued s n 1).isEmpty
/-- End of the hold: the first moment after the gate's start when TXB1 has held an element and is empty again (R468). -/
def holdCheck (s : Dev) (n : Nat) : Dev :=
  let c := getCan s n
  let empty := !cycQueued s n
  if c.gateOn && c.held1 && empty && txHeld s n then wrB s (canReg n 0x74) 0 false
  else if c.gateOn && !empty && !c.held1 then setCan s n { c with held1 := true }
  else s

/-! ## Filters (R460 to R463) -/

/-- The published bank's base in message RAM. -/
def fltBank (s : Dev) (n : Nat) (staging : Bool) : Nat :=
  let b := rdF s (canReg n 0x20) 0 1
  canRam n + (if staging then 1 - b else b) * 0x800

/-- An element matches a frame (R460, R461). -/
def fltMatch (w0 w1 : Nat) (f : CanFrame) : Bool :=
  let test := w0 / 2 ^ 29 % 4
  let a := w0 % 2 ^ 29
  let b := w1 % 2 ^ 29
  let remote := f.rtr && !f.fdf
  test != 0 && (w0 / 2 ^ 31 % 2 == b2n f.xtd) && (!remote || w1 / 2 ^ 31 % 2 == 1) &&
  (if test = 1 then (w32 f.id ^^^ w32 a) &&& w32 b == 0
   else if test = 2 then decide (a ≤ f.id) && decide (f.id ≤ b)
   else f.id == a || f.id == b)

/-- Where a frame goes: none rejects it; else FIFO 0 or 1, the element's index and whether by the non-matching action (R461). -/
def fltDecide (s : Dev) (n : Nat) (f : CanFrame) : Option (Nat × Nat × Bool) :=
  let st := (getCan s n).fltNow
  let base := fltBank s n false
  match (List.range (fld st 0 9)).find? (fun i => fltMatch (ld32 s (base + i * 8)) (ld32 s (base + i * 8 + 4)) f) with
  | some i =>
    let dest := ld32 s (base + i * 8 + 4) / 2 ^ 29 % 4
    if dest = 1 then some (0, i, false) else if dest = 2 then some (1, i, false) else none
  | none =>
    let act := if f.xtd then fld st 28 2 else fld st 30 2
    if f.rtr && !f.fdf && !bitOf st 27 then none
    else if act = 1 then some (0, 0, true) else if act = 2 then some (1, 0, true) else none

/-- A staged element is valid (R462). -/
def fltElemOk (w0 w1 : Nat) : Bool :=
  let test := w0 / 2 ^ 29 % 4
  let a := w0 % 2 ^ 29
  let b := w1 % 2 ^ 29
  test == 0 || (w1 / 2 ^ 29 % 4 != 3 && (w0 / 2 ^ 31 % 2 == 1 || (decide (a < 2 ^ 11) && decide (b < 2 ^ 11))) &&
    (test != 2 || decide (a ≤ b)))

/-- The first invalid element of the staged list, 0x1FF for a fault of CAN_FLT_STAGE or STAGE_VER; none when valid (R462). -/
def fltFault (s : Dev) (n : Nat) : Option Nat :=
  let st := rd s (canReg n 0x24)
  let ver := rdF s (canReg n 0x20) 16 16
  let base := fltBank s n true
  if fld st 0 9 > 256 ∨ fld st 30 2 = 3 ∨ fld st 28 2 = 3 ∨ ver = 0 ∨ ver = rdF s (canReg n 0x28) 16 16 then some 0x1FF
  else (List.range (fld st 0 9)).find? (fun i => !fltElemOk (ld32 s (base + i * 8)) (ld32 s (base + i * 8 + 4)))

/-- The swap: the staged list is validated and published or rejected; SWAP_REQ clears in either case (R462). -/
def fltSwap (s : Dev) (n : Nat) : Dev :=
  let fault := fltFault s n
  let s := wrB (wrB s (canReg n 0x20) 1 false) (canReg n 0x28) 1 false
  match fault with
  | none =>
    let s := wrF s (canReg n 0x28) 16 16 (rdF s (canReg n 0x20) 16 16)
    let s := wrF s (canReg n 0x20) 0 1 (1 - rdF s (canReg n 0x20) 0 1)
    let s := setCan s n { getCan s n with fltNow := rd s (canReg n 0x24) }
    canIr s n 8
  | some i =>
    let s := wrB (wrF s (canReg n 0x28) 7 9 i) (canReg n 0x28) 2 true
    note (canIr s n 7) 3 Ev.CAN_FLT_REJECT (n + i * 0x100)

/-- No frame is being received or sent, the controller is bus-off, or INIT is set (R462). -/
def frameFree (s : Dev) (n : Nat) : Bool := !canBusy s n || (getCan s n).busoff

/-- SWAP_REQ is set; the swap happens at once where the moment is frame-free (R462). -/
def fltRequest (s : Dev) (n : Nat) : Dev :=
  let s := wrB (wrB s (canReg n 0x20) 1 true) (canReg n 0x28) 1 true
  if frameFree s n then fltSwap s n else s

/-- The filter list of controller n, as pairs of words: every pass-through element follows, and one whose TEST is 0b00 is passed over
(R461, R463). -/
def fltList (s : Dev) (n : Nat) : List (Nat × Nat) :=
  let base := par s 0x5083
  let x := b2n (parB s 0x5084) * 2 ^ 31
  (if isPcs s n then
    [(x + 3 * 2 ^ 29 + (base + 8) % 2 ^ 29, 1 * 2 ^ 29 + (base + 9) % 2 ^ 29),
     (x + 2 * 2 ^ 29 + base % 2 ^ 29, 2 ^ 31 + (base + 4) % 2 ^ 29)]
   else []) ++
  (List.range 16).map (fun k =>
    let w0 := canPar s n (0x10 + k)
    let w1 := canPar s n (0x20 + k)
    (w0, w1 / 2 ^ 30 % 2 * 2 ^ 31 + (if w1 / 2 ^ 31 = 1 then 0 else 2 * 2 ^ 29) + w1 % 2 ^ 29))

/-- P3 builds the list in the staging bank and requests its publication (R463). While a swap is asked for, whose list its writes may not
change (R462), it waits with it
(Log 135). -/
def fltBuild (s : Dev) (n : Nat) : Dev :=
  if rdB s (canReg n 0x20) 1 then setCan s n { getCan s n with rebuild := true }
  else
  let l := fltList s n
  let nm := if canPar s n 8 = 1 then 2 else 0
  let pub := rdF s (canReg n 0x28) 16 16
  let ver := if pub = 0xFFFF then 1 else pub + 1
  let s := stWords s (fltBank s n true) (l.flatMap (fun p => [w32 p.1, w32 p.2]))
  let s := wrN s (canReg n 0x24) (l.length + nm * 2 ^ 30 + nm * 2 ^ 28 + b2n (nm = 2) * 2 ^ 27)
  fltRequest (wrF s (canReg n 0x20) 16 16 ver) n

/-! ## Reception (R464, R465, R472) -/

/-- A receive element's words (R464). -/
def rxWords (s : Dev) (n : Nat) (f : CanFrame) (fidx : Nat) (nm : Bool) (tsc : U32) : List U32 :=
  let len := if f.rtr then 0 else dlcLen f.dlc f.fdf
  let w0 := f.dlc % 16 * 2 ^ 28 + b2n f.fdf * 2 ^ 27 + b2n f.brs * 2 ^ 26 + b2n f.rtr * 2 ^ 25 + b2n f.xtd * 2 ^ 24 +
    fidx * 0x10000 + b2n nm * 0x8000 + b2n f.esi * 0x4000
  [w32 w0, w32 (f.id % 2 ^ 29), tsc, w32 (rdF s (canReg n 0x28) 16 16 * 0x10000)] ++
  bytesToWords ((List.range 64).map (fun i => if i < len then f.data.getD i 0 else 0))

/-- Size, base offset and register block of receive FIFO k. -/
def rxfSize (k : Nat) : Nat := if k = 0 then 64 else 128
def rxfOff (k : Nat) : Nat := if k = 0 then 0x1000 else 0x2400
def rxfReg (n k : Nat) : Nat := canReg n (0x30 + k * 0x10)
def rxfFill (s : Dev) (n k : Nat) : Nat := if k = 0 then (getCan s n).fill0 else (getCan s n).fill1
def setFill (s : Dev) (n k v : Nat) : Dev :=
  let c := getCan s n
  setCan s n (if k = 0 then { c with fill0 := v } else { c with fill1 := v })

/-- Store a frame in FIFO k, or count it lost to a full FIFO (R465). -/
def rxStore (s : Dev) (n k : Nat) (w : List U32) : Dev :=
  let a := rxfReg n k
  let fill := rxfFill s n k
  let z := rxfSize k
  if fill ≥ z then
    let s := if k = 1 then setCan s n { getCan s n with lostTot := (getCan s n).lostTot + 1 } else s
    let s := canIr (bumpReg s (a + 8) 1) n (2 + 2 * k)
    raise s 3 Ev.CAN_RX_LOST (n + k * 0x100 + rdN s (a + 8) % 2 ^ 32 * 2 ^ 32) (n * 2 + k)
  else
    let put := rdF s a 24 7
    let s := stWords s (canRam n + rxfOff k + put * 80) w
    let s := setFill s n k (fill + 1)
    let s := wrN s a (ringStatus ((put + 1) % z) (rdF s a 16 7) (fill + 1) (fill + 1 = z))
    let s := wrN s (canReg n 0x88) (rdN s (canReg n 0x88) + 1)
    countBytes (countEv (canIr s n (1 + 2 * k)) (0x70 + n) 2 1) (0x70 + n) (frameData (fld (w.getD 0 0) 28 4) (bitOf (w.getD 0 0) 27) (bitOf (w.getD 0 0) 25))

/-- Release m elements of FIFO k from GET on; an episode of lost frames ends when there is room (R465). -/
def rxRelease (s : Dev) (n k m : Nat) : Dev :=
  if m = 0 then s
  else
  let a := rxfReg n k
  let z := rxfSize k
  let fill := rxfFill s n k - m
  let s := setFill s n k fill
  let s := wrN s a (ringStatus (rdF s a 24 7) ((rdF s a 16 7 + m) % z) fill false)
  clearCond s 3 Ev.CAN_RX_LOST (n * 2 + k) 0x7F

/-- The lowest receive object that takes a frame (R472). -/
def objTake (s : Dev) (n : Nat) (f : CanFrame) : Option Nat :=
  if f.rtr && !f.fdf then none
  else (List.range 64).find? (fun i =>
    let w0 := ld32 s (objAddr n i)
    decide (w0 / 2 ^ 22 % 4 = 1) && w0 / 2 ^ 24 % 2 == b2n f.xtd &&
    ((w32 f.id ^^^ w32 (ld32 s (objAddr n i + 4) % 2 ^ 29)) &&& w32 (ld32 s (objAddr n i + 8) % 2 ^ 29)) == 0)

/-- Store a frame in object i: DLC, FDF, BRS, TSC and data; FILLED, and OVERWRITE where FILLED stood (R472). -/
def objStore (s : Dev) (n i : Nat) (f : CanFrame) (tsc : U32) : Dev :=
  let a := objAddr n i
  let keep := ld32 s a % 2 ^ 26 
  let s := st32 s a (f.dlc % 16 * 2 ^ 28 + b2n f.fdf * 2 ^ 27 + b2n f.brs * 2 ^ 26 + keep)
  let s := st32 s (a + 12) tsc.toNat
  let len := dlcLen f.dlc f.fdf
  let s := stBytes s (a + 16) ((List.range 64).map (fun j => if j < len then f.data.getD j 0 else 0))
  let r := canReg n (0x98 + i / 32 * 4)
  let s := if rdB s r (i % 32) then wrB s (canReg n (0xA0 + i / 32 * 4)) (i % 32) true else s
  let s := wrN (wrB s r (i % 32) true) (canReg n 0x88) (rdN s (canReg n 0x88) + 1)
  countBytes (countEv (canIr s n 0) (0x70 + n) 2 1) (0x70 + n) (frameData f.dlc f.fdf f.rtr)

/-! ## Confinement (R474, R475) -/

/-- CAN_STATUS for the controller's counters and state: TEC reads 255 while bus-off (R474). `act` is the ACT field. -/
def canStat (s : Dev) (n act : Nat) : Dev :=
  let c := getCan s n
  let est := if c.busoff then 2 else if c.tec ≥ 128 ∨ c.rec_ ≥ 128 then 1 else 0
  let a := canReg n 4
  let keep := rdN s a / 64 % 16 * 64
  wrN s a (keep + b2n (decide (c.rec_ ≥ 128)) * 32 + act * 2 ^ 10 + est * 2 ^ 14 + min c.rec_ 255 * 2 ^ 16 +
    (if c.busoff then 255 else min c.tec 255) * 2 ^ 24)

/-- The ACT field the controller's state gives (R482). -/
def canAct (s : Dev) (n : Nat) : Nat :=
  let c := getCan s n
  if c.recov then 4 else if c.integ then 3 else if c.attempt.isSome then 2 else if c.rx then 1 else 0
def canSync (s : Dev) (n : Nat) : Dev := canStat s n (canAct s n)

/-- Times of the last 60 s. -/
def lastMinute (s : Dev) (l : List Nat) : List Nat := l.filter (fun t => decide (s.uptimeMs < t + 60000))

/-- A bus-off recovery sequence begins, where no more than 3 begin within 60 s (R475); else it waits. -/
def recoveryTry (s : Dev) (n : Nat) : Dev :=
  let c := getCan s n
  let rs := lastMinute s c.recAt
  if !c.busoff || c.recov then s
  else if rs.length < 3 then
    canSync (setCan s n { c with recov := true, recWait := false, recAt := rs ++ [s.uptimeMs] }) n
  else setCan s n { c with recWait := true, recAt := rs }

/-- New counter values: WARN at 96, error passive at 128, bus-off above 255 (R474). -/
def setErr (s : Dev) (n tec rec_ : Nat) : Dev :=
  let c := getCan s n
  let warn := (decide (c.tec < 96) && decide (tec ≥ 96)) || (decide (c.rec_ < 96) && decide (rec_ ≥ 96))
  let wasP := decide (c.tec ≥ 128 ∨ c.rec_ ≥ 128)
  let isP := decide (tec ≥ 128 ∨ rec_ ≥ 128)
  let off := decide (tec > 255)
  let s := setCan s n { c with tec := tec, rec_ := rec_ }
  let s := if warn then canIr s n 10 else s
  let s := if isP && !wasP then raise (canIr s n 11) 3 Ev.CAN_PASSIVE (n + min tec 255 * 0x100 + min rec_ 255 * 0x10000) n else s
  let s := if !isP then clearCond s 3 Ev.CAN_PASSIVE n 0x7F else s
  if off && !c.busoff then
    let offs := lastMinute s c.offAt ++ [s.uptimeMs]
    let s := setCan s n { getCan s n with busoff := true, offAt := offs, attempt := none }
    let s := raise (canIr s n 12) 3 Ev.CAN_BUSOFF (n + min offs.length 255 * 0x100) n
    let s := canSync s n
    if canSupervised s n then s else recoveryTry s n
  else canSync s n

/-! ## Cancellation (R470) -/


/-- The element is queued, or the object's SEND is set. -/
def elemQueued (s : Dev) (n buf i : Nat) : Bool :=
  if buf = 3 then rdB s (canReg n (0x90 + i / 32 * 4)) (i % 32) else (txbQueued s n buf).contains i

/-- An element or object leaves without a frame, at once or when the event FIFO has room (R469). -/
def leaveNoFrame (s : Dev) (n buf i outcome : Nat) : Dev :=
  if evTight s n then
    let c := getCan s n
    setCan s n { c with evWait := c.evWait ++ [(buf, i, outcome)] }
  else holdCheck (leaveElem s n buf i outcome 0) n

/-- A cancel of element or object i: withdrawn, or late once an attempt of it has won arbitration (R470). `winNow` says that
the attempt in progress has completed its arbitration field as winner in this clock cycle or before. -/
def cancelElem (s : Dev) (n buf i : Nat) (winNow : Bool) : Dev :=
  if !elemQueued s n buf i || cancelPending s n buf i then s
  else
    let c := getCan s n
    let isHead := decide (buf = 3 ∨ (txbQueued s n buf).head? = some i)
    let h := getHead s n buf i
    let inAtt := match c.attempt with
      | some a => a.buf == buf && a.idx == i
      | none => false
    if isHead && (h.won || (inAtt && winNow)) then
      setHead s n buf i { h with late := true, won := true }
    else if inAtt then leaveNoFrame (canSync (setCan s n { c with attempt := none, rx := true }) n) n buf i 2
    else leaveNoFrame s n buf i 2

/-- Everything queued leaves FLUSHED (R477, R483). -/
def flushAll (s : Dev) (n : Nat) : Dev :=
  let s := setCan s n { getCan s n with attempt := none, rx := false, cycWait := [] }
  let s := forN s 3 (fun s k => forL s (txbQueued s n k) (fun s i => leaveNoFrame s n k i 4))
  forL s ((List.range 64).filter (fun i => rdB s (canReg n (0x90 + i / 32 * 4)) (i % 32))) (fun s i => leaveNoFrame s n 3 i 4)

/-- P3's cancel of an element or object. Whether an attempt in progress has won its arbitration by then is a free value (R470; Log 99). -/
def cancelOpen (s : Dev) (n buf i : Nat) : Dev :=
  if (getCan s n).attempt.any (fun a => a.buf == buf && a.idx == i) && !(getHead s n buf i).won then
    let (k, s) := takeNat s 2
    cancelElem s n buf i (k == 1)
  else cancelElem s n buf i false

/-- P3's writes to controller n enter its release buffer (R455); a cancel only of what is queued. -/
def canAsk (s : Dev) (n : Nat) (w : CanOp) : Dev :=
  match w with
  | .cancel buf i => if elemQueued s n buf i then emit s 3 (.canOp n w) else s
  | _ => emit s 3 (.canOp n w)
/-- A cancel of P3's for a profile element of controller n waits for its release. -/
def cancelAsked (s : Dev) (n : Nat) : Bool :=
  ((getPair s 3).redo ++ (getPair s 3).rel).any (fun e => match e.eff with
    | .canOp m (.cancel buf i) => m == n && (decide (buf < 2) || (buf == 3 && decide (i < 2)))
    | _ => false)

/-- P3 cancels the profile frames not yet sent on controller n, in the buffers named (R471). -/
def cancelProfile (s : Dev) (n : Nat) (urgentToo : Bool) : Dev :=
  if canObject s n then
    let s := canAsk (setCan s n { getCan s n with cycWait := [] }) n (.cancel 3 1)
    if urgentToo then canAsk s n (.cancel 3 0) else s
  else
    let s := forL s (txbQueued s n 1) (fun s i => canAsk s n (.cancel 1 i))
    if urgentToo then forL s (txbQueued s n 0) (fun s i => canAsk s n (.cancel 0 i)) else s

/-- Profile elements of controller n whose cancellation has not reported its outcome (R469, R471). -/
def profileBusy (s : Dev) (n : Nat) : Bool :=
  let c := getCan s n
  cancelAsked s n || c.evWait.any (fun e => e.1 == 0 || e.1 == 1 || (e.1 == 3 && decide (e.2.1 < 2))) ||
  [0, 1].any (fun k => (txbQueued s n k).any (fun i => (txbQueued s n k).head? == some i && (getHead s n k i).late) ||
    (elemQueued s n 3 k && (getHead s n 3 k).late))

/-! ## Queueing (R467, R472) -/

/-- A released frame enters transmit buffer k, or object buf - 4 (R467, R472). A full buffer takes none: its CAN_TX is answered
ST_BUSY. -/
def canEnqueue (s : Dev) (n buf : Nat) (w : List U32) (cmd : Option HostCmd) : Dev :=
  let busy := fun (s : Dev) => match cmd with
    | some c => answer s OP_CAN_TX c ST_BUSY
    | none => s
  if buf < 3 then
    let put := txbPut s n buf
    let z := txbSize buf
    if (put + 1) % z = txbGet s n buf then busy s
    else
      let s := stWords s (txbElem n buf put) (w ++ List.replicate (18 - w.length) 0)
      let s := txbSync s n buf (txbGet s n buf) ((put + 1) % z)
      let s := match cmd with
        | some c => setCan s n { getCan s n with waits := (getCan s n).waits ++ [{ cmd := c, buf := buf, idx := put }] }
        | none => s
      holdCheck s n
  else
    let i := buf - 4
    if rdB s (canReg n (0x90 + i / 32 * 4)) (i % 32) then
      if i = 1 ∧ isPcs s n then setCan s n { getCan s n with cycWait := (getCan s n).cycWait ++ [w] } else busy s
    else
      let s := match cmd with
        | some c => setCan s n { getCan s n with waits := (getCan s n).waits ++ [{ cmd := c, buf := 3, idx := i }] }
        | none => s
      holdCheck (objLoad s n i w) n

/-! ## Settings (R463, R476, R483) -/

/-- On a PCS controller in OBJECT mode, objects 2 and 3 receive PCS_FEEDBACK and PCS HEARTBEAT (R472). -/
def objSetup (s : Dev) (n : Nat) : Dev :=
  if canObject s n && isPcs s n then
    forL s [2, 3] (fun s i =>
      let s := st32 s (objAddr n i) (2 ^ 22 + b2n (parB s 0x5084) * 2 ^ 24)
      let s := st32 s (objAddr n i + 4) ((par s 0x5083 + 6 + i) % 2 ^ 29)
      st32 s (objAddr n i + 8) (2 ^ 29 - 1))
  else s

/-- Restricted operation follows its parameter from the next bit on, and holds through a message-RAM error (R476, R477). -/
def canRestrict (s : Dev) (n : Nat) : Dev :=
  let was := canRestricted s n
  let rst := canPar s n 6 == 1 || (getCan s n).reinit
  let s := wrB (setCan s n { getCan s n with restCommit := canPar s n 6 == 1 }) (canReg n 0) 4 rst
  let s := if rst != was then modeChange s 3 6 (b2n !rst) n else s
  let s := if rst && !was then raise (canIr s n 9) 3 Ev.CAN_RESTRICTED n n else s
  if !rst && was then clearCond s 3 Ev.CAN_RESTRICTED n 0x7F else s

/-- The committed bit timing, format, confinement, buffer mode or enable is not the one in force (R483). -/
def canDiffers (s : Dev) (n : Nat) : Bool :=
  canPar s n 2 != rdN s (canReg n 8) || canPar s n 3 / 2 ^ 13 * 2 ^ 13 != rdN s (canReg n 0xC) || canPar s n 1 != canFormat s n ||
  (canPar s n 5 == 1) != canSupervised s n || (canPar s n 7 == 1) != canObject s n || (canPar s n 0 != 0) == rdB s (canReg n 0) 7

/-- The controller takes its committed settings: bit timing, format, confinement and buffer mode; it
leaves INIT and rejoins after 11 recessive bits (R483). Elements leave FLUSHED when the buffer mode changes. -/
def canApply (s : Dev) (n : Nat) : Dev :=
  let c0 := rd s (canReg n 0)
  let obj := canPar s n 7 == 1
  let sup := canPar s n 5 == 1
  let s := wrB s (canReg n 0) 7 true
  let s := if obj != bitOf c0 6 then flushAll s n else s
  let s := wrN (wrN (wrN s (canReg n 8) (canPar s n 2)) (canReg n 0xC) (canPar s n 3 / 2 ^ 13 * 2 ^ 13)) (canReg n 0x10) ((w32 (canPar s n 4) &&& 0x803F007F#32).toNat)
  let s := wrB (wrB s (canReg n 0) 6 obj) (canReg n 0) 5 sup
  let s := wrF s (canReg n 0) 2 2 (canPar s n 1)
  let s := if sup != bitOf c0 5 then modeChange s 3 5 (b2n sup) n else s
  let s := if obj != bitOf c0 6 then modeChange s 3 7 (b2n obj) n else s
  let s := objSetup s n
  let on := canPar s n 0 != 0
  let s := wrB s (canReg n 0) 7 (!on)
  canSync (setCan s n { getCan s n with initDue := false, attempt := none, integ := on }) n

/-- A commit changed the settings: those that need INIT apply at the end of the frame in progress (R483). -/
def canReconfigure (s : Dev) (n : Nat) : Dev :=
  let s := wrN (canRestrict s n) (canReg n 0x10) ((w32 (canPar s n 4) &&& 0x803F007F#32).toNat)
  if !canDiffers s n then s
  else if canBusy s n then setCan s n { getCan s n with initDue := true } else canApply s n

/-- The frame in progress ends; a change that waited for the frame's end is made, and a filter swap that waited (R462, R483). -/
def endAttempt (s : Dev) (n : Nat) : Dev :=
  let s := canSync (setCan s n { getCan s n with attempt := none, rx := false }) n
  let s := if rdB s (canReg n 0x28) 1 then fltSwap s n else s
  if (getCan s n).initDue then canApply s n else s

/-- P3 reinitializes a controller after a message-RAM error; its RAM is rewritten once every flushed element has its event (R469,
R477). -/
def canReinit (s : Dev) (n : Nat) : Dev :=
  let s := wrB s (canReg n 0) 7 true
  let s := if rdB s (canReg n 0x28) 1 then fltSwap s n else s
  let s := if (getCan s n).evWait.isEmpty then flushAll s n else s
  if !(getCan s n).evWait.isEmpty then s
  else
  let s := clearMem (clearMem s (canRam n) 0x6280) (canRam n + 0x6880) 0x1400
  let s := objSetup s n
  let s := setCan s n { getCan s n with fill0 := 0, fill1 := 0, reinit := false, rebuild := false }
  let s := clearCond (clearCond s 3 Ev.CAN_RX_LOST (n * 2) 0x7F) 3 Ev.CAN_RX_LOST (n * 2 + 1) 0x7F
  let s := wrN (wrN s (rxfReg n 0) 0) (rxfReg n 1) 0
  let s := fltBuild s n
  let keep := (getCan s n).restCommit
  let s := wrB (wrB s (canReg n 0) 4 keep) (canReg n 0) 7 false
  let s := if keep then s else modeChange (clearCond s 3 Ev.CAN_RESTRICTED n 0x7F) 3 6 1 n
  canSync (setCan s n { getCan s n with integ := true }) n

/-- Resume a suspended buffer; its count starts again at 0 (R478). -/
def resumeBuf (s : Dev) (n k : Nat) : Dev :=
  if !txbSusp s n k then s
  else
    let c := getCan s n
    let h := Tbl.get {} c.heads k
    let s := setCan s n { c with susp := nput c.susp k false, heads := Tbl.set {} c.heads k { h with clash := 0 } }
    clearCond (txbSync s n k (txbGet s n k) (txbPut s n k)) 3 Ev.CAN_ID_CLASH (n * 4 + k) 0x7F
/-- Resume every suspended object (R478). -/
def resumeObjs (s : Dev) (n : Nat) : Dev :=
  let c := getCan s n
  let hs := (List.range 64).foldl (fun t i =>
    if nbit c.suspObj i then Tbl.set {} t (4 + i) { Tbl.get {} t (4 + i) with clash := 0 } else t) c.heads
  let s' := setCan s n { c with suspObj := 0, heads := hs }
  if c.suspObj = 0 then s else clearCond s' 3 Ev.CAN_ID_CLASH (n * 4 + 3) 0x7F

/-- The resume that a CAN_TX_RESUME word names: bits [2:0] buffers, bit [3] every object (R478, R482). -/
def canResume (s : Dev) (n : Nat) (v : U32) : Dev :=
  let s := if bitOf v 0 then resumeBuf s n 0 else s
  let s := if bitOf v 1 then resumeBuf s n 1 else s
  let s := if bitOf v 2 then resumeBuf s n 2 else s
  if bitOf v 3 then resumeObjs s n else s

end Sys2Proof.Machine
end

