-- ==== Sys2Proof/Machine/Profile.lean ====
section
/-!
DEFINITION. Sys2Proof/Machine/Profile.lean: the frames of the PCS profile and how P3 sends them (spec 07 R225 to R228,
15 R471, R472).
-/
namespace Sys2Proof.Machine

/-- The cluster runs; own index; index i is configured (14 R452). -/
def clOn (s : Dev) : Bool := parB s 0xB001
def ownIdx (s : Dev) : Nat := par s 0xB003
def configured (s : Dev) (i : Nat) : Bool := nbit (par s 0xB004 + par s 0xB005 * 2 ^ 32) i
/-- A HELLO from index i arrived within the last 3 cycles (14 R437). -/
def present (s : Dev) (i : Nat) : Bool := let m := getMem s i; m.at_ != 0 && decide (cycSince s (m.at_ - 1) ≤ 2)
/-- Configured indices in the view, and in the configuration (14 R439). -/
def viewCount (s : Dev) : Nat := ((List.range 64).filter (fun i => configured s i && present s i)).length
def memberCount (s : Dev) : Nat := ((List.range 64).filter (configured s)).length
def quorumOk (s : Dev) : Bool := par s 0xB008 == 1 || decide (2 * viewCount s > memberCount s)

/-- The device sends on its PCS controllers: DEVICE, or CLUSTER while it is the head (R227). -/
def publishes (s : Dev) : Bool :=
  par s 0x5080 == 0 || (par s 0x5080 == 1 && clOn s && s.cl.head == some (ownIdx s))

/-- Words 0 and 1 of a profile frame's element, an FD frame with bit-rate switching (R225, R466). -/
def profileHead (s : Dev) (off dlc : Nat) : List U32 :=
  [w32 (dlc * 2 ^ 28 + 3 * 2 ^ 26 + b2n (parB s 0x5084) * 2 ^ 24), w32 ((par s 0x5083 + off) % 2 ^ 29)]

/-- DLC of a payload length (R466). -/
def dlcFor (len : Nat) : Nat :=
  if len ≤ 8 then len else if len ≤ 12 then 9 else if len ≤ 16 then 10 else if len ≤ 20 then 11 else if len ≤ 24 then 12
  else if len ≤ 32 then 13 else if len ≤ 48 then 14 else 15

/-- A profile frame for controller n: cyclic frames go to TXB1 or object 1, urgent ones to TXB0 or object 0; none to a controller in
restricted operation (R225, R226, R471, R472), and none from a head without quorum (14 R439). -/
def profileTo (s : Dev) (n off : Nat) (urgent : Bool) (words : List U32) : Dev :=
  if canRestricted s n || (par s 0x5080 == 1 && !quorumOk s) then s
  else emit s 3 (.can n ((if urgent then 0 else 1) + (if canObject s n then 4 else 0)) (profileHead s off (dlcFor (4 * words.length)) ++ words) none)
/-- P3 queues a profile frame on both PCS controllers (R225). -/
def sendProfile (s : Dev) (off : Nat) (urgent : Bool) (words : List U32) : Dev :=
  if !publishes s then s else forL s (pcsCtls s) (fun s n => profileTo s n off urgent words)

/-- ALIVE of the next frame of a type, the k-th of that type in this publication (R226, R471). -/
def aliveNow (s : Dev) (off k : Nat) : Nat := (Tbl.get 0 s.lim.alive off + k) % 256

/-- A profile frame's words with its ALIVE (R225, R226). -/
def withAlive (off v : Nat) (words : List U32) : List U32 :=
  let i := aliveByte off / 4
  words.set i (putFld (words.getD i 0) (8 * (aliveByte off % 4)) 8 v)

/-- Frames by offset, each with the ALIVE it goes out with: one type's frames carry rising values (R226, R471). -/
def aliveFrames (s : Dev) (l : List (Nat × List U32)) : List (Nat × List U32) :=
  l.zipIdx.map (fun e => (e.1.1, withAlive e.1.1 (aliveNow s e.1.1 ((l.take e.2).filter (fun f => f.1 == e.1.1)).length) e.1.2))

/-- Frames that wait are queued once every cancellation on the PCS controllers has reported its outcome, and take their ALIVE then
(R471). -/
def flushProfile (s : Dev) : Dev :=
  if s.lim.defer.isEmpty || (pcsCtls s).any (profileBusy s) then s
  else
    let l := s.lim.defer
    let fr := aliveFrames s (l.map (·.2))
    let now := l.zip fr
    let s := { s with lim := { s.lim with defer := [] } }
    forL s now (fun s e => sendProfile s e.2.1 e.1.1 e.2.2)

/-- P3 sends profile frames, urgent or cyclic; cyclic ones take the place of any that still wait (R226, R471). -/
def sendFrames (s : Dev) (urgent : Bool) (l : List (Nat × List U32)) : Dev :=
  let old := if urgent then s.lim.defer else s.lim.defer.filter (·.1)
  flushProfile { s with lim := { s.lim with defer := old ++ l.map (fun e => (urgent, e)) } }

/-- After a reinitialization P3 queues the current publication again on controller n, in order (R481). -/
def requeue (s : Dev) (n : Nat) : Dev :=
  if publishes s && (pcsCtls s).contains n then forL s (aliveFrames s s.lim.queued) (fun s e => profileTo s n e.1 false e.2) else s

/-- Some CLOSED string is UNEXCITED and injection is enabled (R160, R228). -/
def injWanted (s : Dev) : Bool :=
  parB s 0x4008 && (List.range 128).any (fun i => (getStr s i).st == .sClosed && nbit (ld16 s (0x20DD8000 + i * 16 + 4)) 1)

/-- RAMP_REQUEST as it stands now (R228, R282). -/
def rampWords (s : Dev) : List U32 :=
  let r := s.lim.ramp
  let inj := injWanted s
  let gone := s.uptimeMs - r.since
  let dl := if r.kind = 0 then 0 else par s 0x700B - gone
  [w32 (r.kind + r.cls * 0x100 + aliveNow s 0 0 * 0x10000 + b2n inj * 0x1000000), w32 r.target,
   w32 (dl + (if inj then par s 0x4009 / 10 else 0) * 0x10000), w32 r.event]

/-- The urgent RAMP_REQUEST of an F3 reaction: any unsent one is cancelled first (R228, R471). -/
def urgentRamp (s : Dev) : Dev :=
  if !pairUp s 3 then s
  else
    let base := par s 0x5083
    let s := forL s (pcsCtls s) (fun s n =>
      let ramp := fun (w1 : U32) => fld w1 0 29 == base
      if canObject s n then
        let s := setCan s n { getCan s n with cycWait := (getCan s n).cycWait.filter (fun w => !ramp (w.getD 1 0)) }
        if ramp ((elemWords s n 3 1).getD 1 0) then canAsk s n (.cancel 3 1) else s
      else forL s ((txbQueued s n 1).filter (fun i => ramp ((elemWords s n 1 i).getD 1 0))) (fun s i => canAsk s n (.cancel 1 i)))
    if publishes s then sendFrames s true [(0, rampWords s)] else s

/-- P3's released write to controller n takes effect; frames that waited for a cancel's outcome follow (R455, R471). -/
def canOpTake (s : Dev) (n : Nat) (w : CanOp) : Dev :=
  match w with
  | .build => fltBuild s n
  | .settle => canReconfigure s n
  | .cancel buf i => flushProfile (cancelOpen s n buf i)
  | .resume v => canResume s n v
  | .recover => recoveryTry s n

end Sys2Proof.Machine
end

