-- ==== Sys2Proof/Machine/StringOps.lean ====
section
/-!
DEFINITION. Sys2Proof/Machine/StringOps.lean: shared operations on strings, SEOs and the safe-state latch: contactor
commands, the opening sequence, the controlled route, locks and welds, and the reactions of the fault classes
(spec 09 R264 to R293, 10 R299, R311, R312, R316, 18 R544 to R546).
-/
namespace Sys2Proof.Machine

/-! ## What the acquisition holds of a string -/

/-- Valid unit-map entries: (index, word 0, word 1) (R119). -/
def umapList (s : Dev) : List (Nat × U32 × U32) :=
  (s.regs.filter (fun e => decide (ACQ_UMAP ≤ e.1) && decide (e.1 < ACQ_UMAP + 65024) && decide ((e.1 - ACQ_UMAP) % 8 = 0) && bitOf e.2 31)).map
    (fun e => ((e.1 - ACQ_UMAP) / 8, e.2, rd s (e.1 + 4)))
/-- Ring, address and unit of a unit-map index. -/
def umapRing (i : Nat) : Nat := i / 254
def umapAddr (i : Nat) : Nat := i % 254 / 2 + 1
def umapUnit (i : Nat) : Nat := i % 2
def umapIdx (ring addr unit : Nat) : Nat := ring * 254 + (addr - 1) * 2 + unit

/-- The string units of the map: (string, unit-map index) (R264). -/
def suList (s : Dev) : List (Nat × Nat) :=
  ((umapList s).filter (fun e => bitOf e.2.1 30)).map (fun e => (fld e.2.1 23 7, e.1))
/-- The unit-map index of a string's unit. -/
def suOf (s : Dev) (x : Nat) : Option Nat := ((suList s).find? (fun e => e.1 == x)).map (·.2)
/-- The configured strings, in rising order (R264). -/
def confStrs (s : Dev) : List Nat := let l := (suList s).map (·.1); (List.range 128).filter (fun x => l.contains x)

/-- The newest closed slot (R123). -/
def newestSlot (s : Dev) : Option Nat := if rdB s ACQ_HIST_HEAD 3 then some (rdF s ACQ_HIST_HEAD 0 3) else none
/-- A word of a slot's header (R123). -/
def slotWord (s : Dev) (k i : Nat) : U32 := rd s (ACQ_HIST_SLOT + k * 16 + i * 4)
def slotTag (s : Dev) (k : Nat) : Nat := fld (slotWord s k 1) 0 4
/-- λ of a slot (R153). -/
def slotLam (s : Dev) (k : Nat) : Nat := (2 * (slotWord s k 3).toNat + fld (slotWord s k 1) 15 1) % 2 ^ 32

/-- A string's entry in slot k (R125), and whether it belongs to the slot's snapshot and is valid (R122, R125). -/
def strEnt (k x : Nat) : Nat := 0x20DA8000 + k * 0x1000 + x * 32
def strValid (s : Dev) (k x : Nat) : Bool :=
  let f := ld16 s (strEnt k x + 0xE)
  nbit f 15 && f % 16 == slotTag s k
/-- Current, mA; string-side and bus-side voltage, 50 mV; status word. -/
def strCur (s : Dev) (k x : Nat) : Int := Params.toS32 (ld32 s (strEnt k x))
def strVs (s : Dev) (k x : Nat) : Nat := ld16 s (strEnt k x + 8)
def strVb (s : Dev) (k x : Nat) : Nat := ld16 s (strEnt k x + 0xA)
def strStatus (s : Dev) (k x : Nat) : Nat := ld16 s (strEnt k x + 0xC)
/-- ΔV, 50 mV (R264). -/
def strDv (s : Dev) (k x : Nat) : Int := (strVs s k x : Int) - strVb s k x
/-- Auxiliary contacts of a status word, as a coil mask: the manual's bits [4:2] (R86). -/
def auxOf (st : Nat) : Nat := st / 4 % 8

/-- The newest slot, counting back from the newest closed one, with a valid entry of string x. -/
def newestEntry (s : Dev) (x : Nat) : Option Nat :=
  match newestSlot s with
  | none => none
  | some k => ((List.range 8).map (fun i => (k + 8 - i) % 8)).find? (fun j => bitOf (slotWord s j 1) 10 && strValid s j x)
/-- |I| of the newest valid entry, mA (R288). -/
def strCurNow (s : Dev) (x : Nat) : Nat :=
  match newestEntry s x with
  | some k => (strCur s k x).natAbs
  | none => 0

/-! ## Contactors (R266, R267, R281) -/

/-- Coil masks. -/
abbrev coilMP : Nat := 4
abbrev coilMN : Nat := 2
abbrev coilPC : Nat := 1
/-- Contactor number of a mask bit in an event: 0 MP, 1 MN, 2 PC (R297). -/
def ctNum (bit : Nat) : Nat := if bit = coilMP then 0 else if bit = coilMN then 1 else 2
/-- A mask with the bits of another taken out. -/
def maskOut (m b : Nat) : Nat := m - (m &&& b)
/-- The breaking pole of a string and the other one (R281). -/
def breakPole (s : Dev) (x : Nat) : Nat := if par s (0x7200 + x) = 0 then coilMP else coilMN
def otherPole (s : Dev) (x : Nat) : Nat := if par s (0x7200 + x) = 0 then coilMN else coilMP
/-- The SEO and the bus of a string. -/
def seoOf (s : Dev) (x : Nat) : Nat := par s (0x7180 + x)
def busOf (s : Dev) (x : Nat) : Nat := par s (0x7100 + x)

/-- PRECHARGING, JOINING, CLOSED or OPENING (R269). -/
def connected (s : Dev) (x : Nat) : Bool :=
  match (getStr s x).st with
  | .sPrecharging => true
  | .sJoining => true
  | .sClosed => true
  | .sOpening => true
  | _ => false
/-- The connected strings. -/
def connStrs (s : Dev) : List Nat := (s.strs.map (·.1)).filter (connected s)

/-- An event that ends a STRING_CONNECT on string x is recorded with the session that asked for it (R382, R504). -/
def askedNote (s : Dev) (x ev arg : Nat) : Dev :=
  let a := s.actor
  let s := note { s with actor := (getStr s x).asked } 0 ev arg
  setStr { s with actor := a } x { getStr s x with asked := 0xF }

/-- A contactor-class exchange with string x's unit enters P0's release buffer (R266, R95). -/
def suExchange (s : Dev) (x opcode : Nat) (args : List Nat) : Dev :=
  match suOf s x with
  | none => s
  | some i => emit s 0 (.ring (umapRing i) (.cmd { pair := 0, addr := umapAddr i, unit := umapUnit i, opcode := opcode, args := args, who := .contactor x }))

/-- P0 commands the whole coil state of a string; the next command waits for the RESP to the one before (R266). -/
def issueCoils (s : Dev) (x mask : Nat) : Dev :=
  let t := getStr s x
  match t.cmdOut with
  | some _ => setStr s x { t with want := some mask }
  | none => suExchange (setStr s x { t with cmdOut := some mask }) x 0x40 [mask]

/-- The coil state last asked for. -/
def coilsAsked (t : Str) : Nat := match t.want with | some w => w | none => t.cmdOut.getD t.coils

/-! ## Locks, welds (R284, R285, R287) -/

/-- A retained save is brought forward (R204, R287). -/
def saveSoon (s : Dev) : Dev := { s with pwr := { s.pwr with saveDue := true } }

/-- The string enters LOCKED_OUT with its cause (R285, R293). -/
def lockStr (s : Dev) (x ev : Nat) : Dev :=
  let t := getStr s x
  let s := setStr s x { t with st := .sLockedOut, conn := .none, opn := .none, lockEvt := ev, lockCyc := snapId s, loaded := false, rClass := 0, rLock := false, failed := false }
  saveSoon (raise s 0 Ev.STRING_LOCKOUT (x + ev * 2 ^ 32) x)

/-- The string enters WELD_SUSPECT (R284). -/
def weldStr (s : Dev) (x : Nat) : Dev :=
  let t := getStr s x
  let both := (t.welds &&& 6) == 6
  saveSoon (setStr s x { t with st := .sWeldSuspect, conn := .none, opn := .none, lockEvt := if both then Ev.WELD_BOTH else Ev.WELD_SUSPECT, lockCyc := snapId s, loaded := false, rClass := 0, rLock := false, failed := false })

/-- F4 events whose locks are all gone leave force (R545). -/
def settleF4 (s : Dev) : Dev :=
  { s with inForce := s.inForce.filter (fun e =>
      !(Ev.cls e.code == 4 && !e.once && !((List.range 128).any (fun x => (getStr s x).st == .sLockedOut && (getStr s x).lockEvt == e.code ||
        (connected s x && (getStr s x).rLock && (getStr s x).rEvent == e.code))))) }

/-- A lock or weld is released: the string is OPEN (R269, R285, R286). -/
def unlockStr (s : Dev) (x : Nat) : Dev :=
  let s := setStr s x { getStr s x with st := .sOpen, welds := 0, lockEvt := 0, lockCyc := 0, attempts := [], relAsked := false, relN := 0 }
  let s := post s 0 Ev.STRING_UNLOCK x
  let s := clearCond s 0 Ev.STRING_LOCKOUT x x
  let s := forL s [0, 1, 2] (fun s c => clearCond s 0 Ev.WELD_SUSPECT (x * 4 + c) x)
  settleF4 (saveSoon s)

/-! ## Wear (R288) -/

/-- Contactors of a string that stand at a wear limit, by number. -/
def wornList (s : Dev) (x : Nat) : List Nat :=
  let t := getStr s x
  let n := par s 0x7010
  let h := par s 0x7011
  [0, 1, 2].filter (fun c =>
    if c = 0 then decide (t.opsMP ≥ n) || decide (t.brkMP.getD 2 0 ≥ h)
    else if c = 1 then decide (t.opsMN ≥ n) || decide (t.brkMN.getD 2 0 ≥ h)
    else decide (t.opsPC ≥ n))
/-- A wear limit is reached: EV_CONTACTOR_WEAR, once per episode, with the contactor at its limit: `c`, just counted, where it is one. -/
def wearCheck (s : Dev) (x c : Nat) : Dev :=
  let t := getStr s x
  let l := wornList s x
  let s1 := setStr s x { t with wearEp := !l.isEmpty }
  if l.isEmpty || t.wearEp then s1 else note s1 0 Ev.CONTACTOR_WEAR (x + (if l.contains c then c else l.headD 0) * 0x100)

/-- A confirmed closing of contactor bit b. -/
def countClose (s : Dev) (x b : Nat) : Dev :=
  let t := getStr s x
  let t := if b = coilMP then { t with opsMP := t.opsMP + 1 } else if b = coilMN then { t with opsMN := t.opsMN + 1 } else { t with opsPC := t.opsPC + 1 }
  wearCheck (setStr s x t) x (ctNum b)

/-- One more in a band of a break table. -/
def bumpBand (l : List Nat) (i : Nat) : List Nat := (List.range 3).map (fun j => l.getD j 0 + if j = i then 1 else 0)

/-- One break of main pole b at a current, mA. -/
def countBreak (s : Dev) (x b cur : Nat) : Dev :=
  let t := getStr s x
  let lim := par s 0x700A * 1000
  let band := if cur ≤ lim then 0 else if cur ≤ 4 * lim then 1 else 2
  let t := { t with brkMax := max t.brkMax (cur / 100) }
  let t := if b = coilMP then { t with brkMP := bumpBand t.brkMP band } else { t with brkMN := bumpBand t.brkMN band }
  let s := setStr s x t
  let s := if cur > lim then note s 0 Ev.BREAK_UNDER_LOAD (x + ctNum b * 0x100 + cur / 100 * 2 ^ 32) else s
  wearCheck s x (ctNum b)

/-- The breaks of an ended opening, by pole (R288). -/
def recordBreaks (s : Dev) (x : Nat) : Dev :=
  let t := getStr s x
  let bp := breakPole s x
  forL s ([coilMP, coilMN].filter (fun b => (t.openedM &&& b) == b)) (fun s b =>
    let cur := if t.bothTake || b == bp || (t.welds &&& bp) == bp then t.brkCur else 0
    countBreak s x b cur)

/-! ## Device state from string states (R291) -/

/-- P0 derives the device state. -/
def deriveState (s : Dev) (cause : Nat) : Dev :=
  if !(s.dev == .standby || s.dev == .connecting || s.dev == .connected || s.dev == .disconnecting) then s
  else
    let l := connStrs s
    let has := fun (st : StrState) => l.any (fun x => (getStr s x).st == st)
    let s := if l.isEmpty then { s with saf := { s.saf with devOpen := false } } else s
    let d : DevState :=
      if (s.saf.devOpen && !l.isEmpty) || (!l.isEmpty && l.all (fun x => (getStr s x).st == .sOpening)) then .disconnecting
      else if has .sClosed then .connected
      else if has .sPrecharging || has .sJoining then .connecting
      else .standby
    setDev s 0 d cause

/-! ## Opening (R281, R283) -/

/-- The opening sequence's first command: the breaking pole and PC open (R281). Without `load` it is "open all": no pole takes a
current, and the string has not been OPENING (R269). -/
def openSeq (s : Dev) (x : Nat) (load : Bool) : Dev :=
  let t := getStr s x
  let cur := if load then strCurNow s x else 0
  let s := setStr s x { t with st := .sOpening, conn := .none, opn := .first, brkCur := cur, bothTake := false, asOpen := load, openedM := 0, inLine := false, joinOk := 0, gapDue := false }
  issueCoils s x (maskOut (coilsAsked t) (breakPole s x + coilPC))

/-- A string's SEO has been de-energized: its coils are commanded open in one command, and both poles break its current; one that an
opening under way has taken already stays (R283, R288). -/
def seoDropStr (s : Dev) (x : Nat) : Dev :=
  let t := getStr s x
  let fresh := t.opn == .none || t.opn == .rampWait
  let cur := if fresh || !t.asOpen then strCurNow s x else t.brkCur
  let s := setStr s x { t with st := .sOpening, conn := .none, opn := .seoDrop, brkCur := cur, bothTake := true, asOpen := true,
                               openedM := if fresh then 0 else t.openedM, inLine := false, joinOk := 0, gapDue := false }
  issueCoils { s with saf := { s.saf with rampStr := s.saf.rampStr.filter (fun y => y != x) } } x 0

/-- RAMP_REQUEST returns to NONE when no string is being opened any more (R282). -/
def rampEnd (s : Dev) : Dev :=
  if s.lim.ramp.kind = 1 ∧ (connStrs s).all (fun x => (getStr s x).st != .sOpening) then
    { s with lim := { s.lim with ramp := {}, rampCyc := 0 } }
  else s

/-- Every contactor of an opening string is confirmed open or weld suspect (R269, R279, R284, R285). -/
def openingEnd (s : Dev) (x : Nat) : Dev :=
  let s := recordBreaks s x
  let t := getStr s x
  let cause := t.rEvent
  let now := s.uptimeMs
  let att := if t.failed then (t.attempts.filter (fun a => decide (now < a + 3600000))) ++ [now] else t.attempts
  let t1 := { t with attempts := att, polling := false, unconf := 0, brkCur := t.brkCur }
  let s := setStr s x t1
  let s :=
    if t.welds ≠ 0 then weldStr s x
    else
      let s := if t.asOpen then post s 0 Ev.STRING_OPENED (x + t.brkCur / 100 * 2 ^ 32) else s
      if t.rLock then lockStr s x t.rEvent
      else if t.failed ∧ att.length ≥ par s 0x700F then lockStr s x t.rEvent
      else setStr s x { getStr s x with st := .sOpen, opn := .none, conn := .none, loaded := false, rClass := 0, failed := false }
  rampEnd (deriveState s cause)

/-! ## Safe energize outputs (R290, R299, R311, R312, R315) -/

def getSeo (s : Dev) (n : Nat) : Seo := Tbl.get {} s.saf.seo n
def setSeo (s : Dev) (n : Nat) (x : Seo) : Dev := { s with saf := { s.saf with seo := Tbl.set {} s.saf.seo n x } }
def latched (s : Dev) : Bool := rdB s SAF_STATUS 0
/-- No latch, lock, TRIP_F4 demand or fast-overcurrent trip holds SEO n (R311). -/
def seoFree (s : Dev) (n : Nat) : Bool :=
  !latched s && !rdB s SAF_SEO_HOLD n && !rdB s SAF_SEO_HOLD (8 + n) && !rdB s SAF_SEO_HOLD (16 + n)
def seoOn (s : Dev) (n : Nat) : Bool := rdB s SAF_SEO_STATE (24 + n)

/-- Bus contactors by FBK input. -/
def getBus (s : Dev) (n : Nat) : BusC := Tbl.get {} s.bus n
def setBus (s : Dev) (n : Nat) (b : BusC) : Dev := { s with bus := Tbl.set {} s.bus n b }
/-- FBK inputs that watch a contactor, of a bus and of an SEO (R289). -/
def fbkUsed (s : Dev) (n : Nat) : Bool := par s (0x7300 + n) != 0
def fbkOfBus (s : Dev) (b : Nat) : List Nat := (List.range 16).filter (fun n => fbkUsed s n && par s (0x7320 + n) == b)
def fbkOfSeo (s : Dev) (q : Nat) : List Nat := (List.range 16).filter (fun n => fbkUsed s n && par s (0x7310 + n) == q)

/-- Both channels of SEO n go on or off; its readbacks follow, and the strings and bus contactors it powers are told
(R283, R290, R311). -/
def seoSwitch (s : Dev) (n : Nat) (on : Bool) : Dev :=
  let q := getSeo s n
  let s := setSeo s n { q with changed := s.uptimeMs + 1, waitOn := false }
  let s := wrB (wrB (wrB s SAF_SEO_STATE (24 + n) on) SAF_SEO_STATE (8 + n) on) SAF_SEO_STATE (16 + n) on
  let s := match q.pulse with
    | some chB => if on then s else post (wrB s SAF_STATUS 10 true) 0 Ev.SEO_TEST_INT (n + b2n chB * 0x100)
    | none => s
  let s := if on then s else setSeo s n { getSeo s n with nextB := false }
  let s := forL s (fbkOfSeo s n) (fun s f => setBus s f { getBus s f with timer := (getBus s f).closed != on, wantClosed := on })
  if on || !pairUp s 0 then s else forL s ((connStrs s).filter (fun x => seoOf s x == n && (getStr s x).opn != .seoDrop)) seoDropStr

/-- SEO n follows its request, its holds and the latch; a hold or latch clears the request (R311, R312), and an energize
waits for the end of a test pulse (R315). -/
def seoFollow (s : Dev) (n : Nat) : Dev :=
  let s := if seoFree s n then s else wrB s SAF_SEO_REQ n false
  let want := rdB s SAF_SEO_REQ n
  if want = seoOn s n then s
  else if want && (getSeo s n).pulse.isSome then setSeo s n { getSeo s n with waitOn := true }
  else seoSwitch s n want
def seoFollowAll (s : Dev) : Dev := forN s 8 seoFollow

/-- P0's request word, as released (R311). -/
def seoRequest (s : Dev) (v : Nat) : Dev :=
  let old := rdN s SAF_SEO_REQ
  let s := wrN s SAF_SEO_REQ (v % 256)
  let s := forN s 8 (fun s n => if nbit old n != nbit v n then setSeo s n { getSeo s n with changed := s.uptimeMs + 1 } else s)
  seoFollowAll s

/-- A bus contactor of bus b is needed: a string of the bus has left OPEN and is not locked, or waits to leave it (R289). -/
def busNeeded (s : Dev) (b : Nat) : Bool :=
  s.strs.any (fun e => busOf s e.1 == b && (connected s e.1 || e.2.conn == .waitBus))
/-- What P0 requests of SEO n (R290, R299). -/
def seoWanted (s : Dev) (n : Nat) : Bool :=
  !(getSeo s n).held && seoFree s n &&
  (s.strs.any (fun e => seoOf s e.1 == n && (connected s e.1 || e.2.conn == .waitBus)) || (fbkOfSeo s n).any (fun f => busNeeded s (par s (0x7320 + f))))
/-- The request word as P0 last issued it: the last one that waits in its release buffer, else the register's (R22, R27). -/
def seoAsked (s : Dev) : Nat :=
  let q := getPair s 0
  (q.redo ++ q.rel).foldl (fun acc e => match e.eff with
    | .seo v => v
    | _ => acc) (rdN s SAF_SEO_REQ)
/-- P0 makes its requests, through its release buffer (R290, R327). -/
def seoRequests (s : Dev) : Dev :=
  if !pairUp s 0 then s
  else
    let s := forN s 8 (fun s n =>
      if (getSeo s n).held && !((connStrs s).any (fun x => seoOf s x == n)) then setSeo s n { getSeo s n with held := false } else s)
    let v := packBits (seoWanted s) 8
    if v = seoAsked s then s else emit s 0 (.seo v)
/-- P0 de-energizes SEO n, behind what it has issued before, and keeps it off until its strings are open (R27, R280, R299). -/
def seoBackOff (s : Dev) (n : Nat) : Dev :=
  let s1 := setSeo s n { getSeo s n with held := true }
  if nbit (seoAsked s) n then emit s1 0 (.seo (nput (seoAsked s) n false)) else s1

/-! ## The safe-state latch (R316, R318) -/

/-- The latch is set: every SEO goes off at once; P0 opens, locks and enters SAFE_HOLD, and commands the coils of every string open; in
BOOT no ring carries a command yet, and enumeration opens every coil (R97, R316). -/
def setLatch (s : Dev) (ev : Nat) : Dev :=
  let s := wrB s SAF_STATUS 0 true
  let s := { s with saf := { s.saf with latchEvt := ev } }
  let s := if pairUp s 0 then
      forL s (connStrs s) (fun s x => setStr s x { getStr s x with rClass := 5, rEvent := ev, rLock := true })
    else s
  let s := seoFollowAll s
  if !pairUp s 0 then s
  else
    let s := if s.pwr.booting then s else forL s ((confStrs s).filter (fun x => !connected s x)) (fun s x => issueCoils s x 0)
    let s := forL s (connStrs s) (fun s x => if (getStr s x).opn == .seoDrop then s else seoDropStr s x)
    let s := forL s (confStrs s) (fun s x => if (getStr s x).st == .sOpen then lockStr s x ev else s)
    if s.dev == .service || s.dev == .boot || s.dev == .off || s.dev == .hibernate then s
    else setDev s 0 .safeHold ev

/-! ## Weld suspicion (R284) -/

/-- P0 acts on an F5 event of its own: SAF_CTRL.SAFE is written through its release buffer (R13, R316). -/
def safeP0 (s : Dev) (ev : Nat) : Dev := emit s 0 (.safe ev)

/-- The contactors of `mask` of string x are weld suspect. Both main poles suspect give EV_WELD_BOTH, an F5, in place of
EV_WELD_SUSPECT (R284). -/
def weldFound (s : Dev) (x mask : Nat) : Dev :=
  let t := getStr s x
  let new := maskOut (mask &&& 7) t.welds
  if new = 0 then s
  else
    let l := [coilMP, coilMN, coilPC].filter (fun b => (new &&& b) == b)
    let w := t.welds + new
    let both := (w &&& 6) == 6 && (new &&& 6) != 0
    let s := saveSoon (setStr s x { t with welds := w, weldCnt := t.weldCnt + l.length })
    let s := forL s (if both then l.filter (· == coilPC) else l) (fun s b => raise s 0 Ev.WELD_SUSPECT (x + ctNum b * 0x100) (x * 4 + ctNum b))
    if both then safeP0 (raise s 0 Ev.WELD_BOTH x x) Ev.WELD_BOTH else s

/-! ## The controlled route (R215, R282) -/

/-- RSUM of a string in units of 2^-48 Ω, when its reducer entry is VALID (R212). -/
def rsum (s : Dev) (x : Nat) : Option Nat :=
  let a := 0x20DDE000 + x * 64
  if nbit (ld16 s (a + 0x2E)) 0 then
    let v := ffixN (w32 (ld32 s (a + 0x18))) 48
    if v = 0 then none else some v
  else none
/-- G of a string, in units of 2^-32 S; 0 without a valid entry. -/
def gOf (s : Dev) (x : Nat) : Nat := match rsum s x with | some r => 2 ^ 80 / r | none => 0
/-- The shares of strings that carry the device current together, with 32 fraction bits (R215). -/
def shareOf (s : Dev) (l : List Nat) (x : Nat) : Nat :=
  let sg := (l.map (gOf s)).foldl (· + ·) 0
  let cur := fun y => match newestEntry s y with | some k => (strCur s k y).natAbs | none => 0
  let si := (l.map cur).foldl (· + ·) 0
  let meas := decide (si * 100 ≥ 5 * (l.length * par s 0x5003 * 1000)) && si != 0
  let g := if sg = 0 then 0 else gOf s x * 2 ^ 32 / sg
  if sg = 0 ∧ !meas then (if l.length = 0 then 0 else 2 ^ 32 / l.length)
  else if meas then max g (cur x * 2 ^ 32 / si) else g

/-- Strings of the controlled route in progress carry |I| at most string.break_a in slot k (R282). -/
def routeReleased (s : Dev) : Bool :=
  match newestSlot s with
  | none => false
  | some k => s.saf.rampStr.all (fun x => strValid s k x && decide ((strCur s k x).natAbs ≤ par s 0x700A * 1000))
/-- The opening sequence of every string of the route starts (R282). -/
def routeStart (s : Dev) : Dev :=
  let l := s.saf.rampStr
  forL { s with saf := { s.saf with rampStr := [] } } l (fun s x => if (getStr s x).opn == .rampWait then openSeq s x true else s)
/-- The release condition, judged at a decision and at every snapshot (R282). -/
def routeCheck (s : Dev) : Dev := if !s.saf.rampStr.isEmpty && routeReleased s then routeStart s else s

/-- The controlled route begins for strings that carry load: class 0 for a command, 3 for a reaction (R228, R282). -/
def routeBegin (s : Dev) (l : List Nat) (cls ev : Nat) : Dev :=
  if l.isEmpty then s
  else
    let on := (connStrs s).filter (fun x => (getStr s x).loaded && ((getStr s x).opn == .none || (getStr s x).opn == .rampWait))
    let all := s.saf.rampStr ++ l
    let sh := (all.map (shareOf s on)).foldl max 0
    let tgt := if sh = 0 then 0 else par s 0x700A * 10 * 2 ^ 32 / sh
    let since := if s.saf.rampStr.isEmpty then s.uptimeMs else s.saf.rampAt
    let r := s.lim.ramp
    let gov : Nat × Nat := if s.saf.rampStr.isEmpty ∨ r.cls < cls then (cls, ev) else (r.cls, r.event)
    let s := { s with saf := { s.saf with rampStr := all, rampAt := since },
                      lim := { s.lim with ramp := { kind := 1, cls := gov.1, target := tgt, event := gov.2, since := since } } }
    let s := forL s l (fun s x => setStr s x { getStr s x with st := .sOpening, opn := .rampWait, conn := .none, inLine := false })
    routeCheck (if cls = 0 then s else urgentRamp s)

/-! ## Reactions (R278, R279, R544) -/

/-- A reaction's class, event and lock on a string; a lower class never replaces a higher one (R278). -/
def setReact (s : Dev) (x cls ev : Nat) (lock : Bool) : Dev :=
  let t := getStr s x
  if cls < t.rClass then s
  else if cls = t.rClass ∧ (t.rLock || !lock) then s
  else setStr s x { t with rClass := cls, rEvent := ev, rLock := lock }

/-- An F3 reaction on strings: the controlled route, or at once where no load is carried yet (R544). -/
def react3 (s : Dev) (ev : Nat) (l : List Nat) (devWide : Bool) : Dev :=
  if !pairUp s 0 then s
  else
    let conn := l.filter (connected s)
    let s := if devWide && !conn.isEmpty then { s with saf := { s.saf with devOpen := true } } else s
    let route := conn.filter (fun x => (getStr s x).loaded && (getStr s x).opn == .none)
    let s := forL s conn (fun s x =>
      let t := getStr s x
      if t.opn == .none || t.opn == .rampWait then setReact s x 3 ev false else s)
    let s := forL s (conn.filter (fun x => !(getStr s x).loaded && (getStr s x).opn == .none)) (fun s x => openSeq s x false)
    let s := if conn.any (fun x => (getStr s x).opn == .rampWait) && s.lim.ramp.cls < 3 && route.isEmpty then
        urgentRamp { s with lim := { s.lim with ramp := { s.lim.ramp with cls := 3, event := ev } } }
      else s
    deriveState (routeBegin s route 3 ev) ev

/-- An F4 reaction: the opening sequence at once; `lock` names the strings that end LOCKED_OUT (R279, R544). -/
def react4 (s : Dev) (ev : Nat) (l : List Nat) (lock : Nat → Bool) (devWide : Bool) : Dev :=
  if !pairUp s 0 then s
  else
    let conn := l.filter (connected s)
    let s := if devWide && !conn.isEmpty then { s with saf := { s.saf with devOpen := true } } else s
    let s := forL s conn (fun s x =>
      let t := getStr s x
      let s := setReact s x 4 ev (lock x)
      let s := { s with saf := { s.saf with rampStr := s.saf.rampStr.filter (fun y => y != x) } }
      if t.opn == .none || t.opn == .rampWait then openSeq s x t.loaded else s)
    let s := forL s (l.filter (fun x => lock x && (getStr s x).st == .sOpen && (suOf s x).isSome)) (fun s x => lockStr s x ev)
    deriveState s ev

/-- An event without a persisting condition, on its scope: in force for the cycle of its logging (R545). -/
def noteAt (s : Dev) (p ev arg scope : Nat) : Dev :=
  let s := post s p ev arg
  { s with inForce := s.inForce ++ [{ code := ev, scope := scope, once := true }] }

/-- An F3 event: its record, then its reaction. `once` marks an event without a persisting condition (R545). -/
def fault3 (s : Dev) (p ev arg scope : Nat) (once : Bool) (l : List Nat) (devWide : Bool) : Dev :=
  if !once && inForceB s ev scope then s
  else react3 (if once then noteAt s p ev arg scope else raise s p ev arg scope) ev l devWide

/-- An F4 event: its record, then its reaction; it stays in force while a string it locked is locked (R545). -/
def fault4 (s : Dev) (p ev arg scope : Nat) (l : List Nat) (lock : Nat → Bool) (devWide : Bool) : Dev :=
  if inForceB s ev scope then s
  else
    let locks := l.any (fun x => lock x && (connected s x || ((getStr s x).st == .sOpen && (suOf s x).isSome)))
    react4 (if locks then raise s p ev arg scope else noteAt s p ev arg scope) ev l lock devWide

/-- An F5 event: its record, in force until SAFETY_RESET, and the latch (R545). -/
def fault5 (s : Dev) (p ev arg : Nat) : Dev := setLatch (raise s p ev arg devScope) ev

/-- An F3 to F5 event in force, or a reaction pending, covers string x (R546). -/
def reactionOn (s : Dev) (x : Nat) : Bool :=
  (getStr s x).rClass ≥ 3 ||
  s.inForce.any (fun e => decide (Ev.cls e.code ≥ 3) &&
    (if e.code = Ev.FOC_TRIP ∨ e.code = Ev.FOC_TEST then nbit (par s (0x3130 + e.scope % 16)) (seoOf s x)
     else if e.code = Ev.SIN_TRIP_F3 ∨ e.code = Ev.SIN_TRIP_F4 then nbit (par s (0x8170 + e.scope % 16)) (seoOf s x)
     else if e.code = Ev.SEO_DROP ∨ e.code = Ev.SEO_STUCK then e.scope % 8 == seoOf s x
     else if e.code = Ev.SU_CMD_FAIL then seoOf s (e.scope % 128) == seoOf s x
     else if e.code = Ev.BUS_DROP then par s (0x7320 + e.scope % 16) == busOf s x
     else e.scope == devScope || e.scope == x))

end Sys2Proof.Machine
end

