-- ==== Sys2Proof/Machine/Strings.lean ====
section
/-!
DEFINITION. Sys2Proof/Machine/Strings.lean: contactor feedback, pre-charge, joining, opening, bus contactors, and the string
opcodes (spec 09, 13 R411 to R414).
-/
namespace Sys2Proof.Machine

/-! ## Contactor steps -/

/-- A connect attempt fails: "open all", and a failed attempt is counted when the opening ends (R269, R285). -/
def connFail (s : Dev) (x ev : Nat) : Dev :=
  let t := getStr s x
  let pre := t.st == .sPrecharging || t.passed5
  let s := setStr s x { t with failed := true, rEvent := ev, pcFail := t.pcFail + b2n pre }
  deriveState (openSeq s x false) ev
/-- EV_PRECHARGE_FAIL with its reason, then the failed attempt (R269, R272). -/
def preFail (s : Dev) (x reason : Nat) : Dev := connFail (askedNote s x Ev.PRECHARGE_FAIL (x + reason * 2 ^ 32)) x Ev.PRECHARGE_FAIL

/-- The string is CLOSED (R269). Strings waiting on its bus have their timers restarted (R277). -/
def closedStr (s : Dev) (x : Nat) : Dev :=
  let t := getStr s x
  let s := setStr s x { t with st := .sClosed, conn := .none, passed1 := false, passed5 := false, joinOk := 0, inLine := false }
  deriveState (askedNote s x Ev.STRING_CLOSED x) 0

/-- MP is commanded closed: from here the string carries load (R269). -/
def closeMP (s : Dev) (x : Nat) : Dev :=
  let t := getStr s x
  issueCoils (setStr s x { t with conn := .joinMP, loaded := true }) x ((coilsAsked t &&& 3) + coilMP)
/-- MN is commanded closed, with ΔV₀ taken from the last snapshot (R272). -/
def closeMN (s : Dev) (x : Nat) (c : ConnPhase) : Dev :=
  let t := getStr s x
  let dv := match newestEntry s x with | some k => strDv s k x | none => t.dv0
  issueCoils (setStr s x { t with conn := c, dv0 := dv }) x ((coilsAsked t &&& 5) + coilMN)

/-- Another string of the bus is pre-charging, or between its MP close command and CLOSED (R277). -/
def busBusy (s : Dev) (x : Nat) : Bool :=
  s.strs.any (fun e => e.1 != x && busOf s e.1 == busOf s x &&
    (e.2.st == .sPrecharging || (e.2.st == .sJoining && (e.2.conn == .joinMP || e.2.conn == .joinPC))))

/-- The command's contactors are all confirmed: the string's sequence goes on (R269, R272, R281). A string whose MN is closed waits on
while its bus is taken (R277). -/
def phaseDone (s : Dev) (x : Nat) : Dev :=
  let t := getStr s x
  if t.unconf ≠ 0 ∨ t.cmdOut.isSome ∨ t.want.isSome then s
  else
    match t.opn with
    | .second => openingEnd s x
    | .seoDrop => openingEnd s x
    | .openAll => openingEnd s x
    | .first => s
    | .gap => s
    | .rampWait => s
    | .none =>
      match t.conn with
      | .closePC => if parB s 0x700D then setStr s x { t with conn := .weldTest, watch := 0 } else closeMN s x .closeMN
      | .closeMN => setStr s x { t with conn := .tau1, t0 := s.uptimeMs * 1000 }
      | .joinMN => if busBusy s x then setStr s x { t with conn := .joinWait } else closeMP s x
      | .joinMP =>
        if nbit t.coils 0 then issueCoils (setStr s x { t with conn := .joinPC }) x 6 else closedStr s x
      | .joinPC => closedStr s x
      | _ => s

/-- The RESP to a CONTACTOR_SET: the command is executed (R266, R267). -/
def contactorSet (s : Dev) (x st : Nat) : Dev :=
  let t := getStr s x
  match t.cmdOut with
  | none => s
  | some m =>
    let ch := (t.coils ^^^ m) &&& 7
    let t1 := { t with coils := m, cmdOut := none, unconf := t.unconf ||| ch, aux := auxOf st, polling := (t.unconf ||| ch) != 0 }
    match t.want with
    | some w => issueCoils (setStr s x { t1 with want := none }) x w
    | none => phaseDone (setStr s x (if t1.opn == .first then { t1 with opn := .gap, gapDue := true } else t1)) x

/-- A CONTACTOR_READ answered: contactors whose auxiliary contact matches their coil are confirmed (R267, R288). -/
def contactorRead (s : Dev) (x st : Nat) : Dev :=
  let t := getStr s x
  let a := auxOf st
  let ok := [4, 2, 1].filter (fun b => (t.unconf &&& b) == b && (a &&& b) == (t.coils &&& b))
  let m := ok.foldl (· + ·) 0
  let opened := (ok.filter (fun b => b != coilPC && (t.coils &&& b) == 0)).foldl (· + ·) 0
  let s := setStr s x { t with aux := a, unconf := t.unconf - m, polling := t.unconf != m, openedM := t.openedM ||| opened }
  let s := forL s (ok.filter (fun b => (t.coils &&& b) == b)) (fun s b => countClose s x b)
  if m = 0 then s else phaseDone s x

/-- A contactor exchange has failed after its retries: EV_SU_CMD_FAIL; P0 de-energizes the string's SEO (R279, R280). The
failing string ends LOCKED_OUT, the others of the SEO OPEN. A failed CONTACTOR_READ leaves a CONTACTOR_SET that is outstanding so (R266). -/
def contactorFailed (s : Dev) (x : Nat) (set : Bool) : Dev :=
  let t := getStr s x
  let n := seoOf s x
  let s := setStr s x { t with cmdOut := if set then none else t.cmdOut, want := none }
  let l := (confStrs s).filter (fun y => seoOf s y == n)
  fault4 (seoBackOff s n) 0 Ev.SU_CMD_FAIL (x + n * 0x1000) x l (fun y => y == x) false

/-- Every 2 ms after a coil change P0 reads the string unit, until every changed contactor matches (R267). -/
def contactorPoll (x : Nat) (s : Dev) : Dev :=
  if pairUp s 0 && (getStr s x).polling && (getStr s x).cmdOut.isNone then suExchange s x 0x41 [] else s

/-- string.fb_ms has passed since the RESP: contactors of `mask` not confirmed have failed to follow (R267, R269, R284). -/
def contactorFbTimeout (x mask : Nat) (s : Dev) : Dev :=
  let t := getStr s x
  let m := t.unconf &&& mask &&& 7
  if !pairUp s 0 || m = 0 then s
  else
    let s := setStr s x { t with unconf := t.unconf - m, polling := t.unconf != m }
    let bad := [4, 2, 1].filter (fun b => (m &&& b) == b)
    let s := weldFound s x (maskOut m t.coils)
    if t.conn != .none ∧ (getStr s x).opn == .none then
      let c := ctNum (bad.headD 4)
      if t.st == .sPrecharging then preFail s x 7
      else connFail (askedNote s x Ev.CONTACTOR_FB (x + c * 0x100)) x Ev.CONTACTOR_FB
    else phaseDone s x

/-- string.pole_gap_ms after the first RESP, the other main pole is commanded open (R281). -/
def poleGapExpiry (x : Nat) (s : Dev) : Dev :=
  let t := getStr s x
  if pairUp s 0 && t.opn == .gap && t.gapDue then issueCoils (setStr s x { t with opn := .second, gapDue := false }) x 0 else s

/-- string.ramp_ms has passed since the decision: the release condition holds (R282). -/
def rampTimeout (s : Dev) : Dev := if pairUp s 0 then routeStart s else s

/-! ## Joining (R276, R277) -/

/-- The string waits in JOINING. -/
def waiting (t : Str) : Bool := t.st == .sJoining && (t.conn == .joinWait || t.conn == .joinMN)
/-- First in line on its bus: no lower-numbered string of the bus is waiting; the string that has pre-charged the bus needs none to stand
back (R277, Log 117). -/
def firstInLine (s : Dev) (x : Nat) : Bool :=
  waiting (getStr s x) &&
  ((getStr s x).passed5 || !(s.strs.any (fun e => decide (e.1 < x) && busOf s e.1 == busOf s x && waiting e.2)))
/-- It is the string's turn: first in line, with no string of the bus that has pre-charged it still to be CLOSED, and the bus free (R277). -/
def joinTurn (s : Dev) (x : Nat) : Bool :=
  firstInLine s x && !busBusy s x && !(s.strs.any (fun e => e.1 != x && busOf s e.1 == busOf s x && waiting e.2 && e.2.passed5))

/-- The join rule in slot k (R276). -/
def joinRule (s : Dev) (k x : Nat) : Bool :=
  let dv := (strDv s k x).natAbs
  match rsum s x with
  | none => false
  | some r =>
    let l := (connStrs s).filter (fun y => (getStr s y).st == .sClosed && busOf s y == busOf s x)
    let sg := (l.map (gOf s)).foldl (· + ·) 0
    let rb := if sg = 0 then 0 else 2 ^ 80 / sg
    let rt := r + rb + par s 0x7007 * 2 ^ 48 / 1000000
    strValid s k x && decide (dv ≤ par s 0x7005 * 2) && decide (dv * 5 * 2 ^ 48 ≤ par s 0x7006 * 100 * rt)

/-- A waiting string in a snapshot: its count of snapshots that meet the rule, and its turn (R269, R277). -/
def joinSnapshot (s : Dev) (k x : Nat) : Dev :=
  let t := getStr s x
  if !(t.st == .sJoining && t.conn == .joinWait) then s
  else
    let n := if joinRule s k x then t.joinOk + 1 else 0
    let s := setStr s x { t with joinOk := n, inLine := firstInLine s x }
    if n ≥ 2 ∧ joinTurn s x then
      if nbit t.coils 1 then closeMP s x else closeMN s x .joinMN
    else s

/-- string.join.wait_s has passed while first in line, without the join rule (R269, R276, R277). -/
def joinWaitTimeout (x : Nat) (s : Dev) : Dev :=
  let t := getStr s x
  if pairUp s 0 && t.conn == .joinWait && firstInLine s x && decide (t.joinOk < 2) then
    let dv := match newestEntry s x with | some k => (strDv s k x).natAbs / 2 | none => 0
    connFail (askedNote s x Ev.JOIN_TIMEOUT (x + dv * 2 ^ 32)) x Ev.JOIN_TIMEOUT
  else s

/-- 10τ have passed since t₀ and the join rule is not met (R272). -/
def prechargeDurationTimeout (x : Nat) (s : Dev) : Dev :=
  let t := getStr s x
  if pairUp s 0 && t.opn == .none && (t.conn == .tau1 || t.conn == .tau5 || (t.conn == .joinWait && t.passed5 && t.joinOk == 0)) then preFail s x 6
  else s

/-! ## Pre-charge at a snapshot (R272 to R274) -/

/-- Energy that enters R_pc at a snapshot n half periods after the one before, mJ: ΔV² / R_pc × n × Th while PC and MN are
closed (R274). -/
def eaccAdd (s : Dev) (k x n : Nat) : Nat :=
  let both := strValid s k x && (auxOf (strStatus s k x) &&& 3) == 3
  let dv := (strDv s k x).natAbs
  if both then dv * dv * 25 * n * 500000 / (par s 0x7002 * freqNow s) else 0
/-- The resistor energy after that snapshot: decayed by e^(−n × Th / r_tau_s), and the energy added (R274). -/
def eaccStep (s : Dev) (k x n : Nat) : Nat :=
  (getStr s x).eacc * expNeg (n * 500000) (freqNow s * par s 0x7004) / 2 ^ 64 + eaccAdd s k x n

/-- The pre-charge checks of a snapshot whose window's midpoint is at local time `tUs` (R272, R273). -/
def prechargeSnapshot (s : Dev) (k x tUs : Nat) : Dev :=
  let t := getStr s x
  if t.opn != .none then s
  else if (t.conn == .tau1 || t.conn == .tau5 || (t.conn == .joinWait && t.passed5)) && decide (t.eacc > par s 0x7003 * 1000) then preFail s x 5
  else if !strValid s k x then s
  else
    let dv := (strDv s k x).natAbs
    let d0 := t.dv0.natAbs
    let tau := par s 0x7001 * 1000
    match t.conn with
    | .weldTest =>
      if strVb s k x ≥ t.vbusPC + par s 0x700E * 2 then preFail (weldFound s x coilMN) x 1
      else if t.watch + 1 ≥ 2 then closeMN (setStr s x { t with watch := 2 }) x .closeMN
      else setStr s x { t with watch := t.watch + 1 }
    | .tau1 =>
      if tUs < t.t0 + tau then s
      else if dv * 100 > d0 * 45 then preFail s x 2
      else if dv * 100 < d0 * 20 then
        if (auxOf (strStatus s k x) &&& coilMP) = coilMP then connFail (weldFound s x coilMP) x Ev.WELD_SUSPECT else preFail s x 3
      else setStr s x { t with conn := .tau5, passed1 := true }
    | .tau5 =>
      if tUs < t.t0 + 5 * tau then s
      else if dv * 100 ≤ d0 * 2 ∨ dv ≤ par s 0x7005 * 2 then
        deriveState (setStr s x { t with st := .sJoining, conn := .joinWait, passed5 := true, joinOk := 0 }) 0
      else preFail s x 4
    | _ => s

/-! ## Contactor status at a snapshot (R268, R287, R286) -/

/-- A contactor of the string is in movement: a command is out or due, or a change unconfirmed, or an opening runs (R268, Log 116). -/
def moving (t : Str) : Bool := t.cmdOut.isSome || t.want.isSome || t.unconf != 0 || !(t.opn == .none || t.opn == .rampWait)

/-- Outside a movement, the status word is compared with the commanded coils, contactor by contactor: what stands in two consecutive
snapshots is a finding (R268); in the first snapshot after enumeration one is enough (R287). A weld found while the string is OPEN or
LOCKED_OUT changes its state, one found while it pre-charges or joins ends that (R269, R284). -/
def statusCheck (s : Dev) (k x : Nat) : Dev :=
  let t := getStr s x
  if !strValid s k x then s
  else
    let st := strStatus s k x
    let a := auxOf st
    let link := nbit st 0 && !t.linkBit
    let s := setStr s x { t with linkBit := nbit st 0 }
    if link then fault4 s 0 Ev.RING_SU_LINKLOSS (match suOf s x with | some i => umapRing i + umapAddr i * 256 | none => 0) x [x] (fun _ => true) false
    else if moving t then setStr s x { getStr s x with dropN := 0, weldN := 0 }
    else
      let drop := (maskOut t.coils a) &&& 6
      let weld := maskOut (maskOut a t.coils) t.welds
      let dropped := drop &&& t.dropN
      let welded := if t.firstChk then weld else weld &&& t.weldN
      let s := setStr s x { getStr s x with dropN := drop, weldN := weld, firstChk := false }
      let s := if nbit st 11 then fault4 s 0 Ev.COIL_FAULT (x + st / 256 % 8 * 0x1000) x [x] (fun _ => true) false else s
      let s := if dropped ≠ 0 ∧ !nbit st 0 then
          fault4 s 0 Ev.CONTACTOR_DROP (x + (if (dropped &&& 4) = 4 then 0 else 1) * 0x100) x [x] (fun _ => true) false
        else s
      if welded = 0 then s
      else
        let s := weldFound s x welded
        let u := getStr s x
        if u.st == .sOpen || u.st == .sLockedOut then weldStr s x
        else if u.conn != .none && u.opn == .none then connFail s x (if (u.welds &&& 6) = 6 then Ev.WELD_BOTH else Ev.WELD_SUSPECT)
        else s

/-- A weld release in a snapshot: two consecutive snapshots with every contact open release it (R286). -/
def weldSnapshot (s : Dev) (k x : Nat) : Dev :=
  let t := getStr s x
  if !t.relAsked then s
  else if strValid s k x && auxOf (strStatus s k x) == 0 then
    if t.relN + 1 ≥ 2 then unlockStr s x else setStr s x { t with relN := t.relN + 1 }
  else setStr s x { t with relAsked := false, relN := 0 }

/-- Everything P0 does for string x at a snapshot in slot k, n half periods after the one before (R268 to R277, R286, R287). -/
def stringSnapshot (s : Dev) (k tUs x : Nat) : Dev :=
  let t := getStr s x
  let lam := slotLam s k
  let n := if t.lamAt = 0 then 0 else (lam + 2 ^ 32 - (t.lamAt - 1)) % 2 ^ 32
  let s := setStr s x { t with eacc := eaccStep s k x n, pcE := t.pcE + eaccAdd s k x n, lamAt := lam + 1 }
  let s := statusCheck s k x
  let s := prechargeSnapshot s k x tUs
  joinSnapshot (weldSnapshot s k x) k x

/-! ## Bus contactors (R289, R290) -/

/-- The contactor that FBK input n watches reads closed, by its mode and the accepted level (R289). -/
def fbkClosed (s : Dev) (n : Nat) : Bool := rdB s SAF_FBK n == (par s (0x7300 + n) == 1)
/-- Bus contactor n is weld suspect: EV_BUS_WELD, once (R290). -/
def busWeld (s : Dev) (n : Nat) : Dev :=
  let b := getBus s n
  if b.weld then s else raise (setBus s n { b with weld := true, welds := b.welds + 1 }) 0 Ev.BUS_WELD n n
/-- P0 takes a contactor's position from its level, at the end of BOOT and when a commit changes what the input watches; closed with its
SEO off is a weld (R289, R290). -/
def busDerive (s : Dev) (n : Nat) : Dev :=
  if !fbkUsed s n then s
  else
    let c := fbkClosed s n
    let s := setBus s n { getBus s n with closed := c, timer := false }
    if c && !seoOn s (par s (0x7310 + n)) then busWeld s n else s

/-- An FBK input is accepted at a new level (R289). -/
def fbkInputChange (n : Nat) (high : Bool) (s : Dev) : Dev :=
  let s := wrB s SAF_FBK n high
  if !pairUp s 0 || !fbkUsed s n || s.pwr.booting then s
  else
    let b := getBus s n
    let closed := fbkClosed s n
    let bus := par s (0x7320 + n)
    if closed = b.closed then s
    else
      let s := setBus s n { b with closed := closed, timer := b.timer && b.wantClosed != closed, ops := b.ops + b2n closed }
      if closed && !seoOn s (par s (0x7310 + n)) then busWeld s n
      else if !closed && busNeeded s bus then
        let s := setBus s n { getBus s n with drops := b.drops + 1 }
        fault4 s 0 Ev.BUS_DROP n n ((connStrs s).filter (fun x => busOf s x == bus)) (fun _ => false) false
      else s

/-- Connect attempts that wait for bus b's contactors fail (R290). -/
def busWaitFail (s : Dev) (b : Nat) : Dev :=
  forL s ((s.strs.filter (fun e => e.2.conn == .waitBus && busOf s e.1 == b)).map (·.1)) (fun s x => setStr s x { getStr s x with conn := .none })

/-- string.fb_ms after a change of its SEO, the contactor on FBK input n is not confirmed (R290). -/
def busContactorFbTimeout (n : Nat) (s : Dev) : Dev :=
  let b := getBus s n
  if !pairUp s 0 || !fbkUsed s n || !b.timer then s
  else
    let s := setBus s n { b with timer := false }
    if b.wantClosed then busWaitFail (note s 0 Ev.BUS_FB n) (par s (0x7320 + n))
    else busWeld s n

/-! ## Connecting (R269, R270, R274) -/

/-- Every bus contactor of the bus is confirmed closed (R290). -/
def busReady (s : Dev) (b : Nat) : Bool := (fbkOfBus s b).all (fun f => (getBus s f).closed)

/-- Another string keeps string x from pre-charging the bus itself: one CLOSED, or one that pre-charges it, has pre-charged it, or has
its MP close command in JOINING, after which it is CLOSED (R269, R277). -/
def busLive (s : Dev) (x : Nat) : Bool :=
  s.strs.any (fun e => e.1 != x && busOf s e.1 == busOf s x &&
    (e.2.st == .sClosed || e.2.st == .sPrecharging || (e.2.st == .sJoining && (e.2.loaded || e.2.passed5))))
/-- ΔV of the newest entry of string x, 50 mV; 0 without one. -/
def dvNow (s : Dev) (x : Nat) : Int := match newestEntry s x with | some k => strDv s k x | none => 0

/-- Seconds, rounded up, until E_acc has decayed enough for E_p; 0xFFFF when it never does (R274, R412). -/
def budgetWait (s : Dev) (eacc ep : Nat) : Nat :=
  let room := par s 0x7003 * 1000 - ep
  let fits := fun (t : Nat) => decide (eacc * expNeg t (par s 0x7004) ≤ room * 2 ^ 64)
  (List.range 17).foldl (fun acc i => let b := 2 ^ (16 - i); if acc ≥ b && fits (acc - b) then acc - b else acc) 0xFFFF

/-- Predicted resistor energy, mJ (R274). -/
def predicted (s : Dev) (dv : Int) : Nat := par s 0x7001 * dv.natAbs * dv.natAbs / (80 * par s 0x7002)

/-- A pre-charge of the string would exceed the resistor's budget now (R274). -/
def budgetOver (s : Dev) (x : Nat) : Bool :=
  let dv := dvNow s x
  !busLive s x && decide (dv.natAbs > par s 0x7005 * 2) && decide ((getStr s x).eacc + predicted s dv > par s 0x7003 * 1000)
/-- Seconds until the budget allows it, and the connect refused with EV_PRECHARGE_BUDGET (R270, R274). -/
def budgetRefuse (s : Dev) (x : Nat) : Nat × Dev :=
  let t := getStr s x
  let w := budgetWait s t.eacc (predicted s (dvNow s x))
  (w, note (setStr s x { t with conn := .none }) 0 Ev.PRECHARGE_BUDGET (x + w * 2 ^ 32))

/-- The string leaves OPEN: pre-charging when its bus is dead and |ΔV₀| exceeds V_join, if its resistor's budget allows, else joining (R269,
R274). -/
def leaveOpen (s : Dev) (x : Nat) : Dev :=
  if budgetOver s x then (budgetRefuse s x).2 else
  let t := getStr s x
  let k := newestEntry s x
  let dv := dvNow s x
  let live := busLive s x
  let base := { t with conn := .joinWait, opn := .none, dv0 := dv, passed1 := false, passed5 := false, joinOk := 0, inLine := false, failed := false,
                       rClass := 0, rEvent := 0, rLock := false, loaded := false, coils := 0, unconf := 0, openedM := 0 }
  if !live && decide (dv.natAbs > par s 0x7005 * 2) then
    let vb := match k with | some k => strVb s k x | none => 0
    issueCoils (setStr s x { base with st := .sPrecharging, conn := .closePC, vbusPC := vb }) x coilPC
  else setStr s x { base with st := .sJoining }

/-- Strings that wait for their bus contactors go on when all are closed (R290). -/
def busProgress (s : Dev) : Dev :=
  if !pairUp s 0 then s
  else
    forL s ((s.strs.filter (fun e => e.2.conn == .waitBus)).map (·.1)) (fun s x =>
      if busReady s (busOf s x) && seoOn s (seoOf s x) then deriveState (leaveOpen s x) 0 else s)

/-- Cell monitors of string x: (unit-map index, first cell, cells). -/
def monitorsOf (s : Dev) (x : Nat) : List (Nat × Nat × Nat) :=
  ((umapList s).filter (fun e => !bitOf e.2.1 30 && fld e.2.1 23 7 == x)).map (fun e => (e.1, fld e.2.1 0 16, fld e.2.1 16 5))
/-- Cells of string x. -/
def cellsOf (s : Dev) (x : Nat) : List Nat := (monitorsOf s x).flatMap (fun m => (List.range m.2.2).map (m.2.1 + ·))
/-- A cell's catalogue record, its history entry, and the entry's validity in the slot (R121, R122, R150). -/
def cellRec (c : Nat) : Nat := 0x20000000 + c * 128
def cellHist (k c : Nat) : Nat := 0x20800000 + k * 0x80000 + c * 8
def cellValid (s : Dev) (k c : Nat) : Bool :=
  let w := ld32 s (cellHist k c)
  nbit w 27 && w / 2 ^ 16 % 16 == slotTag s k
def recInUse (s : Dev) (c : Nat) : Bool := nbit (ld32 s (cellRec c + 0x50)) 31
def recFlag (s : Dev) (c b : Nat) : Bool := nbit (ld16 s (cellRec c + 0x42)) b

/-- Some TRIP_F3 input whose mask covers the SEO is in demand (R320). -/
def sinF3Covers (s : Dev) (n : Nat) : Bool :=
  (List.range 16).any (fun i => par s (0x8100 + i) == 1 && rdB s SAF_SIN_DEMAND i && nbit (par s (0x8170 + i)) n)

/-- Every condition of R270, R320, R349 and R546 holds for a connect of string x. -/
def connectOk (s : Dev) (x : Nat) : Bool :=
  let n := seoOf s x
  let t := getStr s x
  t.st == .sOpen && t.conn == .none &&
  (match newestSlot s with
   | none => false
   | some k => strValid s k x && !(monitorsOf s x).isEmpty && (monitorsOf s x).all (fun m => cellValid s k m.2.1)) &&
  (cellsOf s x).all (fun c => recInUse s c && !recFlag s c 6) &&
  !(Tbl.get {} s.thm.str x).tripped && !reactionOn s x && rdB s (ACQ_SCR_EN + x / 32 * 4) (x % 32) &&
  seoFree s n && !((fbkOfBus s (busOf s x)).any (fun f => (getBus s f).weld)) && !sinF3Covers s n && !(t.fbDis && t.fbChg) && !anyLost s

/-- P0 judges and begins a connect of one string: (code, seconds), and the state (R270, R274, R412). A bus contactor that stays open with
its SEO long energized fails the connect at once (R290). -/
def connectOne (s : Dev) (x : Nat) : Nat × Nat × Dev :=
  if (suOf s x).isNone then (ST_NOT_PRESENT, 0, s)
  else if (getStr s x).st == .sClosed then (0, 0, s)
  else if !connectOk s x then (ST_CONFLICT, 0, s)
  else
    let t := getStr s x
    let first := s.strs.any (fun e => e.1 != x && busOf s e.1 == busOf s x && e.2.conn == .waitBus && decide ((dvNow s e.1).natAbs > par s 0x7005 * 2))
    if budgetOver s x && !first then
      let b := budgetRefuse s x
      (ST_BUSY, b.1, b.2)
    else
      let stuck := (fbkOfBus s (busOf s x)).filter (fun f => !(getBus s f).closed && !(getBus s f).timer && seoOn s (par s (0x7310 + f)))
      if !stuck.isEmpty then (ST_CONFLICT, 0, note s 0 Ev.BUS_FB (stuck.headD 0))
      else
        let s := seoRequests (setStr s x { t with conn := .waitBus })
        if !busReady s (busOf s x) then (0, 0, s)
        else if budgetOver s x then (ST_BUSY, (budgetRefuse s x).1, deriveState (leaveOpen s x) 0)
        else (0, 0, deriveState (leaveOpen s x) 0)

/-! ## String opcodes (R411 to R414) -/

/-- Strings named by a mask payload. -/
def maskStrs (c : HostCmd) : List Nat := (List.range 128).filter (fun x => bitOf (pw c (x / 32)) (x % 32))
/-- The reply of R412 from per-string (string, code, seconds), and its overall status. -/
def maskReply (res : List (Nat × Nat × Nat)) : Nat × List U32 :=
  let ok := res.filter (fun r => r.2.1 == 0)
  let mask := fun (w : Nat) => w32 (packBits (fun i => ok.any (fun r => r.1 == w * 32 + i)) 32)
  let code := fun (x : Nat) => match res.find? (fun r => r.1 == x) with | some r => w32 (r.2.1 + r.2.2 * 0x10000) | none => 0xFF
  let st := if ok.length = res.length then ST_OK else if ok.isEmpty then (match res with | r :: _ => r.2.1 | [] => ST_OK) else ST_OK_DEGRADED
  (st, (List.range 4).map mask ++ (List.range 128).map code)

/-- Judge every named string in rising order, carrying the state along. -/
def judgeAll (f : Dev → Nat → Nat × Nat × Dev) (s : Dev) : List Nat → List (Nat × Nat × Nat) × Dev
  | [] => ([], s)
  | x :: t =>
    let r := f s x
    let q := judgeAll f r.2.2 t
    ((x, r.1, r.2.1) :: q.1, q.2)

/-- A mask command whose outcome P0 gives at once (R412). -/
def maskCmd (op : Nat) (len : Nat) (f : Dev → Nat → Nat × Nat × Dev) (c : HostCmd) (s : Dev) : Dev :=
  if c.payload.length ≠ len then answer s op c ST_LENGTH
  else if (maskStrs c).isEmpty then answer s op c ST_BAD_PARAM
  else
    let r := judgeAll f s (maskStrs c)
    let m := maskReply r.1
    finish r.2 op c m.1 m.2

/-- Strings a disconnect took out of this connect before it began (R413). -/
def cutOf (s : Dev) (c : HostCmd) : List Nat := match flightOf s c with | some f => f.cut | none => []

/-- A connect of one string for a session, which its closing or its failure will name (R382); a string taken out before it began is
cancelled (R413). -/
def connectFor (sess : Nat) (cut : List Nat) (s : Dev) (x : Nat) : Nat × Nat × Dev :=
  if cut.contains x then (ST_CANCELLED, 0, s)
  else
    let r := connectOne s x
    if r.1 = 0 ∧ (getStr r.2.2 x).conn ≠ .none then (r.1, r.2.1, setStr r.2.2 x { getStr r.2.2 x with asked := sess }) else r

/-- STRING_CONNECT (R270, R412). -/
def stringConnectBody (c : HostCmd) (s : Dev) : Dev :=
  let cut := cutOf s c
  if s.pwr.hibStep ≠ 0 then answer s OP_STRING_CONNECT c ST_STATE
  else maskCmd OP_STRING_CONNECT 4 (connectFor (if c.sess < 8 then c.sess else 0xF) cut) c s
def stringConnect (c : HostCmd) (s : Dev) : Dev := serve s OP_STRING_CONNECT c (stringConnectBody c)

/-- Waiting connects that name strings of a disconnect (R413). -/
def cutConnects (s : Dev) (l : List Nat) : Dev :=
  forL s (s.host.flight.filter (fun f => f.op == OP_STRING_CONNECT && !f.begun)) (fun s f =>
    let named := maskStrs f.cmd
    if named.any (fun x => l.contains x) then
      if named.all (fun x => l.contains x) then answer s OP_STRING_CONNECT f.cmd ST_CANCELLED
      else updFlight s f.cmd.sess f.cmd.tag (fun g => { g with cut := g.cut ++ named.filter (fun x => l.contains x) })
    else s)

/-- A disconnect of one string: at once where no load is carried yet; otherwise it joins the controlled route (R269, R282). -/
def disconnectOne (s : Dev) (x : Nat) : Nat × Nat × Dev :=
  let t := getStr s x
  if (suOf s x).isNone ∧ !connected s x then (ST_NOT_PRESENT, 0, s)
  else if t.conn == .waitBus then (0, 0, setStr s x { t with conn := .none })
  else if !connected s x || t.opn != .none then (0, 0, s)
  else if t.loaded then (0, 0, s)
  else (0, 0, openSeq s x false)

/-- STRING_DISCONNECT (R282, R412, R413). -/
def stringDisconnectBody (c : HostCmd) (s : Dev) : Dev :=
  if c.payload.length ≠ 4 then answer s OP_STRING_DISCONNECT c ST_LENGTH
  else if (maskStrs c).isEmpty then answer s OP_STRING_DISCONNECT c ST_BAD_PARAM
  else
    let l := maskStrs c
    let s := cutConnects s l
    let conn := connStrs s
    let s := if !conn.isEmpty && conn.all (fun x => l.contains x) then { s with saf := { s.saf with devOpen := true } } else s
    let route := l.filter (fun x => connected s x && (getStr s x).loaded && (getStr s x).opn == .none)
    let r := judgeAll disconnectOne s l
    let s := forL r.2 (l.filter (fun x => conn.contains x)) (fun s x => post s 0 Ev.DISCONNECT_CMD (x + c.sess * 0x100))
    let s := routeBegin s route 0 Ev.DISCONNECT_CMD
    let s := if route.isEmpty then s else urgentRamp s
    let m := maskReply r.1
    finish (deriveState s 0) OP_STRING_DISCONNECT c m.1 m.2
def stringDisconnect (c : HostCmd) (s : Dev) : Dev := serve s OP_STRING_DISCONNECT c (stringDisconnectBody c)

/-- STRING_LOCK of one string: an OPEN string is locked out, one that waits for its bus contactors too (R269, R285). -/
def lockOne (s : Dev) (x : Nat) : Nat × Nat × Dev :=
  if (suOf s x).isNone then (ST_NOT_PRESENT, 0, s)
  else if (getStr s x).st == .sLockedOut then (0, 0, s)
  else if (getStr s x).st == .sOpen then (0, 0, lockStr s x 0)
  else (ST_CONFLICT, 0, s)
def stringLockBody (c : HostCmd) (s : Dev) : Dev := maskCmd OP_STRING_LOCK 4 lockOne c s
def stringLock (c : HostCmd) (s : Dev) : Dev := serve s OP_STRING_LOCK c (stringLockBody c)

/-- A lock that only SAFETY_RESET releases: an F5 event or a safe-input trip (R285). -/
def safetyLock (ev : Nat) : Bool := Ev.cls ev == 5 || ev == Ev.SIN_TRIP_F3 || ev == Ev.SIN_TRIP_F4 || ev == Ev.SIN_TRIP_F5

/-- The cause of a lock holds no more: a voltage or temperature trip when the latest snapshot is inside the screen limits and
TRIPPED is clear (R285). -/
def causeGone (s : Dev) (x : Nat) : Bool :=
  let ev := (getStr s x).lockEvt
  if ev = Ev.SCREEN_TRIP ∨ ev = Ev.SCREEN_OVF ∨ ev = Ev.CELL_OVERTEMP then
    match newestSlot s with
    | none => false
    | some k => !(Tbl.get {} s.thm.str x).tripped && (cellsOf s x).all (fun c => cellValid s k c && ld32 s (cellHist k c) / 2 ^ 22 % 4 == 0)
  else if ev = Ev.COIL_FAULT then (match newestEntry s x with | some k => !nbit (strStatus s k x) 11 | none => false)
  else if ev = Ev.FOC_TRIP then !rdB s SAF_SEO_HOLD (16 + seoOf s x)
  else true

/-- STRING_UNLOCK of one string (R285). -/
def unlockOne (s : Dev) (x : Nat) : Nat × Nat × Dev :=
  let t := getStr s x
  if (suOf s x).isNone then (ST_NOT_PRESENT, 0, s)
  else if t.st == .sWeldSuspect then (ST_CONFLICT, 0, s)
  else if t.st != .sLockedOut then (0, 0, s)
  else if safetyLock t.lockEvt || !causeGone s x then (ST_CONFLICT, 0, s)
  else (0, 0, unlockStr s x)
def stringUnlockBody (c : HostCmd) (s : Dev) : Dev := maskCmd OP_STRING_UNLOCK 4 unlockOne c s
def stringUnlock (c : HostCmd) (s : Dev) : Dev := serve s OP_STRING_UNLOCK c (stringUnlockBody c)

/-- FBK inputs a weld release names, and those it releases: a bus contactor that reads open (R290, R411). -/
def fbkRelease (s : Dev) (c : HostCmd) : Nat × Dev :=
  (List.range 16).foldl (fun (acc : Nat × Dev) n =>
    let b := getBus acc.2 n
    if bitOf (pw c 4) n && b.weld && !b.closed then
      (acc.1 + 2 ^ n, clearCond (setBus acc.2 n { b with weld := false }) 0 Ev.BUS_WELD n 0x7F)
    else acc) (0, s)

/-- The reply to a weld release once every named string is decided (R412). -/
def weldReply (s : Dev) (c : HostCmd) (res : List (Nat × Nat)) : Dev :=
  let r := fbkRelease s c
  let m := maskReply (res.map (fun e => (e.1, e.2, 0)))
  finish r.2 OP_STRING_WELD_RELEASE c m.1 (m.2 ++ [w32 r.1])

/-- STRING_WELD_RELEASE: weld-suspect strings wait for two snapshots (R286). -/
def stringWeldReleaseBody (c : HostCmd) (s : Dev) : Dev :=
  if c.payload.length ≠ 5 then answer s OP_STRING_WELD_RELEASE c ST_LENGTH
  else if (maskStrs c).isEmpty ∨ fld (pw c 4) 16 16 ≠ 0 then answer s OP_STRING_WELD_RELEASE c ST_BAD_PARAM
  else
    let l := maskStrs c
    let wait := l.filter (fun x => (getStr s x).st == .sWeldSuspect)
    let s := forL s wait (fun s x => setStr s x { getStr s x with relAsked := true, relN := 0 })
    let res := l.map (fun x => (x, if (suOf s x).isNone then ST_NOT_PRESENT else if wait.contains x then 0xFFFF else 0))
    if wait.isEmpty then weldReply s c res else { s with host := { s.host with welds := s.host.welds ++ [(c, res)] } }
def stringWeldRelease (c : HostCmd) (s : Dev) : Dev := serve s OP_STRING_WELD_RELEASE c (stringWeldReleaseBody c)

/-- After a snapshot, weld releases whose strings are all decided are answered (R286). -/
def weldAnswers (s : Dev) : Dev :=
  let done := fun (x : Nat) => !(getStr s x).relAsked
  forL { s with host := { s.host with welds := [] } } s.host.welds (fun s e =>
    let res := e.2.map (fun r => (r.1, if r.2 = 0xFFFF ∧ done r.1 then (if (getStr s r.1).st == .sWeldSuspect then ST_CONFLICT else 0) else r.2))
    if res.all (fun r => r.2 != 0xFFFF) then weldReply s e.1 res else { s with host := { s.host with welds := s.host.welds ++ [(e.1, res)] } })

/-- The state code of STRING_READ (R414). -/
def strCode : StrState → Nat
  | .sOpen => 0
  | .sPrecharging => 1
  | .sJoining => 2
  | .sClosed => 3
  | .sOpening => 4
  | .sLockedOut => 5
  | .sWeldSuspect => 6
/-- The wear record of string x, 16 words (R293). -/
def wearWords (s : Dev) (x : Nat) : List U32 :=
  let t := getStr s x
  let lock := if t.st == .sLockedOut then 1 else if t.st == .sWeldSuspect then 2 else 0
  [w32 t.opsMP, w32 t.opsMN, w32 t.opsPC] ++ (t.brkMP ++ t.brkMN).map w32 ++
  [w32 t.brkMax, w32 (t.pcE / 1000), w32 (t.pcE / 1000 / 2 ^ 32), w32 (t.eacc / 1000), w32 (t.pcFail % 65536 + t.weldCnt % 65536 * 65536),
   w32 (lock + t.welds * 0x100 + t.lockEvt * 0x10000), w32 t.lockCyc]
/-- An F2 condition applies to string x (R216). -/
def f2On (s : Dev) (x : Nat) : Bool :=
  s.inForce.any (fun e => Ev.cls e.code == 2 &&
    (if e.code = Ev.CELL_STALE then e.scope == x
     else if e.code = Ev.BAL_STUCK then ld32 s (cellRec e.scope + 0x50) / 2 ^ 24 % 128 == x
     else true))

/-- One STRING_READ entry (R414): the class of a reaction in progress is that of the opening, or 2 while an F2 condition derates the string. -/
def stringReadWords (s : Dev) (x : Nat) : List U32 :=
  let t := getStr s x
  let locked := t.st == .sLockedOut || t.st == .sWeldSuspect
  let att := (t.attempts.filter (fun a => decide (s.uptimeMs < a + 3600000))).length
  [w32 ((if locked then t.lockEvt * 0x10000 else 0) + min att 255 * 0x100 + max t.rClass (if f2On s x then 2 else 0) * 16 + b2n t.loaded * 8 + strCode t.st), w32 (t.eacc / 1000)] ++ wearWords s x
def stringReadBody (c : HostCmd) (s : Dev) : Dev := serveRange s OP_STRING_READ c 128 18 [] (stringReadWords s)
def stringRead (c : HostCmd) (s : Dev) : Dev := serve s OP_STRING_READ c (stringReadBody c)

end Sys2Proof.Machine
end

