-- ==== Sys2Proof/Machine/Ring.lean ====
section
/-!
DEFINITION. Sys2Proof/Machine/Ring.lean: the Salivo link controller: frames, exchanges, enumeration, breaks and dual stub,
joins and leaves (spec 03 R66 to R112; 13 R403, R405). What nodes do is outside the device: their frames arrive as commands.
Latencies are held in units of 0.5 ns.
-/
namespace Sys2Proof.Machine

/-! ## The rings and their frames -/

/-- Ring enabled; its MODE; its stub ends (R109). -/
def ringOn (s : Dev) (n : Nat) : Bool := rdB s (ringReg n 0) 0
def ringMode (s : Dev) (n : Nat) : Nat := rdF s (ringReg n 4) 0 2
def setMode (s : Dev) (n m : Nat) : Dev := wrF s (ringReg n 4) 0 2 m
def aEnd (s : Dev) (n : Nat) : Nat := rdF s (ringReg n 4) 16 7
def bEnd (s : Dev) (n : Nat) : Nat := rdF s (ringReg n 4) 24 7
/-- Rings in RING or DUAL_STUB. -/
def liveRings (s : Dev) : List Nat := (List.range 32).filter (fun n => ringOn s n && (ringMode s n == 1 || ringMode s n == 2))
/-- The argument of a link event (R112). -/
def ringArg (n addr : Nat) : Nat := n + addr % 128 * 256

/-- Bytes of a number, most significant first (R69). -/
def msb (n v : Nat) : List Nat := (beBytes n v).map (·.toNat)
/-- The header of a frame (R73). -/
def ringHead (f : RingFrameOut) : Nat :=
  f.ftype * 0x1000 + f.addr % 128 * 32 + b2n f.sideB * 16 + b2n f.retry * 8 + b2n f.token * 4
/-- A frame from header to CRC as it stands on the line; a TRAIN as the device launches it has no length word, and its header CRC
covers header, snapshot ID and control word (R72, R74, R84). -/
def frameBytes (f : RingFrameOut) : List U8 :=
  let l := (msb 2 (ringHead f) ++ (if f.ftype = 2 then [] else msb 2 f.payload.length) ++ f.payload).map (BitVec.ofNat 8)
  l ++ beBytes 2 (crc16 l)
/-- Line bytes of a frame from its preamble to its CRC, from the bytes of header to CRC (16 R487; Log 139). -/
def lineBytes (k : Nat) : Nat := k + 3
/-- The frame goes out, and counts (16 R487); the last 64 are kept. -/
def ringSend (s : Dev) (n : Nat) (f : RingFrameOut) : Dev :=
  let r := getRing s n
  let l := r.sent ++ [f]
  countBytes (countEv (setRing s n { r with sent := l.drop (l.length - 64) }) (0x50 + n) 1 1) (0x50 + n) (lineBytes (frameBytes f).length)
/-- Bytes, header to CRC, come in at an end of an enabled ring (16 R487). -/
def ringBytes (s : Dev) (n k : Nat) : Dev := if rdB s (ringReg n 0) 0 then countBytes s (0x50 + n) (lineBytes k) else s
/-- A frame has come in whole at an end of an enabled ring (16 R487). -/
def ringGot (s : Dev) (n : Nat) : Dev := if rdB s (ringReg n 0) 0 then countEv s (0x50 + n) 2 1 else s
/-- A frame to every node: from A, and in dual stub from B as well (R66, R101). -/
def ringCast (s : Dev) (n ftype : Nat) (payload : List Nat) : Dev :=
  let f : RingFrameOut := { ftype := ftype, addr := 0, sideB := false, retry := false, payload := payload }
  let s := ringSend s n f
  if ringMode s n = 2 then ringSend s n { f with sideB := true } else s
/-- An ENUM frame goes out of side A or B (R97). DESIGN CHOICE: its header carries ADDR 0, whichever node it names (log 108). -/
def enumOut (s : Dev) (n : Nat) (sideB : Bool) (action : Nat) (payload : List Nat) : Dev :=
  ringSend s n { ftype := 5, addr := 0, sideB := sideB, retry := false, payload := action :: payload }
/-- P1 issues an ENUM frame (R13, R22). -/
def sendEnum (s : Dev) (n : Nat) (sideB : Bool) (action : Nat) (payload : List Nat) : Dev :=
  emit s 1 (.ring n (.enm action payload sideB))
/-- P1 issues a WRITE_REG (R13, R92). -/
def sendConfig (s : Dev) (n addr unit idx v : Nat) : Dev :=
  emit s 1 (.ring n (.cmd { pair := 1, addr := addr, unit := unit, opcode := 2, args := idx :: msb 4 v, who := .config }))

/-- A frame received in error (R75, R112). -/
def frameErr (s : Dev) (n : Nat) : Dev :=
  let s := countEv (bumpReg s (ringReg n 0x18) 1) (0x50 + n) 3 1
  let r := getRing s n
  let s := setRing s n { r with totFrm := r.totFrm + 1, errThisCyc := true }
  if r.errThisCyc then s else post s 1 Ev.RING_FRAME_ERR (ringArg n 0)

/-- A received frame with a length word passes the checks of R75. -/
def frameOk (l : List U8) : Bool :=
  let body := l.take (l.length - 2)
  let h := beNat (l.take 2)
  let len := beNat ((l.drop 2).take 2)
  decide (l.length ≥ 6) && crc16 body == beNat (l.drop (l.length - 2)) && decide (len ≤ 1024) && len + 6 == l.length &&
    decide (1 ≤ h / 0x1000 ∧ h / 0x1000 ≤ 7) && h % 4 == 0 && !nbit h 2
/-- Header and payload of a received frame. -/
def frameHead (l : List U8) : Nat := beNat (l.take 2)
def framePay (l : List U8) : List U8 := (l.drop 4).take (l.length - 6)

/-- PHASEREF on every ring at 90° (R82). -/
def phaserefBroadcast (s : Dev) : Dev :=
  let per := (10 ^ 14 + rateNow s / 2) / rateNow s
  forL s (liveRings s) (fun s n =>
    ringCast s n 7 (msb 4 (snapId s) ++ msb 4 0x40000000 ++ msb 4 per ++ msb 2 (b2n s.acq.dense * 0x8000) ++ [0, 0]))

/-- TRIGGER on every enabled ring at the start of a trigger gate (02 R53, R77, R78, R113). DESIGN CHOICE: BAL_STOP is never set (log 107). -/
def ringTrigger (s : Dev) (half : Bool) : Dev :=
  let per := (10 ^ 14 + rateNow s / 2) / rateNow s
  forL s ((List.range 32).filter (ringOn s)) (fun s n =>
    ringCast s n 1 (msb 4 (snapId s) ++ msb 4 per ++ msb 2 (b2n half * 0x8000 + b2n s.acq.dense * 0x4000) ++ [0, 0]))

/-! ## Exchanges (R92 to R95) -/

/-- The end that reaches an address: A (false), B (true), or neither (R101, R102). -/
def sideOf (s : Dev) (n addr : Nat) : Option Bool :=
  if ringMode s n ≠ 2 then some false
  else if addr ≤ aEnd s n then some false
  else if bEnd s n ≠ 0 ∧ bEnd s n ≤ addr then some true
  else none

/-- The sequence space of an opcode: contactor class or other (R94). DESIGN CHOICE: as the byte of REBASE, 1 and 0 (log 108). -/
def seqSpace (op : Nat) : Nat := if op / 16 = 4 then 1 else 0
/-- Key of a sequence space. -/
def seqKey (addr unit space : Nat) : Nat := addr * 4 + unit * 2 + space

/-- Send the CMD of an exchange (R92, R93); it is then awaiting its RESP. -/
def sendCmd (s : Dev) (n : Nat) (e : Exch) (side retry : Bool) : Dev :=
  let s := ringSend s n { ftype := 3, addr := e.addr, sideB := side, retry := retry, payload := [e.opcode, e.unit * 128] ++ msb 2 e.seq ++ e.args }
  setRing s n { getRing s n with exch := some { e with resend := false, clear := false } }
/-- The end an exchange goes from: the one it names, else the one that reaches its address. -/
def exchSide (s : Dev) (n : Nat) (e : Exch) : Option Bool :=
  match e.via with
  | some b => some b
  | none => sideOf s n e.addr

/-- The NODE_READ that an exchange serves, in flight or timed out. -/
def nodeReadOf (s : Dev) (sn tag : Nat) : Option InFlight :=
  s.host.flight.find? (fun f => f.cmd.sess == sn && f.cmd.tag == tag && f.op == OP_NODE_READ)
/-- The exchange fails to the pair that issued it: the contactor command fails, or the NODE_READ finds no unit, or the node no longer
counts as contributing where ACTIVE was to be cleared (R93, R94, R405). `st` is the status of the RESP that failed it, 0 where none came. -/
def exchFail (s : Dev) (n : Nat) (e : Exch) (st : Nat) : Dev :=
  let s := setRing s n { getRing s n with exch := none }
  match e.who with
  | .contactor x => contactorFailed s x (e.opcode == 0x40)
  | .nodeRead sn tag =>
    match nodeReadOf s sn tag with
    | some f => if st = 0 then finish s OP_NODE_READ f.cmd ST_NOT_PRESENT [] else finish s OP_NODE_READ f.cmd ST_BAD_PARAM [w32 st]
    | none => s
  | .config =>
    let r := getRing s n
    let d := Tbl.get {} r.nodes e.addr
    if e.args.headD 0 = 8 ∧ !nbit (e.args.getLast?.getD 0) 3 ∧ d.present then setRing s n { r with nodes := Tbl.set {} r.nodes e.addr { d with active := false } }
    else s

/-- It fails with EV_RING_NODE_TIMEOUT (R93). -/
def exchDead (s : Dev) (n : Nat) (e : Exch) : Dev := exchFail (note s 1 Ev.RING_NODE_TIMEOUT (ringArg n e.addr)) n e 0

/-- A timeout or an erroneous RESP: resend with RETRY, or fail once the retries are used up (R93). -/
def exchRetry (s : Dev) (n : Nat) (e : Exch) : Dev :=
  if e.retries < par s 0x2002 then
    setRing s n { getRing s n with exch := some { e with retries := e.retries + 1, resend := true, clear := false } }
  else exchDead s n e

/-- An exchange begins: the next number of its sequence space, from the end that reaches the unit (R93, R94). -/
def startExch (s : Dev) (n : Nat) (e : Exch) : Dev :=
  match exchSide s n e with
  | none => exchDead s n e
  | some side =>
    let k := seqKey e.addr e.unit (seqSpace e.opcode)
    let r := getRing s n
    let q := (Tbl.get 0 r.seqs k + 1) % 0x10000
    sendCmd (setRing s n { r with seqs := Tbl.set 0 r.seqs k q }) n { e with seq := q } side false

/-- Send the next thing a pair has released to the ring, P0's first (R95). DESIGN CHOICE: the start and end angles of a BAL frame are
rounded down (log 128). -/
def startTx (s : Dev) (n : Nat) : RingTx → Dev
  | .cmd e => startExch s n e
  | .bal snap cancel entries =>
    let deg := fun d : Nat => d * 65536 / 360
    ringCast s n 6 (msb 4 snap ++ msb 2 (deg 181) ++ msb 2 (deg 357) ++ msb 2 (b2n cancel * 0x8000) ++ msb 2 entries.length ++
      entries.flatMap (fun e => msb 4 (e.1 * 2 ^ 25 + e.2.1 * 2 ^ 24 + e.2.2 % 65536)))
  | .enm action payload sideB => enumOut s n sideB action payload
  | .stubEnd addr sideB =>
    let act := b2n (Tbl.get {} (getRing s n).nodes addr).active
    startExch s n { pair := 1, addr := addr, unit := 0, opcode := 2, args := 8 :: msb 4 (act * 8 + b2n sideB * 4 + 2), via := some sideB, who := .config }

/-- ENUM frames and stub-end writes: what alone goes out while an enumeration, a break's PING or a switchover runs. -/
def enumTx : RingTx → Bool
  | .enm _ _ _ => true
  | _ => false
def linkTx : RingTx → Bool
  | .stubEnd _ _ => true
  | t => enumTx t
/-- REBASE of a unit's sequence space (R94). -/
def rebaseTx : RingTx → Bool
  | .enm a _ _ => a == 0x0B
  | _ => false
/-- A REBASE for the ring has not left P1's release buffer. -/
def rebaseHeld (s : Dev) (n : Nat) : Bool :=
  let q := getPair s 1
  (q.rel ++ q.redo).any (fun e => match e.eff with | .ring m t => m == n && rebaseTx t | _ => false)
/-- Send P1's first frame of a kind, if one waits. -/
def startFirst (s : Dev) (n : Nat) (f : RingTx → Bool) : Dev :=
  let r := getRing s n
  match r.q1.find? f with
  | some t => startTx (setRing s n { r with q1 := r.q1.eraseP f }) n t
  | none => s

/-- Send an exchange's CMD again; after a SEQ_GAP behind its REBASE and with RETRY clear (R93, R94). -/
def resendExch (s : Dev) (n : Nat) (e : Exch) : Dev :=
  if e.clear && rebaseHeld s n then s
  else if e.clear && (getRing s n).q1.any rebaseTx then startFirst s n rebaseTx
  else sendCmd s n e ((exchSide s n e).getD false) (!e.clear)

/-- While an enumeration, a break's PING or a switchover runs: ENUM frames, and the WRITE_REGs to the stub ends one at a time (R93, R98,
R100, R101). -/
def linkTransmit (s : Dev) (n : Nat) : Dev :=
  match (getRing s n).exch with
  | some e => if e.resend && (getRing s n).search.isSome then resendExch s n e else startFirst s n enumTx
  | none => startFirst s n linkTx

/-- Row RING_FRAME_TRANSMIT: while an enumeration, a break's PING or a switchover runs, ENUM frames and stub-end writes alone go
out; otherwise nothing starts while a train is in flight or an exchange is open, and P0's frames go first (R14, R95, R99). A CMD sent
again after a SEQ_GAP goes behind its REBASE (R94). -/
def ringFrameTransmit (n : Nat) (s : Dev) : Dev :=
  let r := getRing s n
  if (ringOn s n && ringMode s n == 3) || (ringOn s n && (r.search.isSome || r.breakPing)) then linkTransmit s n
  else if !(liveRings s).contains n || r.trainOut then s
  else
    match r.exch with
    | some e => if e.resend then resendExch s n e else s
    | none =>
      match r.q0, r.q1 with
      | t :: q, _ => startTx (setRing s n { r with q0 := q }) n t
      | [], t :: q => startTx (setRing s n { r with q1 := q }) n t
      | [], [] => s

/-- A released ring frame enters the controller's queue of its pair (R13, R95). -/
def ringEnqueue (s : Dev) (p n : Nat) (t : RingTx) : Dev :=
  let r := getRing s n
  if p = 0 then setRing s n { r with q0 := r.q0 ++ [t] } else setRing s n { r with q1 := r.q1 ++ [t] }

/-- Values of a READ_REG or READ_AUX result as reply words (R405). -/
def nodeReadWords (op : Nat) : List U8 → List U32
  | l => if op = 1 then [w32 (beNat (l.take 4))]
         else
           let v := (runsOf 2 ((l.length + 1) / 2) l).map beNat
           (runsOf 2 ((v.length + 1) / 2) v).map (fun c => w32 (c.getD 0 0 + c.getD 1 0 * 0x10000))

/-- P1's WRITE_REG has been executed: NODE_MODE holds ACTIVE as written, and a node that joined is in (R98, R106, R109). -/
def configDone (s : Dev) (n : Nat) (e : Exch) : Dev :=
  if e.args.headD 0 ≠ 8 then s
  else
    let r := getRing s n
    let d := Tbl.get {} r.nodes e.addr
    let on := nbit (e.args.getLast?.getD 0) 3
    if !d.present then s
    else
      let s := setRing s n { r with nodes := Tbl.set {} r.nodes e.addr { d with active := on, joining := d.joining && !on } }
      if d.joining && on then post (wrB s (ringReg n 4) 6 false) 1 Ev.RING_JOIN (ringArg n e.addr) else s

/-- The RESP of an exchange, by its status (R92, R94, R267, R405). -/
def respTaken (s : Dev) (n : Nat) (e : Exch) (status : Nat) (res : List U8) : Dev :=
  if status = 3 then
    let s := note s 1 Ev.RING_SEQ (ringArg n e.addr)
    if e.rebased then exchFail s n e 3
    else
      let sp := seqSpace e.opcode
      let s := sendEnum s n ((exchSide s n e).getD false) 0x0B [e.addr, e.unit, sp]
      setRing s n { getRing s n with exch := some { e with rebased := true, resend := true, clear := true } }
  else
    match e.who with
    | .contactor x =>
      if status ≠ 0 then exchFail s n e status
      else
        let s := setRing s n { getRing s n with exch := none }
        if e.opcode = 0x40 then contactorSet s x (beNat (res.take 2)) else contactorRead s x (beNat (res.take 2))
    | .nodeRead sn tag =>
      let s := setRing s n { getRing s n with exch := none }
      match nodeReadOf s sn tag with
      | none => s
      | some f =>
        if status = 0 then finish s OP_NODE_READ f.cmd ST_OK (nodeReadWords e.opcode res)
        else finish s OP_NODE_READ f.cmd ST_BAD_PARAM [w32 status]
    | .config => if status = 0 then configDone (setRing s n { getRing s n with exch := none }) n e else exchFail s n e status

/-- A reserved bit is set in the STRING status word with which a RESP answers a contactor-class CMD (R75, R86, R92). -/
def respReserved (e : Exch) (status : Nat) (res : List U8) : Bool :=
  seqSpace e.opcode == 1 && status == 0 && beNat (res.take 2) &&& 0xF0E0 != 0

/-- Row RESP_RECEIVED: the frame from header to CRC (R75, R92, R93). DESIGN CHOICE: a good RESP that is not that of the CMD
outstanding (its opcode, unit, sequence number or responder) is taken as an erroneous one (log 109). -/
def respReceived (n : Nat) (frame : List U8) (s : Dev) : Dev :=
  let s := ringBytes s n frame.length
  let s := if frameOk frame then ringGot s n else s
  match (getRing s n).exch with
  | none => if frameOk frame then s else frameErr s n
  | some e =>
    if e.resend then (if frameOk frame then s else frameErr s n)
    else if !frameOk frame then exchRetry (frameErr s n) n e
    else
      let p := framePay frame
      let b1 := (p.getD 1 0).toNat
      if frameHead frame / 0x1000 = 4 ∧ frameHead frame / 32 % 128 = e.addr ∧ p.length ≥ 4 ∧ (p.getD 0 0).toNat = e.opcode ∧
          b1 / 128 = e.unit ∧ beNat ((p.drop 2).take 2) = e.seq then
        if respReserved e (b1 % 128) (p.drop 4) then exchRetry (frameErr s n) n e else respTaken s n e (b1 % 128) (p.drop 4)
      else exchRetry s n e

/-- Row RING_CMD_TIMEOUT (R93). -/
def ringCmdTimeout (n : Nat) (s : Dev) : Dev :=
  match (getRing s n).exch with
  | none => s
  | some e =>
    if e.resend then s
    else
      let s := bumpReg s (ringReg n 0x1C) 1
      let r := getRing s n
      exchRetry (setRing s n { r with totTmo := r.totTmo + 1 }) n e

/-- Row CMD_ECHO_CHECK: the CMD as it reached the B end, header to CRC (R93). -/
def cmdEchoCheck (n : Nat) (frame : List U8) (s : Dev) : Dev :=
  let s := ringBytes s n frame.length
  let s := if frameOk frame then ringGot s n else frameErr s n
  match (getRing s n).sent.reverse.find? (fun f => f.ftype == 3) with
  | none => s
  | some f =>
    if ringMode s n ≠ 1 ∨ frameBytes f = frame then s
    else note (wrB s (ringReg n 4) 4 true) 1 Ev.RING_ECHO (ringArg n f.addr)

/-! ## Enumeration (R67, R80, R91, R97, R98) -/

/-- Kind and cells of a unit's UNIT_CFG (R108). -/
def cfgKind (c : Nat) : Nat := c / 4096 % 16
def cfgCells (c : Nat) : Nat := c % 32
/-- The node contributes to trains: neither refused nor failing its serial check (R98). -/
def nodeTaken (d : RingNode) : Bool := !d.refused && !d.wrongSerial
/-- Monitor units and string units of a node. -/
def nodeMons (d : RingNode) : Nat := b2n (cfgKind d.cfg0 == 1) + b2n (cfgKind d.cfg1 == 1)
def nodeSus (d : RingNode) : Nat := b2n (cfgKind d.cfg0 == 2) + b2n (cfgKind d.cfg1 == 2)
/-- Bits of a unit's segment without temperatures (R91). -/
def unitBits (c : Nat) : Nat := if cfgKind c = 1 then 48 + 32 * cfgCells c else if cfgKind c = 2 then 144 else 0
/-- The nodes of a ring that contribute. -/
def takenNodes (l : Tbl RingNode) : List RingNode := (l.filter (fun e => nodeTaken e.2)).map (·.2)
/-- Sum of a measure over a list. -/
def sumOf {α : Type} (f : α → Nat) (l : List α) : Nat := l.foldl (fun m x => m + f x) 0
/-- The ring load L, bits (R91). -/
def ringLoad (l : Tbl RingNode) : Nat :=
  let t := takenNodes l
  106 + sumOf (fun d => unitBits d.cfg0 + unitBits d.cfg1) t + 192 * ((sumOf nodeMons t + 15) / 16)
/-- Units of a kind on the whole device (R67). -/
def deviceUnits (s : Dev) (f : RingNode → Nat) : Nat := sumOf (fun e => sumOf f (takenNodes e.2.nodes)) s.rings
/-- A limit of R67 or R91 is exceeded with the nodes as they stand. -/
def overLimits (s : Dev) (n : Nat) : Bool :=
  let l := ringLoad (getRing s n).nodes
  decide (deviceUnits s nodeMons > 4096 ∨ deviceUnits s nodeSus > 128 ∨ sumOf (fun e => e.2.nodes.length) s.rings > 4064 ∨
    l > 73900 ∨ l - 106 + 64 > 131072)

/-- A latency above 22,000 ns (R80). -/
def tooFar (l : Option Nat) : Bool := match l with | some v => decide (v > 44000) | none => false
/-- DLY_A or DLY_B of a latency (R79). DESIGN CHOICE: of a latency that is not known, 0 (log 128). -/
def dlyOf (l : Option Nat) : Nat := match l with | some v => ((45010 - (v : Int)) / 20).toNat | none => 0

/-- The addresses the map names on the ring, ascending (R98). -/
def mapAddrs (s : Dev) (n : Nat) : List Nat :=
  ((umapList s).filter (fun e => umapRing e.1 == n)).foldl (fun l e => insertNat (umapAddr e.1) l) []
/-- The next address from A (R98). -/
def nextFromA (s : Dev) (n : Nat) (e : EnumProg) : Option Nat :=
  let m := mapAddrs s n
  let a := if e.fromA.length < m.length then m.getD e.fromA.length 0 else (e.fromA.getLast?.getD 0) + 1
  if a ≤ 127 then some a else none
/-- The next address from B (R98). -/
def nextFromB (s : Dev) (n : Nat) (e : EnumProg) : Option Nat :=
  let m := ((mapAddrs s n).filter (fun a => !e.fromA.contains a)).reverse
  let a := if e.fromB.length < m.length then m.getD e.fromB.length 0 else (e.fromB.getLast?.getD 128) - 1
  if a > e.fromA.getLast?.getD 0 then some a else none

/-- A serial the map records at the address differs (R98, R404). -/
def serialBad (s : Dev) (n addr serial : Nat) : Bool :=
  [0, 1].any (fun u =>
    let k := Tbl.get 0 s.acq.serials (umapIdx n addr u)
    k != 0 && k != serial && bitOf (rd s (ACQ_UMAP + umapIdx n addr u * 8)) 31)

/-- What every node is to hold: slices 0 to 15 dealt to the monitor units in address order (R89), its delays (R79), and a string
unit's link-loss time (R96). -/
def programNodes (loss : Nat) : Nat → Tbl RingNode → Tbl RingNode
  | _, [] => []
  | i, (a, d) :: t =>
    let m0 := b2n (cfgKind d.cfg0 == 1 && nodeTaken d)
    let m1 := b2n (cfgKind d.cfg1 == 1 && nodeTaken d)
    (a, { d with slice0 := if m0 = 1 then i % 16 else 0, slice1 := if m1 = 1 then (i + m0) % 16 else 0, dlyA := dlyOf d.aLat, dlyB := dlyOf d.bLat, loss := if nodeSus d = 0 then d.loss else loss }) :: programNodes loss (i + m0 + m1) t

/-- NODE_MODE of a node: ACTIVE, and in dual stub its upstream side and LINK STUB or STUB_END (R108). -/
def nodeMode (s : Dev) (n a : Nat) (act : Bool) : Nat :=
  let side := (sideOf s n a).getD false
  b2n act * 8 + (if ringMode s n = 2 then b2n side * 4 + (if a = aEnd s n ∨ a = bEnd s n then 2 else 1) else 0)
/-- The WRITE_REGs that bring a node from `d` to `e`: (unit, index, value); after an enumeration all of them (R98, R106). -/
def nodeWrites (s : Dev) (n a : Nat) (all : Bool) (d e : RingNode) : List (Nat × Nat × Nat) :=
  let su := if cfgKind e.cfg0 = 2 then 0 else 1
  let isEnd := ringMode s n = 2 && (a == aEnd s n || a == bEnd s n)
  (if all || d.dlyA != e.dlyA then [(0, 9, e.dlyA)] else []) ++ (if all || d.dlyB != e.dlyB then [(0, 10, e.dlyB)] else []) ++
    (if cfgKind e.cfg0 == 1 && (all || d.slice0 != e.slice0) then [(0, 11, e.slice0)] else []) ++
    (if cfgKind e.cfg1 == 1 && (all || d.slice1 != e.slice1) then [(1, 11, e.slice1)] else []) ++
    (if nodeSus e != 0 && (all || d.loss != e.loss) then [(su, 12, e.loss)] else []) ++
    (if nodeTaken e != d.active || (all && (nodeTaken e || isEnd)) then [(0, 8, nodeMode s n a (nodeTaken e))] else [])
/-- P1 programs the ring's nodes (R98, R106, R110). -/
def programRing (s : Dev) (n : Nat) (all : Bool) : Dev :=
  let old := (getRing s n).nodes
  let s := setRing s n { getRing s n with nodes := programNodes (par s 0x2003) 0 old }
  forL s (old.zip (getRing s n).nodes) (fun s p =>
    forL s (nodeWrites s n p.1.1 all p.1.2 p.2.2) (fun s w => sendConfig s n p.1.1 w.1 w.2.1 w.2.2))
/-- A new ring.su.linkloss_ms goes to the string units (R110). -/
def linklossPush (s : Dev) : Dev :=
  forL s (liveRings s) (fun s n =>
    if (getRing s n).nodes.any (fun e => nodeSus e.2 != 0 && e.2.loss != par s 0x2003) then programRing s n false else s)

/-- RING_LOAD and RING_UNITS (R109). -/
def ringCounts (s : Dev) (n : Nat) : Dev :=
  let l := (getRing s n).nodes
  let s := wrN s (ringReg n 0x0C) (ringLoad l)
  wrN s (ringReg n 0x10) (min l.length 255 * 0x10000 + sumOf nodeMons (takenNodes l) % 256 * 0x100 + sumOf nodeSus (takenNodes l) % 256)

/-- The words that RING_ENUMERATE answers for a ring (R403). -/
def enumWord (s : Dev) (n : Nat) : U32 :=
  w32 (b2n ((getRing s n).nodes.any (fun e => e.2.refused)) * 2 ^ 31 + rdN s (ringReg n 0x10) % 2 ^ 31)
/-- Commands whose rings have all ended their enumeration are answered (R403). -/
def enumAnswers (s : Dev) : Dev :=
  let busy := fun (e : HostCmd × List Nat) => e.2.any (fun n => (getRing s n).enm.isSome)
  let done := s.host.enums.filter (fun e => !busy e)
  let s := { s with host := { s.host with enums := s.host.enums.filter busy } }
  forL s done (fun s e => finish s OP_RING_ENUMERATE e.1 ST_OK (e.2.map (enumWord s)))

/-- The enumeration ends in a mode (R98). -/
def enumEnd (s : Dev) (n mode : Nat) : Dev :=
  let s := setRing s n { getRing s n with enm := none }
  let s := wrB (setMode s n mode) (ringReg n 0) 1 false
  enumAnswers (ringCounts (programRing s n true) n)

/-- Refuse nodes of a ring that a test names, with EV_RING_LOAD (R80). -/
def refuseNodes (s : Dev) (n : Nat) (f : Nat → Bool) : Dev :=
  let r := getRing s n
  let s := setRing s n { r with nodes := r.nodes.map (fun e => if f e.1 then (e.1, { e.2 with refused := true }) else e) }
  match r.nodes.find? (fun e => f e.1) with
  | some e => raise s 1 Ev.RING_LOAD (ringArg n e.1) n
  | none => s

/-- Latencies from L_tot: a node reached from B (address `b` and above; 0 none) keeps its b and takes its a, any other the
reverse (R79, R98, R106). -/
def latFromTotal (s : Dev) (n lat b : Nat) : Dev :=
  let s := wrN s (ringReg n 8) lat
  let r := getRing s n
  setRing s n { r with nodes := r.nodes.map (fun e =>
    match e.2.aLat, e.2.bLat with
    | some x, some y => if b ≠ 0 ∧ b ≤ e.1 then (e.1, { e.2 with aLat := some (lat * 10 - y - 320) }) else (e.1, { e.2 with bLat := some (lat * 10 - x - 320) })
    | some x, none => (e.1, { e.2 with bLat := some (lat * 10 - x - 320) })
    | none, some y => (e.1, { e.2 with aLat := some (lat * 10 - y - 320) })
    | none, none => e) }

/-- R80 over both ends of a closed ring: a node too far from an end, and every node farther from it, is refused. -/
def refuseFar (s : Dev) (n : Nat) : Dev :=
  let l := (getRing s n).nodes
  let farA := l.filter (fun e => tooFar e.2.aLat)
  let farB := l.filter (fun e => tooFar e.2.bLat)
  let loA := match farA with | e :: _ => e.1 | [] => 128
  let hiB := match farB.getLast? with | some e => e.1 | none => 0
  refuseNodes s n (fun a => decide (loA ≤ a ∨ a ≤ hiB))

/-- The chain stops short of B: stub ends set, dual stub (R98). -/
def enumBroken (s : Dev) (n : Nat) (e : EnumProg) : Dev :=
  let s := wrF (wrF s (ringReg n 4) 16 7 (e.fromA.getLast?.getD 0)) (ringReg n 4) 24 7 (e.fromB.getLast?.getD 0)
  let s := raise (wrB s (ringReg n 4) 3 true) 1 Ev.RING_BREAK (ringArg n (e.fromA.getLast?.getD 0)) n
  let lost := (mapAddrs s n).any (fun a => !e.fromA.contains a && !e.fromB.contains a)
  let s := if lost then raise (wrB s (ringReg n 4) 7 true) 1 Ev.RING_UNREACHABLE (ringArg n 0) n else s
  enumEnd s n 2

/-- No address remains for a further node. DESIGN CHOICE: before 127 nodes this draws EV_RING_LOAD (R98, log 112). -/
def enumFull (s : Dev) (n : Nat) (e : EnumProg) : Dev :=
  if e.fromA.length + e.fromB.length ≥ 127 then s else raise s 1 Ev.RING_LOAD (ringArg n 0) n
/-- Offer an address from a side (R97). -/
def enumOffer (s : Dev) (n : Nat) (e : EnumProg) (a : Nat) : Dev :=
  sendEnum (setRing s n { getRing s n with enm := some { e with addr := some a } }) n e.sideB 2 [a]
/-- Offer the next address from B, or end there (R98). -/
def enumNextB (s : Dev) (n : Nat) (e : EnumProg) : Dev :=
  match nextFromB s n e with
  | some a => enumOffer s n { e with sideB := true } a
  | none => enumBroken (enumFull s n e) n e
/-- Offer the next address from the side under way (R98). -/
def enumNext (s : Dev) (n : Nat) (e : EnumProg) : Dev :=
  if e.sideB then enumNextB s n e
  else
    match nextFromA s n e with
    | some a => enumOffer s n e a
    | none => enumNextB (enumFull s n e) n e

/-- The exchanges a ring had open, one of them perhaps held by a switchover, end without a RESP. -/
def exchDrop (s : Dev) (n : Nat) (r : Ring) : Dev := forL s (r.exch.toList ++ r.held.toList) (fun s x => exchFail s n x 0)

/-- Enumeration of a ring begins: RESET from both ends (R97, R98), by P1 (R13). -/
def enumStart (s : Dev) (n : Nat) : Dev :=
  let r := getRing s n
  if !pairUp s 1 then s
  else
    let e : EnumProg := {}
    let s := setRing s n { r with nodes := [], enm := some e, seqs := [], segBad := [], exch := none, held := none, search := none, breakPing := false, probeOut := false, trainOut := false, trainDone := true }
    let s := exchDrop s n r
    let s := clearCond (clearCond (clearCond s 1 Ev.RING_BREAK n 0x7F) 1 Ev.RING_UNREACHABLE n 0x7F) 1 Ev.RING_LOAD n 0x7F
    let s := wrN s (ringReg n 4) (fld (rd s (ringReg n 4)) 3 3 * 8 + 3)
    let s := sendEnum (sendEnum s n false 1 []) n true 1 []
    enumNext s n e

/-- Whether a joining node's serial is admitted under ring.join (R106, R404). -/
def joinAdmits (s : Dev) (n addr serial : Nat) : Bool :=
  let listed := [0, 1].any (fun u =>
    let i := umapIdx n addr u
    bitOf (rd s (ACQ_UMAP + i * 8)) 31 && (Tbl.get 0 s.acq.serials i == 0 || Tbl.get 0 s.acq.serials i == serial))
  if par s 0x2006 = 1 then true else if par s 0x2006 = 0 then listed else false

/-- The node an ACK tells of (R97, R98). -/
def ackNode (s : Dev) (n addr : Nat) (side : Bool) (lat id serial c0 c1 : Nat) : RingNode :=
  { present := true, nodeId := w32 id, serial := serial, cfg0 := c0, cfg1 := c1, aLat := if side then none else some lat, bLat := if side then some lat else none, wrongSerial := serialBad s n addr serial }

/-- UNREACH and EV_RING_UNREACHABLE end once no node, and no address of the map but `skip`, lies cut off between the stub ends (R101, R109). -/
def unreachSync (s : Dev) (n skip : Nat) : Dev :=
  let l := (getRing s n).nodes
  let miss := (mapAddrs s n).any (fun a => decide (aEnd s n < a) && (bEnd s n == 0 || decide (a < bEnd s n)) && a != skip && !l.any (fun e => e.1 == a))
  if !rdB s (ringReg n 4) 7 || miss || l.any (fun e => e.2.unreach) then s
  else clearCond (wrB s (ringReg n 4) 7 false) 1 Ev.RING_UNREACHABLE n 0x7F

/-- An ACK in a join through the A stub end: a closed node is found; admitted, it is programmed and becomes the A stub end, and
the next probe follows; its ACTIVE answered ends the join (R106, R109). DEDUCED: log 110. -/
def joinAck (s : Dev) (n addr lat id serial c0 c1 : Nat) : Dev :=
  let r := getRing s n
  let d := ackNode s n addr false lat id serial c0 c1
  let d := if par s 0x2006 = 1 then { d with wrongSerial := false } else d
  let t := setRing s n { r with nodes := Tbl.set {} r.nodes addr { d with joining := true } }
  let was := aEnd s n
  if joinAdmits s n addr serial && !d.wrongSerial && !tooFar d.aLat && !overLimits t n then
    let x := getRing t n
    let s := setRing t n { x with enm := none, seqs := x.seqs.filter (fun k => k.1 / 4 != addr) }
    let s := wrF (wrB s (ringReg n 4) 6 true) (ringReg n 4) 16 7 addr
    let s := clearCond (unreachSync (ringCounts s n) n 0) 1 Ev.RING_JOIN_REFUSED (n * 128 + addr) 0x7F
    let s := if was = 0 then s else sendConfig s n was 0 8 (nodeMode s n was (Tbl.get {} r.nodes was).active)
    sendEnum (programRing s n false) n false 8 []
  else
    let s := setRing s n { r with enm := none }
    let s := sendEnum (wrB s (ringReg n 4) 6 true) n false 0x0A [addr]
    raise s 1 Ev.RING_JOIN_REFUSED (ringArg n addr) (n * 128 + addr)

/-- Row ENUM_ACK_RECEIVED: RTT in 5 ns units, NODE_ID, serial, UNIT_CFG of unit 0 and unit 1, 0 where absent (R97, R98). -/
def enumAckReceived (n rtt id serial c0 c1 : Nat) (s : Dev) : Dev :=
  let s := ringGot (ringBytes s n 23) n
  let r := getRing s n
  match r.enm with
  | none => s
  | some e =>
    match e.addr with
    | none => s
    | some a =>
      let lat := 5 * rtt - 1960
      if e.join then joinAck s n a lat id serial c0 c1
      else
        let d := ackNode s n a e.sideB lat id serial c0 c1
        let s := setRing s n { r with nodes := Tbl.set {} r.nodes a d }
        let s := if d.wrongSerial then raise s 1 Ev.RING_JOIN_REFUSED (ringArg n a) (n * 128 + a) else clearCond s 1 Ev.RING_JOIN_REFUSED (n * 128 + a) 0x7F
        let was := if e.sideB then e.refuseB else e.refuseA
        let bad := was || decide (lat > 44000) || overLimits s n
        let s := if bad then refuseNodes s n (fun x => x == a) else s
        let e := if e.sideB then { e with fromB := e.fromB ++ [a], refuseB := bad } else { e with fromA := e.fromA ++ [a], refuseA := bad }
        enumNext s n e

/-- Row ASSIGN_ACK_TIMEOUT: whether the ASSIGN arrived at B, and the measured A-to-B latency in 5 ns units (R98, R106). -/
def assignAckTimeout (n : Nat) (arrived : Bool) (lat : Nat) (s : Dev) : Dev :=
  let r := getRing s n
  match r.enm with
  | none => s
  | some e =>
    if e.addr.isNone then s
    else if e.join then setRing s n { r with enm := none }
    else if e.sideB then enumBroken s n e
    else if arrived then
      let s := refuseFar (latFromTotal s n lat 0) n
      enumEnd (sendEnum s n false 7 []) n 1
    else enumNext s n { e with sideB := true }

/-- Row RING_ENUMERATE_REQUEST: P1 writes RING_CTRL bit 1 (R98, R109). -/
def ringEnumerateRequest (n : Nat) (s : Dev) : Dev :=
  if n ≥ 32 then busErrorTo s 1
  else if !pairUp s 1 then s
  else
    let s := wrB s (ringReg n 0) 1 true
    if ringOn s n && (s.dev == .standby || s.dev == .service || s.dev == .boot) && (getRing s n).enm.isNone then enumStart s n
    else wrB s (ringReg n 0) 1 false

/-! ## Breaks (R100 to R105) -/

/-- Addresses of the ring's nodes, ascending. -/
def nodeAddrs (s : Dev) (n : Nat) : List Nat := (getRing s n).nodes.map (·.1)
/-- A search over `k` nodes counted from an end continues. -/
def searchAddr (s : Dev) (n k : Nat) (sideB : Bool) : Nat :=
  let l := if sideB then (nodeAddrs s n).reverse else nodeAddrs s n
  l.getD (k - 1) 0

/-- P1 issues the WRITE_REG of NODE_MODE to a stub end: ACTIVE as it stands, upstream on its side, LINK = STUB_END (R101, R108).
No node (0) has none. -/
def sendStubEnd (s : Dev) (n addr : Nat) (sideB : Bool) : Dev :=
  if addr = 0 then s else emit s 1 (.ring n (.stubEnd addr sideB))

/-- The search has found both stub ends. -/
def searchOver (x : StubSearch) : Bool := x.loA == x.hiA && x.loB == x.hiB

/-- Send the PINGs the search needs next, or program the stub ends once both are found (R101). -/
def searchStep (s : Dev) (n : Nat) (x : StubSearch) : Dev :=
  let pa := if x.pingA.isNone && x.loA != x.hiA then some (searchAddr s n ((x.loA + x.hiA + 1) / 2) false) else none
  let pb := if x.pingB.isNone && x.loB != x.hiB then some (searchAddr s n ((x.loB + x.hiB + 1) / 2) true) else none
  let s := match pa with | some a => sendEnum s n false 4 [a] | none => s
  let s := match pb with | some a => sendEnum s n true 4 [a] | none => s
  let y := { x with pingA := if pa.isSome then pa else x.pingA, pingB := if pb.isSome then pb else x.pingB }
  let s := setRing s n { getRing s n with search := some y }
  if searchOver y then
    let s := if y.doA && y.loA != 0 then sendStubEnd s n (searchAddr s n y.loA false) false else s
    if y.doB && y.loB != 0 then sendStubEnd s n (searchAddr s n y.loB true) true else s
  else s

/-- The exchange under way stops its timer and retries for the switchover (R93); a join waits for a later probe. -/
def suspendExch (s : Dev) (n : Nat) : Dev :=
  let r := getRing s n
  setRing s n { r with exch := none, held := r.exch.orElse (fun _ => r.held), breakPing := false, enm := none }

/-- A break is declared: in ring mode over the whole ring, in dual stub over the stub of one side (R100, R101, R105). -/
def declareBreak (s : Dev) (n : Nat) (sideB : Bool) : Dev :=
  let r := getRing s n
  if r.search.isSome || (match r.enm with | some e => !e.join | none => false) then s
  else
    let l := nodeAddrs s n
    let s := suspendExch s n
    if ringMode s n = 1 then
      let s := raise (wrB s (ringReg n 4) 3 true) 1 Ev.RING_BREAK (ringArg n 0) n
      let s := sendEnum (sendEnum s n false 6 [0]) n true 6 [1]
      searchStep s n { loA := 0, hiA := l.length, loB := 0, hiB := l.length }
    else if ringMode s n = 2 then
      let a := (l.filter (fun x => decide (x ≤ aEnd s n))).length
      let b := (l.filter (fun x => bEnd s n != 0 && decide (bEnd s n ≤ x))).length
      let s := note (wrB s (ringReg n 4) 3 true) 1 Ev.RING_BREAK (ringArg n 0)
      let s := sendEnum s n sideB 6 [b2n sideB]
      if sideB then searchStep s n { loA := a, hiA := a, loB := 0, hiB := b, doA := false }
      else searchStep s n { loA := 0, hiA := a, loB := b, hiB := b, doB := false }
    else s

/-- Row TRIGGER_ARRIVAL_CHECK: a frame's arrival check at B; a failure draws a PING to the highest address (R100). -/
def triggerArrivalCheck (n : Nat) (ok : Bool) (s : Dev) : Dev :=
  let s := if ok then ringGot (ringBytes s n 18) n else s
  let r := getRing s n
  if ok || ringMode s n != 1 || r.search.isSome || r.breakPing then s
  else
    match (nodeAddrs s n).getLast? with
    | none => declareBreak s n false
    | some a => sendEnum (setRing s n { r with breakPing := true }) n false 4 [a]

/-- Row TRAIN_RETURN_TIMEOUT: the train of a side has not returned whole (R100, R105). -/
def trainReturnTimeout (n : Nat) (sideB : Bool) (s : Dev) : Dev :=
  if (getRing s n).trainOut then declareBreak s n sideB else s

/-- Row PONG_RECEIVED: at an end, from an address (R97, R100, R101). -/
def pongReceived (n : Nat) (sideB : Bool) (addr : Nat) (s : Dev) : Dev :=
  let s := ringGot (ringBytes s n 8) n
  let r := getRing s n
  match r.search with
  | none => if r.breakPing then setRing s n { r with breakPing := false } else s
  | some x =>
    if !sideB ∧ x.pingA = some addr then searchStep s n { x with loA := (x.loA + x.hiA + 1) / 2, pingA := none }
    else if sideB ∧ x.pingB = some addr then searchStep s n { x with loB := (x.loB + x.hiB + 1) / 2, pingB := none }
    else s

/-- Row PING_TIMEOUT: no PONG at an end (R100, R101). -/
def pingTimeout (n : Nat) (sideB : Bool) (s : Dev) : Dev :=
  let r := getRing s n
  match r.search with
  | none => if r.breakPing then declareBreak s n false else s
  | some x =>
    if !sideB ∧ x.pingA.isSome then searchStep s n { x with hiA := (x.loA + x.hiA + 1) / 2 - 1, pingA := none }
    else if sideB ∧ x.pingB.isSome then searchStep s n { x with hiB := (x.loB + x.hiB + 1) / 2 - 1, pingB := none }
    else s

/-- Train body head: snapshot ID and control word of a slot (R84). -/
def trainHead (s : Dev) (k : Nat) (recovery : Bool) : List Nat :=
  let w1 := slotWord s k 1
  msb 4 (slotWord s k 0).toNat ++ msb 2 (fld w1 15 1 * 0x8000 + (slotWord s k 3).toNat % 16 * 0x800 + b2n recovery * 0x400)

/-- Launch a train, or tokens from both ends in dual stub, for a slot (R87, R102, R103). Where neither end reaches a node none comes
back, and nothing waits for it. -/
def launchTrain (s : Dev) (n k : Nat) (recovery : Bool) : Dev :=
  let h := trainHead s k recovery
  let reach := ringMode s n != 2 || aEnd s n != 0 || bEnd s n != 0
  let r := getRing s n
  let s := setRing s n { r with slot := k, lateRep := recovery && r.lateRep, trainOut := reach, trainDone := !reach, recovery := recovery, nextA := 0, nextB := 0, endedA := false, endedB := false, overA := false, overB := false, bodyA := 0, bodyB := 0, undoA := {}, undoB := {}, asked := true, got := if recovery then r.got else [] }
  if ringMode s n = 2 then
    let f : RingFrameOut := { ftype := 2, addr := 0, sideB := false, retry := false, token := true, payload := h }
    ringSend (ringSend s n f) n { f with sideB := true }
  else ringSend s n { ftype := 2, addr := 0, sideB := false, retry := false, payload := h }

/-- A WRITE_REG to a stub end is not yet answered: in P1's release buffer, waiting on the ring, or the exchange under way. -/
def stubWriteOpen (s : Dev) (n : Nat) : Bool :=
  let q := getPair s 1
  let r := getRing s n
  let stub := fun t : RingTx => linkTx t && !enumTx t
  r.exch.isSome || r.q1.any stub || (q.rel ++ q.redo).any (fun e => match e.eff with | .ring m t => m == n && stub t | _ => false)

/-- Row STUB_ENDS_SET: both stub ends are programmed, their WRITE_REGs answered or failed (R93, R101, R103). -/
def stubEndsSet (n : Nat) (s : Dev) : Dev :=
  let r := getRing s n
  match r.search with
  | none => s
  | some x =>
    if !searchOver x || stubWriteOpen s n then s
    else
      let a := searchAddr s n x.loA false
      let b := searchAddr s n x.loB true
      let a := if x.loA = 0 then 0 else a
      let b := if x.loB = 0 then 0 else b
      let cut := fun i : Nat => decide (a < i) && (b == 0 || decide (i < b))
      let s := setRing s n { r with search := none, nodes := r.nodes.map (fun e => (e.1, { e.2 with unreach := cut e.1 })) }
      let s := setMode (wrF (wrF s (ringReg n 4) 16 7 a) (ringReg n 4) 24 7 b) n 2
      let lost := (nodeAddrs s n).filter cut
      let s := match lost with
        | i :: _ => raise (wrB s (ringReg n 4) 7 true) 1 Ev.RING_UNREACHABLE (ringArg n i) n
        | [] => unreachSync s n 0
      let s := match r.held with
        | none => s
        | some e =>
          let s := setRing s n { getRing s n with held := none }
          match sideOf s n e.addr with
          | some _ => setRing s n { getRing s n with exch := some { e with via := none, resend := true, clear := false, retries := 0 } }
          | none => exchDead s n e
      if r.trainOut then launchTrain s n r.slot r.asked else s

/-! ## Closure, join and leave (R104, R106, R107) -/

/-- Address for a node that joins at the A stub end: one of the map between the stub ends, else the next above A's end; none
when no address is free there (R98, R106). DESIGN CHOICE: which of the free addresses, and that those of unreachable nodes are free
(log 128). -/
def joinAddr (s : Dev) (n : Nat) : Option Nat :=
  let a := aEnd s n
  let top := if bEnd s n = 0 then 128 else bEnd s n
  match (mapAddrs s n).find? (fun x => decide (a < x ∧ x < top)) with
  | some x => some x
  | none => if a + 1 < top then some (a + 1) else none

/-- SHIFT by one, the number one ASSIGN needs, of every address from the B stub end upward, from both ends (R97, R106). DESIGN CHOICE:
the unit map and its serials stay as they are (log 128). -/
def shiftUp (s : Dev) (n : Nat) : Dev :=
  let b := bEnd s n
  let r := getRing s n
  if r.nodes.any (fun e => e.1 == 127) || b = 0 then s
  else
    let s := setRing s n { r with nodes := r.nodes.map (fun e => if b ≤ e.1 then (e.1 + 1, e.2) else e), seqs := r.seqs.map (fun e => if b * 4 ≤ e.1 then (e.1 + 4, e.2) else e) }
    let s := sendEnum (sendEnum s n false 9 [b, 1]) n true 9 [b, 1]
    wrF s (ringReg n 4) 24 7 (b + 1)

/-- Offer an address through the A stub end (R106). -/
def joinStart (s : Dev) (n : Nat) : Dev :=
  let s := if (joinAddr s n).isNone then shiftUp s n else s
  match joinAddr s n with
  | none => raise s 1 Ev.RING_JOIN_REFUSED (ringArg n 0) (n * 128)
  | some a => sendEnum (setRing s n { getRing s n with enm := some { join := true, addr := some a } }) n false 2 [a]

/-- Row CLOSURE_PROBE_TIMER: every ring in dual stub is probed; where the probe before did not reach B, the device offers an
address first, which a closed node answers (R104, R106). -/
def closureProbeTimer (s : Dev) : Dev :=
  forL s (liveRings s) (fun s n =>
    let r := getRing s n
    if ringMode s n ≠ 2 || r.search.isSome || r.enm.isSome then s
    else
      let s := if r.probeOut then joinStart s n else s
      sendEnum (setRing s n { getRing s n with probeOut := true }) n false 8 [])

/-- Row CLOSE_PROBE_ARRIVED: the probe reached B; the latency in 5 ns units (R104). -/
def closeProbeArrived (n lat : Nat) (s : Dev) : Dev :=
  let s := ringGot (ringBytes s n 7) n
  let r := getRing s n
  if ringMode s n ≠ 2 || r.search.isSome then s
  else
    let s := setRing s n { r with probeOut := false, enm := none, nodes := r.nodes.map (fun e => (e.1, { e.2 with unreach := false })) }
    let s := refuseFar (latFromTotal s n lat (bEnd s n)) n
    let s := sendEnum s n false 7 []
    let s := wrN s (ringReg n 4) (fld (rd s (ringReg n 4)) 3 3 * 8 + 1)
    let s := programRing s n false
    let s := clearCond (clearCond s 1 Ev.RING_BREAK n 0x7F) 1 Ev.RING_UNREACHABLE n 0x7F
    post (ringCounts s n) 1 Ev.RING_CLOSED (ringArg n 0)

/-- A unit of the node belongs to a string in a state that bars its leaving (R403). -/
def leaveBarred (s : Dev) (n addr : Nat) : Bool :=
  [0, 1].any (fun u =>
    let w := rd s (ACQ_UMAP + umapIdx n addr u * 8)
    let st := (getStr s (fld w 23 7)).st
    bitOf w 31 && !(st == .sOpen || st == .sLockedOut || st == .sWeldSuspect))

/-- The ends the device serves the ring from after a node has left (R107): (A stub end, B stub end, the neighbour beyond the
leaving node in its own stub, and the stub's side). In ring mode the neighbours become the stub ends; in dual stub the end of the node's
own stub moves to its nearer neighbour, and the nodes beyond are cut off. -/
def leaveEnds (s : Dev) (n addr : Nat) : Nat × Nat × Nat × Bool :=
  let l := nodeAddrs s n
  let below := (l.filter (fun x => decide (x < addr))).getLast?.getD 0
  let above := (l.filter (fun x => decide (addr < x))).headD 0
  if ringMode s n ≠ 2 then (below, above, 0, false)
  else if addr ≤ aEnd s n then (below, bEnd s n, if above ≤ aEnd s n then above else 0, false)
  else if bEnd s n ≠ 0 ∧ bEnd s n ≤ addr then (aEnd s n, above, if bEnd s n ≤ below then below else 0, true)
  else (aEnd s n, bEnd s n, 0, false)

/-- The node leaves: stub ends at its neighbours, then RELEASE (R107). -/
def nodeLeave (s : Dev) (n addr : Nat) : Dev :=
  let x := leaveEnds s n addr
  let ring := ringMode s n != 2
  let s := if ring then sendEnum (sendEnum s n false 6 [0]) n true 6 [1] else s
  let s := sendStubEnd s n x.2.2.1 x.2.2.2
  let s := if ring || x.1 != aEnd s n then sendStubEnd s n x.1 false else s
  let s := if ring || x.2.1 != bEnd s n then sendStubEnd s n x.2.1 true else s
  let s := sendEnum s n x.2.2.2 0x0A [addr]
  let r := getRing s n
  let cut := fun i : Nat => decide (x.1 < i) && (x.2.1 == 0 || decide (i < x.2.1))
  let nodes := (Tbl.erase r.nodes addr).map (fun e => (e.1, { e.2 with unreach := cut e.1 }))
  let s := setRing s n { r with nodes := nodes, seqs := r.seqs.filter (fun k => k.1 / 4 != addr) }
  let s := setMode (wrF (wrF s (ringReg n 4) 16 7 x.1) (ringReg n 4) 24 7 x.2.1) n 2
  let s := match (nodeAddrs s n).filter cut with
    | i :: _ => raise (wrB s (ringReg n 4) 7 true) 1 Ev.RING_UNREACHABLE (ringArg n i) n
    | [] => unreachSync s n addr
  note (ringCounts s n) 1 Ev.RING_LEAVE (ringArg n addr)

/-- The ring's enable is cleared: its MODE is OFF, and nothing runs on it any more (R109, R110). -/
def ringOff (s : Dev) (n : Nat) : Dev :=
  let r := getRing s n
  let s := setMode (wrF s (ringReg n 0) 0 2 0) n 0
  let s := setRing s n { r with enm := none, exch := none, held := none, search := none, breakPing := false, probeOut := false, trainOut := false, trainDone := true }
  enumAnswers (exchDrop s n r)

/-! ## The opcodes (R403, R405) -/

/-- A ring's words in RING_STATUS (R394, R403). -/
def ringStatusWords (s : Dev) (n : Nat) : List U32 :=
  let r := getRing s n
  (List.range 5).map (fun i => rd s (ringReg n (4 * i))) ++ [w32 r.totSeg, w32 r.totFrm, w32 r.totTmo]
def ringStatusBody (c : HostCmd) (s : Dev) : Dev := serveRange s OP_RING_STATUS c 32 8 [] (ringStatusWords s)
def ringStatusGet (c : HostCmd) (s : Dev) : Dev := serve s OP_RING_STATUS c (ringStatusBody c)

def ringEnumerateBody (c : HostCmd) (s : Dev) : Dev :=
  if c.payload.length ≠ 1 then answer s OP_RING_ENUMERATE c ST_LENGTH
  else if pwN c 0 = 0 then answer s OP_RING_ENUMERATE c ST_BAD_PARAM
  else
    let l := (List.range 32).filter (fun n => bitOf (pw c 0) n)
    let s := forL s l (fun s n => if ringOn s n && (getRing s n).enm.isNone then enumStart s n else s)
    let s := { s with host := { s.host with enums := s.host.enums ++ [(c, l)] } }
    if pairUp s 1 then enumAnswers s else s
def ringEnumerate (c : HostCmd) (s : Dev) : Dev := serve s OP_RING_ENUMERATE c (ringEnumerateBody c)

/-- RING_LEAVE (R107). DESIGN CHOICE: the payload bits that its table does not list are reserved fields, and one set draws ST_BAD_PARAM (R5, log 113). -/
def ringLeaveBody (c : HostCmd) (s : Dev) : Dev :=
  let n := fld (pw c 0) 0 5
  let a := fld (pw c 0) 8 7
  if c.payload.length ≠ 1 then answer s OP_RING_LEAVE c ST_LENGTH
  else if fld (pw c 0) 5 3 ≠ 0 ∨ fld (pw c 0) 15 17 ≠ 0 then answer s OP_RING_LEAVE c ST_BAD_PARAM
  else if !(liveRings s).contains n || !(nodeAddrs s n).contains a then answer s OP_RING_LEAVE c ST_NOT_PRESENT
  else if leaveBarred s n a then answer s OP_RING_LEAVE c ST_CONFLICT
  else if !pairUp s 1 then s
  else answer (nodeLeave s n a) OP_RING_LEAVE c ST_OK
def ringLeave (c : HostCmd) (s : Dev) : Dev := serve s OP_RING_LEAVE c (ringLeaveBody c)

/-- NODE_READ (R405), sent by P1. DESIGN CHOICE: the payload bits that its table does not list are reserved fields, and one set draws ST_BAD_PARAM (R5, log 113). -/
def nodeReadBody (c : HostCmd) (s : Dev) : Dev :=
  let aux := bitOf (pw c 0) 31
  let cnt := fld (pw c 1) 8 8
  let n := fld (pw c 0) 0 5
  if c.payload.length ≠ 2 then answer s OP_NODE_READ c ST_LENGTH
  else if fld (pw c 0) 5 3 ≠ 0 ∨ fld (pw c 0) 15 9 ≠ 0 ∨ fld (pw c 0) 25 6 ≠ 0 ∨ (if aux then fld (pw c 1) 16 16 else fld (pw c 1) 8 24) ≠ 0 then
    answer s OP_NODE_READ c ST_BAD_PARAM
  else if aux ∧ (cnt = 0 ∨ cnt > 128) then answer s OP_NODE_READ c ST_BAD_PARAM
  else if !(liveRings s).contains n then answer s OP_NODE_READ c ST_NOT_PRESENT
  else emit s 1 (.ring n (.cmd { pair := 1, addr := fld (pw c 0) 8 7, unit := fld (pw c 0) 24 1, opcode := if aux then 3 else 1, args := if aux then [fld (pw c 1) 0 8, cnt] else [fld (pw c 1) 0 8], who := .nodeRead c.sess c.tag }))
def nodeRead (c : HostCmd) (s : Dev) : Dev := serve s OP_NODE_READ c (nodeReadBody c)

end Sys2Proof.Machine
end

