-- ==== Sys2Proof/Machine/SafeIo.lean ====
section
/-!
DEFINITION. Sys2Proof/Machine/SafeIo.lean: the safety functions and the safety I/O block (spec 10), and the safety opcodes
(13 R415, R416).
-/
namespace Sys2Proof.Machine

/-! ## Forbidden directions (R301 to R303) -/

/-- Highest and lowest valid cell voltage of string x in slot k, 100 µV; none without a valid cell. -/
def cellSpan (s : Dev) (k x : Nat) : Option (Nat × Nat) :=
  (cellsOf s x).foldl (fun acc c =>
    if cellValid s k c then
      let v := ld16 s (cellHist k c + 6)
      match acc with
      | none => some (v, v)
      | some (h, l) => some (max h v, min l v)
    else acc) none

/-- A demanding input with function `f` covers SEO n (R302, R305). -/
def blockCovers (s : Dev) (f n : Nat) : Bool :=
  (List.range 16).any (fun i => rdF s (SAF_SIN_CFG + i * 8) 29 3 == f && rdB s SAF_SIN_DEMAND i && bitOf (rd s (SAF_SIN_CFG + i * 8)) (8 + n))
/-- SDR forbids discharge (`chg` false) or charge of string x (R302). -/
def sdrForbids (s : Dev) (x : Nat) (chg : Bool) : Bool :=
  if chg then par s (0x8200 + x) == 2 || blockCovers s 4 (seoOf s x) else par s (0x8200 + x) == 1 || blockCovers s 5 (seoOf s x)

/-- The directions of string x that stand forbidden; a newly forbidden one starts its settle time (R301). -/
def directionSync (s : Dev) (x : Nat) : Dev :=
  let t := getStr s x
  let d := t.sswDis || sdrForbids s x false
  let c := t.sswChg || sdrForbids s x true
  setStr s x { t with fbDis := d, fbChg := c, setDis := t.setDis && d, setChg := t.setChg && c }

/-- SSW at a snapshot: a cell at a window end forbids the direction that leaves the window; the way back is timed (R303). -/
def sswSnapshot (s : Dev) (k x : Nat) : Dev :=
  match cellSpan s k x with
  | none => s
  | some (h, l) =>
    let hyst := par s 0x800B * 10
    let hiHit := decide (h ≥ par s 0x8009)
    let loHit := decide (l ≤ par s 0x800A)
    let hiOk := decide (h + hyst ≤ par s 0x8009)
    let loOk := decide (l ≥ par s 0x800A + hyst)
    let t := getStr s x
    let since := fun (ok : Bool) (at_ : Nat) => if ok then (if at_ = 0 then s.uptimeMs + 1 else at_) else 0
    let s1 := setStr s x { t with sswChg := t.sswChg || hiHit, sswDis := t.sswDis || loHit, sswChgAt := since hiOk t.sswChgAt, sswDisAt := since loOk t.sswDisAt }
    let s1 := if hiHit && !t.sswChg then raise s1 0 Ev.SSW_LIMIT (x + 0x10000 + h * 2 ^ 32) (x * 2 + 1) else s1
    if loHit && !t.sswDis then raise s1 0 Ev.SSW_LIMIT (x + l * 2 ^ 32) (x * 2) else s1

/-- safety.ssw.dwell_s within hysteresis permits the direction again (R303). -/
def sswDwellExpiry (x : Nat) (chg : Bool) (s : Dev) : Dev :=
  let t := getStr s x
  if !pairUp s 0 then s
  else if chg then
    if t.sswChg && t.sswChgAt != 0 then directionSync (clearCond (setStr s x { t with sswChg := false }) 0 Ev.SSW_LIMIT (x * 2 + 1) x) x else s
  else if t.sswDis && t.sswDisAt != 0 then directionSync (clearCond (setStr s x { t with sswDis := false }) 0 Ev.SSW_LIMIT (x * 2) x) x
  else s

/-- safety.dir.settle_ms after a direction became forbidden, its violations count (R301). -/
def directionSettleExpiry (x : Nat) (chg : Bool) (s : Dev) : Dev :=
  let t := getStr s x
  if !pairUp s 0 then s
  else if chg then setStr s x { t with setChg := t.fbChg } else setStr s x { t with setDis := t.fbDis }

/-! ## The safety checks of a snapshot (R299 to R304) -/

/-- P0 is to de-energize the string's SEO once its contactor exchange is resolved (R299). -/
def backupStr (s : Dev) (x : Nat) : Dev :=
  if parB s 0x8001 then { s with saf := { s.saf with backup := insertNat x s.saf.backup } } else s
/-- An F4 of the cell voltage, overtemperature, SLC or SDR function on one string: the second channel acts where a CONTACTOR_SET opens it,
not on a string that stands OPEN (R299). -/
def tripStr (s : Dev) (p ev arg x : Nat) : Dev :=
  if inForceB s ev x then s
  else
    let was := connected s x
    let s := fault4 s p ev arg x [x] (fun _ => true) false
    if was then backupStr s x else s
/-- Every SEO is to go off in the same way (EV_SCREEN_OVF, R299). -/
def backupAll (s : Dev) : Dev := if parB s 0x8001 then { s with saf := { s.saf with backSeo := List.range 8 } } else s

/-- SLC of a connected string, SDR and SSW of any, in slot k (R300, R301). -/
def currentChecks (s : Dev) (k x : Nat) : Dev :=
  let s := directionSync s x
  if !strValid s k x then s
  else
    let i := strCur s k x
    let a := i.natAbs / 100
    let s := if connected s x && decide (i.natAbs > par s 0x8006 * 1000) then tripStr s 0 Ev.SLC_EXCEED (x + a * 2 ^ 32) x else s
    let t := getStr s x
    let chg := decide (i < 0)
    let ovr := decide (i.natAbs > par s 0x8007 * 1000)
    let bad := ovr && (if chg then t.fbChg && t.setChg else t.fbDis && t.setDis)
    let arg := x + b2n chg * 0x10000 + a * 2 ^ 32
    if bad && sdrForbids s x chg then tripStr s 0 Ev.SDR_VIOLATION arg x
    else if bad then fault3 s 0 Ev.SSW_VIOLATION arg x false [x] false
    else clearCond s 0 Ev.SSW_VIOLATION x x

/-- The sum of the connected strings' currents against the IS channel, mA (R304). -/
def currentSum (s : Dev) (k : Nat) : Dev :=
  let n := par s 0x800D
  let a := 0x20DB0000 + k * 0x400 + n * 16
  let f := ld16 s (a + 0xC)
  if n > 15 ∨ !nbit f 15 ∨ f % 16 ≠ slotTag s k ∨ nbit f 14 then s
  else
    let sum := ((connStrs s).filter (strValid s k)).foldl (fun (acc : Int) x => acc + strCur s k x) 0
    let is_ := Params.toS32 (ld32 s a)
    let d := (sum - is_).natAbs
    if d * 50 > is_.natAbs + 20000 * 50 then
      let m := s.saf.ichkN + 1
      let s := { s with saf := { s.saf with ichkN := m } }
      if m ≥ 10 then fault3 s 0 Ev.CURRENT_CHECK (d / 100 * 2 ^ 32) devScope false (connStrs s) true else s
    else clearCond { s with saf := { s.saf with ichkN := 0 } } 0 Ev.CURRENT_CHECK devScope 0x7F

/-- P0 checks each snapshot's string data; `tUs` is the midpoint of the snapshot's window in local time, µs (R300). -/
def snapshotSafetyCheck (tUs : Nat) (s : Dev) : Dev :=
  match newestSlot s with
  | none => s
  | some k =>
    if !pairUp s 0 then s
    else
      let s := forL s (confStrs s) (fun s x => currentChecks (sswSnapshot s k x) k x)
      let s := currentSum s k
      let s := forL s (confStrs s) (fun s x => stringSnapshot s k tUs x)
      deriveState (routeCheck (weldAnswers s)) 0

/-! ## Safe inputs (R305 to R310) -/

def getSin (s : Dev) (n : Nat) : Sin := Tbl.get {} s.saf.sin n
def setSin (s : Dev) (n : Nat) (x : Sin) : Dev := { s with saf := { s.saf with sin := Tbl.set {} s.saf.sin n x } }
/-- Configuration of input n as its register holds it (R327); functions 6 and 7 act as OFF. -/
def sinFunc (s : Dev) (n : Nat) : Nat := let f := rdF s (SAF_SIN_CFG + n * 8) 29 3; if f > 5 then 0 else f
def sinMask (s : Dev) (n : Nat) : Nat := rdF s (SAF_SIN_CFG + n * 8) 8 8
def sinTpo (s : Dev) (n : Nat) (chB : Bool) : Nat := if chB then rdF s (SAF_SIN_CFG + n * 8) 21 3 else rdF s (SAF_SIN_CFG + n * 8) 24 3
/-- The channel's accepted level is its demand level (R305). -/
def chDemand (s : Dev) (n : Nat) (chB : Bool) : Bool :=
  if chB then rdB s SAF_SIN_LEVEL (16 + n) == rdB s (SAF_SIN_CFG + n * 8) 28 else !rdB s SAF_SIN_LEVEL n
/-- Both channels read released. -/
def sinReleased (s : Dev) (n : Nat) : Bool := !chDemand s n false && !chDemand s n true

/-- SEO hold bits of TRIP_F4 demands (R305). -/
def f4Holds (s : Dev) : Dev :=
  let v := packBits (fun q => (List.range 16).any (fun i => sinFunc s i == 2 && rdB s SAF_SIN_DEMAND i && nbit (sinMask s i) q)) 8
  seoFollowAll (wrF s SAF_SEO_HOLD 8 8 v)

/-- Strings of the SEOs in a mask. -/
def maskedStrs (s : Dev) (mask : Nat) : List Nat := (confStrs s).filter (fun x => nbit mask (seoOf s x))

/-- Input n comes into demand: hardware acts for TRIP_F4 and TRIP_F5, P0 for the others (R305). -/
def demandBegin (s : Dev) (n : Nat) (chB : Bool) : Dev :=
  if rdB s SAF_SIN_DEMAND n || sinFunc s n == 0 then s
  else
    let s := wrB s SAF_SIN_DEMAND n true
    let s := setSin s n { getSin s n with firstB := chB, changed := s.uptimeMs + 1 }
    let s := if rdB s (SAF_SIN_CFG + n * 8) 27 then wrB s SAF_SIN_LATCH n true else s
    let arg := n + b2n chB * 0x100
    let l := maskedStrs s (sinMask s n)
    if sinFunc s n = 1 then fault3 s 0 Ev.SIN_TRIP_F3 arg n false l false
    else if sinFunc s n = 2 then
      let s := raise s 0 Ev.SIN_TRIP_F4 arg n
      let s := if pairUp s 0 then forL s (l.filter (connected s)) (fun s x => setReact s x 4 Ev.SIN_TRIP_F4 false) else s
      react4 (f4Holds s) Ev.SIN_TRIP_F4 l (fun _ => false) false
    else if sinFunc s n = 3 then fault5 s 0 Ev.SIN_TRIP_F5 arg
    else
      let s := raise s 0 Ev.SIN_BLOCK (n + sinFunc s n * 0x100) n
      if pairUp s 0 then forL s l directionSync else s

/-- The demand of input n ends when nothing keeps it: both channels released within the discrepancy time of each other, no fault latch, no
restart latch (R307, R310). -/
def demandEnd (s : Dev) (n : Nat) : Dev :=
  if rdB s SAF_SIN_DEMAND n && sinReleased s n && !(getSin s n).discRun && !rdB s SAF_SIN_LATCH n && !rdB s SAF_SIN_LATCH (16 + n) then
    let s := wrB s SAF_SIN_DEMAND n false
    let s := setSin s n { getSin s n with changed := s.uptimeMs + 1 }
    let s := post s 0 Ev.SIN_RELEASE n
    let s := clearCond (clearCond s 0 Ev.SIN_TRIP_F3 n 0x7F) 0 Ev.SIN_BLOCK n 0x7F
    let s := f4Holds (unforce s Ev.SIN_TRIP_F4 n)
    if pairUp s 0 then forL s (maskedStrs s (sinMask s n)) directionSync else s
  else s

/-- A fault of input n latches it in demand; a discrepancy timer that runs runs on (R307, R308). -/
def sinFault (s : Dev) (n : Nat) (chB : Bool) (ev arg : Nat) : Dev :=
  let s := wrB (wrB s SAF_SIN_LATCH (16 + n) true) SAF_STATUS 8 true
  let s := setSin s n { getSin s n with relSeen := false }
  demandBegin (raise s 0 ev arg n) n chB

/-- A channel of input n is accepted at a new level (R306, R307, R310). The first channel's change starts the timer; only a change of the
other one stops it, and is itself a first change where the two then differ (Log 118). -/
def sinChannelChange (n : Nat) (chB high : Bool) (s : Dev) : Dev :=
  let s := wrB s SAF_SIN_LEVEL (n + if chB then 16 else 0) high
  if sinFunc s n = 0 then s
  else
    let x := getSin s n
    let dem := chDemand s n chB
    let agree := chDemand s n false == chDemand s n true
    let s := if x.discRun && x.discB == chB then s
             else if agree then setSin s n { x with discRun := false, relSeen := x.relSeen || (x.discRun && x.edgeRel && !dem) }
             else setSin s n { x with discRun := true, discB := chB, edgeRel := !dem }
    let s := if dem then setSin s n { getSin s n with relSeen := false } else s
    if dem then demandBegin s n chB else if agree then demandEnd s n else s

/-- The other channel has not followed within disc_ms: the input latches (R307). -/
def sinDiscrepancyTimeout (n : Nat) (s : Dev) : Dev :=
  let x := getSin s n
  if !x.discRun || sinFunc s n = 0 then s
  else sinFault (setSin s n { x with discRun := false }) n (chDemand s n true) Ev.SIN_DISCREPANCY (n + b2n x.edgeRel * 0x100)

/-- A channel of input n whose level is its demand under the new configuration puts it in demand (R305, R306). -/
def sinJudge (s : Dev) (n : Nat) : Dev :=
  if sinFunc s n = 0 then s
  else if chDemand s n false then demandBegin s n false
  else if chDemand s n true then demandBegin s n true else s

/-- A write of EXE_FEED: bits forced by R352 stay (R359). -/
def feedWrite (s : Dev) (v : U32) : Dev :=
  wrN s EXE_FEED (packBits (fun p => ((getPair s p).forced && rdB s EXE_FEED p) || bitOf v p) 4)
/-- A write of EXE_CTRL: the compare policy, with its EV_MODE_CHANGE where it changes (R354, R550). -/
def exeCtrlWrite (s : Dev) (v : U32) : Dev :=
  let was := s.exe.legacy
  let s := { (wr s EXE_CTRL v) with exe := { s.exe with legacy := bitOf v 2 } }
  if bitOf v 2 != was then modeChange s 0 0 (b2n (bitOf v 2)) 0 else s
/-- Input n is excited by TPO k on some channel. -/
def excited (s : Dev) (n k : Nat) : Bool := sinFunc s n != 0 && (sinTpo s n false == k + 1 || sinTpo s n true == k + 1)

/-- A test-pulse output pulses low at its slot, unless an input it excites changed its demand within 50 ms (R308, R309). -/
def tpoPulse (k : Nat) (s : Dev) : Dev :=
  if s.saf.tpoPulse.isSome || s.dev == .off || s.dev == .hibernate ||
     (List.range 16).any (fun n => excited s n k && (getSin s n).changed != 0 && decide (s.uptimeMs < (getSin s n).changed - 1 + 50)) then s
  else wrB { s with saf := { s.saf with tpoPulse := some k } } SAF_TEST (8 + k) true

/-- The pulse of TPO k ends. `low` names the channels (input × 2, plus 1 for B) that showed a low sample in its second half;
`crossed` the channels that read low during it and high again within 100 µs of its end (R308). -/
def tpoPulseEnd (k : Nat) (low crossed : List Nat) (s : Dev) : Dev :=
  if s.saf.tpoPulse != some k then s
  else
    let s := wrB { s with saf := { s.saf with tpoPulse := none } } SAF_TEST (8 + k) false
    forN s 32 (fun s i =>
      let n := i / 2
      let chB := i % 2 == 1
      let tp := sinTpo s n chB
      let arg := n + b2n chB * 0x100 + k * 0x1000
      if sinFunc s n = 0 then s
      else if tp = k + 1 ∧ !low.contains i then sinFault s n chB Ev.SIN_TEST arg
      else if tp ≠ 0 ∧ tp ≠ k + 1 ∧ crossed.contains i then sinFault s n chB Ev.SIN_CROSS arg
      else s)

/-! ## SEO readback and test pulses (R313 to R315) -/

/-- Output of a channel: on while the SEO is energized, nothing holds it, and the channel is not under pulse (R311, R314). -/
def seoOut (s : Dev) (n : Nat) (chB : Bool) : Bool := seoOn s n && seoFree s n && (getSeo s n).pulse != some chB

/-- A channel's readback `back` is not its output `out`: the SEO lock, and the F4 of the strings it powers (R313). -/
def seoMismatch (s : Dev) (n : Nat) (chB back out : Bool) : Dev :=
  let s := wrB (wrB s SAF_SEO_HOLD n true) SAF_STATUS 9 true
  let ev := if out then Ev.SEO_DROP else Ev.SEO_STUCK
  let l := (confStrs s).filter (fun x => seoOf s x == n)
  let s := if pairUp s 0 then forL s (l.filter (connected s)) (fun s x => setReact s x 4 ev false) else s
  let s := seoFollow (raise s 0 ev (n + b2n chB * 0x100) (n + b2n chB * 8)) n
  let s := react4 s ev l (fun _ => false) false
  wrB s SAF_SEO_STATE ((if chB then 16 else 8) + n) back
/-- The test of a channel of SEO n has failed: the pulse is over, and the SEO has not passed its last test (R313, R314). -/
def seoTestFail (s : Dev) (n : Nat) (chB back out : Bool) : Dev :=
  let s := wrB (wrB (setSeo s n { getSeo s n with pulse := none }) SAF_SEO_STATE n false) SAF_TEST n false
  seoMismatch s n chB back out

/-- A channel's readback stands, beyond its 300 µs: as the output, or not, which sets the SEO lock; of the channel under pulse it is the
failure of its test (R313, R314). -/
def seoReadbackMismatch (n : Nat) (chB back : Bool) (s : Dev) : Dev :=
  let out := seoOut s n chB
  if back = out then wrB s SAF_SEO_STATE ((if chB then 16 else 8) + n) back
  else if (getSeo s n).pulse = some chB && seoOn s n then seoTestFail s n chB back out
  else seoMismatch s n chB back out

/-- A test pulse takes the next channel of an energized SEO off, no sooner than 50 ms after a change (R314, R315). -/
def seoTestPulse (n : Nat) (s : Dev) : Dev :=
  let q := getSeo s n
  if !seoOn s n || q.pulse.isSome || (q.changed != 0 && decide (s.uptimeMs < q.changed - 1 + 50)) then s
  else
    let s := setSeo s n { q with pulse := some q.nextB }
    wrB (wrB s SAF_SEO_STATE n true) SAF_SEO_STATE ((if q.nextB then 16 else 8) + n) false

/-- The pulse ends: `off` says the readback read off before the end, `on` that it reads on within 300 µs after (R314, R315). -/
def seoTestPulseEnd (n : Nat) (off on : Bool) (s : Dev) : Dev :=
  let q := getSeo s n
  match q.pulse with
  | none => s
  | some chB =>
    let bit := (if chB then 16 else 8) + n
    if !seoOn s n then
      seoFollow (wrB (setSeo s n { q with pulse := none, waitOn := false }) SAF_SEO_STATE n false) n
    else if !off then seoTestFail s n chB true false
    else if !on then seoTestFail s n chB false true
    else
      let s := wrB (wrB (setSeo s n { q with pulse := none, nextB := !chB }) SAF_SEO_STATE n false) SAF_SEO_STATE bit true
      if chB then wrB s SAF_TEST n true else s

/-! ## Registers P0 writes (R311, R316, R317, R319, R327) -/

/-- A released write of 0x5A services the watchdog; other values are ignored, and a P0 halted by debug writes none (R317, R327, R356). -/
def safWdogWrite (p v : Nat) (s : Dev) : Dev :=
  if p ≠ 0 then busErrorTo s p
  else if v % 256 = 0x5A ∧ !primHalted s 0 then { s with saf := { s.saf with wdogAt := s.uptimeMs + 1 } } else s

/-- No write for 10 ms: the latch and WDOG_EXP; P2 logs the event (R317). -/
def watchdogExpiry (s : Dev) : Dev :=
  if s.dev == .off || s.dev == .hibernate then s
  else
    let s := wrB { s with saf := { s.saf with wdogAt := 0 } } SAF_STATUS 11 true
    fault5 s 2 Ev.P0_WATCHDOG 0

/-- SAF_CTRL.SAFE: P0 acts on the F5 event `ev` (R316). -/
def safCtrlSafe (p ev : Nat) (s : Dev) : Dev := if p ≠ 0 then busErrorTo s p else setLatch s ev

/-- P0's energize requests (R311). -/
def safSeoReqWrite (p v : Nat) (s : Dev) : Dev := if p ≠ 0 then busErrorTo s p else seoRequest s v

/-- The F5 cause that persists, if any (R319): both main poles welded, P0 lost, too few cores. -/
def f5Cause (s : Dev) : Nat :=
  if s.strs.any (fun e => (e.2.welds &&& 6) == 6) then Ev.WELD_BOTH
  else if (getPair s 0).lost then Ev.PAIR_LOST_P0
  else if inForceB s Ev.CORE_SHORTAGE devScope then Ev.CORE_SHORTAGE
  else 0
/-- A TRIP_F5 input is in demand. -/
def f5Demand (s : Dev) : Bool := (List.range 16).any (fun n => sinFunc s n == 3 && rdB s SAF_SIN_DEMAND n)
/-- SEOs with a readback that is not off. -/
def backsOn (s : Dev) : Nat := packBits (fun n => rdB s SAF_SEO_STATE (8 + n) || rdB s SAF_SEO_STATE (16 + n)) 8
/-- SAF_WDOG has been written within the last 10 ms. -/
def wdogFresh (s : Dev) : Bool := s.saf.wdogAt != 0 && decide (s.uptimeMs + 1 - s.saf.wdogAt ≤ 10)
/-- The conditions of R319 that remain, as R416 lays them out. A fault latch alone keeps no TRIP_F5 input from its own reset
when its channels are released and no restart latch keeps it. -/
def resetBars (s : Dev) : Nat :=
  let d := (List.range 16).any (fun n => sinFunc s n == 3 && rdB s SAF_SIN_DEMAND n && !(sinReleased s n && rdB s SAF_SIN_LATCH (16 + n) && (getSin s n).relSeen && !rdB s SAF_SIN_LATCH n))
  let c := f5Cause s
  b2n d + b2n (!wdogFresh s) * 2 + b2n (backsOn s != 0) * 4 + b2n (c != 0) * 8 + backsOn s * 0x100 + c * 0x10000

/-- The fault latches named in `m` whose channels have been released under R307 are cleared. -/
def clearFaults (s : Dev) (m : Nat) : Dev :=
  forN s 16 (fun s n =>
    if nbit m n && rdB s SAF_SIN_LATCH (16 + n) && sinReleased s n && (getSin s n).relSeen then
      let s := wrB s SAF_SIN_LATCH (16 + n) false
      let s := clearCond (clearCond (clearCond s 0 Ev.SIN_DISCREPANCY n 0x7F) 0 Ev.SIN_TEST n 0x7F) 0 Ev.SIN_CROSS n 0x7F
      demandEnd s n
    else s)
/-- SEO locks named in `m` are cleared (R313). -/
def clearLocks (s : Dev) (m : Nat) : Dev :=
  forN s 8 (fun s n =>
    if nbit m n && rdB s SAF_SEO_HOLD n && !nbit (backsOn s) n then
      forL (wrB s SAF_SEO_HOLD n false) [Ev.SEO_DROP, Ev.SEO_STUCK] (fun s e => unforce (unforce s e n) e (n + 8))
    else s)

/-- The clears of SAF_RESET; each acts only if R319 permits. -/
def safResetTake (s : Dev) (v : U32) : Dev :=
  if resetBars s ≠ 0 then s
  else
    let s := clearFaults s (fld v 16 16)
    let s := if bitOf v 15 then wrB s SAF_STATUS 0 false else s
    clearLocks s (fld v 0 8)

/-- Row SAF_RESET_WRITE, by pair p. -/
def safResetWrite (p : Nat) (v : U32) (s : Dev) : Dev := if p ≠ 0 then busErrorTo s p else safResetTake s v

/-- Restart latches named in `m` of released inputs are cleared; the inputs that were (R310). -/
def restartInputs (s : Dev) (m : Nat) : Nat × Dev :=
  (List.range 16).foldl (fun (acc : Nat × Dev) n =>
    let s := acc.2
    if nbit m n && rdB s SAF_SIN_LATCH n && sinReleased s n then
      (acc.1 + 2 ^ n, demandEnd (wrB s SAF_SIN_LATCH n false) n)
    else acc) (0, s)

/-- SAF_RESTART (R310, R327). -/
def safRestartWrite (p : Nat) (v : U32) (s : Dev) : Dev := if p ≠ 0 then busErrorTo s p else (restartInputs s (fld v 0 16)).2

/-- Configuration enters the registers it belongs to; a monitor whose configuration is written begins anew (R327, R359, R502). -/
def cfgTake (s : Dev) (l : List (Nat × U32 × U32)) : Dev :=
  forL s l (fun s w =>
    let v := (rd s w.1 &&& ~~~w.2.1) ||| (w.2.2 &&& w.2.1)
    if w.1 = EXE_FEED then feedWrite s v else if w.1 = EXE_CTRL then exeCtrlWrite s v
    else if BW_CFG ≤ w.1 ∧ w.1 < BW_CFG + 0x100 then bwRestart (wr s w.1 v) ((w.1 - BW_CFG) / 16)
    else wr s w.1 v)
/-- Released writes of configuration: an input whose configuration changes is judged by it (R306). -/
def cfgDeliver (s : Dev) (l : List (Nat × U32 × U32)) : Dev :=
  forN (cfgTake s l) 16 (fun s n => if l.any (fun w => w.1 == SAF_SIN_CFG + n * 8 || w.1 == SAF_SIN_CFG + n * 8 + 4) then sinJudge s n else s)

/-! ## Claim (R325) -/

/-- Lapsed conditions of the claim, as EV_CLAIM_LAPSED carries them. -/
def claimLapsed (s : Dev) : Nat :=
  b2n s.exe.legacy + b2n (noSpare s) * 2 + b2n (s.exe.debug != .off) * 4 + b2n (!parB s 0x8001) * 8 + b2n (decide (par s 0x8002 > 60)) * 16
/-- P0 keeps CLAIM_OK. -/
def claimSync (s : Dev) : Dev :=
  let l := claimLapsed s
  let was := rdB s SAF_STATUS 12
  let s := wrB { s with saf := { s.saf with lapsed := l } } SAF_STATUS 12 (l == 0)
  if l = 0 then clearCond s 0 Ev.CLAIM_LAPSED devScope 0x7F
  else if was then raise s 0 Ev.CLAIM_LAPSED l devScope else s

/-- An exchange with a connected string of SEO n is still to be resolved. -/
def seoBusy (s : Dev) (n : Nat) : Bool := (connStrs s).any (fun x => seoOf s x == n && (getStr s x).cmdOut.isSome)
/-- P0's backups at a safety tick: the SEO of each tripped string whose contactor exchange is resolved, and after EV_SCREEN_OVF every SEO
none of whose strings has one to resolve (R299). -/
def backupTick (s : Dev) : Dev :=
  let due := s.saf.backup.filter (fun x => (getStr s x).cmdOut.isNone)
  let all := s.saf.backSeo.filter (fun n => !seoBusy s n)
  let s := { s with saf := { s.saf with backup := s.saf.backup.filter (fun x => (getStr s x).cmdOut.isSome), backSeo := s.saf.backSeo.filter (seoBusy s) } }
  forL (forL s due (fun s x => seoBackOff s (seoOf s x))) all seoBackOff

/-! ## Safety opcodes (R415, R416) -/

/-- P0's write of SAF_RESET for SAFETY_RESET: every fault latch, the safe-state latch, every SEO lock (R319, R327). -/
abbrev resetAll : U32 := 0xFFFF80FF

/-- SAFETY_RESET (R319): P0 releases string locks and leaves SAFE_HOLD, and its write of SAF_RESET waits for its release (R327). -/
def safetyResetBody (c : HostCmd) (s : Dev) : Dev :=
  let b := resetBars s
  if b ≠ 0 then finish s OP_SAFETY_RESET c ST_CONFLICT [w32 b]
  else
    let s := emit s 0 (.clear (if c.sess < 8 then c.sess else 0xF) false resetAll)
    let s := { s with inForce := s.inForce.filter (fun e => Ev.cls e.code != 5), saf := { s.saf with latchEvt := 0 } }
    let s := forL s ((s.strs.map (·.1)).filter (fun x => (getStr s x).st == .sLockedOut && safetyLock (getStr s x).lockEvt)) unlockStr
    let s := if s.dev == .safeHold then setDev s 0 .standby 0 else s
    finish (post s 0 Ev.SAFE_RESET (c.sess * 0x100)) OP_SAFETY_RESET c ST_OK []
def safetyReset (c : HostCmd) (s : Dev) : Dev := serve s OP_SAFETY_RESET c (safetyResetBody c)

/-- SIN_RESET: P0's write of SAF_RESTART waits for its release, and the reply names the latches it clears (R310, R327, R415). -/
def sinResetBody (c : HostCmd) (s : Dev) : Dev :=
  if c.payload.length ≠ 1 then answer s OP_SIN_RESET c ST_LENGTH
  else if pwN c 0 = 0 ∨ pwN c 0 ≥ 0x10000 then answer s OP_SIN_RESET c ST_BAD_PARAM
  else
    let m := (restartInputs s (pwN c 0)).1
    finish (emit s 0 (.clear (if c.sess < 8 then c.sess else 0xF) true (w32 m))) OP_SIN_RESET c ST_OK [w32 m]
def sinReset (c : HostCmd) (s : Dev) : Dev := serve s OP_SIN_RESET c (sinResetBody c)

/-- SAFETY_READ (R415). -/
def safetyReadBody (c : HostCmd) (s : Dev) : Dev :=
  finish s OP_SAFETY_READ c ST_OK
    ([SAF_STATUS, SAF_SEO_STATE, SAF_SEO_HOLD, SAF_SIN_LEVEL, SAF_SIN_DEMAND, SAF_SIN_LATCH, SAF_FBK, SAF_TEST].map (rd s))
def safetyRead (c : HostCmd) (s : Dev) : Dev := serve s OP_SAFETY_READ c (safetyReadBody c)

end Sys2Proof.Machine
end

