-- ==== Sys2Proof/Machine/Acquisition.lean ====
section
/-!
DEFINITION. Sys2Proof/Machine/Acquisition.lean: coherent acquisition: windows, slots, segments, the limit screen, staleness,
balancing, the direct channels and the fast overcurrent comparators (spec 04 R113 to R149; 03 R83 to R91; 13 R403 to R406).
-/
namespace Sys2Proof.Machine

/-! ## The limit screen (R130 to R136) -/

/-- String x's enable bit (R131). -/
def scrOn (s : Dev) (x : Nat) : Bool := rdB s (ACQ_SCR_EN + x / 32 * 4) (x % 32)
/-- Strings whose enable bit is set. -/
def scrStrs (s : Dev) : List Nat := (List.range 128).filter (scrOn s)
/-- Active lane B limits of string x, bit-inverted. -/
def scrB (s : Dev) (x : Nat) : U32 := Tbl.get 0xFFFF0000 s.acq.actB x
/-- Lane A trips high, low (R130). -/
def laneA (s : Dev) (x v : Nat) (hi : Bool) : Bool :=
  let w := rd s (ACQ_SCR_ACT + x * 4)
  if hi then decide (v ≥ fld w 16 16) else decide (v ≤ fld w 0 16)
/-- Lane B trips high, low: inverted values, inequalities reversed (R130). -/
def laneB (s : Dev) (x v : Nat) (hi : Bool) : Bool :=
  let w := scrB s x
  if hi then decide (65535 - v ≤ fld w 16 16) else decide (65535 - v ≥ fld w 0 16)

/-- The FIFO as its registers show it (R132, R146). -/
def fifoSync (s : Dev) : Dev :=
  let s := wrF s ACQ_STATUS 23 9 s.acq.fifo.length
  let e := s.acq.fifo.headD (0, 0, 0, 0)
  wr (wr (wr (wr s ACQ_SCR_EVT e.1) (ACQ_SCR_EVT + 4) e.2.1) (ACQ_SCR_EVT + 8) e.2.2.1) (ACQ_SCR_EVT + 12) e.2.2.2

/-- One direction of the screen on a cell's value: the first trip of the string, direction and snapshot places an event
(R132); a full FIFO sets SCR_OVF (R134). -/
def screenDir (s : Dev) (k x c v : Nat) (hi : Bool) : Bool × Dev :=
  let a := laneA s x v hi
  let b := laneB s x v hi
  if !a && !b then (false, s)
  else
    let s := if a != b then wrB s ACQ_STATUS 2 true else s
    let key := 2 * x + b2n hi
    if s.acq.tripped.contains key then (true, s)
    else
      let s := { s with acq := { s.acq with tripped := insertNat key s.acq.tripped } }
      let w0 := w32 (b2n hi * 2 ^ 31 + b2n (!hi) * 2 ^ 30 + b2n a * 2 ^ 29 + b2n b * 2 ^ 28 + x * 2 ^ 16 + c)
      let w1 := w32 (v * 2 ^ 16 + fld (slotWord s k 1) 15 1 * 2 ^ 15)
      if s.acq.fifo.length ≥ 256 then (true, wrB s ACQ_STATUS 4 true)
      else (true, fifoSync { s with acq := { s.acq with fifo := s.acq.fifo ++ [(w0, w1, slotWord s k 0, slotWord s k 3)] } })

/-- P0 finds SCR_OVF set: a trip of every enabled string, once per episode, with its own event (R134). DESIGN CHOICE: the event carries
argument 0 (log 129). -/
def scrOvf (s : Dev) : Dev :=
  if rdB s ACQ_STATUS 4 && !s.acq.ovfOn && pairUp s 0 then
    let s := { s with acq := { s.acq with ovfOn := true } }
    let l := scrStrs s
    backupAll (if inForceB s Ev.SCREEN_OVF devScope then react4 (post s 0 Ev.SCREEN_OVF 0) Ev.SCREEN_OVF l (fun _ => true) true
               else fault4 s 0 Ev.SCREEN_OVF 0 devScope l (fun _ => true) true)
  else s

/-- P0's reaction to one screen event (R133). -/
def scrReact (s : Dev) (w0 : U32) : Dev :=
  let x := fld w0 16 7
  let s := tripStr s 0 Ev.SCREEN_TRIP w0.toNat x
  if bitOf w0 29 && bitOf w0 28 then s
  else fault3 s 0 Ev.SCREEN_LANE x devScope true (confStrs s) true

/-- A read of ACQ_SCR_EVT3: the oldest event leaves the FIFO, and P0 acts on it (R132 to R134). -/
def scrEvtTake (s : Dev) : Dev :=
  let s := { s with readVal := rd s (ACQ_SCR_EVT + 12) }
  let s := scrOvf s
  match s.acq.fifo with
  | [] => s
  | e :: t =>
    let s := fifoSync { s with acq := { s.acq with fifo := t } }
    let s := if pairUp s 0 then scrReact s e.1 else s
    if t.isEmpty && pairUp s 0 then
      let s := wrB s ACQ_STATUS 4 false
      { s with acq := { s.acq with ovfOn := false } }
    else s

/-- Row ACQ_SCR_EVT3_READ, by P0: not while P0 re-executes a window, whose reads come from its input log; the event read enters that log (R132, R335, R336). -/
def acqScrEvt3Read (s : Dev) : Dev :=
  if (getPair s 0).recov != .run then s else logFree (scrEvtTake s) 0 (rd s (ACQ_SCR_EVT + 12))

/-- Transfer a string's shadows to its active copies, or reject them (R131). -/
def scrApply (s : Dev) (x : Nat) (en : Bool) : Dev :=
  let a := rd s (ACQ_SCR_A + x * 4)
  let b := rd s (ACQ_SCR_B + x * 4)
  if b = ~~~a ∧ fld a 16 16 ≥ fld a 0 16 + 2 then
    let s := wr s (ACQ_SCR_ACT + x * 4) a
    let s := { s with acq := { s.acq with actB := Tbl.set 0xFFFF0000 s.acq.actB x b } }
    wrB s (ACQ_SCR_EN + x / 32 * 4) (x % 32) en
  else note (wrB s ACQ_STATUS 5 true) 0 Ev.SCREEN_CFG x

/-- Row ACQ_SCR_APPLY: a write by pair p (R131, R136). -/
def acqScrApply (p : Nat) (v : U32) (s : Dev) : Dev := if p ≠ 0 then busErrorTo s p else scrApply s (fld v 0 7) (bitOf v 7)

/-- A string's screen limits: its own where they are set, the device's otherwise; its own may only narrow them (R136, R296). -/
def scrLimits (s : Dev) (x : Nat) : Nat × Nat :=
  let ov := par s (0x7400 + x)
  let uv := par s (0x7480 + x)
  (if ov = 0 then par s 0x3002 else min ov (par s 0x3002), if uv = 0 then par s 0x3003 else max uv (par s 0x3003))
/-- What P0 is to load: the limits of every configured string, enabled; every other string disabled (R131, R136). -/
def scrImage (s : Dev) : List (Nat × U32 × Bool) :=
  let l := confStrs s
  (List.range 128).map (fun x => (x, w32 ((scrLimits s x).1 * 65536 + (scrLimits s x).2), l.contains x))
/-- The screen takes P0's writes: shadows of both lanes and their transfer, or the enable bit cleared (R131). -/
def scrTake (s : Dev) (l : List (Nat × U32 × Bool)) : Dev :=
  forL s l (fun s e =>
    if e.2.2 then scrApply (wr (wr s (ACQ_SCR_A + e.1 * 4) e.2.1) (ACQ_SCR_B + e.1 * 4) (~~~e.2.1)) e.1 true
    else wrB s (ACQ_SCR_EN + e.1 / 32 * 4) (e.1 % 32) false)
/-- P0 loads the screen: through its release buffer (R136). -/
def scrLoad (s : Dev) : Dev := emit s 0 (.scr (scrImage s))

/-- The self-test of one string: OV, OV - 1, UV and UV + 1 on both lanes (R135). -/
def scrTestOk (s : Dev) (x : Nat) : Bool :=
  let w := rd s (ACQ_SCR_ACT + x * 4)
  let ov := fld w 16 16
  let uv := fld w 0 16
  [laneA, laneB].all (fun f =>
    f s x ov true && !f s x (ov - 1) true && !f s x (ov - 1) false && f s x uv false && !f s x (uv + 1) true && !f s x (uv + 1) false)
/-- The screen tests itself after a slot closes (R135). DESIGN CHOICE: the event carries argument 0 (log 129). -/
def scrSelfTest (s : Dev) : Dev :=
  if (scrStrs s).all (scrTestOk s) then clearCond s 0 Ev.SCREEN_SELFTEST devScope 0x7F
  else
    let s := wrB s ACQ_STATUS 3 true
    if pairUp s 0 then fault3 s 0 Ev.SCREEN_SELFTEST 0 devScope false (confStrs s) true else s

/-! ## Windows and slots (R113, R122, R123) -/

/-- A window opens with the trigger of a half (R113). -/
def openWindow (s : Dev) (half : Bool) : Dev :=
  let w : Window := { snap := snapId s, cycHi := s.tb.cyc / 2 ^ 32 % 65536, half := half, incoh := !coherent s, dense := s.acq.dense, local_ := localCyc s }
  { s with acq := { s.acq with windows := s.acq.windows ++ [w] } }

/-- One direct channel's results enter the direct table: (channel, mean, phasor real, imaginary, CLIP) (R125, R141). DESIGN CHOICE: an episode
of EV_DIRECT_RANGE ends with the channel's first window without CLIP (log 129). -/
def storeDirect (s : Dev) (k : Nat) (d : Nat × Int × Int × Int × Bool) : Dev :=
  let n := d.1
  let on := if n < 16 then par s (0x3100 + n) != 0 else if n < 24 then par s (0x3140 + n - 16) != 0 else par s (0x3150 + n - 24) != 0
  let half := fld (slotWord s k 1) 15 1
  if n ≥ 40 || (n ≥ 24 && half == 1) then s
  else
    let a := 0x20DB0000 + k * 0x400 + n * 16
    let clip := d.2.2.2.2 && decide (n < 24)
    let fl := if on then 2 ^ 15 + b2n clip * 2 ^ 14 + half * 2 ^ 12 + slotTag s k else slotTag s k
    let z := decide (n ≥ 24)
    let s := stN s a 16 ((ws32 d.2.1).toNat + (if z then 0 else (ws32 d.2.2.1).toNat) * 2 ^ 32 + (if z then 0 else (ws32 d.2.2.2.1).toNat) * 2 ^ 64 + fl * 2 ^ 96)
    if on then track s clip 1 Ev.DIRECT_RANGE n (0x100 + n) 0x7F else s

/-- Row TRAIN_LAUNCH: the oldest open window claims the next slot, the direct results enter it, and every live ring launches
its train or tokens (R87, R102, R122, R141). -/
def trainLaunch (direct : List (Nat × Int × Int × Int × Bool)) (s : Dev) : Dev :=
  match s.acq.windows with
  | [] => s
  | w :: t =>
    let q := (s.acq.seq + 1) % 2 ^ 32
    let k := q % 8
    let s := { s with acq := { s.acq with windows := t, seq := q, filling := some k, delivered := [], tripped := [] } }
    let a := ACQ_HIST_SLOT + k * 16
    let s := wrN s a w.snap
    let s := wrN s (a + 4) (w.cycHi * 65536 + b2n w.half * 32768 + b2n w.incoh * 16384 + b2n w.dense * 8192 + q % 16)
    let s := wrN (wrN s (a + 8) 0) (a + 12) w.local_
    let s := forL s direct (fun s d => storeDirect s k d)
    forN s 32 (fun s n =>
      let r := getRing s n
      if (liveRings s).contains n then
        if r.search.isSome then setRing s n { r with slot := k, trainOut := true, trainDone := false, got := [], lateRep := false, asked := false, undoA := {}, undoB := {} }
        else launchTrain s n k false
      else setRing s n { r with trainDone := true, trainOut := false })

/-! ## Staleness (R126, R128) -/

/-- Snapshots since a unit's last valid segment. -/
def unitAge (s : Dev) (i : Nat) : Nat := Tbl.get 0 s.acq.age i
/-- Unit-map indexes of a string's units. -/
def strUnits (s : Dev) (x : Nat) : List Nat := ((umapList s).filter (fun e => fld e.2.1 23 7 == x)).map (·.1)
/-- Some unit of the string is stale (R126). -/
def strStale (s : Dev) (x : Nat) : Bool := (strUnits s x).any (fun i => decide (unitAge s i ≥ 3))
/-- A unit is stale. -/
def unitStale (s : Dev) (i : Nat) : Bool := decide (unitAge s i ≥ 3)

/-- EV_CELL_STALE and the 250 ms of R128 begin or end for a string (R126, R128). -/
def staleSync (s : Dev) (x : Nat) : Dev :=
  if strStale s x then
    if Tbl.get 0 s.acq.staleAt x = 0 then
      raise { s with acq := { s.acq with staleAt := Tbl.set 0 s.acq.staleAt x (s.uptimeMs + 1) } } 1 Ev.CELL_STALE x x
    else s
  else
    let s := clearCond { s with acq := { s.acq with staleAt := Tbl.set 0 s.acq.staleAt x 0 } } 1 Ev.CELL_STALE x x
    clearCond s 0 Ev.STRING_DATA_LOST x x

/-- Row STRING_DATA_LOST_TIMEOUT (R128). -/
def stringDataLostTimeout (x : Nat) (s : Dev) : Dev :=
  if Tbl.get 0 s.acq.staleAt x ≠ 0 ∧ strStale s x ∧ pairUp s 0 then fault3 s 0 Ev.STRING_DATA_LOST x x false [x] false else s

/-! ## Segments (R85, R86, R90, R119 to R125) -/

/-- Units that contribute, in the order a train passes them: (address, unit). From the A stub end the nodes come descending. -/
def trainUnits (s : Dev) (n : Nat) (sideB : Bool) : List (Nat × Nat) :=
  let l := (getRing s n).nodes.filter (fun e => e.2.active)
  let l := if ringMode s n ≠ 2 then l
           else if sideB then l.filter (fun e => bEnd s n != 0 && decide (bEnd s n ≤ e.1))
           else (l.filter (fun e => decide (e.1 ≤ aEnd s n))).reverse
  l.flatMap (fun e => (if e.2.cfg0 = 0 then [] else [(e.1, 0)]) ++ (if e.2.cfg1 = 0 then [] else [(e.1, 1)]))
/-- UNIT_CFG of a unit. -/
def unitCfg (s : Dev) (n addr unit : Nat) : Nat :=
  let d := Tbl.get {} (getRing s n).nodes addr
  if unit = 0 then d.cfg0 else d.cfg1

/-- Segment errors are counted (R90, R109). -/
def segErr (s : Dev) (n k : Nat) : Dev :=
  let s := countEv (bumpReg s (ringReg n 0x14) k) (0x50 + n) 4 k
  let r := getRing s n
  setRing s n { r with totSeg := r.totSeg + k }

/-- A cell's 64-bit history entry (R121), without its screen bits. -/
def cellEntry (s : Dev) (k volt re im exp : Nat) (valid fly late bal : Bool) (reason : Nat) : Nat :=
  let w1 := slotWord s k 1
  volt * 2 ^ 48 + re * 2 ^ 40 + im * 2 ^ 32 + exp * 2 ^ 28 + b2n valid * 2 ^ 27 + b2n fly * 2 ^ 26 + b2n late * 2 ^ 25 +
    b2n bal * 2 ^ 24 + fld w1 14 1 * 2 ^ 21 + fld w1 15 1 * 2 ^ 20 + slotTag s k * 2 ^ 16 + reason

/-- Screen a cell's entry and store it in the history and in the record's input field (R120, R130). -/
def storeCell (s : Dev) (k x c e : Nat) : Dev :=
  let v := e / 2 ^ 48 % 65536
  let valid := nbit e 27
  let hi := if valid then screenDir s k x c v true else (false, s)
  let lo := if valid then screenDir hi.2 k x c v false else (false, hi.2)
  let e := e + b2n hi.1 * 2 ^ 23 + b2n lo.1 * 2 ^ 22
  st64 (st64 lo.2 (cellHist k c) e) (cellRec c) e

/-- Big-endian half-word i of a body. -/
def beHalf (l : List U8) (i : Nat) : Nat := beNat ((l.drop (2 * i)).take 2)

/-- A monitor's body lands: cells, and with CELL_TEMP its temperatures and auxiliary words (R86, R121, R124, R125). -/
def storeMonitor (s : Dev) (k : Nat) (w0 w1 : U32) (content exp : Nat) (fly late : Bool) (body : List U8) : Dev :=
  let nc := fld w0 16 5
  let x := fld w0 23 7
  let bal := beHalf body (2 * nc)
  let s := forN s nc (fun s i =>
    let e := if content = 0 then cellEntry s k 0 0 0 0 false fly late false (beHalf body 0)
             else cellEntry s k (beHalf body (2 * i)) (beHalf body (2 * i + 1) / 256) (beHalf body (2 * i + 1) % 256) exp true fly late (nbit bal i) 0
    storeCell s k x (fld w0 0 16 + i) e)
  if content = 2 then
    let o := 2 * nc + 1
    let st := (slotWord s k 3).toNat % 65536
    let s := forN s (min (fld w1 28 4) 8) (fun s j =>
      let i := fld w1 0 15 + j
      let s := { s with acq := { s.acq with tempRead := insertNat i s.acq.tempRead } }
      st32 s (0x20D80000 + i * 4) (beHalf body (o + j) * 65536 + st))
    let aux := 0x20DA0000 + fld w1 16 12 * 8
    let s := { s with exe := { s.exe with bad := s.exe.bad.filter (· != aux) } }
    forN s 4 (fun s j => st16 s (aux + 2 * j) (beHalf body (o + 8 + j)))
  else s

/-- A string unit's body lands in the string table (R86, R125). -/
def storeString (s : Dev) (k x content : Nat) (fly late : Bool) (body : List U8) : Dev :=
  let w1 := slotWord s k 1
  let v := content != 0
  let h := fun i => if v then beHalf body i else 0
  let fl := b2n v * 2 ^ 15 + b2n fly * 2 ^ 14 + b2n late * 2 ^ 13 + fld w1 15 1 * 2 ^ 12 + slotTag s k
  stN s (strEnt k x) 32 (h 0 * 65536 + h 1 + h 2 * 2 ^ 32 + h 3 * 2 ^ 48 + h 4 * 2 ^ 64 + h 5 * 2 ^ 80 + h 6 * 2 ^ 96 + fl * 2 ^ 112 + (slotWord s k 0).toNat * 2 ^ 128)

/-- Bytes of a segment body of a content on a unit, CRC apart (R86). NODATA is as long as what the unit would have sent. -/
def bodyLenOk (cfg content len : Nat) : Bool :=
  if cfgKind cfg = 2 then (content == 3 || content == 0) && len == 14
  else
    let c := 4 * cfgCells cfg + 2
    (content == 1 && len == c) || (content == 2 && len == c + 24) || (content == 0 && (len == c || len == c + 24))

/-- A valid segment resets its unit's age (R126). -/
def unitFresh (s : Dev) (n i x : Nat) : Dev :=
  let s := { s with acq := { s.acq with age := Tbl.set 0 s.acq.age i 0, delivered := if bitOf (slotWord s (getRing s n).slot 1) 10 then s.acq.delivered else insertNat i s.acq.delivered } }
  staleSync s x
/-- A segment with a good CRC has come in its unit's place: its run of bad trains ends (R90). -/
def unitGot (s : Dev) (n addr unit : Nat) : Dev :=
  let r := getRing s n
  let s := setRing s n { r with got := insertNat (addr * 2 + unit) r.got, segBad := Tbl.set 0 r.segBad (addr * 2 + unit) 0 }
  clearCond s 1 Ev.RING_SEG_ERR (n * 256 + addr * 2 + unit) 0x7F

/-- An entry was written after its slot closed (R121, R123, R127). -/
def lateMarks (s : Dev) (n k : Nat) : Dev :=
  let a := ACQ_HIST_SLOT + k * 16 + 4
  let s := wrB (wrB (wrB s a 12 true) ACQ_STATUS 1 true) (ringReg n 4) 5 true
  let r := getRing s n
  if r.lateRep then s
  else post (setRing s n { r with lateRep := true }) 1 Ev.ACQ_LATE
    (n + k * 2 ^ 8 + fld (slotWord s k 1) 15 1 * 2 ^ 11 + (slotWord s k 0).toNat * 2 ^ 32)

/-- The bytes that a unit's segment writes: history, record inputs, temperatures and auxiliary words, or its string entry (R120, R125). -/
def segRegions (k : Nat) (w0 w1 : U32) (content : Nat) : List (Nat × Nat) :=
  if bitOf w0 30 then [(strEnt k (fld w0 23 7), 32)]
  else
    ((List.range (fld w0 16 5)).map (fun i => fld w0 0 16 + i)).flatMap (fun c => [(cellHist k c, 8), (cellRec c, 8)]) ++
      (if content = 2 then [(0x20D80000 + fld w1 0 15 * 4, 4 * min (fld w1 28 4) 8), (0x20DA0000 + fld w1 16 12 * 8, 8)] else [])
/-- What a segment is about to change is kept, for a train found in error (R75). -/
def undoNote (s : Dev) (n : Nat) (lane : Bool) (i k content key : Nat) : Dev :=
  let r := getRing s n
  let u := if lane then r.undoB else r.undoA
  let m := (segRegions k (rd s (ACQ_UMAP + i * 8)) (rd s (ACQ_UMAP + i * 8 + 4)) content).map (fun e => (e.1, Memory.bytes s.mem e.1 e.2))
  let v : TrainUndo := { mem := m ++ u.mem, ages := (i, unitAge s i, s.acq.delivered.contains i) :: u.ages, bad := (key, Tbl.get 0 r.segBad key) :: u.bad }
  setRing s n (if lane then { r with undoB := v } else { r with undoA := v })
/-- What a train's segments stored is taken back (R11, R75). -/
def trainUndo (s : Dev) (n : Nat) (lane : Bool) : Dev :=
  let r := getRing s n
  let u : TrainUndo := if lane then r.undoB else r.undoA
  let s := forL s u.mem (fun s (e : Nat × List U8) => stBytes s e.1 e.2)
  let s := forL s u.ages (fun s (e : Nat × Nat × Bool) =>
    let t := { s with acq := { s.acq with age := Tbl.set 0 s.acq.age e.1 e.2.1, delivered := if e.2.2 then s.acq.delivered else s.acq.delivered.erase e.1 } }
    staleSync t (fld (rd s (ACQ_UMAP + e.1 * 8)) 23 7))
  let r := { r with segBad := u.bad.foldl (fun (t : Tbl Nat) (e : Nat × Nat) => Tbl.set 0 t e.1 e.2) r.segBad, got := r.got.filter (fun g => !u.bad.any (fun (e : Nat × Nat) => e.1 == g)) }
  setRing s n (if lane then { r with undoB := {} } else { r with undoA := {} })

/-- A parsed segment with a good CRC: routed through the unit map, screened, stored (R119 to R127, R131). -/
def segStore (s : Dev) (n addr unit hdr : Nat) (body : List U8) : Dev :=
  let i := umapIdx n addr unit
  let w0 := rd s (ACQ_UMAP + i * 8)
  let w1 := rd s (ACQ_UMAP + i * 8 + 4)
  let x := fld w0 23 7
  let k := (getRing s n).slot
  let content := hdr / 32 % 4
  let su := bitOf w0 30
  if !bitOf w0 31 || su != (cfgKind (unitCfg s n addr unit) == 2) || (!su && fld w0 16 5 != cfgCells (unitCfg s n addr unit)) then segErr s n 1
  else if !scrOn s x then s
  else
    let late := bitOf (slotWord s k 1) 10
    let fly := nbit hdr 7
    let s := if su then storeString s k x content fly late body else storeMonitor s k w0 w1 content (hdr % 16) fly late body
    let s := if late then lateMarks s n k else s
    if content = 0 then s else unitFresh s n i x

/-- The train of a side has ended on the ring; units without a segment of good CRC have one more bad train (R90, R115). -/
def trainEnd (s : Dev) (n : Nat) (sideB : Bool) : Dev :=
  let r := getRing s n
  let r := if ringMode s n = 2 && sideB then { r with overB := true } else { r with overA := true }
  let ovr := ringMode s n ≠ 2 || ((r.overA || aEnd s n == 0) && (r.overB || bEnd s n == 0))
  if !ovr then setRing s n r
  else
    let s := setRing s n { r with trainOut := false, trainDone := true, recovery := false }
    let us := (trainUnits s n false ++ (if ringMode s n = 2 then trainUnits s n true else [])).filter (fun u => !r.got.contains (u.1 * 2 + u.2))
    forL s us (fun s u =>
      let r := getRing s n
      let m := Tbl.get 0 r.segBad (u.1 * 2 + u.2) + 1
      let s := setRing s n { r with segBad := Tbl.set 0 r.segBad (u.1 * 2 + u.2) m }
      if m ≥ par s 0x2004 then raise s 1 Ev.RING_SEG_ERR (ringArg n u.1) (n * 256 + u.1 * 2 + u.2) else s)

/-- Parsing of a side's train ends; what follows of it is discarded (R75, R90). -/
def endParse (s : Dev) (n : Nat) (lane : Bool) : Dev :=
  let r := getRing s n
  setRing s n (if lane then { r with endedB := true } else { r with endedA := true })
/-- Header, snapshot ID, control word and header CRC of a train pass the checks of R75. -/
def trainHeadOk (h : List U8) : Bool :=
  h.length == 10 && crc16 (h.take 8) == beNat (h.drop 8) && beNat (h.take 2) / 0x1000 == 2 && beNat (h.take 2) % 8 == 0 &&
    beNat ((h.drop 6).take 2) % 0x400 == 0
/-- A reserved bit of a STRING status is set (R75, R86). -/
def segReserved (content : Nat) (body : List U8) : Bool := content == 3 && beHalf body 6 &&& 0xF0E0 != 0

/-- A train is found in error: what its segments stored is taken back, and the rest discarded (R11, R75). DEDUCED: what has left already,
screen events and event records, stays (log 111). -/
def trainError (s : Dev) (n : Nat) (lane : Bool) : Dev := endParse (frameErr (trainUndo s n lane) n) n lane

/-- One segment of a train that is still parsed (R75, R90). -/
def segTake (s : Dev) (n : Nat) (lane : Bool) (seg : List U8) : Dev :=
  let r := getRing s n
  let hdr := beNat (seg.take 2)
  let addr := hdr / 512
  let unit := hdr / 256 % 2
  let body := (seg.drop 2).take (seg.length - 4)
  let nx := if lane then r.nextB else r.nextA
  let bytes := (if lane then r.bodyB else r.bodyA) + seg.length
  if bytes + 8 > 16384 then trainError s n lane
  else
    match ((trainUnits s n lane).drop nx).findIdx? (fun u => u == (addr, unit)) with
    | none => endParse (segErr s n 1) n lane
    | some j =>
      let s := setRing s n (if lane then { r with nextB := nx + j + 1, bodyB := bytes } else { r with nextA := nx + j + 1, bodyA := bytes })
      if seg.length < 6 || crc16 (seg.take (seg.length - 2)) != beNat (seg.drop (seg.length - 2)) ||
          !bodyLenOk (unitCfg s n addr unit) (hdr / 32 % 4) body.length then segErr s n 1
      else if segReserved (hdr / 32 % 4) body then trainError s n lane
      else
        let s := undoNote s n lane (umapIdx n addr unit) r.slot (hdr / 32 % 4) (addr * 2 + unit)
        segStore (unitGot s n addr unit) n addr unit hdr body

/-- Row SEGMENT_RECEIVED: what has come in of a train at an end, and whether the ED has come (R84 to R90). -/
def segmentReceived (n : Nat) (sideB : Bool) (x : TrainPart) (last : Bool) (s : Dev) : Dev :=
  let s := if last then ringGot s n else s
  let s := if rdB s (ringReg n 0) 0 then countBytes s (0x50 + n) (x.seg.length + if x.head.isEmpty then 0 else lineBytes x.head.length) else s
  let r := getRing s n
  let lane := ringMode s n = 2 && sideB
  if !r.trainOut || r.search.isSome then s
  else
    let s := if if lane then r.endedB else r.endedA then s
      else if !x.head.isEmpty && !trainHeadOk x.head then trainError s n lane
      else if x.seg.isEmpty then s
      else segTake s n lane x.seg
    if last then trainEnd s n sideB else s

/-! ## Closing a slot (R123, R126, R135, R139) -/

/-- P1 compares the sensed with the commanded balancing of the period before, of which a CANCEL leaves nothing (R139). DESIGN CHOICE:
EV_BAL_NO_CURRENT ends when the cell is commanded and sensed again (log 129). -/
def balCheck (s : Dev) (k : Nat) : Dev :=
  forL s (umapList s) (fun s e =>
    if bitOf e.2.1 30 || !s.acq.delivered.contains e.1 then s
    else
      forN s (fld e.2.1 16 5) (fun s i =>
        let c := fld e.2.1 0 16 + i
        let x := fld e.2.1 23 7
        let w := ld32 s (cellHist k c)
        let sensed := nbit w 24
        let cmd := s.acq.balPrev.contains c
        let nn := if cmd && !sensed then Tbl.get 0 s.acq.balNoCur c + 1 else 0
        let ns := if sensed && !cmd then Tbl.get 0 s.acq.balStuck c + 1 else 0
        let s := { s with acq := { s.acq with balNoCur := Tbl.set 0 s.acq.balNoCur c nn, balStuck := Tbl.set 0 s.acq.balStuck c ns } }
        let lim := par s 0x3007
        let s := if nn ≥ lim then raise s 1 Ev.BAL_NO_CURRENT (x + c * 65536) c
                 else if cmd && sensed then clearCond s 1 Ev.BAL_NO_CURRENT c x else s
        if ns ≥ lim then raise { s with acq := { s.acq with balStop := insertNat c s.acq.balStop } } 1 Ev.BAL_STUCK (x + c * 65536) c else s))

/-- The slot being filled closes, at its gate's completion or deadline (R123). -/
def slotClose (s : Dev) : Dev :=
  match s.acq.filling with
  | none => s
  | some k =>
    let us := umapList s
    let miss := us.filter (fun e => !s.acq.delivered.contains e.1)
    let nd := us.length - miss.length
    let a := ACQ_HIST_SLOT + k * 16
    let s := wrB (wrB s (a + 4) 10 true) (a + 4) 11 miss.isEmpty
    let s := wrN s (a + 8) (miss.length * 65536 + nd)
    let s := wrN s ACQ_HIST_HEAD (s.acq.seq % 2 ^ 28 * 16 + 8 + k)
    let s := { s with acq := { s.acq with filling := none, age := miss.foldl (fun t e => Tbl.upd 0 t e.1 (fun v => v + 1)) s.acq.age } }
    let s := forL s (confStrs s) staleSync
    let s := if fld (slotWord s k 1) 15 1 = 1 then s else balCheck s k
    scrSelfTest s

/-- Every enabled ring has ended its train (R115). -/
def collectDone (s : Dev) : Bool :=
  (List.range 32).all (fun n => !ringOn s n || (getRing s n).trainDone)

/-! ## Balancing (R83, R137, R138) -/

/-- Balancing may run (R137). -/
def balAllowed (s : Dev) : Bool :=
  !s.acq.dense && parB s 0x3004 && (s.dev == .standby || s.dev == .connecting || s.dev == .connected)

/-- Cells of a unit in order of excess, the largest first, at most `m` of them: (cell, excess) pairs. -/
def topCells : Nat → List (Nat × Nat) → List Nat
  | 0, _ => []
  | m + 1, l =>
    match l with
    | [] => []
    | p :: t =>
      let b := t.foldl (fun b e => if e.2 > b.2 then e else b) p
      b.1 :: topCells m (l.filter (fun e => e.1 != b.1))

/-- Reported state of charge of a cell, 0.01 % (R151). -/
def socOut (s : Dev) (c : Nat) : Nat := ld16 s (cellRec c + 0x3C)

/-- Cells of one monitor balanced in a cycle (R138). -/
def balUnit (s : Dev) (k low : Nat) (e : Nat × U32 × U32) : List Nat :=
  let cs := (List.range (fld e.2.1 16 5)).map (fun i => fld e.2.1 0 16 + i)
  let ok := cs.filter (fun c => recInUse s c && !s.acq.balStop.contains c && !nbit (ld32 s (cellHist k c)) 26 && decide (socOut s c > low + par s 0x3005))
  if unitStale s e.1 then [] else topCells (par s 0x3006) (ok.map (fun c => (c, socOut s c - low)))

/-- The lowest state of charge in a string. -/
def lowSoc (s : Dev) (x : Nat) : Nat := ((cellsOf s x).filter (recInUse s)).foldl (fun m c => min m (socOut s c)) 10000

/-- Broadcast BAL CANCEL on every ring (R83, R137). -/
def balCancel (s : Dev) : Dev :=
  let s := { s with acq := { s.acq with balCancelled := true, balNow := [], balNext := [] } }
  forL s (liveRings s) (fun s n => emit s 1 (.ring n (.bal (snapId s) true [])))

/-- The barring state a CANCEL answers: DISCONNECTING, SAFE_HOLD or SERVICE, else none (R137). -/
def balBar (s : Dev) : Option DevState :=
  if s.dev == .disconnecting || s.dev == .safeHold || s.dev == .service then some s.dev else none

/-- Balancing ends with its conditions: a CANCEL for each entry to a state that bars it, and one where it was running (R137). -/
def balEnd (s : Dev) : Dev :=
  let b := balBar s
  let due := (b.isSome && b != s.acq.balBar) || (!balAllowed s && !s.acq.balCancelled)
  let s := { s with acq := { s.acq with balBar := b } }
  if due then balCancel s else s

/-- At angle 0 a cycle's pattern becomes that of the cycle before (R139). -/
def balCycle (s : Dev) : Dev :=
  { s with acq := { s.acq with balPrev := s.acq.balNow, balNow := s.acq.balNext, balNext := [] } }

/-- P1's balancing work of a cycle: the frames of the next cycle's period, which they name by its snapshot ID, so that they are complete
before its 175° (R60, R137, R138). DEDUCED: log 100. DESIGN CHOICE: of more than 253 monitors to balance on a ring the first 253 do (log 107). -/
def balRun (s : Dev) : Dev :=
  let s := { s with acq := { s.acq with balNext := [] } }
  if !balAllowed s then balEnd s
  else
    let s := { s with acq := { s.acq with balCancelled := false } }
    match newestSlot s with
    | none => s
    | some k =>
      let us := (umapList s).filter (fun e => !bitOf e.2.1 30)
      let lows := (confStrs s).map (fun x => (x, lowSoc s x))
      let sel := us.map (fun e => (e, balUnit s k (Tbl.get 10000 lows (fld e.2.1 23 7)) e))
      let on := fun n : Nat => (sel.filter (fun p => umapRing p.1.1 == n && !p.2.isEmpty)).take 253
      let s := { s with acq := { s.acq with balNext := ((liveRings s).flatMap on).foldl (fun l p => p.2.foldl (fun l c => insertNat c l) l) [] } }
      forL s (liveRings s) (fun s n =>
        let es := (on n).map (fun p => (umapAddr p.1.1, umapUnit p.1.1, packBits (fun i => p.2.contains (fld p.1.2.1 0 16 + i)) 16))
        emit s 1 (.ring n (.bal ((snapId s + 1) % 2 ^ 32) false es)))

def balClearBody (c : HostCmd) (s : Dev) : Dev :=
  if c.payload.length ≠ 1 then answer s OP_BAL_CLEAR c ST_LENGTH
  else if fld (pw c 0) 16 15 ≠ 0 then answer s OP_BAL_CLEAR c ST_BAD_PARAM
  else
    let all := bitOf (pw c 0) 31
    let l := if all then s.acq.balStop else s.acq.balStop.filter (fun x => x == fld (pw c 0) 0 16)
    let cell := fun (t : Tbl Nat) => if all then [] else Tbl.set 0 t (fld (pw c 0) 0 16) 0
    let s := { s with acq := { s.acq with balStop := s.acq.balStop.filter (fun x => !l.contains x), balNoCur := cell s.acq.balNoCur, balStuck := cell s.acq.balStuck } }
    let s := forL s l (fun s x => clearCond s 1 Ev.BAL_STUCK x (fld (w32 (ld32 s (cellRec x + 0x50))) 24 7))
    answer s OP_BAL_CLEAR c ST_OK
def balClear (c : HostCmd) (s : Dev) : Dev := serve s OP_BAL_CLEAR c (balClearBody c)

/-! ## Fast overcurrent comparators (R142 to R145) -/

/-- The comparator of a direction is enabled. -/
def focOn (s : Dev) (n : Nat) (chg : Bool) : Bool := par s ((if chg then 0x3120 else 0x3110) + n) != 0
/-- SEO holds of the trip bits (R143). -/
def focHolds (s : Dev) : Dev :=
  let v := packBits (fun q => (List.range 16).any (fun n => (rdB s ACQ_FOC_STATUS n || rdB s ACQ_FOC_STATUS (16 + n)) && nbit (par s (0x3130 + n)) q)) 8
  seoFollowAll (wrF s SAF_SEO_HOLD 16 8 v)
/-- A trip latches: hardware de-energizes the masked SEOs, and P0 opens their strings (R143). -/
def focTrip (s : Dev) (n : Nat) (chg : Bool) : Dev :=
  let s := focHolds (wrB s ACQ_FOC_STATUS (n + 16 * b2n chg) true)
  if pairUp s 0 then fault4 s 0 Ev.FOC_TRIP (n + 256 * b2n chg) (n + 16 * b2n chg) (maskedStrs s (par s (0x3130 + n))) (fun _ => true) false else s

/-- Row FOC_COMPARATOR_TRIP: comparator of channel n asserted for the filter time (R143, R145). -/
def focComparatorTrip (n : Nat) (chg : Bool) (s : Dev) : Dev :=
  if n ≥ 16 || !focOn s n chg then s
  else if s.acq.focTest.any (fun t => t.1 == n) then { s with acq := { s.acq with focDelayed := true, focChg := chg } }
  else focTrip s n chg

/-- Every string that the masked SEOs of a channel serve is OPEN (R144). -/
def focClearable (s : Dev) (n : Nat) : Bool := (maskedStrs s (par s (0x3130 + n))).all (fun x => (getStr s x).st == .sOpen)
/-- The trip bits P0 may clear: those of channels whose strings are all OPEN (R144). -/
def focMay (s : Dev) : U32 := w32 (packBits (fun b => focClearable s (b % 16)) 32)
/-- Row FOC_TRIP_CLEAR: a W1C write by pair p; `held` are the bits whose comparator is still asserted (R8, R136, R144). -/
def focTripClear (p : Nat) (v held : U32) (s : Dev) : Dev :=
  if p ≠ 0 then busErrorTo s p else focHolds (wr s ACQ_FOC_STATUS (rd s ACQ_FOC_STATUS &&& (~~~(v &&& focMay s) ||| held)))

/-- Row FOC_COMPARATOR_TEST: the test of a comparator begins (R145). -/
def focComparatorTest (n : Nat) (chg : Bool) (s : Dev) : Dev :=
  if n < 16 ∧ focOn s n chg ∧ s.acq.focTest.isNone then { s with acq := { s.acq with focTest := some (n, chg), focDelayed := false } } else s

/-- Row FOC_TEST_END: whether the comparator changed state (R145). -/
def focTestEnd (changed : Bool) (s : Dev) : Dev :=
  match s.acq.focTest with
  | none => s
  | some (n, chg) =>
    let b := n + 16 * b2n chg
    let late := s.acq.focDelayed
    let s := wrB { s with acq := { s.acq with focTest := none, focDelayed := false } } ACQ_FOC_TEST b changed
    let s := if changed then clearCond s 0 Ev.FOC_TEST b 0x7F
             else if pairUp s 0 then fault3 s 0 Ev.FOC_TEST (n + 256 * b2n chg) b false (maskedStrs s (par s (0x3130 + n))) false
             else s
    if late then focTrip s n s.acq.focChg else s

/-! ## The opcodes (R403 to R406) -/

/-- A slot by HISTORY_READ's words 1 and 2: its number, or the status (R406). -/
def slotFor (s : Dev) (c : HostCmd) : Except Nat Nat :=
  if bitOf (pw c 2) 31 then
    match newestSlot s with
    | some k => .ok k
    | none => .error ST_NOT_PRESENT
  else
    let h := rdF s ACQ_HIST_HEAD 0 3
    let holds := fun k => slotWord s k 0 == pw c 1 && bitOf (slotWord s k 1) 15 == bitOf (pw c 2) 30
    match ((List.range 8).map (fun i => (h + 8 - i) % 8)).find? (fun k => holds k && bitOf (slotWord s k 1) 10) with
    | some k => .ok k
    | none => match s.acq.filling with
      | some k => if holds k then .error ST_STATE else .error ST_NOT_PRESENT
      | none => .error ST_NOT_PRESENT

/-- Serve a slot's header and items (R403, R406). DESIGN CHOICE: the copy is atomic, so no slot is claimed again meanwhile (log 134). -/
def serveSlot (s : Dev) (op : Nat) (c : HostCmd) (size per : Nat) (item : Nat → Nat → List U32) : Dev :=
  if c.payload.length ≠ 3 then answer s op c ST_LENGTH
  else if fld (pw c 2) 0 30 ≠ 0 then answer s op c ST_BAD_PARAM
  else
    match rangeStatus (rangeFirst c 0) (rangeCount c 0) size 4 per with
    | some st => answer s op c st
    | none =>
      match slotFor s c with
      | .error st => answer s op c st
      | .ok k => finish s op c ST_OK ((List.range 4).map (slotWord s k) ++ (List.range (rangeCount c 0)).flatMap (fun i => item k (rangeFirst c 0 + i)))

def historyReadBody (c : HostCmd) (s : Dev) : Dev := serveSlot s OP_HISTORY_READ c 65536 2 (fun k x => ldWords s (cellHist k x) 2)
def historyRead (c : HostCmd) (s : Dev) : Dev := serve s OP_HISTORY_READ c (historyReadBody c)
def stringSampleReadBody (c : HostCmd) (s : Dev) : Dev := serveSlot s OP_STRING_SAMPLE_READ c 128 8 (fun k x => ldWords s (strEnt k x) 8)
def stringSampleRead (c : HostCmd) (s : Dev) : Dev := serve s OP_STRING_SAMPLE_READ c (stringSampleReadBody c)

def directReadBody (c : HostCmd) (s : Dev) : Dev :=
  finish s OP_DIRECT_READ c ST_OK ((List.range 40).map (fun i => rd s (ACQ_DIR_NOW + 4 * i)) ++ [rd s ACQ_FOC_STATUS, rd s ACQ_FOC_TEST])
def directRead (c : HostCmd) (s : Dev) : Dev := serve s OP_DIRECT_READ c (directReadBody c)

/-- A unit-map entry as UNIT_MAP_GET shows it (R404). -/
def umapWords (s : Dev) (i : Nat) : List U32 :=
  let q := Tbl.get 0 s.acq.serials i
  [rd s (ACQ_UMAP + i * 8), rd s (ACQ_UMAP + i * 8 + 4), w32 (umapUnit i * 65536 + umapAddr i * 256 + umapRing i), w32 q, w32 (q / 2 ^ 32)]
def unitMapGetBody (c : HostCmd) (s : Dev) : Dev := serveRange s OP_UNIT_MAP_GET c 8128 5 [] (umapWords s)
def unitMapGet (c : HostCmd) (s : Dev) : Dev := serve s OP_UNIT_MAP_GET c (unitMapGetBody c)

/-- The 1 ms means of the direct channels (R140, R146): (channel, mean). A disabled channel reads 0. -/
def directNow (s : Dev) (l : List (Nat × Int)) : Dev :=
  forL s l (fun s e =>
    let n := e.1
    let on := if n < 16 then par s (0x3100 + n) != 0 else if n < 24 then par s (0x3140 + n - 16) != 0 else par s (0x3150 + n - 24) != 0
    if n < 40 then wr s (ACQ_DIR_NOW + 4 * n) (if on then ws32 e.2 else 0) else s)

end Sys2Proof.Machine
end

