-- ==== Sys2Proof/Machine/Can.lean ====
section
/-!
DEFINITION. Sys2Proof/Machine/Can.lean: the commands of the CAN controllers (spec 15) and the pass-through commands of the host
(13 R418 to R421).
-/
namespace Sys2Proof.Machine

/-- Offer the head element; an invalid element leaves with outcome INVALID and the next is offered (R466, R467). -/
def attemptFrom (n : Nat) (tsc : U32) : Nat → Dev → Dev
  | 0, s => s
  | fuel + 1, s =>
    if evFull s n then s
    else
      match offer s n with
      | none => s
      | some (buf, i) =>
        let w := elemWords s n buf i
        if elemInvalid s n (w.getD 0 0 &&& (if buf < 3 then 0xFF00FFFF#32 else 0xFC000000#32)) (if buf < 3 then w.getD 1 0 else 0) then
          attemptFrom n tsc fuel (holdCheck (leaveElem s n buf i 3 0) n)
        else
          let h := getHead s n buf i
          let s := setHead s n buf i { h with attempts := min (h.attempts + 1) 255 }
          canSync (setCan s n { getCan s n with attempt := some { buf := buf, idx := i, sof := tsc } }) n

/-- The loop delay of R458 from the edges seen, in clock cycles after the transmitted edge: the first not below DLY_MIN. -/
def loopDelay (s : Dev) (n : Nat) (edges : List Nat) : Option Nat :=
  edges.find? (fun e => decide (rdF s (canReg n 0x10) 0 7 ≤ e))

/-- TDC measurement in an attempt to send an FD frame (R458): CAN_LOOPDLY, LOOP_SAT and EV_CAN_TDC_SAT, once per episode. -/
def tdcMeasure (s : Dev) (n : Nat) (a : Attempt) (edges : List Nat) : Dev :=
  match if rdB s (canReg n 0x10) 31 && bitOf ((elemWords s n a.buf a.idx).getD 0 0) 27 then loopDelay s n edges else none with
  | none => s
  | some d =>
    let s := wrN s (canReg n 0x14) (min d 127)
    if d > 127 then raise (canIr s n 14) 3 Ev.CAN_TDC_SAT n n
    else clearCond s 3 Ev.CAN_TDC_SAT n 0x7F

/-- CAN_ATTEMPT_START: at bus idle or the end of an intermission, the controller offers an element; none while restricted, off
the bus, in an attempt, or while the event FIFO is full (R467, R469, R476). `tsc` is the TSC at SOF. -/
def canAttemptStart (n : Nat) (tsc : U32) (s : Dev) : Dev :=
  if (getCan s n).attempt.isSome then s
  else
    let s := if (getCan s n).rx then endAttempt s n else s
    if !canOnBus s n || canRestricted s n then s else attemptFrom n tsc 96 s

/-- The frame of an element or object as the controller sends it (R457, R466, R472). -/
def sentFrame (s : Dev) (n buf i : Nat) : CanFrame :=
  let w := elemWords s n buf i
  let w0 := w.getD 0 0
  let rtr := buf < 3 && bitOf w0 25
  let passive := decide ((getCan s n).tec ≥ 128) || decide ((getCan s n).rec_ ≥ 128)
  { dlc := fld w0 28 4, fdf := bitOf w0 27, brs := bitOf w0 26, rtr := rtr, xtd := bitOf w0 24, esi := bitOf w0 27 && passive, id := fld (w.getD 1 0) 0 29, data := (wordsToBytes (w.drop (if buf < 3 then 2 else 4))).take (if rtr then 0 else dlcLen (fld w0 28 4) (bitOf w0 27)) }

/-- CAN_TRANSMIT_COMPLETE: the attempt in progress has ended with its frame on the bus; the element leaves TRANSMITTED, or
TRANSMITTED_CANCEL_LATE after a late cancel (R469, R470). `edges` are those the loop-delay measurement saw (R458). -/
def canTransmitComplete (n : Nat) (edges : List Nat) (s : Dev) : Dev :=
  match (getCan s n).attempt with
  | none => s
  | some a =>
    let s := tdcMeasure s n a edges
    let f := sentFrame s n a.buf a.idx
    let s := setCan s n { getCan s n with sent := some f }
    let late := (getHead s n a.buf a.idx).late
    let s := leaveElem s n a.buf a.idx (if late then 1 else 0) a.sof
    let s := if a.buf = 3 then st32 s (objAddr n a.idx + 12) a.sof.toNat else s
    let s := wrN s (canReg n 0x84) (rdN s (canReg n 0x84) + 1)
    let s := countBytes (countEv s (0x70 + n) 1 1) (0x70 + n) (frameData f.dlc f.fdf f.rtr)
    let s := if canRestricted s n then s else setErr s n ((getCan s n).tec - 1) (getCan s n).rec_
    flushProfile (holdCheck (endAttempt s n) n)

/-- TXB2_HOLD_START: TXB2 is held on the PCS controllers (R468). -/
def txb2HoldStart (s : Dev) : Dev :=
  forL s (pcsCtls s) (fun s n =>
    if canPar s n 0 = 0 then s
    else wrB (setCan s n { getCan s n with gateOn := false, held1 := false }) (canReg n 0x74) 0 true)

/-- The P3 PUBLISH gate starts: the hold may end once TXB1 has held an element and is empty again (R468). -/
def holdGateStart (s : Dev) : Dev :=
  forL s (pcsCtls s) (fun s n => setCan s n { getCan s n with gateOn := true, held1 := cycQueued s n })
/-- The gate's deadline angle ends the hold (R468). -/
def holdGateEnd (s : Dev) : Dev :=
  forL s (pcsCtls s) (fun s n => wrB (setCan s n { getCan s n with gateOn := false }) (canReg n 0x74) 0 false)

/-- REC after a frame received valid: one less, or between 119 and 127 from above 127, at ISO 11898-1's choice (R474). -/
def recAfterRx (s : Dev) (n : Nat) : Nat × Dev :=
  let r := (getCan s n).rec_
  if r > 127 then
    let (k, s) := takeNat s 9
    (119 + k, s)
  else (r - 1, s)

/-- The attempt has lost its arbitration: its clash count starts again at 0 (R467, R478). -/
def arbLost (s : Dev) (n : Nat) (a : Attempt) : Dev :=
  countEv (setHead s n a.buf a.idx { getHead s n a.buf a.idx with clash := 0 }) (0x70 + n) 4 1

/-- What a controller does with a frame that ends valid on its bus: filtered by the list in force at its SOF, and stored (R461 to R465,
R472). -/
def canTakeFrame (n : Nat) (f : CanFrame) (tsc : U32) (s : Dev) : Dev :=
  let s := if canRestricted s n then s
    else
      let (r, s) := recAfterRx s n
      setErr s n (getCan s n).tec r
  if canObject s n then
    match objTake s n f with
    | some i => objStore s n i f tsc
    | none => s
  else
    match fltDecide s n f with
    | some (k, i, nm) => rxStore s n k (rxWords s n f i nm tsc)
    | none => s

/-- Cancellations that waited for room complete, oldest first (R469). -/
def drainCancels (n : Nat) : Nat → Dev → Dev
  | 0, s => s
  | fuel + 1, s =>
    match (getCan s n).evWait with
    | [] => s
    | (buf, i, o) :: t =>
      if evTight s n then s
      else drainCancels n fuel (holdCheck (leaveElem (setCan s n { getCan s n with evWait := t }) n buf i o 0) n)

/-- CAN_FRAME_RECEIVED: a frame ends valid on controller n's bus; `tsc` is the TSC at SOF (R461 to R465, R472). An attempt in
progress has lost its arbitration to it. A CLASSIC controller meets FDF, any other a recessive res bit, with protocol exception
handling (R457). -/
def canFrameReceived (n : Nat) (f : CanFrame) (tsc : U32) (s : Dev) : Dev :=
  if !canOnBus s n then s
  else
    let busy := canBusy s n
    let s := match (getCan s n).attempt with
      | some a => arbLost s n a
      | none => s
    let exc := f.fdf && (f.res || canFormat s n == 0 || canFormat s n == 3)
    let s := if exc then setCan s n { getCan s n with integ := true } else canTakeFrame n f tsc s
    let s := if busy then drainCancels n 96 (endAttempt s n) else s
    if exc then canStat s n 5 else s

/-- Count a clash: an attempt that won arbitration ended in a bit error before the ACK slot; at 3 the buffer or object is
suspended (R478). Any other end returns the count to 0. -/
def clashCount (s : Dev) (n : Nat) (a : Attempt) (e : CanError) : Dev :=
  let h := getHead s n a.buf a.idx
  let s := setHead s n a.buf a.idx { h with won := h.won || e.won }
  let h := getHead s n a.buf a.idx
  if e.won && e.preAck && (e.kind = 1 || e.kind = 2) then
    let s := setHead s n a.buf a.idx { h with clash := h.clash + 1 }
    if h.clash + 1 < 3 then s
    else
      let w := elemWords s n a.buf a.idx
      let id := fld (w.getD 1 0) 0 29
      let x := b2n (bitOf (w.getD 0 0) 24)
      let c := getCan s n
      let s := if a.buf = 3 then setCan s n { c with suspObj := nput c.suspObj a.idx true }
        else
          let s := setCan s n { c with susp := nput c.susp a.buf true }
          txbSync s n a.buf (txbGet s n a.buf) (txbPut s n a.buf)
      let s := wrN (canIr s n 13) (canReg n 0x80) (x * 2 ^ 31 + a.buf * 2 ^ 29 + id)
      raise s 3 Ev.CAN_ID_CLASH (n + a.buf * 0x100 + id * 2 ^ 32 + x * 2 ^ 63) (n * 4 + a.buf)
  else setHead s n a.buf a.idx { h with clash := 0 }

/-- The secondary sample point of a data-phase bit, clock cycles after its start as sent (R458). -/
def secondSample (s : Dev) (n : Nat) : Nat :=
  let dbt := canReg n 0xC
  rdF s (canReg n 0x14) 0 7 + rdF s (canReg n 0x10) 16 6 * ((rdF s dbt 27 5 + 1) * (rdF s dbt 21 6 + 1)) / 64
/-- The controller detects the error: a bit error in the data phase of a frame sent with TDC on only at the secondary sample point (R458). -/
def canSees (s : Dev) (n : Nat) (e : CanError) : Bool :=
  match e.seenAt with
  | some k => !(rdB s (canReg n 0x10) 31 && e.tx && e.data && (e.kind == 1 || e.kind == 2)) || k == secondSample s n
  | none => true

/-- CAN_BUS_ERROR: the controller has detected an error; the counters move as ISO 11898-1 gives, except in restricted operation
(R474, R476); an attempt in progress ends and its frame is offered again later. -/
def canBusError (n : Nat) (e : CanError) (s : Dev) : Dev :=
  if !canOnBus s n || !canSees s n e then s
  else
    let c := getCan s n
    let rest := canRestricted s n
    let s := wrF (wrB s (canReg n 4) 9 e.data) (canReg n 4) 6 3 e.kind
    let s := match c.attempt with
      | some a => if e.tx then clashCount (tdcMeasure s n a e.edges) n a e else arbLost s n a
      | none => s
    let s := if rest then s
      else
        let s := countEv s (0x70 + n) 3 1
        if e.tx then setErr s n (c.tec + (if e.exempt then 0 else 8) + 8 * e.extra) c.rec_
        else setErr s n c.tec (min (c.rec_ + 1 + 8 * e.extra) 255)
    if c.attempt.isSome || c.rx then drainCancels n 96 (endAttempt s n) else s

/-- CAN_RECOVERY_COMPLETE: the controller becomes error active with both counters at 0 (R475). -/
def canRecoveryComplete (n : Nat) (s : Dev) : Dev :=
  let c := getCan s n
  if !c.recov then s
  else
    let s := setCan s n { c with recov := false, recWait := false, busoff := false, tec := 0, rec_ := 0 }
    let s := canSync (canIr s n 5) n
    let s := clearCond (clearCond s 3 Ev.CAN_BUSOFF n 0x7F) 3 Ev.CAN_PASSIVE n 0x7F
    note s 3 Ev.CAN_RECOVERED n

/-- BUSOFF_RECOVERY_START: the sequence that waited begins once fewer than 3 began within 60 s (R475). -/
def busoffRecoveryStart (n : Nat) (s : Dev) : Dev :=
  if (getCan s n).recWait || ((getCan s n).busoff && !canSupervised s n) then recoveryTry s n else s

/-- CAN_INTEGRATION_COMPLETE: 11 recessive bits have been seen; the controller rejoins the bus (R457, R483). -/
def canIntegrationComplete (n : Nat) (s : Dev) : Dev :=
  if canInit s n || !(getCan s n).integ then s else canSync (setCan s n { getCan s n with integ := false }) n

/-- CAN_TXB_PUT_WRITE: P3 advances PUT of buffer k; a write that would pass GET is ignored (R455, R467). -/
def canTxbPutWrite (p n k v : Nat) (s : Dev) : Dev :=
  if p ≠ 3 then busErrorTo s p
  else
    let z := txbSize k
    let put := txbPut s n k
    let get := txbGet s n k
    let v := v % 32
    if v ≥ z ∨ (v + z - put) % z > (get + z - 1 - put + z) % z then s
    else holdCheck (txbSync s n k get v) n

/-- CAN_TX_CANCEL_WRITE: P3 cancels an element or object (R455, R470). `win` says that the write lands in the clock cycle in
which the attempt's arbitration field completes with the device as winner, or later. -/
def canTxCancelWrite (p n : Nat) (v : U32) (win : Bool) (s : Dev) : Dev :=
  if p ≠ 3 then busErrorTo s p else cancelElem s n (fld v 8 2) (fld v 0 6) win

/-- CAN_TX_RESUME_WRITE (R455, R478). -/
def canTxResumeWrite (p n : Nat) (v : U32) (s : Dev) : Dev := if p ≠ 3 then busErrorTo s p else canResume s n v

/-- CAN_TXEV_ACK_WRITE: entries up to the index named are freed; an index outside [GET, PUT) is ignored (R469, as R465). -/
def canTxevAckWrite (p n v : Nat) (s : Dev) : Dev :=
  if p ≠ 3 then busErrorTo s p
  else
    let a := canReg n 0x78
    let get := rdF s a 16 7
    let c := getCan s n
    let d := (v % 128 + 96 - get) % 96
    if v % 128 ≥ 96 ∨ d ≥ c.evFill then s
    else
      let fill := c.evFill - (d + 1)
      let s := setCan s n { c with evFill := fill }
      flushProfile (drainCancels n 96 (wrN s a (ringStatus (rdF s a 24 7) ((v % 128 + 1) % 96) fill false)))

/-- CAN_RXF_ACK_WRITE: elements of FIFO k up to the index named are released; an index outside [GET, PUT) is ignored (R465). -/
def canRxfAckWrite (p n k v : Nat) (s : Dev) : Dev :=
  if p ≠ 3 then busErrorTo s p
  else
    let z := rxfSize k
    let d := (v % 128 + z - rdF s (rxfReg n k) 16 7) % z
    if v % 128 ≥ z ∨ d ≥ rxfFill s n k then s else rxRelease s n k (d + 1)

/-- CAN_FLT_SWAP_REQ: P3 requests publication of the staged list (R462). -/
def canFltSwapReq (p n : Nat) (s : Dev) : Dev := if p ≠ 3 then busErrorTo s p else fltRequest s n

/-- CAN_FILTER_SWAP: the first frame-free moment with a swap pending (R462). -/
def canFilterSwap (n : Nat) (s : Dev) : Dev :=
  if rdB s (canReg n 0x28) 1 && frameFree s n then fltSwap s n else s

/-- CAN_CTRL_RECOVER: P3 sets RECOVER; in SUPERVISED a bus-off controller starts its recovery (R475). Hardware clears the bit. -/
def canCtrlRecover (p n : Nat) (s : Dev) : Dev :=
  if p ≠ 3 then busErrorTo s p else if canSupervised s n && (getCan s n).busoff then recoveryTry s n else s

/-- CAN_OBJ_SEND: P3 sets SEND bits of objects 32w to 32w + 31 (R472). -/
def canObjSend (p n w : Nat) (v : U32) (s : Dev) : Dev :=
  if p ≠ 3 then busErrorTo s p else holdCheck (wr s (canReg n (0x90 + w % 2 * 4)) (rd s (canReg n (0x90 + w % 2 * 4)) ||| v)) n

/-- CAN_RAM_UNCORRECTABLE: hardware sets RESTRICTED and RAM_UE; P3 logs and will reinitialize within 10 ms (R476, R477); it
cancels the profile frames not yet sent there (R471). -/
def canRamUncorrectable (n off : Nat) (s : Dev) : Dev :=
  let was := canRestricted s n
  let s := canIr (canIr (wrB s (canReg n 0) 4 true) n 15) n 9
  let s := if was then s else modeChange s 3 6 0 n
  let s := raise s 3 Ev.CAN_RESTRICTED (n + 0x100) n
  let s := note s 3 Ev.CAN_RAM_ECC (n + off % 2 ^ 32 * 2 ^ 32)
  if !pairUp s 3 then s
  else
    let s := if isPcs s n then cancelProfile s n true else s
    setCan s n { getCan s n with reinit := true }

/-- The controllers P3 is to reinitialize, at the ms tick after the error or after the frame in progress; the current publication is queued
there again (R477, R481, R482). A filter list that waited for a swap is built (R463). -/
def canTick (s : Dev) : Dev :=
  if !pairUp s 3 then s
  else forN s 8 (fun s n =>
    if (getCan s n).reinit && !canBusy s n then
      let s := canReinit s n
      if (getCan s n).reinit then s else flushProfile (requeue s n)
    else if (getCan s n).reinit then wrB s (canReg n 0) 7 true
    else if (getCan s n).rebuild && !rdB s (canReg n 0x20) 1 then canAsk (setCan s n { getCan s n with rebuild := false }) n .build
    else s)

/-! ## Host commands -/

/-- CAN_TX: the payload of R419 that is malformed. -/
def canTxBad (c : HostCmd) : Bool :=
  let w := pw c 0
  let fdf := bitOf w 6
  let rtr := bitOf w 4
  let len := if rtr then 0 else dlcLen (fld w 16 4) fdf
  fld w 20 4 != 0 || fld w 8 8 != 0 || bitOf w 3 || c.payload.length != 2 + (len + 3) / 4 || (rtr && fdf) || (bitOf w 5 && !fdf) ||
  fld (pw c 1) 29 3 != 0 || (!bitOf w 7 && fld (pw c 1) 11 18 != 0) ||
  (len % 4 != 0 && (pwN c (2 + len / 4) / 2 ^ (8 * (len % 4)) != 0))

/-- CAN_TX (R418 to R420): a pass-through frame joins TXB2, or its object, through P3's release buffer; the reply follows its
outcome. An object holds no remote frame: word 0 [25] of it is reserved (R472). -/
def canTxBody (c : HostCmd) (s : Dev) : Dev :=
  let w := pw c 0
  let n := fld w 0 3
  let id := fld (pw c 1) 0 29
  let obj := fld w 24 8
  let om := canObject s n
  if canTxBad c || (!om && decide (obj ≠ 0)) ||
      (om && (decide (obj ≥ 64) || bitOf w 4 || (isPcs s n && decide (obj < 4)) || decide (ld32 s (objAddr n obj) / 2 ^ 22 % 4 ≠ 2))) then
    answer s OP_CAN_TX c ST_BAD_PARAM
  else if canPar s n 0 = 0 then answer s OP_CAN_TX c ST_NOT_PRESENT
  else if canRestricted s n then answer s OP_CAN_TX c ST_STATE
  else if (isPcs s n && bitOf w 7 == parB s 0x5084 && decide (par s 0x5083 ≤ id) && decide (id ≤ par s 0x5083 + 0xF)) ||
      (if om then nbit (getCan s n).suspObj obj else txbSusp s n 2) then answer s OP_CAN_TX c ST_CONFLICT
  else
    let w0 := fld w 16 4 * 2 ^ 28 + b2n (bitOf w 6) * 2 ^ 27 + b2n (bitOf w 5) * 2 ^ 26 + b2n (bitOf w 4) * 2 ^ 25 + b2n (bitOf w 7) * 2 ^ 24
    emit s 3 (.can n (if om then 4 + obj else 2) (w32 w0 :: pw c 1 :: c.payload.drop 2) (some c))
def canTx (c : HostCmd) (s : Dev) : Dev := serve s OP_CAN_TX c (canTxBody c)

/-- A received frame as CAN_RX_READ returns it: 19 words, the first laid out as that of CAN_TX (R421), from the words of its element or
object `obj` on controller n. -/
def rxReplyWords (n obj : Nat) (w : List U32) : List U32 :=
  let w0 := w.getD 0 0
  let head := fld w0 28 4 * 2 ^ 16 + b2n (bitOf w0 24) * 2 ^ 7 + b2n (bitOf w0 27) * 2 ^ 6 + b2n (bitOf w0 26) * 2 ^ 5 + b2n (bitOf w0 25) * 2 ^ 4 + obj * 2 ^ 24 + n
  w32 head :: w32 (fld (w.getD 1 0) 0 29) :: w.getD 2 0 :: w.drop 4

/-- CAN_RX_READ (R421): frames of RX FIFO 1, or of the receive objects that are FILLED (R472), are returned and removed.
Frames lost are told from P3's total since BOOT; the register keeps its count (R394). -/
def canRxReadBody (c : HostCmd) (s : Dev) : Dev :=
  let n := fld (pw c 0) 0 3
  let k := fld (pw c 0) 16 16
  if c.payload.length ≠ 1 then answer s OP_CAN_RX_READ c ST_LENGTH
  else if fld (pw c 0) 3 13 ≠ 0 then answer s OP_CAN_RX_READ c ST_BAD_PARAM
  else if k ≥ 216 then answer s OP_CAN_RX_READ c ST_LENGTH
  else if canPar s n 0 = 0 then answer s OP_CAN_RX_READ c ST_NOT_PRESENT
  else if canObject s n then
    let objs := (List.range 64).filter (fun i => rdB s (canReg n (0x98 + i / 32 * 4)) (i % 32) && !(isPcs s n && decide (i < 4)))
    let take := objs.take k
    let ovr := take.filter (fun i => rdB s (canReg n (0xA0 + i / 32 * 4)) (i % 32))
    let head := fun i => let w := ldWords s (objAddr n i) 20; w.getD 0 0 :: w.getD 1 0 :: w.getD 3 0 :: 0 :: w.drop 4
    let payload := [w32 ((objs.length - take.length) * 0x10000 + take.length), w32 ovr.length] ++ take.flatMap (fun i => rxReplyWords n i (head i))
    let s := forL s take (fun s i => wrB (wrB s (canReg n (0x98 + i / 32 * 4)) (i % 32) false) (canReg n (0xA0 + i / 32 * 4)) (i % 32) false)
    finish s OP_CAN_RX_READ c ST_OK payload
  else
    let fill := rxfFill s n 1
    let m := min k fill
    let get := rdF s (rxfReg n 1) 16 7
    let frames := (List.range m).flatMap (fun i => rxReplyWords n 0 (ldWords s (canRam n + 0x2400 + (get + i) % 128 * 80) 20))
    let u := getCan s n
    let lost := w32 (min (u.lostTot - u.lostRead) 0xFFFFFFFF)
    let s := setCan s n { u with lostRead := u.lostTot }
    finish (rxRelease s n 1 m) OP_CAN_RX_READ c ST_OK ([w32 ((fill - m) * 0x10000 + m), lost] ++ frames)
def canRxRead (c : HostCmd) (s : Dev) : Dev := serve s OP_CAN_RX_READ c (canRxReadBody c)

/-- CAN_STATUS (R418); TSC now is the value the CAN_TSC register holds. -/
def canStatusBody (c : HostCmd) (s : Dev) : Dev :=
  let n := fld (pw c 0) 0 3
  if c.payload.length ≠ 1 then answer s OP_CAN_STATUS c ST_LENGTH
  else if fld (pw c 0) 3 29 ≠ 0 then answer s OP_CAN_STATUS c ST_BAD_PARAM
  else
    let st := rd s (canReg n 4)
    let x := getCan s n
    let w := fld st 24 8 + fld st 16 8 * 0x100 + fld st 14 2 * 2 ^ 16 + b2n (canRestricted s n) * 2 ^ 18 +
      b2n (x.susp != 0 || x.suspObj != 0) * 2 ^ 19
    finish s OP_CAN_STATUS c ST_OK [w32 w, rd s (canReg n 0x84), rd s (canReg n 0x88), rd s CAN_TSC]
def canStatus (c : HostCmd) (s : Dev) : Dev := serve s OP_CAN_STATUS c (canStatusBody c)

/-- CAN_RECOVER (R418, R475, R478). -/
def canRecoverBody (c : HostCmd) (s : Dev) : Dev :=
  let w := pw c 0
  let n := fld w 0 3
  if c.payload.length ≠ 1 then answer s OP_CAN_RECOVER c ST_LENGTH
  else if fld w 3 5 ≠ 0 ∨ fld w 10 22 ≠ 0 ∨ fld w 8 2 = 0 then answer s OP_CAN_RECOVER c ST_BAD_PARAM
  else if bitOf w 8 && !(canSupervised s n && (getCan s n).busoff) then answer s OP_CAN_RECOVER c ST_STATE
  else
    let s := if bitOf w 8 then canAsk s n .recover else s
    let s := if bitOf w 9 then canAsk s n (.resume 0xF#32) else s
    answer s OP_CAN_RECOVER c ST_OK
def canRecover (c : HostCmd) (s : Dev) : Dev := serve s OP_CAN_RECOVER c (canRecoverBody c)

/-- The frame of a CAN_TX still waits in P3's release buffer. -/
def canPending (s : Dev) (c : HostCmd) : Bool :=
  ((getPair s 3).redo ++ (getPair s 3).rel).any (fun e => match e.eff with
    | .can _ _ _ (some d) => d == c
    | _ => false)
/-- Withdraw a CAN_TX that has not won arbitration, with a final status; it says whether it did. Once the frame has won, a cancel
(`late`) makes it complete as TRANSMITTED_CANCEL_LATE (R420). Whether an attempt in progress has won yet is a free value (Log 99). While
the frame is still to be released P3 issues its cancellation behind it (R24). -/
def canWithdraw (s : Dev) (c : HostCmd) (status : Nat) (late : Bool) : Bool × Dev :=
  let hit := (List.range 8).findSome? (fun n =>
    ((getCan s n).waits.find? (fun w => w.cmd.sess == c.sess && w.cmd.tag == c.tag)).map (fun w => (n, w)))
  match hit with
  | none =>
    (true, if canPending s c then emit s 3 (.canCancel c status none) else noteNoFrame (answer s OP_CAN_TX c status))
  | some (n, w) =>
    let h := getHead s n w.buf w.idx
    let inAtt := match (getCan s n).attempt with
      | some a => a.buf == w.buf && a.idx == w.idx
      | none => false
    let isHead := decide (w.buf = 3 ∨ (txbQueued s n w.buf).head? = some w.idx)
    let draw := inAtt && !h.won
    let (k, s) := if draw then takeNat s 2 else (0, s)
    if (isHead && h.won) || k = 1 then (false, setHead s n w.buf w.idx { h with won := true, late := h.late || late })
    else
      let x := getCan s n
      let s := setCan s n { x with waits := x.waits.filter (fun y => !(y.buf == w.buf && y.idx == w.idx)) }
      (true, noteNoFrame (answer (cancelElem s n w.buf w.idx false) OP_CAN_TX c status))

end Sys2Proof.Machine
end

