-- ==== Sys2Proof/Machine/Catalogue.lean ====
section
/-!
DEFINITION. Sys2Proof/Machine/Catalogue.lean: the catalogue record, the open-circuit-voltage tables, and the update of one cell
(spec 05 R150 to R166). Roundings that the spec leaves to the evaluator are in Log 10.
-/
namespace Sys2Proof.Machine

/-! ## The record (R151) -/

/-- The fields of a catalogue record from 0x00 to 0x57 (R151). -/
structure CellRec where
  inp    : Nat
  soc    : F32
  p      : F32
  socQ   : F32
  hyst   : F32
  vct    : F32
  vd     : F32
  ocv    : F32
  innov  : F32
  rohm   : F32
  rct    : F32
  zre    : F32
  zim    : F32
  zmag   : Nat
  zph    : Nat
  socOut : Nat
  tUsed  : Nat
  tver   : Nat
  flags  : Nat
  snap   : Nat
  lsnap  : Nat
  nomeas : Nat
  zrej   : Nat
  zage   : Nat
  cfg    : Nat
  cap    : F32
  deriving DecidableEq, Repr

/-- The record a run of 88 bytes holds. -/
def recOf (l : List U8) : CellRec :=
  let n := fun o k => leNat ((l.drop o).take k)
  let f := fun o => w32 (n o 4)
  { inp := n 0 8, soc := f 8, p := f 0xC, socQ := f 0x10, hyst := f 0x14, vct := f 0x18, vd := f 0x1C, ocv := f 0x20, innov := f 0x24, rohm := f 0x28, rct := f 0x2C, zre := f 0x30, zim := f 0x34, zmag := n 0x38 2, zph := n 0x3A 2, socOut := n 0x3C 2, tUsed := n 0x3E 2, tver := n 0x40 2, flags := n 0x42 2, snap := n 0x44 4, lsnap := n 0x48 4, nomeas := n 0x4C 1, zrej := n 0x4D 1, zage := n 0x4E 2, cfg := n 0x50 4, cap := f 0x54 }

/-- Bytes 0x08 to 0x4F of a record: what the engine writes (R151, R152). -/
def recBytes (r : CellRec) : List U8 :=
  [r.soc, r.p, r.socQ, r.hyst, r.vct, r.vd, r.ocv, r.innov, r.rohm, r.rct, r.zre, r.zim].flatMap (fun w => leBytes 4 w.toNat) ++
  [r.zmag, r.zph, r.socOut, r.tUsed, r.tver, r.flags].flatMap (leBytes 2) ++ leBytes 4 r.snap ++ leBytes 4 r.lsnap ++
  leBytes 1 r.nomeas ++ leBytes 1 r.zrej ++ leBytes 2 r.zage

/-- The record of cell c in memory. -/
def ldRec (s : Dev) (c : Nat) : CellRec := recOf (Memory.bytes s.mem (cellRec c) 88)

/-- Cells whose record is in use, ascending: those with bit 31 of CFG set (R150). -/
def usedCells (s : Dev) : List Nat :=
  (s.mem.filter (fun e => decide (0x20000000 ≤ e.1) && decide (e.1 < 0x20800000) && e.1 % 128 == 0x53 && e.2.msb)).map (fun e => (e.1 - 0x20000000) / 128)

/-! ## Tables (R161 to R168) -/

/-- Master set k, and working bank b of string x (R161). -/
def setAddr (k : Nat) : Nat := 0x20C00000 + k * 0x10000
def bankAddr (b x : Nat) : Nat := 0x20C80000 + b * 0x80000 + x * 0x1000
/-- Header fields of a set (R162). -/
def setRows (s : Dev) (k : Nat) : Nat := ld8 s (setAddr k + 2)
def setDt (s : Dev) (k : Nat) : Nat := ld8 s (setAddr k + 3)
def setT0 (s : Dev) (k : Nat) : Int := lds16 s (setAddr k + 4)
def setLnH (s : Dev) (k : Nat) : Nat := ld16 s (setAddr k + 6)
def setRohm (s : Dev) (k : Nat) : Nat := ld16 s (setAddr k + 8)
def setRct (s : Dev) (k : Nat) : Nat := ld16 s (setAddr k + 0xA)
def setKd (s : Dev) (k : Nat) : Nat := ld16 s (setAddr k + 0xC)
def setQh (s : Dev) (k : Nat) : Nat := ld16 s (setAddr k + 0xE)
def setVfull (s : Dev) (k : Nat) : Nat := ld16 s (setAddr k + 0x10)
def setVempty (s : Dev) (k : Nat) : Nat := ld16 s (setAddr k + 0x12)

/-- Bytes of a 64 KiB set with its CRC field taken as 0 (R162). -/
def setCrcBytes (l : List U8) : List U8 := l.take 0x7FC ++ [0, 0, 0, 0] ++ l.drop 0x800
/-- A set as bytes is valid (R163). -/
def setBytesOk (l : List U8) : Bool :=
  let n := fun o k => leNat ((l.drop o).take k)
  n 0 2 == 1 && decide (2 ≤ n 2 1 ∧ n 2 1 ≤ 31) && decide (1 ≤ n 3 1 ∧ n 3 1 ≤ 10) && decide (n 0xE 2 ≤ 10000) &&
    (crc32 (setCrcBytes l)).toNat == n 0x7FC 4
/-- Set k is invalid, as judged when it was copied into SRAM (R163). -/
def setBad (s : Dev) (k : Nat) : Bool := s.est.badSets.contains k

/-- A field of a master set at point i and temperature T in 1/128 K, as a number over 128 × DT; temperatures beyond the rows are
clamped to the end rows (R162, R166). Field 0 OCV_C, 1 OCV_D, 2 TAU_CT, 3 TAU_D. -/
def masterAt (s : Dev) (k i fieldNo : Nat) (t2 : Int) : Nat :=
  let d := 128 * setDt s k
  let top := (setRows s k - 1) * d
  let y := (clampInt 0 top (t2 - 2 * setT0 s k)).toNat
  let r := min (y / d) (setRows s k - 2)
  let m := y - r * d
  let v := fun r => ld16 s (setAddr k + (r + 1) * 0x800 + i * 8 + (6 - 2 * fieldNo))
  v r * (d - m) + v (r + 1) * m

/-- One table point: OCV_C, OCV_D, DODT, τ_ct, τ_d. -/
structure TblPoint where
  c    : F32
  d    : F32
  dodt : F32
  tct  : F32
  td   : F32
  deriving DecidableEq, Repr

/-- Point i from the master rows at T in 1/128 K; no temperature slope (R166). -/
def masterPoint (s : Dev) (k i : Nat) (t2 : Int) : TblPoint :=
  let den := 128 * setDt s k
  { c := fofRat (masterAt s k i 0 t2) (den * 10000), d := fofRat (masterAt s k i 1 t2) (den * 10000), dodt := 0, tct := fofRat (masterAt s k i 2 t2) (den * 1000000), td := fofRat (masterAt s k i 3 t2) (den * 100) }

/-- Point i of a working table (R165). -/
def workPoint (s : Dev) (b x i : Nat) : TblPoint :=
  let a := bankAddr b x + i * 16
  let t := ld32 s (a + 0xC)
  { c := w32 (ld32 s a), d := w32 (ld32 s (a + 4)), dodt := w32 (ld32 s (a + 8)), tct := fOfHalf (t / 65536), td := fOfHalf (t % 65536) }

/-- a + (b - a) × f (R165). -/
def flerp (a b f : F32) : F32 := ffma (fsub b a) f a
/-- The branch mix OCV_C + (OCV_D - OCV_C)(1 - h)/2. -/
def branchMix (p : TblPoint) (h : F32) : F32 := ffma (fsub p.d p.c) (fmul (fsub fOne h) 0x3F000000) p.c

/-- The table of a string at a state of charge: interpolated point, and H at hysteresis h (R165). -/
def tableAt (pt : Nat → TblPoint) (soc h : F32) : TblPoint × F32 :=
  let x := fmul soc 0x437F0000
  let i := (clampInt 0 254 (ffix x 0)).toNat
  let f := fsub x (fofInt i)
  let p := pt i
  let q := pt (i + 1)
  ({ c := flerp p.c q.c f, d := flerp p.d q.d f, dodt := flerp p.dodt q.dodt f, tct := flerp p.tct q.tct f, td := flerp p.td q.td f },
   fmul 0x437F0000 (fsub (branchMix q h) (branchMix p h)))

/-! ## What a pass gives a cell (R153 to R156) -/

/-- What the update of one cell takes beside its record. -/
structure CellEnv where
  lam    : Nat
  snap   : Nat
  /-- Th and ω (R153, R158). -/
  th     : F32
  om     : F32
  /-- SINGLE acquisition. -/
  single : Bool
  /-- TAG of the slot. -/
  tag    : Nat
  /-- String current of R155, mA. -/
  cur    : Option Int
  /-- The string's entry serves this snapshot: VALID, not LATE, TAG; FLY; current phasor, 10 mA. -/
  sOk    : Bool
  sFly   : Bool
  pre    : Int
  pim    : Int
  unexc  : Bool
  anchor : Bool
  fallback : Bool
  tver   : Nat
  set    : Nat
  /-- Temperature used, 1/64 K. -/
  temp   : Int
  /-- T_c of the published table in 1/128 K. -/
  tc2    : Int
  sv     : Nat
  sq     : Nat
  gate   : Nat
  qn     : F32
  ibal   : Nat
  floor  : Nat
  alpha  : Nat
  rej    : Nat
  deriving DecidableEq, Repr

/-- A flag of a record: its place in FLAGS. -/
def setFlag (f i : Nat) (b : Bool) : Nat := nput f i b

/-- 4π as a rational over 10^20. -/
def fourPi : Nat := 1256637061435917295385
/-- ω = 4π f (R158). -/
def omegaOf (freq : Nat) : F32 := fofRat (fourPi * freq) (10 ^ 26)

/-- The low byte as two's complement. -/
def toS8 (v : Nat) : Int := if v % 256 < 128 then ((v % 256 : Nat) : Int) else ((v % 256 : Nat) : Int) - 256

/-- The impedance step (R158, R159): the record after it. `tct` is τ_ct. -/
def impStep (s : Dev) (v : CellEnv) (r : CellRec) (tct : F32) : CellRec :=
  let e := r.inp
  let re := toS8 (e / 2 ^ 40)
  let im := toS8 (e / 2 ^ 32)
  let ex := e / 2 ^ 28 % 16
  let miss := { r with zage := min (r.zage + 1) 65535 }
  let p2 := v.pre * v.pre + v.pim * v.pim
  if nbit e 26 || v.sFly || decide (100 * p2 < (v.floor * v.floor : Nat)) || decide (max re.natAbs im.natAbs * 2 ^ ex < 16) || p2 = 0 then miss
  else
    let vr := re * 2 ^ ex
    let vi := im * 2 ^ ex
    let w := v.om
    let zsr := fofRat (-(vr * v.pre + vi * v.pim)) (p2.toNat * 10000)
    let zsi := ffma (fneg w) (fofRat (setLnH s v.set) 1000000000) (fofRat (-(vi * v.pre - vr * v.pim)) (p2.toNat * 10000))
    let dr := fsub zsr r.zre
    let di := fsub zsi r.zim
    let lim := fofRat v.rej 100
    let init := nbit r.flags 8 || decide (r.zrej ≥ 16)
    let far := fcmpLt (fmul (fmul lim lim) (ffma r.zre r.zre (fmul r.zim r.zim))) (ffma dr dr (fmul di di))
    if !init && far then { miss with zrej := min (r.zrej + 1) 255, flags := setFlag r.flags 12 true }
    else
      let a := fofRat 1 (2 ^ v.alpha)
      let zr := if init then zsr else ffma a dr r.zre
      let zi := if init then zsi else ffma a di r.zim
      let xr := ffix zr 60
      let xi := ffix zi 60
      let mag := min ((isqrt (xr * xr + xi * xi).natAbs * 1000000 + 2 ^ 59) / 2 ^ 60) 65535
      let q := { r with zre := zr, zim := zi, zrej := 0, zage := 0, flags := setFlag (setFlag r.flags 8 false) 12 false, zmag := mag, zph := phaseTurns xr xi }
      if ffix tct 64 = 0 then q
      else
        let wt := fmul w tct
        { q with rct := fmax 0 (fdiv (fmul (fneg zi) (ffma wt wt fOne)) wt), rohm := fmax 0 (fadd zr (fdiv zi wt)) }

/-- A decay factor exp(-dt/τ) with the rule for τ = 0 and dt = 0 (R156). -/
def decayOf (dt tau : F32) : F32 :=
  if ffix dt 149 = 0 then fOne else if ffix tau 149 = 0 then 0 else fexp (fneg (fdiv dt tau))

/-- The balancing charge of a cycle, in the order R156 evaluates it: i_bal × (176/360) × 2 × Th. -/
def balStep (ibal : Nat) (th : F32) : F32 := fmul (fmul (fmul (fofRat ibal 1000) (fofRat 176 360)) 0x40000000) th

/-- DESIGN CHOICE: a first update whose entry has BAL set takes the balancing charge that the formula gives, though no time has passed (log 130).
R156: the update of one record; until its first impedance sample it holds its set's nominal resistances (R159). `pt` is the table
that serves the string. -/
def cellUpdate (s : Dev) (v : CellEnv) (pt : Nat → TblPoint) (r : CellRec) : CellRec :=
  let n : Nat := (v.lam + 2 ^ 32 - r.lsnap) % 2 ^ 32
  let tag := r.inp / 65536 % 16
  let fly := nbit r.inp 26
  let meas := nbit r.inp 27 && !nbit r.inp 25 && tag == v.tag && v.sOk
  let fl := packBits (fun j => if j = 14 then v.fallback else if j = 13 then v.unexc else if j = 15 then meas else if j = 9 then meas && fly else if j = 8 || j = 12 then nbit r.flags j else false) 16
  let base := { r with lsnap := v.lam, snap := v.snap, nomeas := if meas then 0 else min (r.nomeas + 1) 255, flags := fl, tver := v.tver }
  match v.cur with
  | none => base
  | some ma =>
    let r := if nbit r.flags 8 then { r with rohm := fofRat (setRohm s v.set) 1000000, rct := fofRat (setRct s v.set) 1000000 } else r
    let base := { base with rohm := r.rohm, rct := r.rct }
    let dt := fmul (fofInt n) v.th
    let i := fofRat ma 1000
    let qb := if nbit r.inp 24 && v.single then balStep v.ibal v.th else 0
    let q := ffma i dt qb
    let soc := fsub r.soc (fdiv q r.cap)
    let socQ := fsub r.socQ (fdiv q r.cap)
    let p := fmin (ffma v.qn dt r.p) 0x3D23D70A
    let qh := setQh s v.set
    let hyst := if qh = 0 then 0
      else if ma = 0 then r.hyst
      else
        let ht : F32 := if ma < 0 then fOne else 0xBF800000
        ffma (fsub r.hyst ht) (fexp (fneg (fdiv (fabs (fmul i dt)) (fmul (fofRat qh 10000) r.cap)))) ht
    let x := tableAt pt soc hyst
    let kd := fofRat (setKd s v.set) 1024
    let a := decayOf dt x.1.tct
    let b := decayOf dt x.1.td
    let vct := ffma a r.vct (fmul (fmul (fsub fOne a) r.rct) i)
    let vd := ffma b r.vd (fmul (fmul (fmul (fsub fOne b) kd) r.rct) i)
    let r1 := { base with soc := soc, socQ := socQ, p := p, hyst := hyst, vct := vct, vd := vd, tUsed := (v.temp % 65536).toNat }
    let r2 :=
      if !meas then { r1 with zage := min (r1.zage + 1) 65535 }
      else
        let r1 := impStep s v r1 x.1.tct
        let vv := fmul (fofInt (r1.inp / 2 ^ 48 % 65536)) (fofRat 1 10000)
        let mid := branchMix x.1 (if qh = 0 then 0 else hyst)
        let ocv := ffma x.1.dodt (fofRat (2 * v.temp - v.tc2) 128) mid
        let e := fsub vv (fsub (fsub (ffma (fneg r1.rohm) i ocv) vct) vd)
        let sg := fofRat (if v.anchor then v.sq else v.sv) 1000000
        let rm := if v.anchor then fmul sg sg else if fly then fmul 0x40800000 (fmul sg sg) else fmul sg sg
        let r1 := { r1 with ocv := fadd (fadd (ffma r1.rohm i vv) vct) vd, innov := e }
        if v.anchor || fle (fabs e) (fofRat v.gate 1000000) then
          let h := x.2
          let k := fdiv (fmul p h) (ffma (fmul h h) p rm)
          { r1 with soc := ffma k e soc, p := fmul (ffma (fneg k) h fOne) p }
        else { r1 with flags := setFlag r1.flags 11 true }
    let lo : F32 := 0xBD4CCCCD
    let hi : F32 := 0x3F866666
    let clamped := fcmpLt r2.soc lo || fcmpLt hi r2.soc
    let soc := fmax lo (fmin hi r2.soc)
    let out := (ffix (fmul 0x461C4000 (fmax 0 (fmin fOne soc))) 20 + 2 ^ 19) / 2 ^ 20
    { r2 with soc := soc, flags := setFlag r2.flags 10 clamped, socQ := if v.anchor then soc else r2.socQ, socOut := out.toNat }

/-- A record in use whose set is invalid: NOTABLE, nothing else (R163). -/
def noTable (r : CellRec) : CellRec := { r with flags := setFlag r.flags 6 true }

end Sys2Proof.Machine
end

