-- ==== Sys2Proof/Machine/Estimator.lean ====
section
/-!
DEFINITION. Sys2Proof/Machine/Estimator.lean: engine passes, the Curator, the rotating audit, lane tests and P1's confidence
records (spec 05 R152 to R184).
-/
namespace Sys2Proof.Machine

/-! ## Registers by string -/

/-- Bit of string x in a bank of four registers. -/
def strBit (s : Dev) (base x : Nat) : Bool := rdB s (base + x / 32 * 4) (x % 32)
def setStrBit (s : Dev) (base x : Nat) (b : Bool) : Dev := wrB s (base + x / 32 * 4) (x % 32) b
/-- Published bank of string x; address of a descriptor of a bank; of the string's configuration (R181). -/
def pubWt (s : Dev) (x : Nat) : Nat := b2n (strBit s EST_WT_SEL x)
def wtDesc (x b : Nat) : Nat := EST_WT_DESC + (x * 2 + b) * 8
def strCfg (x : Nat) : Nat := EST_STRCFG + x * 8
/-- VER, SET, T_LO and T_HI of a descriptor; it is a table when VALID with VER not 0. -/
def descVer (s : Dev) (x b : Nat) : Nat := rdF s (wtDesc x b) 16 16
def descSet (s : Dev) (x b : Nat) : Nat := rdF s (wtDesc x b) 12 3
def descLo (s : Dev) (x b : Nat) : Int := toS16 (rdF s (wtDesc x b + 4) 0 16)
def descHi (s : Dev) (x b : Nat) : Int := toS16 (rdF s (wtDesc x b + 4) 16 16)
def descOk (s : Dev) (x b : Nat) : Bool := rdB s (wtDesc x b) 15 && descVer s x b != 0
/-- T_MIN and T_MAX of a string's configuration. -/
def cfgTmin (s : Dev) (x : Nat) : Int := toS16 (rdF s (strCfg x) 0 16)
def cfgTmax (s : Dev) (x : Nat) : Int := toS16 (rdF s (strCfg x) 16 16)
/-- The set of a string in the engine's configuration. -/
def cfgSet (s : Dev) (x : Nat) : Nat := rdF s (strCfg x + 4) 0 3

/-- An input has been read since BOOT, and not as absent or failed (R124, R156). -/
def tempKnown (s : Dev) (i : Nat) : Bool := s.acq.tempRead.contains i && ld16 s (0x20D80002 + i * 4) != 0x8000
/-- Valid temperatures of a string's inputs, 1/64 K (R167). -/
def strTemps (s : Dev) (x : Nat) : List Int :=
  ((umapList s).filter (fun e => !bitOf e.2.1 30 && fld e.2.1 23 7 == x)).flatMap (fun e =>
    (((List.range (fld e.2.2 28 4)).map (fld e.2.2 0 15 + ·)).filter (tempKnown s)).map (fun i => toS16 (ld16 s (0x20D80002 + i * 4))))
/-- Least and greatest of a list of integers. -/
def minInt (l : List Int) (d : Int) : Int := match l with | [] => d | a :: t => t.foldl min a
def maxInt (l : List Int) (d : Int) : Int := match l with | [] => d | a :: t => t.foldl max a

/-! ## What serves a string (R155, R166) -/

/-- An entry of the string table serves its slot's snapshot: VALID, not LATE, TAG (R154, R155). -/
def entryUsable (s : Dev) (k x : Nat) : Bool := strValid s k x && !nbit (ld16 s (strEnt k x + 0xE)) 13
/-- The slot whose entry gives the current of R155: this one, or the newest usable of the three before. -/
def curSlot (s : Dev) (k x : Nat) : Option Nat := ((List.range 4).map (fun i => (k + 8 - i) % 8)).find? (fun j => entryUsable s j x)
/-- The current that R155 selects, mA. -/
def usableCur (s : Dev) (k x : Nat) : Option Int := (curSlot s k x).map (fun j => strCur s j x)

/-- The engine serves string x from its master set (R166), also while its table holds an uncorrectable word (R358). -/
def inFallback (s : Dev) (x : Nat) : Bool :=
  let b := pubWt s x
  !descOk s x b || decide (cfgTmin s x < descLo s x b - 192) || decide (cfgTmax s x > descHi s x b + 192) || s.exe.bad.contains (bankAddr b x)

/-- The table that serves a string, at a temperature of 1/64 K (R165, R166). -/
def servingTable (s : Dev) (x : Nat) (fb : Bool) (temp : Int) (i : Nat) : TblPoint :=
  if fb then masterPoint s (cfgSet s x) i (2 * temp) else workPoint s (pubWt s x) x i
/-- T_c in 1/128 K of the table that serves a string. -/
def servingTc (s : Dev) (x : Nat) (fb : Bool) (temp : Int) : Int :=
  if fb then 2 * temp else descLo s x (pubWt s x) + descHi s x (pubWt s x)

/-- The temperature a cell's update uses, 1/64 K (R156). -/
def cellTemp (s : Dev) (x cfg : Nat) (tUsed : Nat) (temps : List Int) : Int :=
  let i := cfg / 256 % 32768
  let v := ld16 s (0x20D80002 + i * 4)
  if temps.isEmpty then toS16 tUsed
  else if nbit cfg 23 || !tempKnown s i then (cfgTmin s x + cfgTmax s x) / 2
  else toS16 v

/-- The engine's registers as a pass latched them (R157). -/
def passView (s : Dev) (ps : Pass) : Dev :=
  { s with regs := s.regs.filter (fun e => decide (e.1 < 0x40040000)) ++ ps.regs ++ s.regs.filter (fun e => decide (0x40042000 ≤ e.1)) }

/-- What a pass gives string x's cells, temperatures apart; `s` has the registers as latched. -/
def envOf (s : Dev) (ps : Pass) (x : Nat) : CellEnv :=
  let k := ps.slot
  let fb := ps.fallback.contains x
  { lam := ps.lam, snap := ps.snap, th := fofRat 1000000 (2 * ps.freq), om := omegaOf ps.freq, single := !bitOf (slotWord s k 1) 13, tag := slotTag s k, cur := usableCur s k x, sOk := entryUsable s k x, sFly := nbit (ld16 s (strEnt k x + 0xE)) 14, pre := lds16 s (strEnt k x + 4), pim := lds16 s (strEnt k x + 6), unexc := ps.unexc.contains x, anchor := bitOf (Tbl.get 0 ps.regs (EST_ANCHOR + x / 32 * 4)) (x % 32), fallback := fb, tver := if fb then 0 else descVer s x (pubWt s x), set := cfgSet s x, temp := 0, tc2 := 0, sv := par s 0x4001, sq := par s 0x4011, gate := par s 0x4003, qn := w32 (par s 0x4002), ibal := par s 0x4012, floor := par s 0x4004, alpha := par s 0x4005, rej := par s 0x4006 }

/-- The update of one record in a pass, at a temperature. -/
def updAt (s : Dev) (v : CellEnv) (x : Nat) (t : Int) (r : CellRec) : CellRec :=
  cellUpdate s { v with temp := t, tc2 := servingTc s x v.fallback t } (servingTable s x v.fallback t) r

/-! ## Passes (R157, R166, R168, R173) -/

/-- The engine's registers that a pass latches. -/
def estRegs (s : Dev) : Tbl U32 := s.regs.filter (fun e => decide (0x40040000 ≤ e.1) && decide (e.1 < 0x40042000))

/-- Swaps that take effect at a snapshot boundary (R168). -/
def applySwaps (s : Dev) : Dev :=
  let s := forN s 128 (fun s x =>
    if strBit s EST_SWAP_PEND x && !s.est.lateSwap.contains x then
      setStrBit (setStrBit s EST_WT_SEL x (!strBit s EST_WT_SEL x)) EST_SWAP_PEND x false
    else s)
  { s with est := { s.est with lateSwap := [] } }

/-- P1's confidence record of string x. -/
def getConf (s : Dev) (x : Nat) : StrConf := Tbl.get {} s.est.conf x
def setConf (s : Dev) (x : Nat) (c : StrConf) : Dev := { s with est := { s.est with conf := Tbl.set {} s.est.conf x c } }

/-- Fallback of every string, as a pass starts, with EV_TABLE_STALE once per episode (R166, R171). -/
def fallbackSync (s : Dev) (l : List Nat) : Dev :=
  let s := forN s 4 (fun s i => wrN s (EST_FALLBACK + 4 * i) (packBits (fun j => l.contains (32 * i + j)) 32))
  forL s (confStrs s) (fun s x =>
    let c := getConf s x
    if l.contains x then
      if c.hadTable && !c.stale then post (setConf s x { c with stale := true }) 1 Ev.TABLE_STALE x else s
    else setConf s x { c with stale := false, hadTable := true })

/-- A pass begins (R157). P1 has set LSNAP of the records whose first update this may be: one that this pass does not reach still has it to
come (R153). -/
def passStart (s : Dev) (k gate : Nat) : Dev :=
  let s := applySwaps s
  let lam := slotLam s k
  let s := if pairUp s 1 then forL s s.est.fresh (fun s c => st32 s (cellRec c + 0x48) lam) else s
  let fb := (confStrs s).filter (inFallback s)
  let s := fallbackSync s fb
  let ps : Pass := { slot := k, gate := gate, lam := lam, snap := (slotWord s k 0).toNat, half := bitOf (slotWord s k 1) 15, freq := freqNow s, regs := estRegs s, fallback := fb, coef := s.mem.filter (fun e => decide (0x20DDC000 ≤ e.1) && decide (e.1 < 0x20DDE000)), unexc := (confStrs s).filter (fun x => nbit (ld16 s (0x20DD8000 + x * 16 + 4)) 1) }
  let s := wrN s EST_AUDIT_CNT ((rdN s EST_AUDIT_CNT + 1) % 64)
  wrB { s with est := { s.est with pass := some ps } } EST_STATUS 7 true

/-- Unfenced lanes in order (R172). -/
def lanesUp (f : U32) : List Nat := (List.range 32).filter (fun i => !bitOf f i)

/-- Copy the slice's records, header and string data into the audit buffer before they are updated (R173). -/
def auditCopy (s : Dev) (ps : Pass) (cells : List Nat) : Dev :=
  let j := rdN s EST_AUDIT_CNT % 64
  let h := 0x20DB2000
  let s := clearMem s h 0x2000
  let s := st32 (st32 s h ps.snap) (h + 4) ps.lam
  let s := st16 s (h + 8) (ps.slot + j * 256)
  let s := st32 (st32 s (h + 0xC) (fofRat 1000000 (2 * ps.freq)).toNat) (h + 0x10) (omegaOf ps.freq).toNat
  let s := stWords s (h + 0x14) ((List.range 4).map (fun i => rd s (EST_FALLBACK + 4 * i)))
  let s := stWords s (h + 0x24) ((List.range 4).map (fun i => Tbl.get 0 ps.regs (EST_ANCHOR + 4 * i)))
  let s := forL s (confStrs s) (fun s x => { s with mem := Memory.copy s.mem (strEnt ((curSlot s ps.slot x).getD ps.slot) x) (0x20DB3000 + x * 32) 32 })
  forL s (cells.filter (fun c => c / 1024 == j)) (fun s c => { s with mem := Memory.copy s.mem (cellRec c) (0x20DB4000 + c % 1024 * 128) 128 })

/-- Update a list of cells with their lanes; those of the audited slice leave their input word (R156, R163, R173). -/
def runCells (s : Dev) (ps : Pass) (cells : List (Nat × Nat)) : Dev :=
  let j := rdN s EST_AUDIT_CNT % 64
  let w := passView s ps
  let strs := (cells.map (fun e => ld32 s (cellRec e.1 + 0x50) / 2 ^ 24 % 128)).foldl (fun l x => insertNat x l) []
  let envs := strs.map (fun x => (x, envOf w ps x, strTemps s x, setBad s (cfgSet w x)))
  forL s cells (fun s e =>
    let c := e.1
    let r := ldRec s c
    match envs.find? (fun v => v.1 == r.cfg / 2 ^ 24 % 128) with
    | none => s
    | some (x, v, temps, bad) =>
      if bad then st16 s (cellRec c + 0x42) (noTable r).flags
      else
        let t := cellTemp w x r.cfg r.tUsed temps
        let s := stBytes s (cellRec c + 8) (recBytes (updAt w v x t r))
        if c / 1024 = j then st64 s (0x20DD4000 + c % 1024 * 8) ((t % 65536).toNat * 2 ^ 48 + v.tver * 2 ^ 32 + b2n v.anchor * 256 + e.2) else s)

/-- The cells of a pass with their lanes, ascending (R150, R172). -/
def passCells (s : Dev) (ps : Pass) : List (Nat × Nat) :=
  let l := lanesUp (Tbl.get 0 ps.regs EST_LANE_FENCE)
  let u := usedCells s
  u.zip ((List.range u.length).map (fun i => l.getD (i % max l.length 1) 0))

/-- A pass ends after its first `count` cells, of `clk` clock cycles (R157, R178). Anchoring bits it served are cleared. -/
def passEnd (s : Dev) (ps : Pass) (cells : List (Nat × Nat)) (clk : Nat) (abort : Bool) : Dev :=
  let s := auditCopy s ps (cells.map (·.1))
  let x := fun c => ld32 s (cellRec c + 0x50) / 2 ^ 24 % 128
  let done := (cells.map (·.1)).filter (fun c => !setBad s (cfgSet (passView s ps) (x c)))
  let upd := done.map x
  let s := countEv (countEv (runCells s ps cells) 0x20 2 upd.length) 0x20 3 (upd.filter (fun y => ps.fallback.contains y)).length
  let s := countBytes s 0x20 (256 * upd.length)
  let s := wrB { s with est := { s.est with pass := none, last := some ps, laneOf := cells, fresh := s.est.fresh.filter (fun c => !done.contains c) } } EST_STATUS 7 false
  let s := wrN (wrN (wrN s EST_LAST_SNAP ps.snap) EST_LAST_LSNAP ps.lam) EST_PASS_CLK clk
  if abort then wrB (countEv s 0x20 5 1) EST_STATUS 4 true
  else forN s 4 (fun s i => wr s (EST_ANCHOR + 4 * i) (rd s (EST_ANCHOR + 4 * i) &&& ~~~(Tbl.get 0 ps.regs (EST_ANCHOR + 4 * i))))

/-! ## Lanes and the audit (R174, R175) -/

/-- An engine register as P1 has last written it: the writes that wait in its release buffer over the register (R181). -/
def estAsked (s : Dev) (a : Nat) : U32 :=
  let q := getPair s 1
  (q.redo ++ q.rel).foldl (fun acc e => match e.eff with
    | .est l => l.foldl (fun v w => if w.1 = a then (v &&& ~~~w.2.1) ||| (w.2.2 &&& w.2.1) else v) acc
    | _ => acc) (rd s a)
/-- P1 writes bits of engine registers, through its release buffer; writes that change nothing are not made (R181). -/
def estWrite (s : Dev) (l : List (Nat × U32 × U32)) : Dev :=
  let l := l.filter (fun w => (estAsked s w.1 &&& w.2.1) != (w.2.2 &&& w.2.1))
  if l.isEmpty then s else emit s 1 (.est l)

/-- The engine is stopped: EV_ENGINE_FAULT (R175). -/
def engineFault (s : Dev) : Dev :=
  fault3 (estWrite s [(EST_CTRL, 1, 0)]) 1 Ev.ENGINE_FAULT (estAsked s EST_LANE_FENCE).toNat devScope false (confStrs s) true

/-- Set bits of a 32-bit word. -/
def popCount (w : U32) : Nat := ((List.range 32).filter (fun i => bitOf w i)).length

/-- P1 fences a lane, or stops the engine at a third (R175). -/
def fenceLane (s : Dev) (i : Nat) : Dev :=
  let v := estAsked s EST_LANE_FENCE
  if bitOf v i || !bitOf (estAsked s EST_CTRL) 0 then s
  else if popCount v ≥ 2 then engineFault s
  else note (estWrite s [(EST_LANE_FENCE, w32 (2 ^ i), w32 (2 ^ i))]) 1 Ev.ENGINE_LANE i

/-- One mismatch of the audit: P1's result replaces the record (R175). -/
def auditMiss (s : Dev) (c lane : Nat) (good : CellRec) : Dev :=
  let s := note s 1 Ev.AUDIT_MISMATCH (c * 65536 + lane)
  let s := stBytes s (cellRec c + 8) (recBytes { good with flags := setFlag good.flags 7 true })
  let q := s.acq.seq
  let near := s.est.mism.filter (fun m => decide (q < m.2 + 64))
  let s := { s with est := { s.est with mism := (lane, q) :: near } }
  let s := if s.est.testing then s else estWrite s [(EST_CTRL, 2, 2)]
  let passed := Tbl.get 0 s.est.passedAt lane
  let s := if passed ≠ 0 ∧ q + 1 ≤ passed + 64 then fenceLane s lane else s
  let lanes := s.est.mism.foldl (fun l m => insertNat m.1 l) []
  if lanes.length ≥ 3 ∧ bitOf (estAsked s EST_CTRL) 0 then engineFault s else s

/-- What the audit recomputes string x's cells with: the header and the string data of the audit buffer (R173, R174). -/
def auditEnv (s : Dev) (ps : Pass) (x : Nat) : CellEnv :=
  let v := envOf (passView s ps) ps x
  let h := 0x20DB2000
  let a := 0x20DB3000 + x * 32
  let f := ld16 s (a + 0xE)
  let ok := nbit f 15 && !nbit f 13 && decide ((v.tag + 16 - f % 16) % 16 < 4)
  let bitAt := fun (o : Nat) => nbit (ld32 s (h + o + x / 32 * 4)) (x % 32)
  let fb := bitAt 0x14
  { v with snap := ld32 s h, lam := ld32 s (h + 4), th := w32 (ld32 s (h + 0xC)), om := w32 (ld32 s (h + 0x10)), fallback := fb, anchor := bitAt 0x24, tver := if fb then 0 else v.tver, cur := if ok then some (Params.toS32 (ld32 s a)) else none, sOk := ok && f % 16 == v.tag, sFly := nbit f 14, pre := lds16 s (a + 4), pim := lds16 s (a + 6) }

/-- P1's audit of the slice: every cell whose LSNAP is the header's λ is recomputed from the audit buffer (R174). -/
def auditRun (s : Dev) : Dev :=
  match s.est.last with
  | none => s
  | some ps =>
    let j := rdN s EST_AUDIT_CNT % 64
    let lam := ld32 s 0x20DB2004
    let w := passView s ps
    forL s (s.est.laneOf.filter (fun e => e.1 / 1024 == j)) (fun s e =>
      let c := e.1
      let pre := recOf (Memory.bytes s.mem (0x20DB4000 + c % 1024 * 128) 88)
      let x := pre.cfg / 2 ^ 24 % 128
      let iw := ld64 s (0x20DD4000 + c % 1024 * 8)
      if ld32 s (cellRec c + 0x48) ≠ lam ∨ setBad s (cfgSet w x) then s
      else
        let good := updAt w (auditEnv s ps x) x (toS16 (iw / 2 ^ 48)) pre
        if recBytes good == Memory.bytes s.mem (cellRec c + 8) 72 then s else auditMiss s c e.2 good)

/-- Row LANE_TEST_REQUEST: a write of EST_CTRL.LTEST by pair p (R175). -/
def laneTestRequest (p : Nat) (s : Dev) : Dev :=
  if p ≠ 1 then busErrorTo s p else wrB { s with est := { s.est with testing := true } } EST_CTRL 1 true

/-- Row LANE_TEST_COMPLETE: the lanes that passed; tests run outside passes (R170, R175). -/
def laneTestComplete (mask : U32) (s : Dev) : Dev :=
  if !s.est.testing || s.est.pass.isSome then s
  else
    let s := wrB { s with est := { s.est with testing := false } } EST_CTRL 1 false
    let s := wr s EST_LANE_TEST mask
    let s := if mask = 0xFFFFFFFF then wrB s EST_STATUS 1 false else wrB s EST_STATUS 1 true
    forN s 32 (fun s i =>
      if bitOf mask i then { s with est := { s.est with passedAt := Tbl.set 0 s.est.passedAt i (s.acq.seq + 1) } }
      else if pairUp s 1 then fenceLane s i else s)

/-- Row EST_LANE_FENCE_WRITE: by pair p (R175). -/
def estLaneFenceWrite (p : Nat) (v : U32) (s : Dev) : Dev :=
  if p ≠ 1 then busErrorTo s p
  else if popCount v > 2 then wrB s EST_STATUS 3 true
  else wr s EST_LANE_FENCE v

/-! ## The Curator (R166 to R170) -/

/-- A job or swap is pending for the string. -/
def jobPending (s : Dev) (x : Nat) : Bool := s.est.jobs.contains x || strBit s EST_SWAP_PEND x

/-- A job is validated and queued, or rejected (R168). -/
def curJob (s : Dev) (x : Nat) : Dev :=
  let b := 1 - pubWt s x
  let bad := !rdB s (wtDesc x b) 15 || descVer s x b == 0 || descVer s x b == descVer s x (pubWt s x) ||
    decide (descHi s x b < descLo s x b) || decide (descHi s x b - descLo s x b > 1280) || descSet s x b != cfgSet s x || jobPending s x
  if bad then wrB s EST_STATUS 3 true
  else wrB { s with est := { s.est with jobs := s.est.jobs ++ [x] } } EST_STATUS 6 true

/-- Row EST_CUR_JOB: by pair p (R168). -/
def estCurJob (p x : Nat) (s : Dev) : Dev := if p ≠ 1 then busErrorTo s p else curJob s (x % 128)

/-- One built point of a working table from the master rows (R168). `free` serves where T_HI = T_LO leaves DODT without a value. -/
def buildPoint (s : Dev) (k i : Nat) (lo hi : Int) (free : U32) : List U32 :=
  let p := masterPoint s k i (lo + hi)
  let den := 128 * setDt s k
  let mid := fun t : Int => ((masterAt s k i 0 (2 * t) + masterAt s k i 1 (2 * t) : Nat) : Int)
  let dodt := if hi = lo then free else fofRat ((mid hi - mid lo) * 64) (den * 20000 * (hi - lo).toNat)
  [p.c, p.d, dodt, w32 (fToHalf p.tct * 65536 + fToHalf p.td)]

/-- Row CURATOR_JOB_COMPLETE: the head job's table is built and its swap is pending; `atGo` says that it finished in the clock
cycle of an EST_GO (R168). A pass suspends the job (R170), but for one that begins in that very cycle; of the two rows of that cycle either may
come first, and the swap waits for the pass after. -/
def curatorJobComplete (atGo : Bool) (s : Dev) : Dev :=
  match s.est.jobs with
  | [] => s
  | x :: t =>
    if s.est.pass.isSome && !atGo then s else
    let s := countEv s 0x20 4 1
    let b := 1 - pubWt s x
    let lo := descLo s x b
    let hi := descHi s x b
    let (f, s) := takeWord s
    let s := stWords s (bankAddr b x) ((List.range 256).flatMap (fun i => buildPoint s (descSet s x b) i lo hi f))
    let s := { s with est := { s.est with jobs := t, lateSwap := if atGo && s.est.pass.isNone then insertNat x s.est.lateSwap else s.est.lateSwap } }
    let s := { s with exe := { s.exe with bad := s.exe.bad.filter (· != bankAddr b x) } }
    setStrBit (wrB s EST_STATUS 6 (!t.isEmpty)) EST_SWAP_PEND x true

/-- Row EST_WT_DESC_WRITE: word `w` of descriptor (string x, bank b), by pair p (R169, R181). -/
def estWtDescWrite (p x b w : Nat) (v : U32) (s : Dev) : Dev :=
  let x := x % 128
  if p ≠ 1 then busErrorTo s p
  else if b % 2 = pubWt s x then s
  else if jobPending s x then wrB s EST_STATUS 3 true
  else wr s (wtDesc x (b % 2) + 4 * (w % 2)) (if w % 2 = 0 then v &&& 0xFFFFF000 else v)

/-- P1's released writes reach the engine's registers, each by its own rule (R168, R169, R175, R181). -/
def estTake (s : Dev) (l : List (Nat × U32 × U32)) : Dev :=
  forL s l (fun s w =>
    let v := (rd s w.1 &&& ~~~w.2.1) ||| (w.2.2 &&& w.2.1)
    if w.1 = EST_CUR_JOB then curJob s (w.2.2.toNat % 128)
    else if w.1 = EST_LANE_FENCE then estLaneFenceWrite 1 v s
    else if EST_WT_DESC ≤ w.1 ∧ w.1 < EST_WT_DESC + 0x800 then
      estWtDescWrite 1 ((w.1 - EST_WT_DESC) / 16) ((w.1 - EST_WT_DESC) / 8 % 2) ((w.1 - EST_WT_DESC) / 4 % 2) v s
    else if w.1 = EST_CTRL ∧ bitOf v 1 then laneTestRequest 1 (wr s w.1 v)
    else wr s w.1 v)

/-- P1 writes a string's staging descriptor and its job, for the temperatures `tmin` to `tmax` and table set `set` (R167). -/
def rebuildStr (s : Dev) (x : Nat) (tmin tmax : Int) (set : Nat) : Dev :=
  let b := pubWt s x
  let m : Int := par s 0x400A * 64
  let lo := tmin - m
  let hi := tmax + m
  let mid := (tmin + tmax) / 2
  let lo' := if hi - lo > 1280 then mid - 640 else lo
  let hi' := if hi - lo > 1280 then mid + 640 else hi
  let v := (descVer s x b + 1) % 65536
  let v := if v = 0 then 1 else v
  let all : U32 := 0xFFFFFFFF
  emit s 1 (.est [(wtDesc x (1 - b), all, w32 (v * 65536 + 0x8000 + set * 0x1000)), (wtDesc x (1 - b) + 4, all, w32 (ws16 hi' * 65536 + ws16 lo')),
    (EST_CUR_JOB, all, w32 x)])

/-- EV_TABLE_INVALID of the strings assigned to invalid sets (R163). -/
def tableFaults (s : Dev) : Dev :=
  forL s (confStrs s) (fun s x =>
    let k := par s (0x4100 + x)
    if setBad s k then fault3 s 1 Ev.TABLE_INVALID (x + k * 256) x false [x] false else clearCond s 1 Ev.TABLE_INVALID x x)

/-- P1 copies a master set from the retained store into SRAM and judges it (R163, R164). -/
def copySet (s : Dev) (k : Nat) : Dev :=
  let s := { s with mem := Memory.copy s.mem (0x102C0000 + k * 0x10000) (setAddr k) 0x10000 }
  let ok := setBytesOk (Memory.bytes s.mem (setAddr k) 0x10000)
  { s with exe := { s.exe with bad := s.exe.bad.filter (· != setAddr k) }, est := { s.est with badSets := if ok then s.est.badSets.filter (· != k) else insertNat k s.est.badSets } }

/-- P1's supervision after the cycle's collection and before EST_GO (R167): STRCFG, then rebuilds. DESIGN CHOICE: a string without a valid
temperature keeps its T_MIN and T_MAX and is not rebuilt, nor is one of an invalid set (log 130). -/
def estSupervise (s : Dev) : Dev :=
  forL s (confStrs s) (fun s x =>
    let t := strTemps s x
    let all : U32 := 0xFFFFFFFF
    let tmin := minInt t 0
    let tmax := maxInt t 0
    let set := par s (0x4100 + x)
    let used := (cellsOf s x).any (recInUse s)
    let s := estWrite s ((if t.isEmpty then [] else [(strCfg x, all, w32 (ws16 tmax * 65536 + ws16 tmin))]) ++ [(strCfg x + 4, all, w32 (b2n used * 2 ^ 31 + set))])
    let b := pubWt s x
    let need := !descOk s x b || decide (tmin < descLo s x b) || decide (tmax > descHi s x b) || descSet s x b != set || s.est.rebuild.contains x
    if need && used && !t.isEmpty && !jobPending s x && !setBad s set then
      rebuildStr { s with est := { s.est with rebuild := s.est.rebuild.filter (· != x) } } x tmin tmax set
    else s)

/-- Sets loaded are copied after the audit and before the next EST_GO; their strings are rebuilt (R164). -/
def setCopies (s : Dev) : Dev :=
  let l := s.est.setCopy
  if l.isEmpty then s
  else
    let s := forL s l copySet
    let xs := (confStrs s).filter (fun x => l.contains (par s (0x4100 + x)))
    tableFaults { s with est := { s.est with setCopy := [], rebuild := xs.foldl (fun l x => insertNat x l) s.est.rebuild } }

/-! ## Innovation gate, excitation, confidence (R160, R176 to R180, R184) -/

/-- EV_INNOV_GATE: 16 consecutive gated measured updates (R184). -/
def innovCheck (s : Dev) : Dev :=
  forL s s.est.laneOf (fun s e =>
    let c := e.1
    let f := ld16 s (cellRec c + 0x42)
    if !nbit f 15 || nbit f 6 then s
    else
      let x := ld32 s (cellRec c + 0x50) / 2 ^ 24 % 128
      if nbit f 11 then
        let n := min (Tbl.get 0 s.est.gated c + 1) 16
        let s := { s with est := { s.est with gated := Tbl.set 0 s.est.gated c n } }
        if n ≥ 16 then raise s 1 Ev.INNOV_GATE (x + c * 65536) c else s
      else clearCond { s with est := { s.est with gated := Tbl.set 0 s.est.gated c 0 } } 1 Ev.INNOV_GATE c x)

/-- Charge entry of string x; its CAP_S (R187). -/
def chgAddr (x : Nat) : Nat := 0x20DD9000 + x * 64
def capS (s : Dev) (x : Nat) : Nat := ld32 s (chgAddr x + 0x20)

/-- The confidence is set at a reference (R176): kind 1 quiet, 2 hibernation, 3 full charge, 4 steep. -/
def confRef (s : Dev) (x kind v : Nat) : Dev :=
  let c := getConf s x
  let s := setConf s x { c with cRef := v, c := v, refAt := localCyc s, kind := kind, refCyc := s.tb.cyc }
  let c := getConf s x
  if c.quietReq && decide (v ≥ 2 ^ 63) && kind != 1 then setConf s x { c with quietReq := false } else s

/-- Counted charge is re-anchored: EST_ANCHOR, QACC and remainder 0, the disagreement ends (R178, R188, R191). -/
def reAnchor (s : Dev) (x : Nat) : Dev :=
  let s := estWrite s [(EST_ANCHOR + x / 32 * 4, w32 (2 ^ (x % 32)), w32 (2 ^ (x % 32)))]
  let s := st64 s (chgAddr x) 0
  let s := { s with chg := Tbl.upd {} s.chg x (fun g => { g with rem := 0 }) }
  let s := forL s (cellsOf s x) (fun s c => st16 s (cellRec c + 0x6E) (nput (ld16 s (cellRec c + 0x6E)) 15 false))
  let s := st8 s (chgAddr x + 0x2D) (nput (ld8 s (chgAddr x + 0x2D)) 7 false)
  clearCond s 1 Ev.ESTIMATOR_DISAGREE x x

/-- Row QUIET_WINDOW_COMPLETE: 10 minutes below C/50 (R176, R178, R179). -/
def quietWindowComplete (x : Nat) (s : Dev) : Dev :=
  let c := getConf s x
  if c.quietAt = 0 ∨ !pairUp s 1 then s
  else
    let s := reAnchor (confRef s x 1 (2 ^ 64)) x
    let c := getConf s x
    let s := setConf s x { c with quietAt := s.uptimeMs + 1, quietReq := false }
    post s 1 Ev.QUIET_DONE x

/-- Row UNEXCITED_TIMEOUT (R160). -/
def unexcitedTimeout (x : Nat) (s : Dev) : Dev :=
  let c := getConf s x
  if c.floorAt = 0 ∨ c.unexc ∨ !pairUp s 1 then s
  else
    let s := setConf s x { c with unexc := true, excCount := 0 }
    let a := 0x20DD8000 + x * 16 + 4
    raise (st16 s a (nput (ld16 s a) 1 true)) 1 Ev.Z_UNEXCITED x x

/-- The excitation of a snapshot (R160). -/
def excSnapshot (s : Dev) (k x : Nat) : Dev :=
  if !entryUsable s k x then s
  else
    let re := lds16 s (strEnt k x + 4)
    let im := lds16 s (strEnt k x + 6)
    let c := getConf s x
    let fl := par s 0x4004
    if 100 * (re * re + im * im) < (fl * fl : Nat) then
      setConf s x { c with excCount := 0, floorAt := if c.floorAt = 0 then s.uptimeMs + 1 else c.floorAt }
    else if c.unexc then
      if c.excCount + 1 ≥ 10 then
        let s := setConf s x { c with unexc := false, floorAt := 0, excCount := 0 }
        post (clearCond s 1 Ev.Z_UNEXCITED x x) 1 Ev.Z_EXCITED x
      else setConf s x { c with excCount := c.excCount + 1 }
    else setConf s x { c with floorAt := 0 }

/-- The quiet span of a snapshot (R179). -/
def quietSnapshot (s : Dev) (k x : Nat) : Dev :=
  let c := getConf s x
  let quiet := match usableCur s k x with
    | some i => entryUsable s k x && decide (i.natAbs * 180 < capS s x)
    | none => false
  if quiet then setConf s x { c with quietAt := if c.quietAt = 0 then s.uptimeMs + 1 else c.quietAt }
  else if c.quietAt = 0 then s
  else
    let sec := (s.uptimeMs + 1 - c.quietAt) / 1000
    let s := setConf s x { c with quietAt := 0 }
    if sec ≥ 60 then note s 1 Ev.QUIET_ABORT (x + min sec 65535 * 65536) else s

/-- Every cell of the string has a measurement in the slot (R154). -/
def allMeasured (s : Dev) (k x : Nat) : Bool :=
  entryUsable s k x && (cellsOf s x).all (fun c => cellValid s k c && !nbit (ld32 s (cellHist k c)) 25)

/-- The mean SOC of the string's cells, as binary32. -/
def meanSoc (s : Dev) (x : Nat) : F32 :=
  let l := (cellsOf s x).filter (recInUse s)
  fofRat ((l.map (fun c => ffix (w32 (ld32 s (cellRec c + 8))) 64)).foldl (· + ·) 0) (max l.length 1 * 2 ^ 64)

/-- The steep region of a snapshot (R176): the slope of the published table's mid-branch at the mean SOC, per 1 %. -/
def steepSnapshot (s : Dev) (k x : Nat) : Dev :=
  let c := getConf s x
  let h := (tableAt (workPoint s (pubWt s x) x) (meanSoc s x) 0).2
  let steep := descOk s x (pubWt s x) && allMeasured s k x && decide (ffix h 40 * 10000 ≥ (par s 0x400E : Int) * 2 ^ 40)
  if !steep then setConf s x { c with steepAt := 0 }
  else if c.steepAt = 0 then setConf s x { c with steepAt := s.uptimeMs + 1 }
  else if s.uptimeMs + 1 ≥ c.steepAt + 60000 then
    confRef (setConf s x { c with steepAt := s.uptimeMs + 1 }) x 4 (max c.c (9 * 2 ^ 64 / 10))
  else s

/-- c of the cycle: the reference decayed over the local cycles since, at the measured period (R176). -/
def confNow (s : Dev) (c : StrConf) : Nat :=
  c.cRef * expNeg (cycSince s c.refAt * 1000000 * lnDecay (par s 0x400C)) (freqNow s * 3600 * 2 ^ 80) / 2 ^ 64

/-- u of R177, 0.01 %. -/
def uncOf (s : Dev) (x : Nat) (unanch : Bool) : Nat :=
  let p := ((cellsOf s x).filter (recInUse s)).foldl (fun m c => max m (ffixN (w32 (ld32 s (cellRec c + 0xC))) 64)) 0
  min (isqrt (p * 400000000 / 2 ^ 64) + (if unanch then par s 0x400D else 0)) 10000

/-- P1's confidence work of a cycle for a string, with its row of the string estimator table (R176 to R180). -/
def confCycle (s : Dev) (x : Nat) : Dev :=
  let c := getConf s x
  let v := confNow s c
  let un := decide (v < 2 ^ 63)
  let s := setConf s x { c with c := v, unanch := un }
  let s := track s un 1 Ev.SOC_UNANCHORED x x x
  let c := getConf s x
  let ask := un && parB s 0x400F && (c.lastReq = 0 || decide (s.uptimeMs + 1 ≥ c.lastReq + par s 0x4010 * 3600000))
  let s := if ask then note (setConf s x { c with quietReq := true, lastReq := s.uptimeMs + 1 }) 1 Ev.QUIET_REQUEST x else s
  let c := getConf s x
  let fl := b2n c.unanch + b2n c.unexc * 2 + b2n (strBit s EST_FALLBACK x) * 4 + b2n c.quietReq * 8 + b2n (c.quietAt != 0) * 16
  stN s (0x20DD8000 + x * 16) 16 (v * 10000 / 2 ^ 64 + uncOf s x un * 2 ^ 16 + fl * 2 ^ 32 + c.kind * 2 ^ 48 + c.refCyc % 2 ^ 48 * 2 ^ 64)

/-- P1's estimation work of a snapshot, after its collection (R160, R176, R179). -/
def estSnapshot (s : Dev) (k : Nat) : Dev :=
  forL s (confStrs s) (fun s x => steepSnapshot (quietSnapshot (excSnapshot s k x) k x) k x)

/-! ## Protected memory (R120, R152, R161, R173) -/

/-- The acquisition unit owns the sample history and the acquisition block (R120). -/
def acqOwned (a : Nat) : Bool := decide ((0x20800000 ≤ a ∧ a < 0x20C00000) ∨ (0x20D80000 ≤ a ∧ a < 0x20DB2000))
/-- The engine owns the records' bytes 0x08 to 0x4F during a pass, the working banks, the audit's buffers and the reducer's output (R152, R161,
R173, R212). -/
def estOwned (s : Dev) (a : Nat) : Bool :=
  (decide (0x20000000 ≤ a ∧ a < 0x20800000 ∧ 8 ≤ a % 128 ∧ a % 128 < 0x50) && s.est.pass.isSome) ||
    decide ((0x20C80000 ≤ a ∧ a < 0x20D80000) ∨ (0x20DB2000 ≤ a ∧ a < 0x20DD6000) ∨ (0x20DDE000 ≤ a ∧ a < 0x20DE0000))
/-- No core may store there. -/
def sramBarred (s : Dev) (a : Nat) : Bool := acqOwned a || estOwned s a
/-- A store of pair p to SRAM that hardware or the engine owns ends in a bus error (R120, R152, R161, R173, R212). -/
def barredStore (s : Dev) (p a : Nat) : Dev :=
  if acqOwned a then busErrorTo (wrB s ACQ_STATUS 0 true) p else if estOwned s a then busErrorTo (wrB s EST_STATUS 2 true) p else s
/-- Row PROTECTED_SRAM_STORE: a core's store to hardware-owned or engine-owned SRAM. Which pair stores is not the row's to say: a free value
(Log 120). -/
def protectedSramStore (a : Nat) (s : Dev) : Dev :=
  if sramBarred s a then
    let (p, s) := takeNat s 4
    barredStore s p a
  else s

/-! ## The opcodes (R407, R408) -/

/-- Catalogue records (R408). -/
def catalogueWords (s : Dev) (c : Nat) : List U32 := ldWords s (cellRec c) 32

end Sys2Proof.Machine
end

