-- ==== Sys2Proof/Machine/Charge.lean ====
section
/-!
DEFINITION. Sys2Proof/Machine/Charge.lean: charge counting, full-charge termination, capacity learning, disagreement, health
and what is kept across restarts (spec 06 R185 to R207).
-/
namespace Sys2Proof.Machine

/-- P1 writes a cell's CAP: between passes (R152). -/
def capWrite (s : Dev) (c : Nat) (v : F32) : Dev :=
  if s.est.pass.isSome then { s with est := { s.est with capPend := s.est.capPend.filter (fun e => e.1 != c) ++ [(c, v)] } }
  else st32 s (cellRec c + 0x54) v.toNat

/-- P1's charge record of string x. -/
def getChg (s : Dev) (x : Nat) : ChgStr := Tbl.get {} s.chg x
def setChg (s : Dev) (x : Nat) (g : ChgStr) : Dev := { s with chg := Tbl.set {} s.chg x g }
/-- Rated capacity of string x, A·s (R206). -/
def ratedCap (s : Dev) (x : Nat) : Nat := par s (0x4300 + x)
/-- A signed 64-bit number, as written. -/
def st64i (s : Dev) (a : Nat) (v : Int) : Dev := st64 s a (v % 2 ^ 64).toNat
/-- LSTATE (R187). -/
def lstate (s : Dev) (x : Nat) : Nat := ld8 s (chgAddr x + 0x2C)
def setLstate (s : Dev) (x v : Nat) : Dev := st8 s (chgAddr x + 0x2C) v
/-- A bit of LFLAGS. -/
def lflag (s : Dev) (x i : Nat) : Bool := nbit (ld8 s (chgAddr x + 0x2D)) i
def setLflag (s : Dev) (x i : Nat) (b : Bool) : Dev := st8 s (chgAddr x + 0x2D) (nput (ld8 s (chgAddr x + 0x2D)) i b)
/-- A bit of a record's HFLAGS (R201). -/
def hflag (s : Dev) (c i : Nat) : Bool := nbit (ld16 s (cellRec c + 0x6E)) i
def setHflag (s : Dev) (c i : Nat) (b : Bool) : Dev := st16 s (cellRec c + 0x6E) (nput (ld16 s (cellRec c + 0x6E)) i b)
/-- A binary32 field of a record. -/
def recF (s : Dev) (c o : Nat) : F32 := w32 (ld32 s (cellRec c + o))
def setRecF (s : Dev) (c o : Nat) (v : F32) : Dev := st32 s (cellRec c + o) v.toNat
/-- Cells of string x whose record is in use. -/
def liveCells (s : Dev) (x : Nat) : List Nat := (cellsOf s x).filter (recInUse s)

/-- Seconds since the full reference. -/
def sinceRef (s : Dev) (x : Nat) : Nat := (s.uptimeMs - (getChg s x).refMs) / 1000
/-- A learning event is aborted with a reason (R194, R207). -/
def learnAbort (s : Dev) (x reason : Nat) : Dev :=
  if lstate s x = 0 then s
  else post (setLstate s x 0) 1 Ev.CAP_LEARN_ABORT (x + reason * 256 + sinceRef s x % 2 ^ 32 * 2 ^ 32)

/-! ## Counting (R186) -/

/-- A snapshot's charge of string x in slot k (R186, R194). A snapshot without a usable current adds nothing. -/
def countSnapshot (s : Dev) (k x : Nat) : Dev :=
  let lam := slotLam s k
  let g := getChg s x
  let n := if g.lamAt = 0 then 0 else (lam + 2 ^ 32 - (g.lamAt - 1)) % 2 ^ 32
  match usableCur s k x with
  | none => setChg s x { g with dq := 0, lamAt := lam + 1, lamN := n }
  | some i =>
    let dt : Nat := n * 10 ^ 15 / (2 * freqNow s)
    let v : Int := i * dt + g.rem
    let dq := v / 10 ^ 9
    let s := setChg s x { g with rem := (v % 10 ^ 9).toNat, dq := dq, lamAt := lam + 1, lamN := n }
    let a := chgAddr x
    let s := st64i s a (lds64 s a + dq)
    let s := if dq > 0 then st64i s (a + 8) (lds64 s (a + 8) + dq) else st64i s (a + 0x10) (lds64 s (a + 0x10) - dq)
    let s := if lstate s x = 0 then s
      else
        let seg := if i < 0 then ld32 s (a + 0x3C) + dq.natAbs else 0
        st32 (st64i s (a + 0x18) (lds64 s (a + 0x18) + dq)) (a + 0x3C) (min seg 0xFFFFFFFF)
    s

/-- Balancing charge of a cell over a snapshot's update, A·s (R156). -/
def balCharge (s : Dev) : F32 := balStep (par s 0x4012) (fofRat 1000000 (2 * freqNow s))
/-- Cells whose history entry has BAL set add their balancing charge while learning runs; R156 gives none in DENSE (R194). -/
def balLearn (s : Dev) (k x : Nat) : Dev :=
  if lstate s x = 0 || bitOf (slotWord s k 1) 13 then s
  else forL s (liveCells s x) (fun s c => if nbit (ld32 s (cellHist k c)) 24 then setRecF s c 0x60 (fadd (recF s c 0x60) (balCharge s)) else s)

/-! ## Full-charge termination (R189, R190) -/

/-- V_F in 100 µV: the lower of V_FULL of the string's set and lim.cell.v_max (R189). -/
def vFull (s : Dev) (x : Nat) : Nat := min (setVfull s (par s (0x4100 + x))) (par s 0x5001)

/-- s_V of a cell (R195): the lowest s at which its mid-branch curve reaches its OCV, as binary32. Log 10. -/
def svOf (s : Dev) (x c : Nat) : F32 :=
  let r := ldRec s c
  let fb := strBit s EST_FALLBACK x
  let t := toS16 r.tUsed
  let tc := servingTc s x fb t
  let pt := servingTable s x fb t
  let hy : F32 := if setQh s (cfgSet s x) = 0 then 0 else r.hyst
  let curve := fun i => let p := pt i; ffix (ffma p.dodt (fofRat (2 * t - tc) 128) (branchMix p hy)) 60
  let v := ffix r.ocv 60
  if v < curve 0 then 0
  else
    match (List.range 256).find? (fun i => decide (curve i ≥ v)) with
    | none => fOne
    | some 0 => 0
    | some (i + 1) =>
      let a := curve i
      let b := curve (i + 1)
      fofRat ((i : Int) * (b - a) + (v - a)) ((b - a).toNat * 255)

/-- L_TMIN and L_TMAX of an event in which no cell has had a valid temperature. DESIGN CHOICE: the code of a failed input, 0x8000 (log 131). -/
abbrev noTemp : Int := -32768

/-- The full reference of string x (R189, R194). DEDUCED: one that meets an event under way while learning is not enabled ends it without an
abort event (log 131). -/
def fullReference (s : Dev) (x : Nat) : Dev :=
  let dis := lflag s x 7
  let s := reAnchor (confRef (post s 1 Ev.FULL_CHARGE x) x 3 (2 ^ 64)) x
  let s := setLflag s x 6 true
  let s := setChg s x { getChg s x with fullBlock := true, refMs := s.uptimeMs, empty := 0, broken := 0, lastGood := s.uptimeMs + 1, inGap := false }
  if !parB s 0x4201 || dis then setLstate s x 0
  else
    let a := chgAddr x
    let ts := strTemps s x
    let s := st64 s (a + 0x18) 0
    let s := stN s (a + 0x2E) 12 (0 + s.tb.cyc % 2 ^ 48 * 2 ^ 16 + ws16 (minInt ts noTemp) * 2 ^ 64 + ws16 (maxInt ts noTemp) * 2 ^ 80)
    let s := st32 s (a + 0x3C) 0
    let s := forL s (liveCells s x) (fun s c => setRecF (setRecF s c 0x5C (svOf s x c)) c 0x60 0)
    post (setLstate s x 1) 1 Ev.CAP_LEARN_START x

/-- The full-charge criterion of a snapshot (R189, R190). -/
def fullSnapshot (s : Dev) (k x : Nat) : Dev :=
  let g := getChg s x
  let i := strCur s k x
  let vmax := (cellsOf s x).foldl (fun m c => max m (ld16 s (cellHist k c + 6))) 0
  let holds := allMeasured s k x && !(cellsOf s x).isEmpty && decide (i < 0) && decide (vmax + 100 ≥ vFull s x)
  let block := g.fullBlock && decide (lds64 s (chgAddr x) < (capS s x * 10 : Nat))
  if !holds then setChg s x { g with fullAt := 0, fullBlock := block }
  else
    let since := if g.fullAt = 0 then s.uptimeMs + 1 else g.fullAt
    let s := setChg s x { g with fullAt := since, fullBlock := block }
    if s.uptimeMs + 1 ≥ since + 60000 ∧ i.natAbs * 72 < capS s x ∧ !block then fullReference s x else s

/-! ## Capacity learning (R193 to R197) -/

/-- A continuity state of R193. -/
def learnDev (s : Dev) : Bool :=
  s.dev == .standby || s.dev == .connecting || s.dev == .connected || s.dev == .disconnecting || s.dev == .safeHold

/-- P1's checks of R193 in a snapshot; the first that fails is noted, 0 none. Gaps and temperatures of the event are kept. -/
def learnSnapshot (s : Dev) (k x : Nat) : Dev :=
  if lstate s x = 0 then s
  else
    let a := chgAddr x
    let g := getChg s x
    let good := (usableCur s k x).isSome && allMeasured s k x
    let gap := if g.lastGood = 0 || (good && !g.inGap && decide (g.lamN ≤ 2)) then 0 else s.uptimeMs + 1 - g.lastGood
    let s := st16 s (a + 0x2E) (max (ld16 s (a + 0x2E)) (min gap 65535))
    let s := setChg s x { g with lastGood := if good then s.uptimeMs + 1 else g.lastGood, inGap := !good }
    let ts := strTemps s x
    let s := if ts.isEmpty then s
      else
        let lo := minInt ts 0
        let lo := if lds16 s (a + 0x36) = noTemp then lo else min (lds16 s (a + 0x36)) lo
        st16 (st16 s (a + 0x36) (ws16 lo)) (a + 0x38) (ws16 (max (lds16 s (a + 0x38)) (maxInt ts 0)))
    let reason :=
      if ld32 s (a + 0x3C) > capS s x * 10 then 1
      else if ts.any (fun t => decide (t < 640 ∨ 2560 < t)) then 2
      else if s.uptimeMs > g.refMs + 172800000 then 3
      else if gap > 10000 then 4
      else if lflag s x 7 then 5
      else if !learnDev s then 7
      else 0
    let s := if reason ≠ 0 then learnAbort s x reason else s
    if lstate s x = 1 then
      match usableCur s k x with
      | some i => if 0 ≤ i ∧ i.natAbs * 180 ≥ capS s x then setLstate s x 2 else s
      | none => s
    else s

/-- Row CAP_LEARN_ARM_TIMEOUT: 30 minutes in ARMED (R194). -/
def capLearnArmTimeout (x : Nat) (s : Dev) : Dev := if lstate s x = 1 ∧ pairUp s 1 then setLstate s x 0 else s

/-- R196 on a cell: (new value, pending), and whether it was held. -/
def learnCell (k : Nat) (r v p : F32) : F32 × F32 × Bool :=
  let kf := fofRat k 10000
  let half : F32 := 0x3F000000
  let near := fun a b : F32 => fle (fabs (fsub a b)) (fmul kf b)
  if near r v then (ffma half v (fmul half r), 0, false)
  else if ffix p 0 ≤ 0 ∧ ffix p 149 = 0 then (v, r, true)
  else if near r p then (ffma half v (fmul half (fmul half (fadd p r))), 0, false)
  else (v, r, true)

/-- R196 on the string, in mC: (new CAP_S in A·s, pending in A·s), and whether it was held. -/
def learnStr (k r v p : Nat) : Nat × Nat × Bool :=
  let near := fun a b : Nat => decide ((if a ≤ b then b - a else a - b) * 10000 ≤ k * b)
  let vm := v * 1000
  let pm := p * 1000
  if near r vm then ((vm + r + 1000) / 2000, 0, false)
  else if p = 0 then (v, (r + 500) / 1000, true)
  else if near r pm then ((2 * vm + pm + r + 2000) / 4000, 0, false)
  else (v, (r + 500) / 1000, true)

/-- A value over a rated one at 0.01 %, rounded, saturating (R198). -/
def soh100 (num : Int) (den : Nat) : Nat := (clampInt 0 10000 ((2 * num * 10000 + den) / (2 * max den 1 : Nat))).toNat

/-- R_bol of a string's set, as µΩ. -/
def rBol (s : Dev) (x : Nat) : Nat := setRohm s (par s (0x4100 + x))
/-- A cell's health fields (R198). -/
def cellHealth (s : Dev) (x c : Nat) : Dev :=
  let b := rBol s x
  let eol := b * par s 0x4205
  let r25 := ffix (recF s c 0x64) 60 * 100000000
  let soC := soh100 (ffix (recF s c 0x54) 40) (ratedCap s x * 2 ^ 40)
  let soR := soh100 ((eol : Int) * 2 ^ 60 - r25) ((eol - b * 100) * 2 ^ 60)
  st16 (st16 (st16 s (cellRec c + 0x68) soC) (cellRec c + 0x6A) soR) (cellRec c + 0x6C) (min soC soR)
/-- A string's health, with EV_SOH_LOW (R198, R200). -/
def strHealth (s : Dev) (x : Nat) : Dev :=
  let soC := soh100 (capS s x) (ratedCap s x)
  let low := (liveCells s x).foldl (fun m c => min m (ld16 s (cellRec c + 0x6C))) soC
  let s := st16 (st16 s (chgAddr x + 0x28) soC) (chgAddr x + 0x2A) low
  let w := par s 0x4203
  if low < w then raise s 1 Ev.SOH_LOW (x + low * 65536) x
  else if low ≥ w + 100 then clearCond s 1 Ev.SOH_LOW x x else s

/-- The health of every string and cell in use, after a change of what R198 takes it from. -/
def healthAll (s : Dev) : Dev :=
  forL s (confStrs s) (fun s x => strHealth (forL s (liveCells s x) (fun s c => cellHealth s x c)) x)

/-- The empty reference: results of the event (R195, R196). -/
def learnFinish (s : Dev) (x : Nat) : Dev :=
  let a := chgAddr x
  let q := lds64 s (a + 0x18)
  let k := par s 0x4202
  let dq := fofRat q 1000
  let cells := liveCells s x
  let out := cells.foldl (fun (acc : Dev × Nat) c =>
    let s := acc.1
    let ds := fsub (recF s c 0x5C) (svOf s x c)
    if fcmpLt ds 0x3F000000 then (setHflag s c 14 true, acc.2)
    else
      let r := fdiv (fadd dq (recF s c 0x60)) ds
      let v := learnCell k r (recF s c 0x54) (recF s c 0x58)
      let s := setRecF (setRecF (setHflag s c 14 false) c 0x54 v.1) c 0x58 v.2.1
      if v.2.2 then (s, acc.2 + 1) else (cellHealth (setHflag s c 13 true) x c, acc.2)) (s, 0)
  let s := out.1
  let held := out.2
  let v := learnStr k q.toNat (capS s x) (ld32 s (a + 0x24))
  let s := setLstate (st32 (st32 s (a + 0x20) v.1) (a + 0x24) v.2.1) x 0
  let s := saveSoon (strHealth s x)
  let s := if v.2.2 then s else post (setChg (setLflag s x 5 false) x { (getChg s x) with capLearned := true }) 1 Ev.CAP_LEARNED (x + v.1 * 2 ^ 32)
  if v.2.2 ∨ held > 0 then note s 1 Ev.CAP_HELD (x + min held 65535 * 65536 + (if v.2.2 then v.2.1 else 0) * 2 ^ 32) else s

/-- After a pass: the empty reference of a running event (R193, R195). -/
def emptyCheck (s : Dev) (x : Nat) : Dev :=
  if lstate s x ≠ 2 then s
  else
    let ms := (liveCells s x).filter (fun c => nbit (ld16 s (cellRec c + 0x42)) 15)
    let low := minInt (ms.map (fun c => ffix (recF s c 0x20) 60)) (2 ^ 70)
    let g := getChg s x
    if !ms.isEmpty ∧ low * 10000 ≤ (setVempty s (par s (0x4100 + x)) : Int) * 2 ^ 60 then
      if g.empty + 1 ≥ 2 then learnFinish (setChg s x { g with empty := 0 }) x
      else setChg s x { g with empty := g.empty + 1 }
    else setChg s x { g with empty := 0 }

/-! ## Disagreement and health (R191, R199) -/

/-- The direction in which a cell disagrees: 0 empty end, 1 full end (R191). -/
def disagree (s : Dev) (c : Nat) : Option Nat :=
  let q := recF s c 0x10
  let v := recF s c 8
  let th := fofRat (par s 0x4200) 10000
  let top := fsub fOne th
  if (fle q 0 && fcmpLt th v) || (fcmpLt th q && fle v 0) then some 0
  else if (fle fOne q && fcmpLt v top) || (fcmpLt q top && fle fOne v) then some 1
  else none

/-- P1's disagreement check of a string, after the audit (R191). -/
def disagreeCheck (s : Dev) (x : Nat) : Dev :=
  forL s (liveCells s x) (fun s c =>
    match disagree s c with
    | none => s
    | some d =>
      let s := setHflag s c 15 true
      if lflag s x 7 then s
      else learnAbort (raise (setLflag s x 7 true) 1 Ev.ESTIMATOR_DISAGREE (x + d * 256 + c * 65536) x) x 5)

/-- R25 of a cell (R199). -/
def r25Step (s : Dev) (x c : Nat) : Dev :=
  let f := ld16 s (cellRec c + 0x42)
  let t := lds16 s (cellRec c + 0x3E)
  let cfg := ld32 s (cellRec c + 0x50)
  let tv := !nbit cfg 23 && tempKnown s (cfg / 256 % 32768)
  if ld16 s (cellRec c + 0x4E) ≠ 0 ∨ nbit f 8 ∨ !tv then s
  else
    let e := t - 1600
    let l := lnGrow (par s 0x4204)
    let g := if e ≤ 0 then fofRat (expNeg (e.natAbs * l) (64 * 2 ^ 80)) (2 ^ 64) else fofRat (2 ^ 64) (expNeg (e.natAbs * l) (64 * 2 ^ 80))
    let r := fmul (recF s c 0x28) g
    let o := recF s c 0x64
    cellHealth (setRecF s c 0x64 (fadd o (fmul (fsub r o) (fofRat 1 4096)))) x c

/-- P1's charge work after a pass and its audit: disagreement, which aborts an event before its empty reference can end it; learning;
health of the audited slice (R191, R194, R195, R199). -/
def chgAfterPass (s : Dev) : Dev :=
  let j := rdN s EST_AUDIT_CNT % 64
  let xs := confStrs s
  let s := forL s xs disagreeCheck
  let s := forL s xs (fun s x => emptyCheck s x)
  let s := forL s xs (fun s x => forL s ((liveCells s x).filter (fun c => c / 1024 == j)) (fun s c => r25Step s x c))
  forL s xs strHealth

/-- P1's charge work of a snapshot after its collection (R186, R189, R193). -/
def chgSnapshot (s : Dev) (k : Nat) : Dev :=
  forL s (confStrs s) (fun s x => fullSnapshot (learnSnapshot (balLearn (countSnapshot s k x) k x) k x) k x)

/-! ## Capacities from the host and from a commit (R197, R409) -/

/-- CAP_S of a string, written by the host (R197, R409). -/
def hostCapS (s : Dev) (x v : Nat) : Dev :=
  let s := learnAbort s x 6
  saveSoon (strHealth (setChg (setLflag (st32 (st32 s (chgAddr x + 0x20) v) (chgAddr x + 0x24) 0) x 5 true) x { (getChg s x) with capLearned := true }) x)
/-- CAP of a cell, written by the host. -/
def hostCap (s : Dev) (c v : Nat) : Dev :=
  let x := ld32 s (cellRec c + 0x50) / 2 ^ 24 % 128
  let s := learnAbort s x 6
  saveSoon (strHealth (cellHealth (setHflag (setRecF (capWrite s c (fofInt v)) c 0x58 0) c 13 true) x c) x)
/-- A committed change of a string's rated capacity (R197). -/
def ratedChange (s : Dev) (x : Nat) : Dev :=
  let s := learnAbort s x 6
  let r := ratedCap s x
  let learned := (getChg s x).capLearned || lflag s x 5 || (liveCells s x).any (fun c => hflag s c 13)
  let s := if learned then s
    else forL (st32 s (chgAddr x + 0x20) r) (liveCells s x) (fun s c => capWrite s c (fofInt r))
  strHealth (forL s (liveCells s x) (fun s c => cellHealth s x c)) x

/-- Capacities that waited for the end of a pass are written (R152). -/
def capTake (s : Dev) : Dev :=
  let l := s.est.capPend
  if l.isEmpty || !pairUp s 1 || s.est.pass.isSome then s
  else
    let s := { s with est := { s.est with capPend := [] } }
    forL s l (fun s e =>
      let x := ld32 s (cellRec e.1 + 0x50) / 2 ^ 24 % 128
      strHealth (cellHealth (capWrite s e.1 e.2) x e.1) x)

/-! ## Kept across restarts (R202 to R205) -/

/-- Rounding of a binary32 number to the nearest integer, clamped. -/
def fnear (a : F32) (hi : Nat) : Nat := (clampInt 0 hi ((ffix a 20 + 2 ^ 19) / 2 ^ 20)).toNat

/-- The 16 bytes saved of a cell (R202). -/
def cellSave (s : Dev) (c : Nat) : List U8 :=
  let h := (ffix (fmul (recF s c 0x14) 0x42FE0000) 20 + 2 ^ 19) / 2 ^ 20
  let fl := (h % 256).toNat * 256 + b2n (hflag s c 13) * 128 + b2n (hflag s c 15) * 64 + 1
  leBytes 2 (socOut s c) ++ leBytes 2 (fnear (fmul (recF s c 0x10) 0x461C4000) 10000) ++ leBytes 4 (fnear (recF s c 0x54) 0xFFFFFFFF) ++
    leBytes 4 (fnear (recF s c 0x58) 0xFFFFFFFF) ++ leBytes 2 (ld16 s (cellRec c + 0x6A)) ++ leBytes 2 fl

/-- A saved cell record is valid (R205). -/
def cellSaveOk (s : Dev) (x c : Nat) : Bool :=
  let a := 0x10000000 + c * 16
  let cap := ld32 s (a + 4)
  nbit (ld16 s (a + 0xE)) 0 && decide (ld16 s a ≤ 10000) && decide (ld16 s (a + 2) ≤ 10000) && decide (ld16 s (a + 0xC) ≤ 10000) &&
    decide (2 * cap ≥ ratedCap s x) && decide (2 * cap ≤ 3 * ratedCap s x)

/-- P1 restores one record (R205). -/
def restoreCell (s : Dev) (x c : Nat) (ok : Bool) : Dev :=
  let a := 0x10000000 + c * 16
  let fl := ld16 s (a + 0xE)
  let b := rBol s x
  let eol := b * par s 0x4205
  let soR := ld16 s (a + 0xC)
  let r25 := if ok then fofRat ((eol : Int) * 10000 - (soR : Int) * (eol - b * 100 : Nat)) (10 ^ 12) else fofRat b 1000000
  let soc := if ok then fofRat (ld16 s a) 10000 else 0x3F000000
  let q := if ok then fofRat (ld16 s (a + 2)) 10000 else 0x3F000000
  let hy := if ok then fofRat (toS8 (fl / 256)) 127 else 0
  let r := ldRec s c
  let s := stBytes s (cellRec c + 8) (recBytes { r with soc := soc, p := if ok then 0x39D1B717 else 0x3D23D70A, socQ := q, hyst := hy, vct := 0, vd := 0, ocv := 0, innov := 0, rohm := fofRat b 1000000, rct := fofRat (setRct s (par s (0x4100 + x))) 1000000, zre := 0, zim := 0, zmag := 0, zph := 0, socOut := fnear (fmul 0x461C4000 soc) 10000, tUsed := 1600, tver := 0, flags := 256, snap := 0, nomeas := 0, zrej := 0, zage := 0 })
  let s := setRecF (setRecF s c 0x54 (if ok then fofInt (ld32 s (a + 4)) else fofInt (ratedCap s x))) c 0x58 (if ok then fofInt (ld32 s (a + 8)) else 0)
  let s := setRecF s c 0x64 r25
  let s := st16 s (cellRec c + 0x6E) (if ok then b2n (nbit fl 6) * 2 ^ 15 + b2n (nbit fl 7) * 2 ^ 13 else 2 ^ 12)
  cellHealth { s with est := { s.est with fresh := insertNat c s.est.fresh } } x c

/-- P1 restores the records of string x; `txn` says that a valid save was found, `wake` that HIBERNATE ended (R205, R178). -/
def restoreStr (s : Dev) (txn wake : Bool) (x : Nat) : Dev :=
  let a := chgAddr x
  let s := if txn then { s with mem := Memory.copy s.mem (0x10340000 + x * 64) a 64 }
           else stN s a 64 (ratedCap s x * 2 ^ 256)
  let s := if capS s x = 0 then st32 s (a + 0x20) (ratedCap s x) else s
  let s := setChg s x { (getChg s x) with capLearned := lflag s x 5 || capS s x != ratedCap s x }
  let s := setLflag (setLstate s x 0) x 6 false
  let cells := liveCells s x
  let bad := cells.filter (fun c => !(txn && cellSaveOk s x c))
  let s := forL s cells (fun s c => restoreCell s x c (txn && cellSaveOk s x c))
  let v := if !bad.isEmpty then 0 else ld16 s (a + 0x3A) * 2 ^ 64 / 10000
  let s := setConf s x { cRef := v, c := v, refAt := localCyc s }
  let s := if bad.isEmpty then s else note s 1 Ev.CELL_RESTORE (x + min bad.length 65535 * 65536)
  let s := if wake then reAnchor (confRef s x 2 (2 ^ 64)) x else s
  strHealth s x
/-- P1 restores every record in use in BOOT (R205). -/
def restoreRecords (s : Dev) (txn wake : Bool) : Dev := forL s (confStrs s) (fun s x => restoreStr s txn wake x)

/-- CONF of every string receives its confidence at a save (R187, R203). -/
def confSave (s : Dev) : Dev := forN s 128 (fun s x => st16 s (chgAddr x + 0x3A) ((getConf s x).c * 10000 / 2 ^ 64))
/-- A string record as a save writes it: the charge entry, whole (R203). -/
def strSave (s : Dev) (x : Nat) : List U8 := Memory.bytes s.mem (chgAddr x) 64

end Sys2Proof.Machine
end

