-- ==== Sys2Proof/Machine/Limits.lean ====
section
/-!
DEFINITION. Sys2Proof/Machine/Limits.lean: the limit reducer, string and device limits, the Schuss window and its snowplough
steps, P0's clamp, and the PCS profile's frames and supervision (spec 07 R208 to R235).
Roundings that the spec leaves to the evaluator are in Log 10.
-/
namespace Sys2Proof.Machine

/-! ## State of power per cell (R209 to R213) -/

/-- The coefficient entry and the output entry of a string (R211, R212). -/
def coefAddr (x : Nat) : Nat := 0x20DDC000 + x * 64
def redAddr (x : Nat) : Nat := 0x20DDE000 + x * 64

/-- A binary32 value of a string's coefficients in a run of latched bytes. -/
def coefF (m : List Host.Cell) (x o : Nat) : F32 := w32 (leNat (Memory.bytes m (coefAddr x + o) 4))

/-- The six limits of R209 for a record, in units of 2^-32 A: discharge 2, 10, 30 s, then charge. -/
def cellLimits (m : List Host.Cell) (x : Nat) (ocv vct vd rohm rct : F32) : List Nat :=
  let f := fun (a : F32) => ffix a 64
  let one : Int := 2 ^ 64
  let mul := fun (a b : Int) => a * b / one
  let h := fun (j : Nat) =>
    let a := f (coefF m x (j * 12))
    let b := f (coefF m x (j * 12 + 4))
    let u := f ocv - mul (f vct) a - mul (f vd) b
    let r := f rohm + mul (f rct) ((one - a) + mul (f (coefF m x 0x24)) (one - b)) + f (coefF m x (j * 12 + 8))
    (u, max r (one / 1000000))
  let dis := fun (j : Nat) => (max 0 (((h j).1 - f (coefF m x 0x28)) * 2 ^ 32) / (h j).2).toNat
  let chg := fun (j : Nat) => (max 0 ((f (coefF m x 0x2C) - (h j).1) * 2 ^ 32) / (h j).2).toNat
  [dis 0, dis 1, dis 2, chg 0, chg 1, chg 2]

/-- The limits of a cell's record in memory. -/
def limitsOfCell (s : Dev) (m : List Host.Cell) (x c : Nat) : List Nat :=
  let f := fun o => w32 (ld32 s (cellRec c + o))
  cellLimits m x (f 0x20) (f 0x18) (f 0x1C) (f 0x28) (f 0x2C)

/-- The minima of lists of six with the cells that gave them, the first cell in a tie. -/
def minima : List (Nat × List Nat) → List (Nat × Nat)
  | [] => List.replicate 6 (0, 0)
  | e :: t => t.foldl (fun acc e => (acc.zip e.2).map (fun p => if p.2 < p.1.1 then (p.2, e.1) else p.1)) (e.2.map (fun v => (v, e.1)))

/-- The reducer's entry for string x: its reduced cells are those of the pass with NOTABLE clear (R210, R212). -/
def reduceEntry (s : Dev) (ps : Pass) (x : Nat) (cells : List Nat) : List U8 :=
  let en := nbit (leNat (Memory.bytes ps.coef (coefAddr x + 0x30) 1)) 0
  let l := if en then cells.filter (fun c => !recFlag s c 6) else []
  let m := minima (l.map (fun c => (c, limitsOfCell s ps.coef x c)))
  let rs := l.foldl (fun (a : Int) c => a + ffix (w32 (ld32 s (cellRec c + 0x28))) 64 + ffix (w32 (ld32 s (cellRec c + 0x2C))) 64) 0
  m.flatMap (fun p => leBytes 4 (fofRat p.1 (2 ^ 32)).toNat) ++ leBytes 4 (fofRat rs (2 ^ 64)).toNat ++ leBytes 4 ps.lam ++
    m.flatMap (fun p => leBytes 2 p.2) ++ leBytes 2 l.length ++ leBytes 2 (b2n (!l.isEmpty))

/-- The reducer writes its output table as a pass completes (R210, R212). -/
def reducerWrite (s : Dev) (ps : Pass) (cells : List Nat) : Dev :=
  let tagged := cells.map (fun c => (ld32 s (cellRec c + 0x50) / 2 ^ 24 % 128, c))
  let s := { s with lim := { s.lim with snap := ps.snap, half := ps.half, passed := true } }
  forN s 128 (fun s x => stBytes s (redAddr x) (reduceEntry s ps x ((tagged.filter (fun e => e.1 == x)).map (·.2))))

/-- A binary32 value of the reducer's output, in units of 2^-32 A. -/
def redVal (s : Dev) (x o : Nat) : Nat := ffixN (w32 (ld32 s (redAddr x + o))) 32
/-- The entry of string x is VALID (R212). -/
def redOk (s : Dev) (x : Nat) : Bool := nbit (ld16 s (redAddr x + 0x2E)) 0

/-- P1's check of the reducer in its audit gate, on the records it has just audited (R213). -/
def reducerAudit (s : Dev) : Dev :=
  match s.est.last with
  | none => s
  | some ps =>
    let j := rdN s EST_AUDIT_CNT % 64
    forL s (s.est.laneOf.filter (fun e => e.1 / 1024 == j)) (fun s e =>
      let c := e.1
      let x := ld32 s (cellRec c + 0x50) / 2 ^ 24 % 128
      if ld32 s (cellRec c + 0x48) ≠ ps.lam ∨ recFlag s c 6 ∨ !redOk s x ∨ ld32 s (redAddr x + 0x1C) ≠ ps.lam then s
      else
        let l := limitsOfCell s ps.coef x c
        if (List.range 6).any (fun i => decide ((l.getD i 0) * 100000 + 10000 * 2 ^ 32 < redVal s x (4 * i) * 99990)) then
          raise s 1 Ev.LIMIT_REDUCER (x + c * 65536) devScope
        else s)

/-- The mean HYST of a string's cells in use. -/
def meanHyst (s : Dev) (x : Nat) : F32 :=
  let l := (cellsOf s x).filter (recInUse s)
  fofRat ((l.map (fun c => ffix (w32 (ld32 s (cellRec c + 0x14))) 64)).foldl (· + ·) 0) (max l.length 1 * 2 ^ 64)

/-- P2 writes string x's coefficients, from its serving table, or in BOOT from its master set (R211). -/
def coefWrite (s : Dev) (boot : Bool) (x : Nat) : Dev :=
  let used := (cellsOf s x).any (recInUse s)
  if !used then clearMem s (coefAddr x) 64
  else
    let k := if boot then par s (0x4100 + x) else cfgSet s x
    let fb := !descOk s x (pubWt s x) || (match s.est.last with | some ps => ps.fallback.contains x | none => true)
    let ts := strTemps s x
    let temp := if boot && ts.isEmpty then 1600 else if boot then (minInt ts 0 + maxInt ts 0) / 2 else (cfgTmin s x + cfgTmax s x) / 2
    let pt := fun i => if boot || fb then masterPoint s k i (2 * temp) else workPoint s (pubWt s x) x i
    let p := tableAt pt (meanSoc s x) (meanHyst s x)
    let dec := fun (tau : F32) (h : Nat) => (fofRat (expNeg (h * 2 ^ 64) (ffixN tau 64)) (2 ^ 64)).toNat
    let sig := fun (h : Nat) => (fofRat (ffix p.2 64 * h) (max (capS s x) 1 * 2 ^ 64)).toNat
    let trip := fun (h : Nat) => [dec p.1.tct h, dec p.1.td h, sig h]
    let ws := trip 2 ++ trip 10 ++ trip 30 ++ [(fofRat (setKd s k) 1024).toNat, (fofRat (par s 0x5002) 10000).toNat, (fofRat (par s 0x5001) 10000).toNat, 1, 0, 0, 0]
    stBytes s (coefAddr x) (ws.flatMap (leBytes 4))

/-- P2's coefficients for the next pass (R211). -/
def coefAll (s : Dev) (boot : Bool) : Dev := forL s (confStrs s) (fun s x => coefWrite s boot x)

/-! ## Integrators (R218, R221) -/

def getLim (s : Dev) (x : Nat) : LimStr := Tbl.get {} s.lim.str x
def setLim (s : Dev) (x : Nat) (l : LimStr) : Dev := { s with lim := { s.lim with str := Tbl.set {} s.lim.str x l } }

/-- The CLOSED strings. -/
def closedStrs (s : Dev) : List Nat := (s.strs.filter (fun e => e.2.st == .sClosed)).map (·.1)

/-- Entries of the string thermal table (R251). -/
def thmAddr (x : Nat) : Nat := 0x20DE0000 + x * 32
def fThm (s : Dev) (x : Nat) (chg : Bool) : Nat := ld16 s (thmAddr x + (if chg then 8 else 6))

/-- Mean cell resistance for g₃, with 48 fraction bits (R218). -/
def cellRes (s : Dev) (x : Nat) : Nat :=
  match (getLim s x).rcell with
  | some r => r
  | none => let k := par s (0x4100 + x); (setRohm s k + setRct s k) * 2 ^ 48 / 1000000

/-- Ic² and Ip² in A² (R218). -/
def icSq (s : Dev) : Nat := par s 0x5003 * par s 0x5003
def ipSq (s : Dev) : Nat := par s 0x5004 * par s 0x5004

/-- τ of integrator k, s (R218). -/
def tauOf (s : Dev) (k : Nat) : Nat := if k = 1 then par s 0x5009 else if k = 2 then par s 0x500C else par s 0x500F
/-- g_k × v, v in A² or A²s with 32 fraction bits; integrator 2 off reads 0 (R218). -/
def gTimes (s : Dev) (x k v : Nat) : Nat :=
  if k = 1 then v
  else if k = 2 then (if par s 0x500A = 0 then 0 else v / par s 0x500A)
  else v * cellRes s x / (2 ^ 48 * par s 0x500E)
/-- Integrator k runs. -/
def intOn (s : Dev) (k : Nat) : Bool := k != 2 || par s 0x500A != 0
/-- Budget B_k with 32 fraction bits (R218). -/
def budget (s : Dev) (x k : Nat) : Nat :=
  if k = 1 then (ipSq s - icSq s) * par s 0x5009 * (2 ^ 64 - expNeg (par s 0x5008) (10 * par s 0x5009)) / 2 ^ 32
  else if k = 2 then par s 0x500B * 2 ^ 32 / 100
  else
    let ts := strTemps s x
    if ts.isEmpty then 0
    else (clampInt 0 (par s 0x500D * 64) (lds16 s (thmAddr x + 0x10) - maxInt ts 0)).toNat * 2 ^ 26
/-- x_k of a string. -/
def xOf (l : LimStr) (k : Nat) : Nat := if k = 1 then l.x1 else if k = 2 then l.x2 else l.x3

/-- One integrator over n half periods with the string's current (R218). -/
def intStep (s : Dev) (x k n : Nat) (cur : Int) (v : Nat) : Nat :=
  if !intOn s k then 0
  else
    let dSq := cur.natAbs * cur.natAbs - icSq s * 1000000
    let e := expNeg (n * 1000000) (2 * freqNow s * tauOf s k)
    v * e / 2 ^ 64 + gTimes s x k (dSq * tauOf s k * (2 ^ 64 - e) / (1000000 * 2 ^ 32))

/-- Integrators of string x at or over their ceiling, bits 0 to 2 (R221). -/
def overNow (s : Dev) (x : Nat) : Nat :=
  packBits (fun j => let v := xOf (getLim s x) (j + 1); intOn s (j + 1) && v != 0 && decide (v * 100 ≥ budget s x (j + 1) * par s 0x5010)) 3

/-- P2 advances string x's integrators after the collection of slot k (R218), and judges the ceiling (R221). -/
def intMove (s : Dev) (k x : Nat) : Dev :=
  let l := getLim s x
  let lam := slotLam s k
  let cur := (usableCur s k x).getD l.cur
  let n := if l.lamAt = 0 then 0 else (lam + 2 ^ 32 - (l.lamAt - 1)) % 2 ^ 32
  let rc := match rsum s x with | some r => some (r / max (ld16 s (redAddr x + 0x2C)) 1) | none => l.rcell
  let s := setLim s x { l with rcell := rc }
  setLim s x { getLim s x with cur := cur, lamAt := lam + 1, x1 := intStep s x 1 n cur l.x1, x2 := intStep s x 2 n cur l.x2, x3 := intStep s x 3 n cur l.x3 }

/-- The integrators at a snapshot, and what reaches its ceiling (R221). -/
def intSnapshot (s : Dev) (k x : Nat) : Dev :=
  let was := (getLim s x).ovr
  let s := intMove s k x
  let now := overNow s x
  let s := setLim s x { getLim s x with ovr := now }
  let new := [0, 1, 2].filter (fun i => nbit now i && !nbit was i)
  if now = 0 then clearCond s 2 Ev.SCHUSS_OVERRUN x x
  else if new.isEmpty || inForceB s Ev.SCHUSS_OVERRUN x then s
  else fault3 s 2 Ev.SCHUSS_OVERRUN (x + (new.headD 0 + 1) * 256) x false [x] false
def limSnapshot (s : Dev) (k : Nat) : Dev := if pairUp s 2 then forL s (confStrs s) (fun s x => intSnapshot s k x) else s

/-- After BOOT the integrators of every string stand at their presets (R218); only the third can stand over its budget by that, and
that is no reaching of the ceiling (Log 46). -/
def limBoot (s : Dev) : Dev :=
  forN s 128 (fun s x =>
    setLim s x { x1 := budget s x 1, x2 := if intOn s 2 then budget s x 2 else 0, x3 := par s 0x500D * 2 ^ 32, ovr := 4, fd := fThm s x false, fc := fThm s x true, gd := fThm s x false, gc := fThm s x true })

/-! ## Device limits (R214 to R216) -/

/-- cont, 10 s and 2 s limits of a CLOSED string with the factor in force for it, in units of 2^-32 A (R214). -/
def strLimits (s : Dev) (x : Nat) (chg : Bool) (f : Nat) : Nat × Nat × Nat :=
  let b := if chg then 12 else 0
  let r := fun i => if redOk s x then redVal s x (b + 4 * i) else 0
  let f2 := f2On s x
  let capC := if f2 then par s 0x5005 * par s 0x5003 * 2 ^ 32 / 100 else f * par s 0x5003 * 2 ^ 32 / 10000
  let capP := if f2 then capC else f * par s 0x5004 * 2 ^ 32 / 10000
  (min (r 2) capC, min (r 1) capP, min (r 0) capP)

/-- The device figure of the CLOSED strings' figures, 0.1 A, rounded down (R215). -/
def devFigure (s : Dev) (f : Nat → Nat) : Nat :=
  let l := closedStrs s
  match l with
  | [] => 0
  | a :: t =>
    let one := fun x => let sh := shareOf s l x; if sh = 0 then 0xFFFFFFFF else min (f x * 10 / sh) 0xFFFFFFFF
    t.foldl (fun m x => min m (one x)) (one a)

/-- ln(num / den) in units of 2^-64, num at least den and den not 0. Log 10. -/
def lnRatio (num den : Nat) : Nat :=
  let k := Nat.log2 (num / den)
  let d := den * 2 ^ k
  let z := (num - d) * 2 ^ 80 / (num + d)
  let zz := z * z / 2 ^ 80
  let ser := ((List.range 40).foldl (fun (a : Nat × Nat) i => (a.1 + a.2 / (2 * i + 1), a.2 * zz / 2 ^ 80)) (0, z)).1
  k * (ln2Fix / 2 ^ (expBits - 64)) + 2 * ser / 2 ^ 16

/-- t_k of integrator k of string x for a device peak of `ipk` (0.1 A), µs; none for infinity (R219). -/
def timeLeft (s : Dev) (x k ipk : Nat) : Option Nat :=
  let p := ipk * shareOf s (closedStrs s) x
  let sq := p * p / (100 * 2 ^ 32)
  let st := gTimes s x k ((sq - icSq s * 2 ^ 32) * tauOf s k)
  let b := budget s x k
  let v := xOf (getLim s x) k
  if !intOn s k || decide (st ≤ b) then none
  else if v ≥ b then some 0
  else some (tauOf s k * 1000000 * lnRatio (st - v) (st - b) / 2 ^ 64)

/-- The lesser of two times, none being infinity. -/
def minTime (a b : Option Nat) : Option Nat :=
  match a, b with
  | some x, some y => some (min x y)
  | some x, none => some x
  | none, y => y

/-- t_rem at a device peak limit (R219). -/
def tRem (s : Dev) (ipk : Nat) : Option Nat :=
  (closedStrs s).foldl (fun m x => [1, 2, 3].foldl (fun m k => minTime m (timeLeft s x k ipk)) m) none

/-! ## The clamp (R217) -/

/-- R217 sets a direction of string x to 0. -/
def clampZero (s : Dev) (x : Nat) (chg : Bool) : Bool :=
  let t := getStr s x
  (if chg then t.fbChg || sdrForbids s x true else t.fbDis || sdrForbids s x false) || reactionOn s x ||
  s.dev == .disconnecting || s.dev == .safeHold
/-- A string's figure as P0 clamps it. -/
def clampStr (s : Dev) (x : Nat) (chg : Bool) (v : Nat) : Nat := if clampZero s x chg then 0 else min v (par s 0x8006 * 2 ^ 32)

/-! ## Windows and schedules (R220 to R224) -/

def getWin (s : Dev) (chg : Bool) : Window220 := if chg then s.lim.chg else s.lim.dis
def setWin (s : Dev) (chg : Bool) (w : Window220) : Dev :=
  if chg then { s with lim := { s.lim with chg := w } } else { s with lim := { s.lim with dis := w } }

/-- Steps 1 to N from l0 to lt, the first `lead` cycles from now (R222). -/
def mkSteps (s : Dev) (lead l0 lt : Nat) : List SnowStep :=
  let n := par s 0x5011
  let m := (par s 0x5012 * freqNow s + 10 ^ 9 - 1) / 10 ^ 9
  (List.range n).map (fun i => { snap := (snapId s + lead + i * m) % 2 ^ 32, local_ := (localCyc s + lead + i * m) % 2 ^ 32, level := lt + (l0 - lt) * (n - 1 - i) / n })

/-- A window's retirement is fixed: EV_SCHUSS_STEP (R220, R222). A direction has at most one schedule: where a thermal one runs, its
announced steps stand and the window follows them (R220, R224; Log 115). -/
def fixSteps (s : Dev) (chg : Bool) (l0 lt : Nat) : Dev :=
  let w := getWin s chg
  let st := if w.thermal && !w.steps.isEmpty then w.steps else mkSteps s (par s 0x5013) l0 lt
  let s := setWin s chg { w with st := .stepping, steps := st, level := some l0, target := if w.thermal then w.target else lt }
  let eff := match st with | a :: _ => a.snap | [] => 0
  post s 2 Ev.SCHUSS_STEP (b2n chg + st.length * 256 + eff * 2 ^ 32)

/-- A lower target: the steps due within the lead stand, the later ones are formed anew between the last kept level and the target, none
above a level announced for its time (R224). -/
def lowerSteps (s : Dev) (chg : Bool) (lt : Nat) : Dev :=
  let w := getWin s chg
  let lead := par s 0x5013
  let gap := fun (t : SnowStep) => (t.local_ + 2 ^ 32 - localCyc s) % 2 ^ 32
  let kept := w.steps.filter (fun t => decide (gap t ≤ lead))
  let m := (par s 0x5012 * freqNow s + 10 ^ 9 - 1) / 10 ^ 9
  let l0 := match kept.getLast? with | some t => t.level | none => w.level.getD lt
  let start := match kept.getLast?, w.steps with
    | some t, _ => gap t + m
    | none, t :: _ => gap t
    | none, [] => lead
  let cap := fun (t : SnowStep) => { t with level := w.steps.foldl (fun v o => if gap o ≤ gap t then min v o.level else v) t.level }
  setWin s chg { w with steps := kept ++ (mkSteps s start (max l0 lt) lt).map cap, target := lt }

/-- Steps that fall due in the half-0 publication of this cycle take effect (R222, R223). -/
def advanceSteps (s : Dev) (chg half : Bool) : Dev :=
  let w := getWin s chg
  let due := fun (t : SnowStep) => !half && decide ((localCyc s + 2 ^ 32 - t.local_) % 2 ^ 32 < 2 ^ 31)
  let d := w.steps.filter due
  match d.getLast? with
  | none => s
  | some t => setWin s chg { w with steps := w.steps.filter (fun x => !due x), level := some t.level, begun := true, tlev := if w.thermal then some t.level else w.tlev }

/-- The factor in force for a string and the one last posted, by direction; their update. -/
def fForce (s : Dev) (x : Nat) (chg : Bool) : Nat := if chg then (getLim s x).fc else (getLim s x).fd
def fPost (s : Dev) (x : Nat) (chg : Bool) : Nat := if chg then (getLim s x).gc else (getLim s x).gd
def setForce (s : Dev) (x : Nat) (chg : Bool) (v : Nat) : Dev := setLim s x (if chg then { getLim s x with fc := v } else { getLim s x with fd := v })
def setPost (s : Dev) (x : Nat) (chg : Bool) (v : Nat) : Dev := setLim s x (if chg then { getLim s x with gc := v } else { getLim s x with gd := v })

/-- A CLOSED string's factor is posted below the one in force. -/
def fFell (s : Dev) (chg : Bool) : Bool := (closedStrs s).any (fun x => decide (fThm s x chg < fForce s x chg))
/-- The device continuous limit with the factors in force, and with those posted (R215, R223). -/
def contForce (s : Dev) (chg : Bool) : Nat := devFigure s (fun x => (strLimits s x chg (fForce s x chg)).1)
def contPost (s : Dev) (chg : Bool) : Nat := devFigure s (fun x => (strLimits s x chg (fThm s x chg)).1)

/-- The factors in force become those that an ended schedule led to. -/
def settleFactors (s : Dev) (chg : Bool) : Dev := forL s (confStrs s) (fun s x => setForce s x chg (min (fForce s x chg) (fPost s x chg)))

/-- The factors posted (R223, R224, R245): a raise, and any change of a string that is not CLOSED, applies at once; a reduction begins a
schedule between the continuous limits before and after, or lowers the target of the one that runs; it is in force when the schedule
has ended. -/
def thermalStep (s : Dev) (chg : Bool) : Dev :=
  let w := getWin s chg
  let ranOut := w.thermal && w.steps.isEmpty
  let s := if ranOut then setWin (settleFactors s chg) chg { w with thermal := false, tlev := none, level := if w.st == .stepping then w.level else none } else s
  let s := forL s (confStrs s) (fun s x =>
    let v := fThm s x chg
    if (getStr s x).st == .sClosed then setForce s x chg (max (fForce s x chg) v) else setForce s x chg v)
  let further := (closedStrs s).any (fun x => decide (fThm s x chg < fPost s x chg))
  let fell := fFell s chg
  let before := contForce s chg
  let after := min before (contPost s chg)
  let s := forL s (confStrs s) (fun s x => setPost s x chg (fThm s x chg))
  let w := getWin s chg
  if w.thermal || (w.st == .stepping && !w.steps.isEmpty) then
    let s := if further && decide (after < w.target) then lowerSteps s chg after else s
    setWin s chg { getWin s chg with thermal := w.thermal || fell }
  else if fell && w.st != .stepping then
    setWin s chg { w with steps := mkSteps s (par s 0x5013) before after, level := some before, thermal := true, target := after, tlev := some before, begun := false }
  else s

/-- The window table for one direction (R220), with the continuous limit in force, the peak, t_rem and an unscheduled cause. -/
def windowStep (s : Dev) (chg unsched : Bool) (cont peak : Nat) (trem : Option Nat) : Dev :=
  let w := getWin s chg
  let rearm := parB s 0x5006 && !unsched && (match trem with | some t => decide (t ≥ par s 0x5007 * 100000) | none => true)
  let soon := match trem with | some t => decide (t * freqNow s ≤ (par s 0x5013 + 1) * 10 ^ 12) | none => false
  let top := max cont peak
  match w.st with
  | .available =>
    if unsched then setWin s chg { w with st := .unavailable, now := cont }
    else if !parB s 0x5006 then
      let s := fixSteps s chg w.now cont
      setWin s chg { getWin s chg with now := max cont (min w.now peak) }
    else if soon then
      let s := fixSteps s chg peak cont
      setWin s chg { getWin s chg with now := top }
    else setWin s chg { w with now := top }
  | .stepping =>
    if w.steps.isEmpty then setWin s chg { w with st := .recovering, level := none, now := cont }
    else setWin s chg { w with now := max cont (min (w.level.getD peak) peak) }
  | .recovering =>
    if rearm then post (setWin s chg { w with st := .available, now := top }) 2 Ev.SCHUSS_REARM (b2n chg)
    else setWin s chg { w with now := cont }
  | .unavailable => setWin s chg (if rearm then { w with st := .available, now := top } else { w with now := cont })

/-- A cause that ends a window without a schedule (R220): R216 on a string in scope, a clamp of R217 or a fault reaction on the
direction, or a peak at or below the continuous limit. -/
def unscheduled (s : Dev) (chg : Bool) (peak cont : Nat) : Bool :=
  let l := closedStrs s
  l.any (f2On s) || l.any (fun x => clampZero s x chg || decide ((if chg then (getLim s x).pc else (getLim s x).pd) > par s 0x8006 * 2 ^ 32)) ||
  (s.lim.ramp.kind == 1 && decide (s.lim.ramp.cls ≥ 3)) || s.dev == .disconnecting || s.dev == .safeHold || decide (peak ≤ cont)

/-- P2's limits of one direction in a publication (R214, R215, R219, R220). -/
def limitsDir (s : Dev) (chg half : Bool) : Dev :=
  let s := thermalStep (advanceSteps s chg half) chg
  let l := closedStrs s
  let s := forL s l (fun s x =>
    let v := strLimits s x chg (fForce s x chg)
    let t := getLim s x
    setLim s x (if chg then { t with cc := v.1, pc := v.2.1, sc := v.2.2 } else { t with cd := v.1, pd := v.2.1, sd := v.2.2 }))
  let s := forL s (s.lim.str.map (·.1)) (fun s x =>
    if l.contains x then s
    else let t := getLim s x; setLim s x (if chg then { t with cc := 0, pc := 0, sc := 0 } else { t with cd := 0, pd := 0, sd := 0 }))
  let contOld := contForce s chg
  let w := getWin s chg
  let cont := if w.thermal then min contOld (max (contPost s chg) (w.tlev.getD contOld)) else contOld
  let peak := devFigure s (fun x => if chg then (getLim s x).pc else (getLim s x).pd)
  let two := devFigure s (fun x => if chg then (getLim s x).sc else (getLim s x).sd)
  let trem := tRem s peak
  let s := setWin s chg { w with cont := cont, peak := peak, two := two, trem := trem }
  windowStep s chg (unscheduled s chg peak cont) cont peak trem

/-- The snapshot that the limits come from, and its half: that of the last complete pass, or the newest (R226). -/
def limSnap (s : Dev) : Nat × Bool :=
  if s.lim.passed then (s.lim.snap, s.lim.half)
  else match newestSlot s with
    | some k => ((slotWord s k 0).toNat, bitOf (slotWord s k 1) 15)
    | none => (snapId s, false)

/-- R230 does not apply to a device that does not publish: nothing is frozen, and what R229 to R232 judged is over (R227). -/
def pcsIdle (s : Dev) : Dev :=
  if publishes s then s
  else
    let s := { s with lim := { s.lim with frozen := false, thaw := false } }
    let s := [Ev.PCS_SILENT, Ev.PCS_LAG, Ev.PCS_NO_INJECT, Ev.PCS_FB_MISMATCH].foldl (fun s e => clearCond s 3 e devScope 0x7F) s
    let s := forN s 8 (fun s n => clearCond s 3 Ev.PCS_BUS_DEGRADED n 0x7F)
    forN s 2 (fun s d => clearCond (clearCond s 3 Ev.PCS_EXCEED d 0x7F) 3 Ev.PCS_OVERLIMIT (d + 0x100) 0x7F)

/-- P2's PUBLISH gate: string and device limits and the windows (R208, R214 to R224), then, once a pass has run, the coefficients of the next
(R211). While FROZEN, only announced steps take effect (R230). DESIGN CHOICE: the reducer's output counts from the end of its pass, whether or not
the ESTIMATE gate's PISTE_DONE comes in time (R33, R210, log 125). -/
def limitsRun (s : Dev) (half : Bool) : Dev :=
  let s := pcsIdle s
  let s := if s.lim.frozen && s.lim.thaw then { s with lim := { s.lim with frozen := false, thaw := false } } else s
  let s := { s with lim := { s.lim with calcOf := some (limSnap s) } }
  let s := if s.lim.frozen then advanceSteps (advanceSteps s false half) true half else limitsDir (limitsDir s false half) true half
  if s.est.last.isNone then s else coefAll s false

/-- P0's PUBLISH gate: the clamp, and the device limits anew (R217); a frozen publication is only lowered (R230). -/
def clampDir (s : Dev) (chg : Bool) : Dev :=
  let dv := fun (f : LimStr → Nat) => devFigure s (fun x => clampStr s x chg (f (getLim s x)))
  let dc := dv (fun t => if chg then t.cc else t.cd)
  let dp := dv (fun t => if chg then t.pc else t.pd)
  let d2 := dv (fun t => if chg then t.sc else t.sd)
  let w := getWin s chg
  if s.lim.frozen then
    let lev := if w.st == .stepping || (w.thermal && w.begun) then w.level.getD w.oNow else w.oNow
    let tl := if w.thermal then w.tlev.getD w.oCont else w.oCont
    setWin s chg { w with oNow := min (min w.oNow dp) lev, oCont := min (min w.oCont dc) tl, oPeak := min w.oPeak dp, oTwo := min w.oTwo d2 }
  else
    let live := w.st == .available || w.st == .stepping
    setWin s chg { w with oNow := if live then min w.now (max dp dc) else min w.now dc, oCont := min w.cont dc, oPeak := dp, oTwo := d2 }
def clampRun (s : Dev) : Dev :=
  let s := pcsIdle s
  let l := closedStrs s
  let n := fun x => ((cellsOf s x).filter (recInUse s)).length
  let hi := l.map (fun x => n x * par s 0x5001)
  let lo := l.map (fun x => n x * par s 0x5002)
  let s' := clampDir (clampDir s false) true
  if s.lim.frozen then s'
  else { s' with lim := { s'.lim with nStr := l.length, vMax := (match hi with | [] => 0 | a :: t => t.foldl min a) / 1000, vMin := (lo.foldl max 0 + 999) / 1000 } }

end Sys2Proof.Machine
end

