-- ==== Sys2Proof/Machine/Pcs.lean ====
section
/-!
DEFINITION. Sys2Proof/Machine/Pcs.lean: the PCS profile: publication of LIMITS, PEAK_NOTICE, STATUS and HEARTBEAT, the frames of
the PCS, and what the device does when it falls silent or disobeys (spec 07 R225 to R232).
-/
namespace Sys2Proof.Machine

/-! ## Frames (R226) -/

/-- Number of a window state in PEAK_NOTICE. -/
def winCode : WinState → Nat
  | .available => 0
  | .stepping => 1
  | .recovering => 2
  | .unavailable => 3

/-- I_NOW as it goes out: 0 while a controlled disconnect runs (R228). -/
def nowOut (s : Dev) (chg : Bool) : Nat := if s.lim.ramp.kind = 1 ∧ s.lim.ramp.cls ≥ 3 then 0 else (getWin s chg).oNow

/-- LIMITS, 12 words, with the ALIVE of its k-th frame (R226). A frozen publication keeps its snapshot (R230). -/
def limitsWords (s : Dev) : List U32 :=
  let sn := if s.lim.frozen && !s.lim.frames.isEmpty then ((s.lim.frames.getD 0 0).toNat, bitOf (s.lim.frames.getD 1 0) 15) else s.lim.calcOf.getD (limSnap s)
  let d := getWin s false
  let c := getWin s true
  let l := closedStrs s
  let derated := l.any (fun x => decide (fThm s x false < 10000) || decide (fThm s x true < 10000) || f2On s x)
  let ramp := s.lim.ramp.kind == 1
  let derated := if s.lim.frozen then bitOf (s.lim.frames.getD 1 0) 8 else derated
  let fl := b2n ramp * 2 ^ 7 + b2n derated * 2 ^ 8 + b2n (c.st == .stepping) * 2 ^ 9 + b2n (d.st == .stepping) * 2 ^ 10 +
    b2n (decide (nowOut s true > c.oCont)) * 2 ^ 11 + b2n (decide (nowOut s false > d.oCont)) * 2 ^ 12 + b2n s.lim.frozen * 2 ^ 13 + b2n sn.2 * 2 ^ 15
  [w32 sn.1, w32 (fl + aliveNow s 1 0 * 0x10000 + min s.lim.nStr 255 * 0x1000000), w32 (nowOut s false), w32 (nowOut s true), w32 d.oCont, w32 c.oCont,
   w32 d.oTwo, w32 c.oTwo, w32 d.oPeak, w32 c.oPeak, w32 (min s.lim.vMax 65535 + min s.lim.vMin 65535 * 0x10000), 0]

/-- PEAK_NOTICE of a direction, 12 words (R226). -/
def noticeWords (s : Dev) (chg : Bool) (snap : U32) : List U32 :=
  let w := getWin s chg
  let st := w.steps.take 4
  let tr := match w.trem with | some t => min (t / 100000) 0xFFFE | none => 0xFFFF
  let pairs := (st.flatMap (fun t => [w32 t.snap, w32 t.level]))
  [w32 (b2n chg + winCode w.st * 0x100 + aliveNow s 2 (b2n chg) * 0x10000 + st.length * 0x1000000), w32 w.oPeak, w32 tr, snap] ++ pairs ++ List.replicate (8 - pairs.length) 0

/-- Mean SOC_OUT of a string's records in use, 0.01 %. -/
def meanSocOut (s : Dev) (x : Nat) : Nat :=
  let l := (cellsOf s x).filter (recInUse s)
  (l.map (fun c => ld16 s (cellRec c + 0x3C))).foldl (· + ·) 0 / max l.length 1

/-- Strings with records in use. -/
def usedStrs (s : Dev) : List Nat := (List.range 128).filter (fun x => (cellsOf s x).any (recInUse s))

/-- STATUS, 8 words (R226). -/
def statusWords (s : Dev) : List U32 :=
  let l := usedStrs s
  let cl := closedStrs s
  let cap := (l.map (capS s)).foldl (· + ·) 0
  let soc := (l.map (fun x => meanSocOut s x * capS s x)).foldl (· + ·) 0 / max cap 1
  let unc := (l.map (fun x => ld16 s (0x20DD8000 + x * 16 + 2))).foldl max 0
  let soh := match l.map (fun x => ld16 s (chgAddr x + 0x2A)) with | [] => 0 | a :: t => t.foldl min a
  let sp := match newestSlot s with
    | some k => (l.filterMap (cellSpan s k)).foldl (fun (acc : Option (Nat × Nat)) v => match acc with | none => some v | some a => some (max a.1 v.1, min a.2 v.2)) none
    | none => none
  let ts := l.flatMap (strTemps s)
  let vb := cl.filterMap (fun x => (newestEntry s x).map (fun k => strVb s k x))
  let span := sp.getD (0, 0)
  [w32 (shownState s + fclass s * 0x100 + summaryBits s * 0x10000), w32 (aliveNow s 3 0 + min cl.length 255 * 0x100 + min l.length 255 * 0x10000),
   w32 (soc + unc * 0x10000), w32 (soh + span.1 * 0x10000), w32 (span.2 + ws16 (maxInt ts 0) * 0x10000), w32 (ws16 (minInt ts 0) + (s.lim.idev % 2 ^ 32).toNat % 0x10000 * 0x10000),
   w32 ((s.lim.idev % 2 ^ 32).toNat / 0x10000 + (vb.foldl (· + ·) 0 / (2 * max vb.length 1)) * 0x10000), 0]

/-- HEARTBEAT, 2 words (R226). -/
def heartbeatWords (s : Dev) : List U32 := [w32 (aliveNow s 4 0 + 0x100 + shownState s * 0x10000), w32 (s.uptimeMs / 1000)]

/-! ## Publication (R226, R227, R471) -/

/-- The rules R229 to R232 apply (R227), BOOT over. -/
def pcsRules (s : Dev) : Bool := publishes s && pairUp s 3 && s.dev != .boot && s.dev != .off && s.dev != .hibernate

/-- Whether RAMP_REQUEST goes with this cycle, and the cycles since it cleared (R226). -/
def rampDue (s : Dev) : Bool × Nat :=
  if s.lim.ramp.kind ≠ 0 ∨ injWanted s then (true, 0)
  else
    let n := s.lim.rampCyc + 1
    (decide (n ≤ 3 ∨ n % 50 = 0), if n ≥ 100 then 50 else n)

/-- I_NOW of a publication, and the limit before a reduction (R231). -/
def noteNow (s : Dev) (chg : Bool) (now : Nat) : Dev :=
  let w := getWin s chg
  setWin s chg (if now < w.pubNow then { w with prev := w.pubNow, cutAt := s.uptimeMs + 1, pubNow := now } else { w with pubNow := now })

/-- The frames of a publication, by offset, in the order of R226. -/
def cycleFrames (s : Dev) (half ramp : Bool) (frames : List U32) : List (Nat × List U32) :=
  (if ramp then [(0, rampWords s)] else []) ++ [(1, frames.take 12), (2, (frames.drop 12).take 12), (2, frames.drop 24)] ++
    (if !half && s.tb.cyc % 10 == 0 then [(3, statusWords s)] else []) ++ (if !half && s.tb.cyc % 5 == 0 then [(4, heartbeatWords s)] else [])

/-- What P3 judges of the feedback held: lag behind the newest LIMITS sent, and injection refused (R232). -/
def feedbackJudge (s : Dev) : Dev :=
  let w := s.lim.fb
  if w.isEmpty then s
  else
    let lag := match s.lim.sent with | some v => (v.toNat + 2 ^ 32 - (w.getD 3 0).toNat) % 2 ^ 32 | none => 0
    let s := track s (decide (lag < 2 ^ 31) && decide (lag > par s 0x508A)) 3 Ev.PCS_LAG (min lag 65535) devScope 0x7F
    track s (bitOf (w.getD 0 0) 11 && injWanted s) 3 Ev.PCS_NO_INJECT 0 devScope 0x7F

/-- The frames of a cycle on the PCS controllers: RAMP_REQUEST, LIMITS, PEAK_NOTICE, STATUS, HEARTBEAT (R226, R471). -/
def sendCycle (s : Dev) (half : Bool) (frames : List U32) : Dev :=
  let s := forL s (pcsCtls s) (fun s n => cancelProfile s n false)
  let due := rampDue s
  let l := cycleFrames s half (!half && due.1) frames
  let s := { s with lim := { s.lim with queued := l, rampCyc := if half then s.lim.rampCyc else due.2 } }
  let s := if publishes s then sendFrames { s with lim := { s.lim with sent := frames.head? } } false l else s
  if pcsRules s then feedbackJudge s else s

/-- The last published LIMITS again, after a missed gate of P2 or P0: a controlled disconnect still shows (R58, R228). -/
def standingWords (s : Dev) : List U32 :=
  let f := s.lim.frames.take 12
  let ramp := s.lim.ramp.kind == 1
  let zero := ramp && decide (s.lim.ramp.cls ≥ 3)
  let w1 := putBit (putBit (f.getD 1 0) 7 ramp) 13 s.lim.frozen
  [f.getD 0 0, w1, if zero then 0 else f.getD 2 0, if zero then 0 else f.getD 3 0] ++ f.drop 4

/-- LIMITS and PEAK_NOTICE of a publication (R226); where P2's or P0's gate is not complete, the last published limits stand (R33, R58). -/
def publication (s : Dev) : List U32 :=
  if (s.lim.open2 || s.lim.open0) && !s.lim.frames.isEmpty then standingWords s ++ s.lim.frames.drop 12
  else
    let lw := limitsWords s
    lw ++ noticeWords s false (lw.getD 0 0) ++ noticeWords s true (lw.getD 0 0)

/-- P3's PUBLISH gate (R208, R226, R227): LIMITS and PEAK_NOTICE are formed; a device that publishes its own limits sends them. With no
limits published yet, and none complete, nothing is (R58). -/
def publishRun (s : Dev) (half : Bool) : Dev :=
  if (s.lim.open2 || s.lim.open0) && s.lim.frames.isEmpty then s
  else
    let fr := publication s
    let s := { s with lim := { s.lim with frames := fr, pubCyc := s.tb.cyc } }
    let s := noteNow (noteNow s false (fr.getD 2 0).toNat) true (fr.getD 3 0).toNat
    if par s 0x5080 = 0 then sendCycle s half fr else s

/-! ## Frames of the PCS (R229, R230) -/

def getCtl (s : Dev) (n : Nat) : PcsCtl := Tbl.get {} s.lim.ctl n
def setCtl (s : Dev) (n : Nat) (c : PcsCtl) : Dev := { s with lim := { s.lim with ctl := Tbl.set {} s.lim.ctl n c } }

/-- An alive frame on controller n (R229, R230). -/
def pcsAlive (s : Dev) (n : Nat) : Dev :=
  let s := setCtl s n { getCtl s n with alive := true, at_ := s.uptimeMs }
  let s := clearCond s 3 Ev.PCS_BUS_DEGRADED n 0x7F
  if s.lim.frozen && !s.lim.thaw then
    let s := post s 3 Ev.PCS_BACK n
    clearCond { s with lim := { s.lim with thaw := true } } 3 Ev.PCS_SILENT devScope 0x7F
  else s

/-- Controller m awaits on the other bus the copy of a frame with ALIVE a. DESIGN CHOICE: for pcs.hb_timeout_ms (log 132). -/
def copyAwaited (s : Dev) (m a : Nat) : Bool := (getCtl s m).pend.any (fun e => e.1 == a && decide (s.uptimeMs < e.2 + par s 0x5086))
/-- The frame on controller n is the copy of one whose content was taken from another controller (R229). -/
def copyTaken (s : Dev) (n a : Nat) : Bool := (pcsCtls s).any (fun m => m != n && copyAwaited s m a)
/-- The copy has come: it, and values older than it, are no longer waited for. -/
def dropCopy (s : Dev) (n a : Nat) : Dev :=
  forL s ((pcsCtls s).filter (fun m => m != n && copyAwaited s m a)) (fun s m =>
    setCtl s m { getCtl s m with pend := ((getCtl s m).pend.dropWhile (fun e => e.1 != a)).drop 1 })

/-- Row PCS_FEEDBACK_RECEIVED: 16 bytes on controller n, `fdf` in FD format (R225, R229). -/
def pcsFeedbackReceived (n : Nat) (fdf : Bool) (data : List U8) (s : Dev) : Dev :=
  let b := fun i => (data.getD i 0).toNat
  if !pcsRules s || !isPcs s n || !fdf || data.length ≠ 16 || decide (b 1 ≥ 16) || b 10 ≠ 0 || b 11 ≠ 0 then s
  else
    let c := getCtl s n
    let a := b 2
    if c.fb = some a then s
    else
      let s := pcsAlive (setCtl s n { c with fb := some a }) n
      if copyTaken s n a then dropCopy s n a
      else
        let s := setCtl s n { getCtl s n with pend := (getCtl s n).pend.filter (fun e => e.1 != a && decide (s.uptimeMs < e.2 + par s 0x5086)) ++ [(a, s.uptimeMs)] }
        feedbackJudge { s with lim := { s.lim with takenFb := some a, fb := bytesToWords data } }

/-- Row PCS_HEARTBEAT_RECEIVED: 8 bytes on controller n (R229). -/
def pcsHeartbeatReceived (n : Nat) (data : List U8) (s : Dev) : Dev :=
  let b := fun i => (data.getD i 0).toNat
  if !pcsRules s || !isPcs s n || data.length ≠ 8 || b 1 ≠ 2 || b 3 ≠ 0 then s
  else
    let c := getCtl s n
    let a := b 0
    if c.hb = some a then s
    else
      let s := pcsAlive (setCtl s n { c with hb := some a }) n
      { s with lim := { s.lim with takenHb := some a } }

/-- Row PCS_SILENT_TIMEOUT: no alive frame on either controller for pcs.hb_timeout_ms (R230). -/
def pcsSilentTimeout (s : Dev) : Dev :=
  if !pcsRules s || (s.lim.frozen && !s.lim.thaw) then s
  else
    let last := (pcsCtls s).foldl (fun m n => max m (getCtl s n).at_) s.lim.bootEnd
    let s := forL s (pcsCtls s) (fun s n => setCtl s n { getCtl s n with alive := false })
    raise { s with lim := { s.lim with frozen := true, thaw := false } } 3 Ev.PCS_SILENT (min (s.uptimeMs - last) 0xFFFFFFFF) devScope

/-- Row PCS_BUS_SILENT_TIMEOUT: controller n silent for pcs.hb_timeout_ms while another is alive (R229). -/
def pcsBusSilentTimeout (n : Nat) (s : Dev) : Dev :=
  if !pcsRules s || !isPcs s n then s
  else
    let s := setCtl s n { getCtl s n with alive := false }
    if (pcsCtls s).any (fun m => m != n && (getCtl s m).alive) then raise s 3 Ev.PCS_BUS_DEGRADED n n else s

/-! ## Compliance (R231, R232) -/

/-- The limit a snapshot is judged by in a direction, with its tolerance, 0.1 A (R231). -/
def judgedNow (s : Dev) (chg : Bool) : Nat :=
  let w := getWin s chg
  let now := if w.cutAt ≠ 0 ∧ s.uptimeMs + 1 < w.cutAt + par s 0x5087 then max w.prev w.pubNow else w.pubNow
  now + par s 0x5088 * 10 + now * par s 0x5089 / 10000

/-- One direction of a snapshot (R231). -/
def excessDir (s : Dev) (chg : Bool) : Dev :=
  let i := if chg then -s.lim.idev else s.lim.idev
  let lim := judgedNow s chg
  let w := getWin s chg
  if i > (lim : Int) then
    let ex := (i - (w.pubNow : Int)).toNat
    let s := setWin s chg { w with excess := ex, overAt := if w.overAt = 0 then s.uptimeMs + 1 else w.overAt }
    raise s 3 Ev.PCS_EXCEED (b2n chg + ex * 2 ^ 32) (b2n chg)
  else
    let s := setWin s chg { w with excess := 0, overAt := 0 }
    clearCond (clearCond s 3 Ev.PCS_EXCEED (b2n chg) 0x7F) 3 Ev.PCS_OVERLIMIT (b2n chg + 0x100) 0x7F

/-- P3's judgement of a snapshot: I_DEV, excess and feedback mismatch (R231, R232). -/
def pcsSnapshot (s : Dev) (k : Nat) : Dev :=
  let cur := (closedStrs s).foldl (fun (a : Int) x => a + (usableCur s k x).getD 0) 0
  let s := { s with lim := { s.lim with idev := cur / 100 } }
  if !pcsRules s then s
  else
    let s := excessDir (excessDir s false) true
    match s.lim.fb with
    | [] => s
    | w =>
      let d := (Params.toS32 (w.getD 1 0).toNat - s.lim.idev).natAbs
      let bad := decide (d * 20 > s.lim.idev.natAbs + 4000)
      let m := if bad then min (s.lim.mism + 1) 10 else 0
      track { s with lim := { s.lim with mism := m } } (decide (m ≥ 10)) 3 Ev.PCS_FB_MISMATCH (d * 2 ^ 32) devScope 0x7F

/-- Row PCS_OVERLIMIT_TIMEOUT: the excess of a direction has stood for pcs.overlimit_ms (R231). -/
def pcsOverlimitTimeout (chg : Bool) (s : Dev) : Dev :=
  let w := getWin s chg
  if !pcsRules s || w.overAt = 0 then s
  else fault3 s 3 Ev.PCS_OVERLIMIT (b2n chg + w.excess * 2 ^ 32) (b2n chg + 0x100) false
    ((connStrs s).filter (fun x => (getStr s x).st == .sClosed || ((getStr s x).st == .sJoining && (getStr s x).loaded))) false

/-! ## LIMITS_READ (R407) -/

end Sys2Proof.Machine
end

