-- ==== Sys2Proof/Machine/Thermal.lean ====
section
/-!
DEFINITION. Sys2Proof/Machine/Thermal.lean: cell sensors, derating steps, the overtemperature trip, local and die
temperatures, and compensation (spec 08 R236 to R263). Temperatures are in 1/64 K.
-/
namespace Sys2Proof.Machine

/-! ## Inputs and units -/

/-- Monitor units of string x with temperature inputs: (row of the auxiliary table, inputs) (R146, R238). -/
def thmUnits (s : Dev) (x : Nat) : List (Nat × List Nat) :=
  ((umapList s).filter (fun e => !bitOf e.2.1 30 && fld e.2.1 23 7 == x)).map (fun e =>
    (fld e.2.2 16 12, (List.range (fld e.2.2 28 4)).map (fun j => fld e.2.2 0 15 + j)))
/-- Every mapped input. -/
def mappedInputs (s : Dev) : List Nat :=
  ((umapList s).filter (fun e => !bitOf e.2.1 30)).flatMap (fun e => (List.range (fld e.2.2 28 4)).map (fun j => fld e.2.2 0 15 + j))
/-- Temperature and stamp of an input's table entry (R125). -/
def inTemp (s : Dev) (i : Nat) : Nat := ld16 s (0x20D80002 + i * 4)
def inStamp (s : Dev) (i : Nat) : Nat := ld16 s (0x20D80000 + i * 4)
/-- State byte of an input (R239). -/
def inState (s : Dev) (i : Nat) : Nat := ld8 s (0x20DE8000 + i)
def inValid (s : Dev) (i : Nat) : Bool := inState s i % 8 == 0
def setInState (s : Dev) (i v : Nat) : Dev := st8 s (0x20DE8000 + i) v

def getIn (s : Dev) (i : Nat) : ThmIn := Tbl.get {} s.thm.ins i
def setIn (s : Dev) (i : Nat) (v : ThmIn) : Dev := { s with thm := { s.thm with ins := Tbl.set {} s.thm.ins i v } }
def getThm (s : Dev) (x : Nat) : ThmStr := Tbl.get {} s.thm.str x
def setThm (s : Dev) (x : Nat) (v : ThmStr) : Dev := { s with thm := { s.thm with str := Tbl.set {} s.thm.str x v } }

/-- An ordered copy of a list of integers, and its median: the mean of the two middle values where their number is even. -/
def insertInt (k : Int) : List Int → List Int
  | [] => [k]
  | x :: t => if k ≤ x then k :: x :: t else x :: insertInt k t
def sortInt (l : List Int) : List Int := l.foldl (fun a x => insertInt x a) []
def medianInt (l : List Int) : Int :=
  let q := sortInt l
  let n := q.length
  if n % 2 = 1 then q.getD (n / 2) 0 else (q.getD (n / 2 - 1) 0 + q.getD (n / 2) 0) / 2

/-- Readings of the valid inputs of a list that have one, 1/64 K. -/
def validTemps (s : Dev) (l : List Nat) : List Int := (l.filter (fun i => inValid s i && s.acq.tempRead.contains i)).map (fun i => toS16 (inTemp s i))

/-- Why a new reading fails its input, encoded as STATE; 0 when it does not (R237, R239). -/
def failReason (s : Dev) (unit : List Nat) (i : Nat) : Nat :=
  let v := toS16 (inTemp s i)
  let others := validTemps s (unit.filter (· != i))
  if inTemp s i = 0x8000 then 2
  else if v < parI s 0x6007 then 3
  else if (match (getIn s i).acc with | some a => decide (v < a - (par s 0x6008 : Int)) | none => false) then 4
  else if others.length ≥ 3 ∧ v < medianInt others - (par s 0x6009 : Int) then 5
  else 0

/-- The input has a new reading; it is aged (R236). -/
def isNew (s : Dev) (i : Nat) : Bool := inStamp s i != (getIn s i).stamp
def isAged (s : Dev) (i : Nat) : Bool := decide ((localCyc s + 0x100000000 - inStamp s i) % 65536 > 32)

/-- Argument of the sensor events (R263). -/
def sensorArg (x i reason : Nat) : Nat := x + reason * 256 + i * 65536

/-- An input fails: EV_TEMP_SENSOR_FAIL, and the hold of its string starts anew (R238, R247). -/
def failInput (s : Dev) (x i reason : Nat) : Dev :=
  let s := setIn (setInState s i reason) i { getIn s i with good := 0 }
  let s := raise s 3 Ev.TEMP_SENSOR_FAIL (sensorArg x i reason) i
  setThm s x { getThm s x with hold := s.uptimeMs + 1 + par s 0x6005 * 1000 }

/-- One input at an evaluation: failure and recovery (R236 to R238). -/
def stepInput (s : Dev) (x : Nat) (unit : List Nat) (i : Nat) : Dev :=
  let new := isNew s i
  let r := if new then failReason s unit i else 0
  let r := if r = 0 && isAged s i then 6 else r
  let v := toS16 (inTemp s i)
  let st := inState s i % 8
  let s := if new then setIn s i { getIn s i with seen := true } else s
  if st = 0 then
    if r ≠ 0 then failInput s x i r
    else if new then setIn s i { getIn s i with acc := some v } else s
  else if r ≠ 0 then setIn s i { getIn s i with good := 0 }
  else if !new then s
  else
    let g := (getIn s i).good + 1
    if g ≥ par s 0x600A then
      let s := setIn (setInState s i 0) i { getIn s i with good := 0, acc := some v }
      post (clearCond s 3 Ev.TEMP_SENSOR_FAIL i x) 3 Ev.TEMP_SENSOR_OK (sensorArg x i st)
    else setIn s i { getIn s i with good := g }

/-! ## Steps (R240 to R248) -/

/-- Threshold and factors of a step, 1 to 4, of the high table or the low one; enabled (R244). -/
def stepT (s : Dev) (low : Bool) (k : Nat) : Int := if low then parI s (0x601F + k) else parI s (0x600F + k)
def stepOn (s : Dev) (low : Bool) (k : Nat) : Bool :=
  decide (1 ≤ k ∧ k ≤ 4) && (if low then stepT s true k != -32768 else stepT s false k != 0x7FFF)
def stepPct (s : Dev) (low chg : Bool) (k : Nat) : Nat :=
  if k = 0 then 100
  else par s ((if low then (if chg then 0x6027 else 0x6023) else (if chg then 0x6017 else 0x6013)) + k)
/-- A value has crossed a step's threshold (R240). -/
def crossed (s : Dev) (low : Bool) (k : Nat) (v : Int) : Bool :=
  stepOn s low k && (if low then decide (v ≤ stepT s true k) else decide (v ≥ stepT s false k))
/-- Steps in force; effective maximum and minimum (R251). -/
def stepNow (s : Dev) (x : Nat) (low : Bool) : Nat := ld8 s (thmAddr x + (if low then 5 else 4))
def tEff (s : Dev) (x : Nat) (low : Bool) : Int := lds16 s (thmAddr x + (if low then 2 else 0))

/-- What a failed input reads for the high or the low rules (R246). -/
def substVal (s : Dev) (unit all : List Nat) (low : Bool) : Option Int :=
  let m : Int := par s 0x6004
  let pick := fun (l : List Int) => match l with
    | [] => none
    | a :: t => some (if low then t.foldl min a - m else t.foldl max a + m)
  match pick (validTemps s unit) with
  | some v => some v
  | none => pick (validTemps s all)

/-- The value of an input for the high or the low rules; none from a valid input that has given no reading since BOOT. -/
def effVal (s : Dev) (unit all : List Nat) (low : Bool) (i : Nat) : Option Int :=
  if !inValid s i then substVal s unit all low else if s.acq.tempRead.contains i then some (toS16 (inTemp s i)) else none

/-- The tightest step that one input's two last new readings have crossed (R241). -/
def tightest (s : Dev) (low : Bool) (prev now : Option Int) : Nat :=
  match prev, now with
  | some a, some b => (List.range 5).foldl (fun m k => if crossed s low k a && crossed s low k b then k else m) 0
  | _, _ => 0

/-- f_T of a string and direction, 0.01 % (R245). -/
def factorOf (s : Dev) (x : Nat) (chg : Bool) : Nat :=
  let f := min (stepPct s false chg (stepNow s x false)) (stepPct s true chg (stepNow s x true))
  100 * (if (getThm s x).blind then min f (par s 0x6006) else f)

/-- T_step: the threshold of the next enabled high step above the one in force (R245). -/
def nextStep (s : Dev) (x : Nat) : Int :=
  match (List.range 5).find? (fun k => decide (k > stepNow s x false) && stepOn s false k) with
  | some k => stepT s false k
  | none => parI s 0x6001

/-- The relaxation condition of a table's step in force (R242). -/
def relaxOk (s : Dev) (x : Nat) (low : Bool) : Bool :=
  let k := stepNow s x low
  let h : Int := par s 0x6002
  k != 0 && (if low then decide (tEff s x true ≥ stepT s true k + h) else decide (tEff s x false ≤ stepT s false k - h))

/-- Dwell start of a table, and its completion. -/
def dwellOf (t : ThmStr) (low : Bool) : Nat := if low then t.dwLo else t.dwHi
def setDwell (t : ThmStr) (low : Bool) (v : Nat) (due : Bool) : ThmStr :=
  if low then { t with dwLo := v, dueLo := due } else { t with dwHi := v, dueHi := due }

/-- F_DIS, F_CHG, TFLAGS, T_STEP, HOLD_S, DWELL_MS of a string's entry (R251). -/
def thmFlags (s : Dev) (x : Nat) (ins : List Nat) : Dev :=
  let t := getThm s x
  let a := thmAddr x
  let failed := ins.filter (fun i => !inValid s i)
  let dw := if t.dwHi ≠ 0 then s.uptimeMs + 1 - t.dwHi else if t.dwLo ≠ 0 then s.uptimeMs + 1 - t.dwLo else 0
  let fl := b2n (t.hotSet && decide (inState s (ld16 s (a + 0xE) % 32768) % 8 ≥ 2)) + b2n (t.hold != 0) * 2 + b2n t.blind * 4 +
    b2n (ins.any (fun i => nbit (inState s i) 7)) * 8 + b2n (t.dwHi != 0 || t.dwLo != 0) * 16 + b2n t.warmup * 32 + b2n t.tripped * 64
  let s := st16 (st16 (st16 (st16 s (a + 6) (factorOf s x false)) (a + 8) (factorOf s x true)) (a + 0xA) fl) (a + 0xC) failed.length
  let s := st16 (st16 (st16 s (a + 0x10) (ws16 (nextStep s x))) (a + 0x12) (min ((t.hold - 1 - s.uptimeMs) / 1000) 65535)) (a + 0x14) (min dw 65535)
  st32 s (a + 0x18) (localCyc s)

/-- Inputs of a string. -/
def strInputs (s : Dev) (x : Nat) : List Nat := (thmUnits s x).flatMap (·.2)

/-- A step relaxes by one enabled step: EV_THERMAL_RELAX, and the dwell starts again (R242). -/
def relaxStep (s : Dev) (x : Nat) (low : Bool) : Dev :=
  let k := stepNow s x low
  let k' := (List.range k).foldl (fun m j => if stepOn s low j then j else m) 0
  let s := st8 s (thmAddr x + (if low then 5 else 4)) k'
  let s := post s 3 Ev.THERMAL_RELAX (x + b2n low * 256 + k' * 512)
  let s := setThm s x (setDwell (getThm s x) low (if relaxOk s x low then s.uptimeMs + 1 else 0) false)
  thmFlags s x (strInputs s x)

/-- Tightening and dwell of one table at an evaluation; `k` is the tightest step crossed (R241 to R243, R247). -/
def tableStep (s : Dev) (x : Nat) (low : Bool) (k : Nat) : Dev :=
  let t := getThm s x
  if k > stepNow s x low then
    let s := st8 s (thmAddr x + (if low then 5 else 4)) k
    let s := post s 3 Ev.THERMAL_STEP (x + b2n low * 256 + k * 512)
    setThm s x (setDwell t low 0 false)
  else if !relaxOk s x low then setThm s x (setDwell t low 0 false)
  else if dwellOf t low = 0 then setThm s x (setDwell t low (s.uptimeMs + 1) false)
  else s

/-- The blind step of a string (R248, R250). -/
def blindStep (s : Dev) (x : Nat) : Dev :=
  let us := (thmUnits s x).filter (fun u => !u.2.isEmpty)
  let bad := fun (u : Nat × List Nat) => let f := (u.2.filter (fun i => !inValid s i)).length; decide (f > 2) || decide (f = u.2.length)
  let warm := (getThm s x).warmup && (us.flatMap (·.2)).any (fun i => !(getIn s i).seen)
  let s := setThm s x { getThm s x with warmup := warm }
  match us.find? bad with
  | some u =>
    let s := setThm s x { getThm s x with blind := true, row := u.1 }
    raise s 3 Ev.THERMAL_BLIND (x + u.1 * 65536) x
  | none =>
    if warm || (getThm s x).hold ≠ 0 && (getThm s x).blind then s
    else clearCond (setThm s x { getThm s x with blind := false }) 3 Ev.THERMAL_BLIND x x

/-- The trip flag of a string (R252). -/
def tripFlag (s : Dev) (x : Nat) : Dev :=
  let t := getThm s x
  if !t.tripped then s
  else if tEff s x false ≤ parI s 0x6001 - (par s 0x6002 : Int) then
    if t.tripRel = 0 then setThm s x { t with tripRel := s.uptimeMs + 1 }
    else if s.uptimeMs + 1 ≥ t.tripRel + par s 0x6003 then setThm s x { t with tripped := false, tripRel := 0 }
    else s
  else setThm s x { t with tripRel := 0 }

/-- The greatest (or least) of a list of values with the input that gave it, the first in a tie. -/
def bestOf (low : Bool) (l : List (Nat × Int)) : Option (Nat × Int) :=
  match l with
  | [] => none
  | a :: t => some (t.foldl (fun m e => if (if low then decide (e.2 < m.2) else decide (e.2 > m.2)) then e else m) a)

/-- An episode under the dwell rule of R242: one crossing (or `need` in a row) begins it, `ms` below the release ends it. -/
def dwellEp (e : DwellEp) (ovr rel : Bool) (need now ms : Nat) : DwellEp :=
  if e.on then
    if !rel then { e with rel := 0 }
    else if e.rel = 0 then { e with rel := now + 1 }
    else if now + 1 ≥ e.rel + ms then {} else e
  else
    let h := if ovr then e.hits + 1 else 0
    if ovr && decide (h ≥ need) then { on := true, hits := 0, rel := 0 } else { e with hits := h }

/-- Node die temperatures of a string's units (R253); an entry without measurement is none (R358). -/
def nodeHot (s : Dev) (x : Nat) : Dev :=
  forL s ((thmUnits s x).filter (fun u => !s.exe.bad.contains (0x20DA0000 + u.1 * 8))) (fun s u =>
    let v := lds16 s (0x20DA0000 + u.1 * 8 + 2)
    let e := Tbl.get {} s.thm.node u.1
    let e' := dwellEp e (decide (v ≥ parI s 0x600B)) (decide (v ≤ parI s 0x600B - (par s 0x6002 : Int))) 1 s.uptimeMs (par s 0x6003)
    let s := { s with thm := { s.thm with node := Tbl.set {} s.thm.node u.1 e' } }
    track s e'.on 3 Ev.NODE_HOT (u.1 + ws16 v * 2 ^ 48) u.1 x)

/-- One string's evaluation (R236 to R251). -/
def thmString (s : Dev) (x : Nat) : Dev :=
  let us := thmUnits s x
  let all := us.flatMap (·.2)
  let s := forL s us (fun s u => forL s u.2 (fun s i => stepInput s x u.2 i))
  let vals := fun (s : Dev) (low : Bool) => us.flatMap (fun u => u.2.filterMap (fun i => (effVal s u.2 all low i).map (fun v => (i, v))))
  let hi := vals s false
  let lo := vals s true
  let pick := fun (l : List (Nat × Int)) i => (l.find? (fun e => e.1 == i)).map (·.2)
  let tight := fun (s : Dev) (low : Bool) => all.foldl (fun m i =>
    if isNew s i then max m (tightest s low (if low then (getIn s i).lastL else (getIn s i).lastH) (pick (if low then lo else hi) i)) else m) 0
  let kh := tight s false
  let kl := tight s true
  let s := forL s all (fun s i =>
    let s := if isNew s i then setIn s i { getIn s i with stamp := inStamp s i, lastH := pick hi i, lastL := pick lo i } else s
    setInState s i (inState s i % 8 + b2n (!inValid s i && (pick hi i).isSome) * 128))
  let a := thmAddr x
  let s := match bestOf false hi with | some e => setThm (st16 (st16 s a (ws16 e.2)) (a + 0xE) e.1) x { getThm s x with hotSet := true } | none => s
  let s := match bestOf true lo with | some e => st16 s (a + 2) (ws16 e.2) | none => s
  let s := tableStep (tableStep s x false kh) x true kl
  thmFlags (nodeHot (tripFlag (blindStep s x) x) x) x all

/-- The newest closed slot of a half 0, which carries the thermistors: the newest, or in DENSE the one before it (R125, R141). -/
def thSlot (s : Dev) : Option Nat :=
  (newestSlot s).bind (fun k => [k, (k + 7) % 8].find? (fun j => !bitOf (slotWord s j 1) 15 && bitOf (slotWord s j 1) 10))

/-- Local thermistors: one cycle's comparison; a cycle without a reading crosses nothing and ends no episode (R254). -/
def thSnapshot (s : Dev) : Dev :=
  match thSlot s with
  | none => s
  | some k => forN s 16 (fun s n =>
    let a := 0x20DB0000 + k * 0x400 + (24 + n) * 16
    let f := ld16 s (a + 0xC)
    let idle := fun (s : Dev) => { s with thm := { s.thm with th := Tbl.set {} s.thm.th n (dwellEp (Tbl.get {} s.thm.th n) false false 2 s.uptimeMs 0) } }
    if par s (0x3150 + n) = 0 ∨ !nbit f 15 ∨ f % 16 ≠ slotTag s k then idle s
    else if ld16 s a = 0x8000 then raise (idle s) 3 Ev.TEMP_SENSOR_FAIL (2 * 256 + 0x8000 + n * 65536) (0x10000 + n)
    else
      let s := clearCond s 3 Ev.TEMP_SENSOR_FAIL (0x10000 + n) 0x7F
      let v := lds16 s a
      let lim := parI s (0x6040 + n)
      let e := Tbl.get {} s.thm.th n
      let off := lim == 0x7FFF
      let e' := if off then {} else dwellEp e (decide (v ≥ lim)) (decide (v ≤ lim - (par s 0x6002 : Int))) 2 s.uptimeMs (par s 0x6003)
      let s := { s with thm := { s.thm with th := Tbl.set {} s.thm.th n e' } }
      let hot := par s (0x6050 + n) == 1
      let arg := n + ws16 v * 2 ^ 48
      track (track s (e'.on && hot) 3 Ev.LOCAL_HOT arg n 0x7F) (e'.on && !hot) 3 Ev.LOCAL_WARM arg n 0x7F)

/-- Row THERMAL_EVALUATION (R249): every string with records in use; the factors are posted to P2. -/
def thermalEvaluation (s : Dev) : Dev :=
  if !pairUp s 3 then s
  else
    let s := thSnapshot (forL s (usedStrs s) thmString)
    let s := { s with thm := { s.thm with posted := true, noPost := 0 } }
    clearCond s 2 Ev.THERMAL_STALL devScope 0x7F

/-- P2 takes the factors of the cycle, or notes that none were posted, at its first PUBLISH gate of a cycle (R249). -/
def factorsTake (s : Dev) : Dev :=
  if s.thm.tookAt = some (localCyc s) then s
  else { s with thm := { s.thm with posted := false, noPost := if s.thm.posted then 0 else min (s.thm.noPost + 1) 65535, tookAt := some (localCyc s) } }

/-- Row THERMAL_STALL: 5 consecutive cycles without a post (R249). -/
def thermalStall (s : Dev) : Dev :=
  if s.thm.posted || !pairUp s 2 then s
  else raise s 2 Ev.THERMAL_STALL (max 5 s.thm.noPost) devScope

/-- Row THERMAL_DWELL_EXPIRY: the dwell of a table of string x completes (R242, R247). -/
def thermalDwellExpiry (x : Nat) (low : Bool) (s : Dev) : Dev :=
  let t := getThm s x
  if dwellOf t low = 0 || !pairUp s 3 then s
  else if t.hold ≠ 0 then setThm s x (setDwell t low (dwellOf t low) true)
  else relaxStep s x low

/-- Row THERMAL_HOLD_EXPIRY: the hold of string x ends; a relaxation it held back takes place (R247). -/
def thermalHoldExpiry (x : Nat) (s : Dev) : Dev :=
  let t := getThm s x
  if t.hold = 0 || !pairUp s 3 then s
  else
    let s := setThm s x { t with hold := 0 }
    let s := if t.dueHi && dwellOf t false != 0 then relaxStep s x false else s
    let s := if t.dueLo && dwellOf t true != 0 then relaxStep s x true else s
    thmFlags s x (strInputs s x)

/-- In BOOT the thermal records start anew: every string on the blind step with WARMUP, every input that no entry maps ABSENT (R238,
R239, R250). -/
def thmBoot (s : Dev) : Dev :=
  let s := stBytes { s with thm := {} } 0x20DE8000 (List.replicate 32768 1)
  let s := forL s (mappedInputs s) (fun s i => setInState s i 0)
  forN s 128 (fun s x => if (confStrs s).contains x || !(cellsOf s x).isEmpty then thmFlags s x (strInputs s x) else s)

/-- The overtemperature trip at a safety scan (R252). -/
def tripScan (s : Dev) : Dev :=
  forL s (umapList s) (fun s e =>
    if bitOf e.2.1 30 then s
    else
      let x := fld e.2.1 23 7
      forN s (fld e.2.2 28 4) (fun s j =>
        let i := fld e.2.2 0 15 + j
        if decide (toS16 (inTemp s i) ≥ parI s 0x6001) && !(getThm s x).tripped then
          let s := setThm s x { getThm s x with tripped := true, tripRel := 0 }
          tripStr s 0 Ev.CELL_OVERTEMP (x + i * 65536 + inTemp s i * 2 ^ 48) x
        else s))

/-! ## Die temperature (R255 to R257) -/

/-- Die state; die sensor i; excluded. -/
def dstate (s : Dev) : Nat := rdF s THM_STATUS 3 2
def dieT (s : Dev) (i : Nat) : Int := toS16 (rdF s (THM_DIE + 4 * i) 0 16)
def dieExcl (s : Dev) (i : Nat) : Bool := rdB s THM_STATUS (8 + i)
/-- The plausible sensors, and the die temperature: the hottest of them. -/
def dieUp (s : Dev) : List Nat := (List.range 8).filter (fun i => !dieExcl s i)
def dieMax (s : Dev) : Int := match (dieUp s).map (dieT s) with | [] => -32768 | a :: t => t.foldl max a

/-- The die state becomes d, with its actions and events (R256). -/
def dieEnter (s : Dev) (d : Nat) : Dev :=
  let t := ws16 (dieMax s)
  let old := dstate s
  let s := { (wrF s THM_STATUS 3 2 d) with thm := { s.thm with dieTimer := false } }
  let s := if d = 1 then wrB s THM_STATUS 5 true else s
  let s := if d = 1 ∧ old = 0 then raise s 3 Ev.DIE_HOT t devScope else if d = 0 then clearCond s 3 Ev.DIE_HOT devScope 0x7F else s
  let s := if d ≥ 2 then raise (estWrite s [(EST_CUR_SHARE, 0x3F, 5)]) 3 Ev.DIE_LIMIT t devScope
    else if old ≥ 2 then clearCond (estWrite s [(EST_CUR_SHARE, 0x3F, w32 (par s 0x400B))]) 3 Ev.DIE_LIMIT devScope 0x7F else s
  if d = 3 then fault3 (wrB s THM_STATUS 6 true) 3 Ev.DIE_OVERTEMP t devScope false (connStrs s) true
  else clearCond s 3 Ev.DIE_OVERTEMP devScope 0x7F

/-- The condition of a timed transition holds (R256). -/
def dieTimed (s : Dev) : Bool :=
  let t := dieMax s
  if dstate s = 1 then decide (t ≤ 7360) else if dstate s = 2 then decide (t ≥ 8640) || (decide (t ≤ 7680) && decide ((dieUp s).length ≥ 4))
  else if dstate s = 3 then decide (t ≤ 8320) else false

/-- Row DIE_TEMPERATURE_UPDATE: the readings of the eight sensors (R255, R256). -/
def dieTemperatureUpdate (l : List Int) (s : Dev) : Dev :=
  let s := forN s 8 (fun s i => wrN s (THM_DIE + 4 * i) (ws16 (l.getD i 0)))
  let m := medianInt ((List.range 8).map (dieT s))
  let far := (List.range 8).filter (fun i => decide ((dieT s i - m).natAbs > 512))
  let s := { s with thm := { s.thm with departed := far } }
  let s := forN s 8 (fun s i => if dieExcl s i && !far.contains i then clearCond (wrB s THM_STATUS (8 + i) false) 3 Ev.DIE_SENSOR i 0x7F else s)
  let t := dieMax s
  let s := wrN s THM_DIE_MAX (ws16 t)
  let s := if !s.thm.peakNew || decide (t > toS16 (rdF s THM_DIE_PEAK 0 16)) then { (wrN s THM_DIE_PEAK (ws16 t)) with thm := { s.thm with peakNew := true } } else s
  let s := if dstate s = 0 ∧ t ≥ 7680 then dieEnter s 1 else if dstate s = 1 ∧ t ≥ 8000 then dieEnter s 2 else s
  let s := if (dieUp s).length < 4 ∧ dstate s < 2 then dieEnter s 2 else s
  { s with thm := { s.thm with dieTimer := dieTimed s } }

/-- Row DIE_STATE_DWELL_EXPIRY: the timed condition has held for its time (R256). -/
def dieStateDwellExpiry (s : Dev) : Dev :=
  if !s.thm.dieTimer then s
  else if dstate s = 1 then dieEnter s 0
  else if dstate s = 2 then dieEnter s (if dieMax s ≥ 8640 then 3 else 1)
  else if dstate s = 3 then dieEnter s 2
  else s

/-- Row DIE_SENSOR_EXCLUSION: sensor i has departed from the median for 100 ms (R255). -/
def dieSensorExclusion (i : Nat) (s : Dev) : Dev :=
  if !s.thm.departed.contains i || dieExcl s i then s
  else
    let s := wrB s THM_STATUS (8 + i) true
    let s := raise s 3 Ev.DIE_SENSOR (rdF s THM_STATUS 8 8) i
    if (dieUp s).length < 4 ∧ dstate s < 2 then dieEnter s 2 else s

/-! ## Compensation (R258, R259) -/

/-- The mean of the sensors of a list that are not excluded, less 25 °C. -/
def dieMean (s : Dev) (l : List Nat) : Option Int :=
  let u := l.filter (fun i => !dieExcl s i)
  if u.isEmpty then none else some ((u.map (dieT s)).foldl (· + ·) 0 / (u.length : Int) - 1600)
/-- A third-order polynomial of factory coefficients from index j, in ΔT of 1/64 K. Log 4. -/
def otpPoly (j : Nat) (d : Int) : Int :=
  (Config.otpCoeff j * d * 4096 + Config.otpCoeff (j + 1) * d * d * 64 + Config.otpCoeff (j + 2) * d * d * d) / 262144

/-- Row COMPENSATION_UPDATE (R258): the oscillator correction moves by at most 0.01 ppm. -/
def compensationUpdate (s : Dev) : Dev :=
  if rdB s THM_STATUS 0 then s
  else
    let s := match dieMean s [0, 1] with
      | some d =>
        let now := Params.toS32 (rdN s THM_OSC_CORR)
        wr s THM_OSC_CORR (ws32 (clampInt (now - 10) (now + 10) (otpPoly 0 d)))
      | none => s
    match dieMean s [4, 5, 6, 7] with
    | some d => wr s THM_REF_CORR (ws32 (otpPoly 3 d))
    | none => s

/-! ## Opcodes (R407) -/

/-- LIMITS_READ: the frames of the last publication. -/
def limitsReadBody (c : HostCmd) (s : Dev) : Dev :=
  let f := s.lim.frames ++ List.replicate (36 - s.lim.frames.length) 0
  finish s OP_LIMITS_READ c ST_OK (f ++ [w32 s.lim.pubCyc])
def limitsRead (c : HostCmd) (s : Dev) : Dev := serve s OP_LIMITS_READ c (limitsReadBody c)

/-- THERMAL_READ. -/
def thermalReadBody (c : HostCmd) (s : Dev) : Dev := serveRange s OP_THERMAL_READ c 128 8 [] (fun x => ldWords s (thmAddr x) 8)
def thermalRead (c : HostCmd) (s : Dev) : Dev := serve s OP_THERMAL_READ c (thermalReadBody c)

/-- The byte of input i: ABSENT where no unit maps it (R238, R239). -/
def sensorByte (s : Dev) (m : List Nat) (i : Nat) : U8 := if m.contains i then BitVec.ofNat 8 (inState s i) else 1
/-- SENSOR_READ: four inputs a word. -/
def sensorReadBody (c : HostCmd) (s : Dev) : Dev :=
  let first := rangeFirst c 0
  let n := rangeCount c 0
  if c.payload.length ≠ 1 then answer s OP_SENSOR_READ c ST_LENGTH
  else if first + n > 32768 then answer s OP_SENSOR_READ c ST_BAD_PARAM
  else if n > 16384 then answer s OP_SENSOR_READ c ST_LENGTH
  else
    let m := mappedInputs s
    finish s OP_SENSOR_READ c ST_OK (bytesToWords ((List.range n).map (fun i => sensorByte s m (first + i))))
def sensorRead (c : HostCmd) (s : Dev) : Dev := serve s OP_SENSOR_READ c (sensorReadBody c)

end Sys2Proof.Machine
end

