-- ==== Sys2Proof/Machine/Cluster.lean ====
section
/-!
DEFINITION. Sys2Proof/Machine/Cluster.lean: the cluster switch, membership and the head, phase across the cluster, and the
REDUCE exchange (spec 14 R428 to R454).
-/
namespace Sys2Proof.Machine

/-! ## Addresses, ports and sending (R430 to R434) -/

/-- Own plant address (R431). -/
def ownAddr (s : Dev) : Nat := par s 0xB002 * 64 + ownIdx s
def isHead (s : Dev) : Bool := clOn s && s.cl.head == some (ownIdx s)
def cpUp (s : Dev) (p : Nat) : Bool := rdB s CL_STATUS (8 + p % 2)
/-- Destinations of Effect.cluster: broadcast, the host, a device's address; plus a port: 1 CP0, 2 CP1, 0 by R433. -/
abbrev clBcast : Nat := 0x10000
abbrev clHost : Nat := 0x20000
def clPort (p : Nat) : Nat := (p + 1) * 0x40000

/-- The MAC address of a device, by plant address; the broadcast address (R430). -/
def devMac (a : Nat) : Nat := 0x024758000000 + a % 2 ^ 14
def bcastMac : Nat := 0x034758000000
/-- The Ethernet header: the MAC addresses and EtherType 0x88B5, most significant byte first (R430, R3). -/
def ethHead (f : ClFrame) : List U8 := (leBytes 6 f.dst).reverse ++ (leBytes 6 f.src).reverse ++ [0x88, 0xB5]
/-- A frame's bytes up to the FCS: Ethernet header, cluster header, body, and padding up to 64 bytes with the FCS (R430). -/
def frameBody (f : ClFrame) : List U8 :=
  ethHead f ++ wordsToBytes [f.h0, f.h1, f.h2] ++ f.body ++ List.replicate (34 - f.body.length) 0
/-- A frame on the wire; a deliberately wrong FCS is the right one inverted (R430, R434). -/
def wireBytes (f : ClFrame) : List U8 :=
  let c := crc32 (frameBody f)
  frameBody f ++ leBytes 4 (if f.bad then ~~~c else c).toNat
/-- Bytes of a frame on the wire (R430). -/
def frameLen (f : ClFrame) : Nat := max 64 (30 + f.body.length)
/-- Priority in an egress buffer, 0 first (R434). -/
def framePrio (f : ClFrame) : Nat := let t := fld f.h0 24 4; if t = 4 then 0 else if t = 3 then 1 else if t = 5 then 2 else 3

/-- Frames leave on their port; the last 64 are kept. -/
def leave (s : Dev) (l : List ClFrame) : Dev :=
  let s := forL s l (fun s f => countBytes s (0x78 + f.port % 2) (frameLen f))
  { s with cl := { s.cl with sent := let q := s.cl.sent ++ l; q.drop (q.length - 64) } }
def getEgress (s : Dev) (p : Nat) : List ClFrame := Tbl.get [] s.cl.egress p
def setEgress (s : Dev) (p : Nat) (l : List ClFrame) : Dev := { s with cl := { s.cl with egress := Tbl.set [] s.cl.egress p l } }
/-- The waiting frames of a port in order of service (R434). -/
def served (l : List ClFrame) : List ClFrame := [0, 1, 2, 3].flatMap (fun k => l.filter (fun f => framePrio f == k))
/-- The port is free: what waits leaves first. -/
def drainPort (s : Dev) (p : Nat) : Dev := let l := getEgress s p; if l.isEmpty then s else leave (setEgress s p []) (served l)
/-- Take the newest frame of the lowest priority present out of a buffer. -/
def dropOne (l : List ClFrame) : List ClFrame :=
  let k := l.foldl (fun m f => max m (framePrio f)) 0
  match (l.reverse.findIdx? (fun f => framePrio f == k)) with
  | some i => (l.reverse.eraseIdx i).reverse
  | none => l
/-- A frame for a port that is busy waits, and while the buffer exceeds 64 KiB costs it a frame (R434). -/
def fitEgress (p : Nat) : Nat → Dev → List ClFrame → Dev
  | 0, s, l => setEgress s p l
  | k + 1, s, l =>
    if (l.map frameLen).foldl (· + ·) 0 ≤ 65536 then setEgress s p l
    else
      let s := countEv (bumpReg s CL_DROP 1) (0x78 + p) 3 1
      fitEgress p k (note s 3 Ev.CLUSTER_DROP (rdN s CL_DROP * 2 ^ 32)) (dropOne l)
def waitEgress (s : Dev) (f : ClFrame) : Dev :=
  let l := getEgress s f.port ++ [f]
  fitEgress f.port l.length s l
/-- A frame of this device at its port: it waits with those that wait, and else leaves (R434). -/
def egressOwn (s : Dev) (f : ClFrame) : Dev := if (getEgress s f.port).isEmpty then leave s [f] else waitEgress s f

/-- The ports a frame of this device leaves on (R433). -/
def ownPorts (s : Dev) (dst : Nat) : List Nat :=
  let pick := dst / 0x40000
  if pick = 1 then [0] else if pick = 2 then [1]
  else if nbit dst 16 then [0, 1]
  else if nbit dst 17 then [if cpUp s s.cl.hostPort then s.cl.hostPort else 1 - s.cl.hostPort]
  else match (getMem s (dst % 64)).port with
    | 0 => [0, 1]
    | k + 1 => [k]

/-- A frame of this device enters the switch at the internal port, with its destination MAC (R430, R431, R433). -/
def clusterFrame (s : Dev) (ftype dst mac : Nat) (words : List U32) : Dev :=
  let host := nbit dst 17
  let bc := nbit dst 16
  let dest := if host then 0 else if bc then par s 0xB002 * 64 else dst % 0x4000
  let h0 := w32 (2 ^ 28 + ftype * 2 ^ 24 + 63 * 2 ^ 18 + b2n host * 2 ^ 17 + b2n bc * 2 ^ 16 + dest)
  let body := wordsToBytes words
  forL s (ownPorts s dst) (fun s p => egressOwn s { dst := mac, src := devMac (ownAddr s), h0 := h0, h1 := w32 (ownAddr s), h2 := w32 body.length, body := body, port := p })
/-- The same, to a device, to every device, or to the host of the latest COMMAND. -/
def clusterSend (s : Dev) (ftype dst : Nat) (words : List U32) : Dev :=
  clusterFrame s ftype dst (if nbit dst 17 then s.cl.hostMac else if nbit dst 16 then bcastMac else devMac dst) words

/-! ## Frames arriving (R432 to R435) -/

/-- A frame error on a port (R432). -/
def clFrameErr (s : Dev) (p : Nat) : Dev :=
  let s := wrB (bumpReg s (CL_FRM_ERR + 4 * p) 1) CL_STATUS 0 true
  if nbit s.cl.errCyc p then s
  else post { s with cl := { s.cl with errCyc := nput s.cl.errCyc p true } } 3 Ev.CLUSTER_FRAME_ERR (p * 256)

/-- Body length that a type defines, if it defines one. -/
def bodyLen (t : Nat) : Option Nat := if t = 5 then some 40 else if t = 4 then some 48 else if t = 3 then some 128 else none

/-- The header and body make a frame error (R432); step counts that exceed a REDUCE body's four entries too (R443, R11). -/
def clFrameBad (h0 h1 h2 : U32) (body : List U8) : Bool :=
  let t := fld h0 24 4
  let n := fld h2 0 16
  fld h0 28 4 != 1 || t == 0 || decide (t > 5) || fld h0 14 2 != 0 || fld h1 14 17 != 0 || fld h2 16 16 != 0 || decide (n > 1448) ||
  decide (n > body.length) || (bitOf h0 17 && bitOf h0 16) || (match bodyLen t with | some k => n != k | none => false) ||
  (t == 3 && (decide ((body.getD 49 0).toNat > 4) || decide ((body.getD 50 0).toNat > 4)))

/-- The switch delivers a frame to the internal port (R433). -/
def clDelivers (s : Dev) (h0 h1 : U32) : Bool :=
  let own := fld h1 0 14 == ownAddr s && !bitOf h1 31
  !own && !bitOf h0 17 && (if bitOf h0 16 then fld h0 6 8 == par s 0xB002 else fld h0 0 14 == ownAddr s)
/-- The switch forwards a frame out of the other port (R433). -/
def clForwards (s : Dev) (h0 h1 : U32) : Bool :=
  let own := fld h1 0 14 == ownAddr s && !bitOf h1 31
  !own && fld h0 18 6 != 0 && (bitOf h0 17 || bitOf h0 16 || fld h0 0 14 != ownAddr s)

/-- CORR of a PHASE body grows by the residence time, 1/16 ns (R434). -/
def addCorr (body : List U8) (res : Nat) : List U8 :=
  body.take 24 ++ leBytes 4 ((leNat ((body.drop 24).take 4) + res) % 2 ^ 32) ++ body.drop 28

/-- Row CLUSTER_FRAME_ARRIVAL: a frame on cluster port p with its MAC addresses, its FCS as checked, its residence time, and whether the other port
is busy (R432 to R434). What the frame's type makes the device do are rows of their own. -/
def clusterFrameArrival (p : Nat) (h : ClHead) (h1 h2 : U32) (body : List U8) (fcsOk : Bool) (residence : Nat) (busy : Bool) (s : Dev) : Dev :=
  let p := p % 2
  if !rdB s CL_CTRL 0 then s
  else
    let h0 := h.word
    let hdr := clFrameBad h0 h1 h2 body
    let err := hdr || !fcsOk
    let s := countBytes s (0x78 + p) (max 64 (30 + body.length))
    let s := if err then clFrameErr s p else s
    let s := if !err && clDelivers s h0 h1 then countEv s (0x78 + p) 1 1 else s
    let cut := !hdr && clForwards s h0 h1 && (fcsOk || !busy)
    if !cut then s
    else
      let s := countEv s (0x78 + p) 2 1
      let b := if fld h0 24 4 = 4 then addCorr body residence else body
      let f : ClFrame := { dst := h.dst, src := h.src, h0 := putFld h0 18 6 (fld h0 18 6 - 1), h1 := h1, h2 := h2, body := b, port := 1 - p, bad := !fcsOk }
      if busy then waitEgress s f else leave (drainPort s (1 - p)) [f]

/-- A port goes down (R435). -/
def portDown (s : Dev) (p : Nat) : Dev :=
  if !cpUp s p then s else raise (wrB s CL_STATUS (8 + p) false) 3 Ev.CLUSTER_PORT_DOWN (p * 256) p
/-- Row CLUSTER_PORT_DOWN: link loss or 3 cycles without a valid frame (R435). -/
def clusterPortDown (p : Nat) (s : Dev) : Dev := portDown s (p % 2)
/-- Row PHY_POLL: the link status of CP0 and CP1 (R429, R435). -/
def phyPoll (links : Nat) (s : Dev) : Dev :=
  if !pairUp s 3 || !clOn s then s
  else forL s [0, 1] (fun s p =>
    let s := { s with cl := { s.cl with link := Tbl.set false s.cl.link p (nbit links p) } }
    if nbit links p then s else portDown s p)

/-! ## HELLO and the view (R436 to R439) -/

/-- Two serials use the index (R437). -/
def duplicate (s : Dev) (i : Nat) : Bool := let m := getMem s i; present s i && m.dupAt != 0 && decide (cycSince s (m.dupAt - 1) ≤ 2)
def stranger (s : Dev) (i : Nat) : Bool := !configured s i
def healthyOf (s : Dev) (i : Nat) : Bool := nbit (getMem s i).flags 0
/-- CFG_CRC of this device (R436). -/
def ownCfgCrc (s : Dev) : Nat := (crc32 (leBytes 4 (par s 0xB004) ++ leBytes 4 (par s 0xB005) ++ leBytes 1 (par s 0xB008))).toNat
/-- This device is HEALTHY (R436). -/
def ownHealthy (s : Dev) : Bool := !anyLost s && !anyForce s Ev.PUBLISH_OVERRUN
/-- The view as a 64-bit mask. -/
def viewMask (s : Dev) : Nat := (s.cl.members.filter (fun e => decide (e.1 < 64) && present s e.1)).foldl (fun m e => m + 2 ^ e.1) 0

def helloFlags (s : Dev) : Nat :=
  b2n (ownHealthy s) + b2n (isHead s) * 2 + b2n (parB s 0xB006) * 4 + b2n (coherent s) * 8 + b2n (cpUp s 0) * 16 + b2n (cpUp s 1) * 32

/-- HELLO body, 10 words (R436). -/
def helloWords (s : Dev) : List U32 :=
  let sn := Config.serial.toNat
  [w32 (ownIdx s + par s 0xB002 * 0x100 + shownState s * 0x10000 + helloFlags s * 0x1000000), w32 sn, w32 (sn / 2 ^ 32), w32 s.tb.cyc,
   w32 (s.tb.cyc / 2 ^ 32 % 65536 + s.cl.head.getD 0xFF * 0x10000), w32 (viewMask s), w32 (viewMask s / 2 ^ 32), w32 (ownCfgCrc s), 0, 0]

/-- Row HELLO_BROADCAST (R436): the device counts itself present from its first HELLO (R438). -/
def helloBroadcast (s : Dev) : Dev :=
  if !clOn s || !pairUp s 3 then s
  else
    let i := ownIdx s
    let s := setMem s i { getMem s i with at_ := localCyc s + 1, serial := Config.serial.toNat, state := shownState s, flags := helloFlags s, cfgCrc := ownCfgCrc s }
    emit s 3 (.cluster 5 clBcast (helloWords s))

/-- Row HELLO_RECEIVED on port p (R435, R437). -/
def helloReceived (p : Nat) (body : List U8) (s : Dev) : Dev :=
  let n := fun o k => leNat ((body.drop o).take k)
  let p := p % 2
  if !clOn s || !pairUp s 3 || body.length ≠ 40 || decide (n 0 1 ≥ 64) || decide (n 3 1 ≥ 64) || n 19 1 ≠ 0 || n 32 8 ≠ 0 then s
  else
    let s := if cpUp s p then s
      else if Tbl.get false s.cl.link p then post (clearCond (wrB s CL_STATUS (8 + p) true) 3 Ev.CLUSTER_PORT_DOWN p 0x7F) 3 Ev.CLUSTER_PORT_UP (p * 256) else s
    if n 1 1 ≠ par s 0xB002 then s
    else
      let i := n 0 1
      let m := getMem s i
      let ser := n 4 8
      if i = ownIdx s ∧ ser = Config.serial.toNat then s
      else
        let now := localCyc s + 1
        let other := (present s i && m.serial != ser) || i == ownIdx s
        if other then
          let s := setMem s i { m with dupSer := ser, dupAt := now }
          raise (wrB s CL_STATUS 2 true) 3 Ev.CLUSTER_DUP_INDEX i i
        else
          let s := setMem s i { m with dupAt := if m.dupSer = ser then 0 else m.dupAt, at_ := now, serial := ser, state := n 2 1, flags := n 3 1, cfgCrc := n 28 4, port := p + 1 }
          let s := track s (configured s i && n 28 4 != ownCfgCrc s) 3 Ev.CLUSTER_CFG (i + n 28 4 * 2 ^ 32) i 0x7F
          if stranger s i then raise (wrB s CL_STATUS 3 true) 3 Ev.CLUSTER_STRANGER i i else s

/-- One index of a view evaluation: JOIN, LEAVE, the ends of episodes, and the run of healthy evaluations (R437, R438). -/
def viewIndex (s : Dev) (i : Nat) : Dev :=
  let m := getMem s i
  let here := present s i
  let s := setMem s i { m with viewed := here, evals := if here && healthyOf s i then min (m.evals + 1) 255 else 0 }
  let s := if here && !m.viewed then post (clearCond s 3 Ev.CLUSTER_LEAVE i 0x7F) 3 Ev.CLUSTER_JOIN (i + m.serial % 2 ^ 32 * 2 ^ 32)
    else if !here && m.viewed then raise s 3 Ev.CLUSTER_LEAVE i i else s
  let s := if duplicate s i then s else clearCond s 3 Ev.CLUSTER_DUP_INDEX i 0x7F
  if here && stranger s i then s else clearCond s 3 Ev.CLUSTER_STRANGER i 0x7F

/-- The candidate for head (R438). -/
def candidate (s : Dev) : Option Nat :=
  (List.range 64).find? (fun i => present s i && healthyOf s i && nbit (getMem s i).flags 2 && !duplicate s i && !stranger s i)

/-- The head by the rules of R438. -/
def electHead (s : Dev) : Option Nat :=
  match s.cl.head with
  | none => match candidate s with
    | some c => if (getMem s c).evals ≥ 3 then some c else none
    | none => none
  | some h =>
    if !present s h || !healthyOf s h || duplicate s h || stranger s h then candidate s
    else match candidate s with
      | some c => if c < h ∧ (getMem s c).evals ≥ 10 then some c else some h
      | none => some h

/-- A change of head (R438, R440, R441, R447). -/
def newHead (s : Dev) (h : Option Nat) : Dev :=
  if s.cl.head = h then s
  else
    let old := s.cl.head.getD 0x3F
    let mine := h == some (ownIdx s)
    let s := { s with cl := { s.cl with head := h, delays := [], req := none, entrySync := mine } }
    let s := wrN (wrB (wrF s CL_STATUS 18 6 (h.getD 0)) CL_STATUS 17 mine) CL_PATH_D 0
    let s := post s 3 Ev.CLUSTER_HEAD (h.getD 0x3F + old * 256)
    if mine then
      let s := clearCond s 3 Ev.PCS_SILENT devScope 0x7F
      { s with lim := { s.lim with frozen := false, thaw := false, ctl := [], bootEnd := s.uptimeMs } }
    else pcsIdle s


/-- Row VIEW_EVALUATION at 270° (R437 to R439). -/
def viewEvaluation (s : Dev) : Dev :=
  if !clOn s || !pairUp s 3 then s
  else
    let s := forL s (s.cl.members.map (·.1)) viewIndex
    let s := newHead s (electHead s)
    let s := wrN (wrN s CL_VIEW_LO (viewMask s % 2 ^ 32)) CL_VIEW_HI (viewMask s / 2 ^ 32)
    let s := wrB s CL_STATUS 16 (quorumOk s)
    track s (isHead s && !quorumOk s) 3 Ev.CLUSTER_NO_QUORUM (viewCount s * 256) devScope 0x7F

/-! ## Phase across the cluster (R440 to R442) -/

/-- The next SEQ of a kind. -/
def nextSeq (s : Dev) (kind : Nat) : Nat × Dev :=
  let v := Tbl.get 0 s.cl.seqs kind
  (v, { s with cl := { s.cl with seqs := Tbl.set 0 s.cl.seqs kind ((v + 1) % 65536) } })

/-- A PHASE body, 12 words (R440). -/
def phaseWords (s : Dev) (kind seq angle corrReq t2 t3 : Nat) : List U32 :=
  let fl := b2n (coherent s) + b2n (tbState s == .locked) * 2
  [w32 (kind + fl * 0x100 + seq * 0x10000), w32 angle, w32 s.tb.cyc, w32 (s.tb.cyc / 2 ^ 32 % 65536), w32 ((10 ^ 14 + rateNow s / 2) / rateNow s), 0, 0,
   w32 corrReq, w32 t2, w32 (t2 / 2 ^ 32), w32 t3, w32 (t3 / 2 ^ 32)]

/-- The head broadcasts SYNC (R440). -/
def sendSync (s : Dev) (angle : Nat) : Dev :=
  let (q, s) := nextSeq s 0
  emit s 3 (.cluster 4 clBcast (phaseWords s 0 q angle 0 0 0))
/-- Row PHASE_SYNC_BROADCAST: at 90°; `angle` is the sender's angle at egress (R440). -/
def phaseSyncBroadcast (angle : U32) (s : Dev) : Dev := if isHead s && pairUp s 3 then sendSync s angle.toNat else s
/-- Row HEAD_ENTRY_SYNC: 2 ms after becoming head (R440). -/
def headEntrySync (angle : U32) (s : Dev) : Dev :=
  if isHead s && pairUp s 3 && s.cl.entrySync then sendSync { s with cl := { s.cl with entrySync := false } } angle.toNat else s

/-- The path delay in use, ns (R441). -/
def pathDelay (s : Dev) : Option Nat :=
  if s.cl.delays.isEmpty then none else some (medianInt (s.cl.delays.map Int.ofNat)).toNat

/-- Row PHASE_SYNC_RECEIVED: a SYNC of the head on port p (R441, R442, 02 R47, R48). DESIGN CHOICE: the step is the plain difference of the
cycle counts, which crosses neither end of the count (log 126). -/
def phaseSyncReceived (p src : Nat) (x : SyncFrame) (s : Dev) : Dev :=
  let n := fun o k => leNat ((x.body.drop o).take k)
  let p := p % 2
  if !clOn s || !pairUp s 3 || isHead s || s.cl.head != some (src % 64) || x.body.length ≠ 48 || n 0 1 ≠ 0 || n 1 1 ≥ 4 || n 14 2 ≠ 0 || n 20 4 ≠ 0 || n 16 4 = 0 then s
  else
    let s := if s.cl.syncPort = some p then s
      else wrN { s with cl := { s.cl with syncPort := some p, delays := [], req := none } } CL_PATH_D 0
    match pathDelay s with
    | none => s
    | some d =>
      let ang := (n 4 4 + (16 * d + n 24 4) * 2 ^ 32 / (160 * n 16 4)) % 2 ^ 32
      let s := { s with cl := { s.cl with refAngle := some ang, refCoh := nbit (n 1 1) 0, refAt := localCyc s, refErr := (w32 ang - x.own).toInt, refFreq := 10 ^ 14 / n 16 4 } }
      let diff : Int := (n 8 6 : Int) - (s.tb.cyc : Int)
      { s with tb := { s.tb with step := if diff = 0 then none else some diff } }

/-- Row DELAY_REQ_SEND: egress time t1 on the link timer, ns (R441). While no SYNC of this head has arrived, the request leaves as any
frame to the head does (R433). -/
def delayReqSend (t1 : Nat) (s : Dev) : Dev :=
  match s.cl.head with
  | some h =>
    if !clOn s || !pairUp s 3 || isHead s then s
    else
      let (q, s) := nextSeq s 1
      let s := { s with cl := { s.cl with req := some (q, t1) } }
      emit s 3 (.cluster 4 (par s 0xB002 * 64 + h + (match s.cl.syncPort with | some p => clPort p | none => 0)) (phaseWords s 1 q 0 0 0 0))
  | none => s

/-- Row DELAY_REQ_RECEIVED: on port p from src, with its SEQ and CORR; t2 its ingress time, t3 the response's egress time (R441). -/
def delayReqReceived (p src seq corr t2 t3 : Nat) (s : Dev) : Dev :=
  if isHead s && pairUp s 3 then emit s 3 (.cluster 4 (src % 0x4000 + clPort (p % 2)) (phaseWords s 2 (seq % 65536) 0 corr t2 t3)) else s

/-- Row DELAY_RESP_RECEIVED: SEQ, CORR of the response, its CORR_REQ, T2, T3, and the ingress time t4 (R441). -/
def delayRespReceived (seq corr corrReq t2 t3 t4 : Nat) (s : Dev) : Dev :=
  match s.cl.req with
  | none => s
  | some (q, t1) =>
    if q ≠ seq ∨ !clOn s ∨ !pairUp s 3 then s
    else
      let s := { s with cl := { s.cl with req := none } }
      let twice : Int := 16 * (((t4 : Int) - t1) - ((t3 : Int) - t2)) - (corrReq + corr : Nat)
      let d : Int := twice / 32
      if twice < 0 ∨ twice > 500000 * 32 then note (wrB s CL_STATUS 1 true) 3 Ev.CLUSTER_PATH ((d % 2 ^ 32).toNat * 2 ^ 32)
      else
        let s := { s with cl := { s.cl with delays := (d.toNat :: s.cl.delays).take 3 } }
        wrN s CL_PATH_D ((pathDelay s).getD 0)

/-! ## REDUCE (R443 to R447) -/

/-- This device's contribution (R443): its LIMITS with CLUSTER clear, I_DEV, and the steps its PEAK_NOTICEs list. -/
def ownContrib (s : Dev) : List U32 :=
  let f := s.lim.frames ++ List.replicate (36 - s.lim.frames.length) 0
  let n := fun o => fld (f.getD o 0) 24 8
  f.take 12 ++ [w32 (n 12 * 0x100 + n 24 * 0x10000), ws32 s.lim.idev] ++ (f.drop 16).take 8 ++ (f.drop 28).take 8 ++ [0, 0]

/-- P3's contribution at its PUBLISH gate (R443). -/
def reduceSend (s : Dev) : Dev := if clOn s && pairUp s 3 then emit s 3 (.cluster 3 clBcast (ownContrib s)) else s

/-- Row REDUCE_CONTRIBUTION_RECEIVED: from a plant address, 32 words (R444). -/
def reduceContributionReceived (src : Nat) (words : List U32) (s : Dev) : Dev :=
  if !clOn s || !pairUp s 3 || words.length ≠ 32 || src / 64 ≠ par s 0xB002 || fld (words.getD 12 0) 0 8 ≠ 0 || fld (words.getD 12 0) 24 8 ≠ 0 ||
      decide (fld (words.getD 12 0) 8 8 > 4) || decide (fld (words.getD 12 0) 16 8 > 4) then s
  else
    let i := src % 64
    { s with cl := { s.cl with contribs := s.cl.contribs.filter (fun c => c.idx != i) ++ [{ idx := i, words := words }] } }

/-- Field k of a contribution; |I_DEV|. -/
def cw (c : Contrib) (k : Nat) : Nat := (c.words.getD k 0).toNat
def cDev (c : Contrib) : Nat := (Params.toS32 (cw c 13)).natAbs

/-- A cluster figure from the counted members' figures (R444). -/
def clFigure (l : List Contrib) (f : Contrib → Nat) : Nat :=
  let sumI := (l.map cDev).foldl (· + ·) 0
  let sumC := (l.map (fun c => cw c 4)).foldl (· + ·) 0
  let meas := decide (20 * sumI ≥ sumC)
  let tot := if meas then sumI else sumC
  l.foldl (fun m c =>
    let sh := if meas then cDev c else cw c 4
    if sh = 0 then m else min m (f c * tot / sh)) (min ((l.map f).foldl (· + ·) 0) 0xFFFFFFFF)

/-- Announced steps of a contribution, (EFF_SNAP, LEVEL). -/
def cSteps (c : Contrib) (chg : Bool) : List (Nat × Nat) :=
  let b := if chg then 22 else 14
  let n := fld (c.words.getD 12 0) (if chg then 16 else 8) 8
  (List.range n).map (fun i => (cw c (b + 2 * i), cw c (b + 2 * i + 1)))

/-- The level a member will have at a snapshot (R446). -/
def levelAt (snap at_ : Nat) (c : Contrib) (chg : Bool) : Nat :=
  let d := fun v => (v + 2 ^ 32 - snap) % 2 ^ 32
  (cSteps c chg).foldl (fun m e => if d e.1 ≤ d at_ then e.2 else m) (cw c (if chg then 3 else 2))

/-- The cluster steps of a direction, the earliest four (R446). -/
def clSteps (snap : Nat) (l : List Contrib) (chg : Bool) : List U32 :=
  let d := fun v => (v + 2 ^ 32 - snap) % 2 ^ 32
  let at_ := (l.flatMap (fun c => (cSteps c chg).map (fun e => d e.1))).foldl (fun a v => insertNat v a) []
  (at_.take 4).flatMap (fun v => let t := (snap + v) % 2 ^ 32; [w32 t, w32 (clFigure l (fun c => levelAt snap t c chg))])

/-- The members counted (R444). -/
def counted (s : Dev) (own : List U32) : List Contrib :=
  (s.cl.contribs.filter (fun c => c.idx != ownIdx s) ++ [({ idx := ownIdx s, words := own } : Contrib)]).filter (fun c =>
    configured s c.idx && !duplicate s c.idx && c.words.getD 0 0 == own.getD 0 0 && bitOf (c.words.getD 1 0) 15 == bitOf (own.getD 1 0) 15)

/-- The result's 32 words; `vbad` that the voltage ranges do not meet (R444, R447). -/
def reduceResult (s : Dev) (own : List U32) (l : List Contrib) : Bool × List U32 :=
  let v := l.filter (fun c => decide (fld (c.words.getD 1 0) 24 8 > 0))
  let vmax := match v.map (fun c => cw c 10 % 65536) with | [] => 0 | a :: t => t.foldl min a
  let vmin := (v.map (fun c => cw c 10 / 65536)).foldl max 0
  let bad := decide (vmin > vmax)
  let fig := fun k => if bad then 0 else clFigure l (fun c => cw c k)
  let or_ := fun i => b2n (l.any (fun c => bitOf (c.words.getD 1 0) i)) * 2 ^ i
  let strs := min ((l.map (fun c => fld (c.words.getD 1 0) 24 8)).foldl (· + ·) 0) 255
  let fl := or_ 7 + or_ 8 + or_ 9 + or_ 10 + or_ 11 + or_ 12 + or_ 13 + 2 ^ 14 + b2n (bitOf (own.getD 1 0) 15) * 2 ^ 15
  let snap := (own.getD 0 0).toNat
  let zero := fun (w : List U32) => if bad then w.zipIdx.map (fun e => if e.2 % 2 = 1 then 0 else e.1) else w
  let ds := zero (clSteps snap l false)
  let cs := zero (clSteps snap l true)
  let mask := l.foldl (fun m c => m + 2 ^ c.idx) 0
  let idev := l.foldl (fun (a : Int) c => a + Params.toS32 (cw c 13)) 0
  (bad, [own.getD 0 0, w32 (fl + aliveNow s 1 0 * 0x10000 + strs * 0x1000000)] ++ [2, 3, 4, 5, 6, 7, 8, 9].map (fun k => w32 (fig k)) ++
    [w32 (vmax + vmin * 65536), 0, w32 (1 + ds.length / 2 * 0x100 + cs.length / 2 * 0x10000), ws32 idev] ++
    ds ++ List.replicate (8 - ds.length) 0 ++ cs ++ List.replicate (8 - cs.length) 0 ++ [w32 mask, w32 (mask / 2 ^ 32)])

/-- The cluster PEAK_NOTICE of a direction (R446): its steps. The spec states no cluster STATE, I_PEAK or T_REM: free (Log 3). -/
def clNotice (s : Dev) (res : List U32) (chg : Bool) : List U32 × Dev :=
  let n := fld (res.getD 12 0) (if chg then 16 else 8) 8
  let (st, s) := takeNat s 4
  let (pk, s) := takeWord s
  let (tr, s) := takeNat s 65536
  ([w32 (b2n chg + st * 0x100 + aliveNow s 2 (b2n chg) * 0x10000 + n * 0x1000000), pk, w32 tr, res.getD 0 0] ++ (res.drop (if chg then 22 else 14)).take 8, s)

/-- Row REDUCE_COLLECTION (R444 to R447, R439). -/
def reduceCollection (s : Dev) : Dev :=
  if !isHead s || !pairUp s 3 then s
  else
    let own := ownContrib s
    let l := counted s own
    let (bad, res) := reduceResult s own l
    let s := { s with cl := { s.cl with result := res, resFrom := ownIdx s, contribs := [] } }
    let s := track s bad 3 Ev.CLUSTER_VRANGE (ownIdx s) devScope 0x7F
    let s := forN s 64 (fun s i => track s (configured s i && !l.any (fun c => c.idx == i)) 3 Ev.CLUSTER_REDUCE_MISS i i 0x7F)
    let s := emit s 3 (.cluster 3 clBcast res)
    let s := emit s 3 (.cluster 3 clHost res)
    if par s 0x5080 = 1 ∧ quorumOk s then
      let (nd, s) := clNotice s res false
      let (nc, s) := clNotice s res true
      sendCycle s (bitOf (own.getD 1 0) 15) (res.take 12 ++ nd ++ nc)
    else s

/-- Row REDUCE_RESULT_RECEIVED: from the head, 32 words (R447). -/
def reduceResultReceived (src : Nat) (words : List U32) (s : Dev) : Dev :=
  if !clOn s || !pairUp s 3 || words.length ≠ 32 || fld (words.getD 12 0) 0 8 ≠ 1 || fld (words.getD 12 0) 24 8 ≠ 0 ||
      decide (fld (words.getD 12 0) 8 8 > 4) || decide (fld (words.getD 12 0) 16 8 > 4) || src / 64 ≠ par s 0xB002 then s
  else { s with cl := { s.cl with result := words, resFrom := src % 64 } }

end Sys2Proof.Machine
end

