-- ==== Sys2Proof/Machine/Timebase.lean ====
section
/-!
DEFINITION. Sys2Proof/Machine/Timebase.lean: the phase unit: evaluation, locking, holdover, cycle count; and the piste
sequencer's operations (spec 02).
-/
namespace Sys2Proof.Machine

/-! ## Angles -/

/-- |e| exceeds d degrees, e in phase units. -/
def beyondDeg (e : Int) (d : Nat) : Bool := decide (e.natAbs * 360 > d * 2 ^ 32)
/-- Degrees as phase units, rounded down (R579). -/
def degAngle (d : Nat) : Nat := d % 360 * 2 ^ 32 / 360

/-! ## States (R42 to R45, R580) -/

/-- CLK_PHASE as the DPLL steers it, Hz: 100 MHz × f/f_nom (R38). -/
def clkPhase (s : Dev) : Nat := 100000000 * rateNow s / fNom s
/-- What the 64-bit accumulator advances by in every CLK_PHASE clock cycle (R38). -/
def phaseStep (s : Dev) : Nat := 2 ^ 64 * (fNom s / 1000000) / 100000000

/-- The source in force: 0 MAINS, 1 CLUSTER, else FREE (R42, R52). -/
def tbSource (s : Dev) : Nat := s.tb.src
def srcIsFree (s : Dev) : Bool := decide (tbSource s ≥ 2)

/-- Enter a timebase state, with COHERENT and TIMEBASE_HOLDOVER as R44 and R45 give them. -/
def setTb (s : Dev) (n : Nat) (coh : Bool) : Dev :=
  let s := wrF s TB_STATUS 2 3 n
  let s := wrB s TB_STATUS 1 coh
  let hold := if n = 2 then false else if n = 0 then !srcIsFree s else true
  let s := wrB s TB_STATUS 0 hold
  if hold then s
  else clearCond (clearCond s 0 Ev.TB_HOLDOVER devScope 0x7F) 0 Ev.TB_FREE devScope 0x7F

/-- Re-enter as from reset, without moving the angle, with the source that TB_CTRL names (R42). -/
def tbReenter (s : Dev) : Dev :=
  let s := { s with tb := { s.tb with src := rdF s TB_CTRL 0 2, dev := 0, offset := parI s 0x1004, qual := 0, bad := 0, holdTimer := false, fnomDue := false, frozen := none, freqHist := [] } }
  let s := wrB (wrB s TB_STATUS 5 false) TB_STATUS 9 false
  let s := wrN s TB_FREQ (fNom s)
  setTb s (if srcIsFree s then 0 else 1) false

/-- The reference is valid at this evaluation (chapter 02, "Locking, holdover and free running"). `pos` in 0.01 %. -/
def refValid (s : Dev) (freq pos : Nat) (rot : Bool) : Bool :=
  let src := tbSource s
  decide (src < 2) && decide (45000000 ≤ freq) && decide (freq ≤ 66000000) && !rot &&
  (if src = 0 then decide (pos ≥ par s 0x1007 * 100)
   else s.cl.refAngle.isSome && s.cl.refCoh && decide (2 * cycSince s s.cl.refAt + rdN s TB_ANGLE / 2 ^ 31 ≤ 6))
/-- It is qualifying. A CLUSTER reference has no amplitude of its own, so lock.amp_pct is asked of MAINS alone (Log 103). -/
def refQual (s : Dev) (valid : Bool) (pos : Nat) (e : Int) : Bool :=
  valid && (tbSource s != 0 || decide (pos ≥ par s 0x1006 * 100)) && !beyondDeg e 1

/-- The average of a list of frequencies. -/
def meanNat (l : List Nat) (d : Nat) : Nat := if l.isEmpty then d else l.foldl (· + ·) 0 / l.length

/-- R37: reversed rotation at 2 consecutive evaluations, in THREE. -/
def rotationEval (s : Dev) (pos neg : Nat) : Dev :=
  let n := if !rdB s TB_CTRL 3 && decide (neg > pos) then s.tb.rot + 1 else 0
  let s := { s with tb := { s.tb with rot := n } }
  let on := decide (n ≥ 2)
  track (wrB s TB_STATUS 10 on) on 0 Ev.TB_ROTATION 0 devScope 0x7F

/-- The rate deviation that removes a phase error over half a cycle, in the shorter direction, within timebase.slew_ppm; a positive
error is an angle behind its reference (R42, R46, Log 103). -/
def steerPpm (s : Dev) (e : Int) : Int :=
  let m : Int := (min (par s 0x1009) (e.natAbs * 10 ^ 6 / 2 ^ 31) : Nat)
  if e < 0 then -m else m

/-- What is left of a change of timebase.angle_offset_mdeg, m°, in the shorter direction. -/
def offsetLeft (s : Dev) : Int := (parI s 0x1004 - s.tb.offset + 540000) % 360000 - 180000
/-- A change of the offset is followed by slewing over half a cycle. In FREE and ACQUIRING it acts on the phase error at once, which the
timebase removes by steering once it has a reference (R42, R46, R50). -/
def offsetSlew (s : Dev) : Dev :=
  if rdF s TB_STATUS 2 3 < 2 then { s with tb := { s.tb with offset := parI s 0x1004 } }
  else
    let m : Int := (par s 0x1009 * 9 / 50 : Nat)
    let d := max (-m) (min m (offsetLeft s))
    if d = 0 then s
    else wrB { s with tb := { s.tb with offset := (s.tb.offset + d + 540000) % 360000 - 180000, dev := s.tb.dev - d * 50 / 9 } } TB_STATUS 9 true

/-- The frequency held on leaving LOCKED: the mean of those run at over the 10 cycles, 20 evaluations, before the first of the two failing
evaluations (R42, Log 104). -/
def heldFreq (s : Dev) : Nat := meanNat ((s.tb.freqHist.drop 2).take 20) (freqNow s)

/-- The state's transition at an evaluation (R42). EV_TB_LOCK, EV_TB_HOLDOVER, EV_TB_FREE and EV_TB_ROTATION carry argument 0: the
spec defines none (Log 105). -/
def tbTransition (s : Dev) (valid qual fail : Bool) (e : Int) : Dev :=
  match tbState s with
  | .free => if !srcIsFree s && valid then setTb { s with tb := { s.tb with qual := b2n qual } } 1 false else s
  | .acquiring =>
    let q := if qual then s.tb.qual + 1 else 0
    let steer := valid && beyondDeg e 1
    let s := wrB { s with tb := { s.tb with qual := q, dev := if steer then steerPpm s e else 0 } } TB_STATUS 9 steer
    if q ≥ 20 then post (setTb (wrB { s with tb := { s.tb with qual := 0, bad := 0 } } TB_STATUS 9 false) 2 true) 0 Ev.TB_LOCK 0 else s
  | .locked =>
    let b := if fail then s.tb.bad + 1 else 0
    let s := { s with tb := { s.tb with bad := b } }
    if b ≥ 2 then
      let held := heldFreq s
      let s := { s with tb := { s.tb with bad := 0, qual := 0, held := some held, holdTimer := true, holdFor := if rdB s THM_STATUS 0 then min 1 (par s 0x100A) else par s 0x100A } }
      let s := wrN (wrB s TB_STATUS 6 true) TB_FREQ held
      raise (setTb s 3 true) 0 Ev.TB_HOLDOVER 0 devScope
    else s
  | .holdover =>
    let q := if qual then s.tb.qual + 1 else 0
    let s := { s with tb := { s.tb with qual := q } }
    if q ≥ 20 then post (setTb { s with tb := { s.tb with qual := 0, bad := 0, holdTimer := false } } 2 true) 0 Ev.TB_LOCK 0
    else if valid && beyondDeg e 1 then setTb { s with tb := { s.tb with qual := 0, holdTimer := false } } 1 false
    else s

/-- The evaluation at 0° or 180°: the detector's frequency (µHz), phase error (phase units, signed, against the offset that acts) and
positive- and negative-sequence amplitudes (0.01 % of nominal) (R41, R42). With source CLUSTER the frequency and the error are those
of the last SYNC (R47). -/
def timebaseEvaluation (half : Bool) (freq : Nat) (e : Int) (pos neg : Nat) (s : Dev) : Dev :=
  if !s.tb.running then s
  else
    let (freq, e) := if tbSource s = 1 then (s.cl.refFreq, s.cl.refErr) else (freq, e)
    let s := wrN s TB_ANGLE (if half then 0x80000000 else 0)
    let s := wr (wr s TB_PERR (ws32 e)) TB_AMPL (w32 (pos % 65536 + neg % 65536 * 65536))
    let s := rotationEval s pos neg
    let valid := refValid s freq pos (rdB s TB_STATUS 10)
    let qual := refQual s valid pos e
    let fail := !valid || beyondDeg e 15
    let st := tbState s
    -- in ACQUIRING a valid reference is steered to from any distance (R42, R46), which coasting would never reach (Log 103)
    let coast := (if st == .acquiring then !valid else fail) && !(st == .free)
    let s := wrB { s with tb := { s.tb with dev := 0 } } TB_STATUS 5 coast
    let s := if !coast && !(st == .free) then { wrN s TB_FREQ freq with tb := { s.tb with frozen := some freq } } else s
    let s := if coast && st == .holdover then wrN s TB_FREQ (s.tb.held.getD (fNom s))
             else if coast then wrN s TB_FREQ (s.tb.frozen.getD (fNom s)) else s
    let s := { s with tb := { s.tb with freqHist := (freqNow s :: s.tb.freqHist).take 22 } }
    let s := tbTransition s valid qual fail e
    offsetSlew (if st == .acquiring then s else wrB s TB_STATUS 9 false)

/-- The holdover timer reaches timebase.holdover_s (R42). -/
def holdoverTimerExpiry (s : Dev) : Dev :=
  if tbState s == .holdover && s.tb.holdTimer then
    let s := wrB { s with tb := { s.tb with holdTimer := false, fnomDue := true, qual := 0 } } TB_STATUS 5 false
    raise (setTb s 0 false) 0 Ev.TB_FREE 0 devScope
  else s

/-- Every read of TB_ANGLE latches the cycle count (R40). -/
def latchCycle (s : Dev) : Dev := wrN (wrN s TB_CYC_LAT_LO (s.tb.cyc % 2 ^ 32)) TB_CYC_LAT_HI (s.tb.cyc / 2 ^ 32)

/-- A read of TB_ANGLE at angle `a` (R40). -/
def angleTake (a : U32) (s : Dev) : Dev :=
  let s := latchCycle (wr s TB_ANGLE a)
  { s with readVal := a }
/-- Row TB_ANGLE_READ: the same by a pair, which enters the value in its input log (R335). Which pair reads is not the row's to say: a free value
(Log 120). -/
def tbAngleRead (a : U32) (s : Dev) : Dev :=
  let (p, s) := takeNat s 4
  logFree (angleTake a s) p a

/-! ## Angle 0 (R38, R39, R48, R49) -/

/-- Apply a signed step to the cycle count (R48). -/
def cycleStep (s : Dev) (d : Int) : Dev :=
  let v := (s.tb.cyc : Int) + d
  let s := { s with tb := { s.tb with cyc := (v % 2 ^ 48).toNat } }
  let s := wrB s TB_STATUS 7 true
  let s := if v < 0 ∨ v ≥ 2 ^ 48 then wrB s TB_STATUS 8 true else s
  post s 0 Ev.CYCLE_STEP (d % 2 ^ 64).toNat

/-- The count, the PHASE_OUT pulse, the capture of the TSC and the rate at angle 0 (R39, R49). -/
def tbWrap (s : Dev) (tsc : U32) : Dev :=
  let c := s.tb.cyc + 1
  let s := { s with tb := { s.tb with cyc := c % 2 ^ 48, angleLo := 0, pulses := s.tb.pulses + 1 } }
  let s := if c = 2 ^ 48 then wrB s TB_STATUS 8 true else s
  let s := wrN s TB_LOCAL_CYC ((localCyc s + 1) % 2 ^ 32)
  let s := wr (wr s TB_TSC_PER (tsc - rd s TB_TSC_CAP)) TB_TSC_CAP tsc
  let s := wr s CAN_TSC tsc
  let s := wrN s TB_ANGLE 0
  if s.tb.fnomDue then wrN { s with tb := { s.tb with fnomDue := false, dev := 0 } } TB_FREQ (fNom s) else s

/-! ## The piste (R53 to R65) -/

/-- One entry of a default piste: class, pair, start and deadline in degrees, divider, action, argument. -/
def gateWords (cls pair st dl dv act arg : Nat) : List U32 :=
  [w32 (degAngle st), w32 (degAngle dl), w32 (2 ^ 31 + cls * 2 ^ 28 + pair * 2 ^ 26 + dv * 2 ^ 23 + act), w32 arg]
/-- The safety scans at k × 45°, k = 0 to 7. -/
def scanWords : List U32 := (List.range 8).flatMap (fun k => gateWords 0 0 (k * 45) (k * 45 + 40) 0 0x8002 0)
/-- Entries 4 to 8 of the SINGLE piste. -/
def tailWords : List U32 :=
  gateWords 2 1 252 315 0 0x4001 0 ++ gateWords 2 1 315 351 0 0x4002 0 ++ gateWords 3 2 315 333 0 0x5001 0 ++
  gateWords 3 0 315 333 0 0x8001 0 ++ gateWords 3 3 333 351 0 0x5002 0
/-- The default SINGLE piste (R60). -/
def defSingle : List U32 :=
  gateWords 1 1 0 1 0 0x0001 0 ++ gateWords 1 1 180 252 0 0x3001 0 ++ gateWords 1 1 180 252 4 0x3002 0 ++
  gateWords 4 1 181 357 0 0x3003 0 ++ tailWords ++ scanWords
/-- The default DENSE piste (R61). -/
def defDense : List U32 :=
  gateWords 1 1 0 1 0 0x0001 0 ++ gateWords 1 1 0 72 0 0x3001 1 ++ gateWords 2 1 72 135 0 0x4001 1 ++
  gateWords 2 1 135 171 0 0x4002 1 ++ gateWords 3 2 135 153 0 0x5001 1 ++ gateWords 3 0 135 153 0 0x8001 1 ++
  gateWords 3 3 153 171 0 0x5002 1 ++ gateWords 1 1 180 181 0 0x0001 1 ++ gateWords 1 1 180 252 0 0x3001 0 ++
  gateWords 1 1 180 252 4 0x3002 0 ++ tailWords ++ scanWords
/-- Word i of a default piste. -/
def defPiste (dense : Bool) (i : Nat) : U32 := (if dense then defDense else defSingle).getD i 0
/-- Word i of a committed piste (R65). -/
def pisteWord (s : Dev) (dense : Bool) (i : Nat) : U32 :=
  Tbl.get (defPiste dense i) (if dense then s.piste.dense else s.piste.single) i

/-- The published bank, and a word of a bank's entry. -/
def pubBank (s : Dev) : Nat := rdF s PISTE_CTRL 0 1
def bankWord (s : Dev) (b i w : Nat) : U32 := rd s (PISTE_BANK + b * 0x1000 + i * 16 + w * 4)
/-- Fields of word 2 (R53). -/
def gateEn (w : U32) : Bool := bitOf w 31
def gateClass (w : U32) : Nat := fld w 28 3
def gatePair (w : U32) : Nat := fld w 26 2
def gateDiv (w : U32) : Nat := fld w 23 3
def gatePhase (w : U32) : Nat := fld w 16 4
def gateAction (w : U32) : Nat := fld w 0 16

/-- An enabled entry is invalid (R54). -/
def gateBad (w0 w1 w2 : U32) : Bool :=
  w0 == w1 || decide (gateClass w2 > 4) || decide (gateDiv w2 > 4) || decide (gatePhase w2 ≥ 2 ^ gateDiv w2) ||
  fld w2 20 3 != 0 || gateAction w2 == 0 || (decide (2 ≤ gateAction w2) && decide (gateAction w2 ≤ 0xFF)) ||
  (gateClass w2 == 0 && gatePair w2 != 0) || (gateAction w2 == 1 && gateClass w2 != 1)
/-- The first invalid enabled entry of words given by a function. -/
def firstBad (f : Nat → U32) : Option Nat :=
  (List.range 256).find? (fun i => gateEn (f (i * 4 + 2)) && gateBad (f (i * 4)) (f (i * 4 + 1)) (f (i * 4 + 2)))

/-- The gates that the staging bank's publication changes: entries that differ. -/
def changedGates (s : Dev) : List Nat :=
  (List.range 256).filter (fun i => (List.range 4).any (fun w => bankWord s 0 i w != bankWord s 1 i w))
/-- A gate whose entry is replaced is another gate from then on: its run of misses and its escalation end with it (R59, Log 106); open
gates keep their deadlines (R63). -/
def retireGates (s : Dev) : Dev :=
  let l := changedGates s
  let s := { s with piste := { s.piste with open_ := s.piste.open_.map (fun g => { g with old := true }), misses := s.piste.misses.filter (fun e => !l.contains e.1) } }
  forL s l (fun s i => clearCond (clearCond s 1 Ev.ESTIMATE_OVERRUN i 0x7F) 2 Ev.PUBLISH_OVERRUN i 0x7F)

/-- Publication at angle 0: the staging bank is validated, and the banks exchange or it is rejected (R62). Answers whether it
was published. EV_PISTE_SWAP and EV_PISTE_REJECT carry argument 0: the spec defines none (Log 105). -/
def pisteSwap (s : Dev) : Bool × Dev :=
  let st := 1 - pubBank s
  let s := wrB s PISTE_CTRL 1 false
  match firstBad (fun j => bankWord s st (j / 4) (j % 4)) with
  | none => (true, post (wrF (wrF (retireGates s) PISTE_CTRL 0 1 st) PISTE_STATUS 16 16 (rdF s PISTE_CTRL 16 16)) 0 Ev.PISTE_SWAP 0)
  | some i => (false, note (wrB (wrF s PISTE_STATUS 8 8 i) PISTE_STATUS 1 true) 0 Ev.PISTE_REJECT 0)

/-- P0 copies a committed piste into the staging bank and requests its publication; its version tag
is the published one plus 1 (R65, R402). -/
def pisteStage (s : Dev) (dense : Bool) : Dev :=
  let b := 1 - pubBank s
  let s := forN s 1024 (fun s i => wr s (PISTE_BANK + b * 0x1000 + i * 4) (pisteWord s dense i))
  wrB (wrF s PISTE_CTRL 16 16 ((rdF s PISTE_STATUS 16 16 + 1) % 2 ^ 16)) PISTE_CTRL 1 true

/-- SWAP_REQ is written (R62). -/
def pisteSwapReq (s : Dev) : Dev := wrB s PISTE_CTRL 1 true

/-- The gate is open, and its PISTE_OPEN bit. -/
def isOpen (s : Dev) (i : Nat) : Bool := rdB s (PISTE_OPEN + i / 32 * 4) (i % 32)
def setOpen (s : Dev) (i : Nat) (b : Bool) : Dev := wrB s (PISTE_OPEN + i / 32 * 4) (i % 32) b
def openGate? (s : Dev) (i : Nat) : Option OpenGate := s.piste.open_.find? (fun g => g.idx == i)
/-- The open gate of index i whose deadline angle comes next: where a replaced bank's gate of the same index is still open too, each has its
own (R63). -/
def dueGate? (s : Dev) (i : Nat) : Option OpenGate :=
  let left := fun (g : OpenGate) => (g.deadline - rd s TB_ANGLE).toNat
  (s.piste.open_.filter (fun g => g.idx == i)).foldl (fun o g => match o with
    | some h => if left g < left h then some g else o
    | none => some g) none
/-- Take a gate out of the open gates. -/
def dropGate (s : Dev) (g : OpenGate) : Dev :=
  let l := s.piste.open_.erase g
  setOpen { s with piste := { s.piste with open_ := l } } g.idx (l.any (fun h => h.idx == g.idx))

/-- The published bank's gate i starts in this cycle: enabled, and selected by its divider (R53, R55). -/
def gateSelected (s : Dev) (i : Nat) : Bool :=
  let w := bankWord s (pubBank s) i 2
  s.tb.running && decide (i < 256) && gateEn w && localCyc s % 2 ^ gateDiv w == gatePhase w

/-- The pair takes the start event of gate i from its FIFO. -/
def takeStart (s : Dev) (p i : Nat) : Dev :=
  { s with piste := { s.piste with fifo := Tbl.set [] s.piste.fifo p ((Tbl.get [] s.piste.fifo p).filter (fun e => e.idx != i)) } }

/-- An open gate completes: its run of misses ends, and so does its escalation (R57, R59). Where a replaced bank's gate of the same index is
open too, a completion is the older one's (Log 106). -/
def gateComplete (s : Dev) (i : Nat) : Dev :=
  let s := match openGate? s i with
    | some g => dropGate s g
    | none => s
  let s := { s with piste := { s.piste with misses := Tbl.set 0 s.piste.misses i 0 } }
  clearCond (clearCond s 1 Ev.ESTIMATE_OVERRUN i 0x7F) 2 Ev.PUBLISH_OVERRUN i 0x7F

/-- The gate-miss event of a class (R58). -/
def missEvent (c : Nat) : Nat :=
  if c = 0 then Ev.GATE_MISS_SAFETY else if c = 1 then Ev.GATE_MISS_MEASURE else if c = 2 then Ev.GATE_MISS_ESTIMATE
  else if c = 3 then Ev.GATE_MISS_PUBLISH else Ev.GATE_MISS_HOUSEKEEP

/-- Gate g is not complete at its deadline: a miss; a run of misses is one in consecutive cycles (R58, R59). -/
def gateMiss (s : Dev) (g : OpenGate) : Dev :=
  let s := countEv (dropGate s g) 0x7B 2 1
  let c := gateClass g.w2
  let p := gatePair g.w2
  let run := decide (Tbl.get 0 s.piste.missAt g.idx = (g.local_ + 0xFFFFFFFF) % 0x100000000)
  let n := if run then Tbl.get 0 s.piste.misses g.idx + 1 else 1
  let s := { s with piste := { s.piste with misses := Tbl.set 0 s.piste.misses g.idx n, missAt := Tbl.set 0 s.piste.missAt g.idx g.local_ } }
  let arg := fun (k : Nat) => g.idx + k * 0x100 + gateAction g.w2 * 0x10000 + g.arg.toNat * 2 ^ 32
  if c = 0 then safeP0 (raise s p Ev.GATE_MISS_SAFETY (arg 0) devScope) Ev.GATE_MISS_SAFETY
  else
    let s := note s p (missEvent c) (arg 0)
    if c = 2 ∧ n ≥ 3 then raise s p Ev.ESTIMATE_OVERRUN (arg (min n 255)) g.idx
    else if c = 3 ∧ n ≥ 5 then raise s p Ev.PUBLISH_OVERRUN (arg (min n 255)) g.idx
    else s

/-- The gate opens, and its start event goes to the tail of its pair's FIFO, in place of an unread one (R55, R56, Log 106). A gate that is
still open when it starts again is a miss (R56); one that a replaced bank started keeps its deadline (R63). -/
def openGate (s : Dev) (i : Nat) : Dev :=
  let b := pubBank s
  let w2 := bankWord s b i 2
  let arg := bankWord s b i 3
  let s := match s.piste.open_.find? (fun g => g.idx == i && !g.old) with
    | some g => gateMiss s g
    | none => s
  let g : OpenGate := { idx := i, deadline := bankWord s b i 1, w2 := w2, arg := arg, cyc := s.tb.cyc, local_ := localCyc s }
  let s := wr s TB_ANGLE (bankWord s b i 0)
  let p := gatePair w2
  let q := (Tbl.get [] s.piste.fifo p).filter (fun e => e.idx != i)
  let s := if gateAction w2 = 1 then s
           else { s with piste := { s.piste with fifo := Tbl.set [] s.piste.fifo p ((q ++ [({ idx := i, arg := arg, cyc := s.tb.cyc } : StartEvent)]).take 256) } }
  setOpen { s with piste := { s.piste with open_ := s.piste.open_ ++ [g] } } i true

/-! ## Host opcodes (13 R400 to R402) -/

/-- TIMEBASE_GET; its read of TB_ANGLE latches the cycle count (R400, R40, 14 R450). -/
def timebaseGetBody (c : HostCmd) (s : Dev) : Dev :=
  let s := latchCycle s
  finish s OP_TIMEBASE_GET c ST_OK
    [rd s TB_STATUS, rd s TB_ANGLE, w32 s.tb.cyc, w32 (s.tb.cyc / 2 ^ 32), rd s TB_FREQ, rd s TB_PERR, rd s TB_AMPL, rd s TB_LOCAL_CYC, rd s PISTE_STATUS]
def timebaseGet (c : HostCmd) (s : Dev) : Dev := serve s OP_TIMEBASE_GET c (timebaseGetBody c)

/-- The device is its cluster's reference sender, or stands alone (R401). -/
def isReference (s : Dev) : Bool := !parB s 0xB001 || s.cl.head == some (par s 0xB003)

/-- TIMEBASE_ALIGN: the step is applied, and answered, at the next angle 0 (R401). -/
def timebaseAlignBody (c : HostCmd) (s : Dev) : Dev :=
  if c.payload.length ≠ 2 then answer s OP_TIMEBASE_ALIGN c ST_LENGTH
  else
    let v : Nat := pwN c 0 + pwN c 1 * 2 ^ 32
    let d : Int := if v < 2 ^ 63 then (v : Int) else (v : Int) - 2 ^ 64
    if d.natAbs > 2 ^ 47 - 1 then answer s OP_TIMEBASE_ALIGN c ST_BAD_PARAM
    else if !isReference s then answer s OP_TIMEBASE_ALIGN c ST_CONFLICT
    else if s.tb.alignDue.isSome then answer s OP_TIMEBASE_ALIGN c ST_BUSY
    else if d = 0 then finish s OP_TIMEBASE_ALIGN c ST_OK [w32 s.tb.cyc, w32 (s.tb.cyc / 2 ^ 32)]
    else { s with tb := { s.tb with alignDue := some d }, host := { s.host with align := some c } }
def timebaseAlign (c : HostCmd) (s : Dev) : Dev := serve s OP_TIMEBASE_ALIGN c (timebaseAlignBody c)

/-- The steps that fall due at angle 0: the cluster's, then the host's, whose command is answered (R48, R401). -/
def stepsDue (s : Dev) : Dev :=
  let s := match s.tb.step with
    | some d => cycleStep { s with tb := { s.tb with step := none } } d
    | none => s
  match s.tb.alignDue with
  | none => s
  | some d =>
    let s := cycleStep { s with tb := { s.tb with alignDue := none } } d
    match s.host.align with
    | some c => finish { s with host := { s.host with align := none } } OP_TIMEBASE_ALIGN c ST_OK [w32 s.tb.cyc, w32 (s.tb.cyc / 2 ^ 32)]
    | none => s

/-- PISTE_READ (R400). -/
def pisteReadBody (c : HostCmd) (s : Dev) : Dev :=
  if c.payload.length ≠ 2 then answer s OP_PISTE_READ c ST_LENGTH
  else if pwN c 1 > 3 then answer s OP_PISTE_READ c ST_BAD_PARAM
  else
    match rangeStatus (rangeFirst c 0) (rangeCount c 0) 256 0 4 with
    | some st => answer s OP_PISTE_READ c st
    | none =>
      let word := fun (i w : Nat) =>
        if pwN c 1 = 0 then bankWord s (pubBank s) i w
        else if pwN c 1 = 1 then bankWord s (1 - pubBank s) i w
        else pisteWord s (pwN c 1 == 3) (i * 4 + w)
      finish s OP_PISTE_READ c ST_OK ((List.range (rangeCount c 0)).flatMap (fun i => (List.range 4).map (word (rangeFirst c 0 + i))))
def pisteRead (c : HostCmd) (s : Dev) : Dev := serve s OP_PISTE_READ c (pisteReadBody c)

end Sys2Proof.Machine
end

