-- ==== Sys2Proof/Machine/CrossRules.lean ====
section
/-!
DEFINITION. Sys2Proof/Machine/CrossRules.lean: the cross-rules a commit judges (spec R51, R54, R111, R119, R142, R148, R183, R234,
R262, R295, R296, R329, R361, R385, R402, R404, R453, R484, R510, R542). Each gives the parameter ID a failure names: the first
parameter its text names, but where the text names another.
-/
namespace Sys2Proof.Machine

/-- The first failing rule of a list, as its parameter ID. -/
def firstFail (l : List (Bool × Nat)) : Option Nat := (l.find? (fun e => e.1)).map (fun e => e.2)

/-- A current threshold, A, on a channel of a scale, mA per mV, lies outside 2 to 148 mV at the pin, once it is rounded down to a
DAC step of 150/1,024 mV (R142). -/
def pinBad (a scale : Nat) : Bool :=
  let st := a * 1000 * 1024 / (scale * 150)
  decide (scale = 0) || decide (st * 150 < 2048) || decide (st * 150 > 148 * 1024)

/-- R51, R111, R148, R142. `v` gives the value that would result by parameter ID. -/
def crossBasic (v : Nat → Nat) : List (Bool × Nat) :=
  [(decide (v 0x1007 ≥ v 0x1006), 0x1007), (decide (v 0x2003 < v 0x700B + 400), 0x2003), (decide (v 0x3002 < v 0x3003 + 5000), 0x3002)] ++
  (List.range 16).flatMap (fun n =>
    let dis := v (0x3110 + n)
    let chg := v (0x3120 + n)
    let sc := v (0x3100 + n)
    [(v (0x3130 + n) != 0 && dis == 0 && chg == 0, 0x3130 + n), (dis != 0 && pinBad dis sc, 0x3110 + n), (chg != 0 && pinBad chg sc, 0x3120 + n)])

/-- R183: the noise bound, and the table sets the transaction stages. -/
def crossEst (s : Dev) (v : Nat → Nat) (staged : Nat → Bool) : List (Bool × Nat) :=
  (decide (v 0x4011 > v 0x4001), 0x4011) ::
    (List.range 128).map (fun x => (staged (0x4100 + x) && setBad s (v (0x4100 + x)), 0x4100 + x))

/-- R234. -/
def crossLim (v : Nat → Nat) : List (Bool × Nat) :=
  [(decide (v 0x5001 + 200 > v 0x3002), 0x5001), (decide (v 0x5002 < v 0x3003 + 200), 0x5002), (decide (v 0x5001 < v 0x5002 + 3000), 0x5001),
   (decide (v 0x5004 < v 0x5003), 0x5004), (decide (v 0x5081 = v 0x5082), 0x5081), (decide (v 0x5083 > 0x7F0) && v 0x5084 == 0, 0x5083),
   (decide (v 0x5087 ≥ v 0x5012), 0x5087), (decide (v 0x5087 ≥ v 0x5086), 0x5087)]

/-- Enabled steps of a derating table, of indices 0 to 3 (R244). -/
def enSteps (v : Nat → Nat) (base off : Nat) : List Nat := (List.range 4).filter (fun k => v (base + k) != off)
/-- R262. -/
def crossThermal (v : Nat → Nat) : List (Bool × Nat) :=
  let vi := fun id => Params.toS32 (v id)
  let hi := enSteps v 0x6010 0x7FFF
  let lo := enSteps v 0x6020 0xFFFF8000
  let asc := hi.map (fun k => (hi.any (fun j => decide (j < k) && decide (vi (0x6010 + j) ≥ vi (0x6010 + k))), 0x6010 + k))
  let desc := lo.map (fun k => (lo.any (fun j => decide (j < k) && decide (vi (0x6020 + j) ≤ vi (0x6020 + k))), 0x6020 + k))
  let fac := fun (base : Nat) (l : List Nat) => l.flatMap (fun k =>
    if k = 0 then [] else [(decide (v (base + 4 + k) > v (base + 3 + k)), base + 4 + k), (decide (v (base + 8 + k) > v (base + 7 + k)), base + 8 + k)])
  asc ++ desc ++ fac 0x6010 hi ++ fac 0x6020 lo ++ hi.map (fun k => (decide (vi (0x6010 + k) ≥ vi 0x6001 - vi 0x6002), 0x6010 + k)) ++
    (match hi.head?, lo.head? with
      | some a, some b => [(decide (vi (0x6010 + a) ≤ vi (0x6020 + b)), 0x6010 + a)]
      | _, _ => [])

/-- R295 and R296. -/
def crossString (v : Nat → Nat) : List (Bool × Nat) :=
  [(decide (v 0x700C ≥ v 0x7009), 0x700C), (decide (v 0x7006 > v 0x5003), 0x7006)] ++
  (List.range 128).flatMap (fun x =>
    let ov := v (0x7400 + x)
    let uv := v (0x7480 + x)
    [(ov != 0 && (decide (ov > v 0x3002) || decide (ov < v 0x8009 + 100)), 0x7400 + x),
     (uv != 0 && (decide (uv < v 0x3003) || decide (uv + 100 > v 0x800A)), 0x7480 + x)])

/-- A parameter of input n would change (R329). -/
def sinChange (v old : Nat → Nat) (n : Nat) : Bool := (List.range 8).any (fun j => v (0x8100 + 16 * j + n) != old (0x8100 + 16 * j + n))
/-- R329. -/
def crossSafety (s : Dev) (v old : Nat → Nat) : List (Bool × Nat) :=
  [(decide (v 0x8006 * 10000 < (v 0x5004 + v 0x5088) * 10000 + v 0x5004 * v 0x5089), 0x8006), (decide (v 0x8008 < v 0x5087), 0x8008),
   (decide (v 0x8009 < v 0x5001) || decide (v 0x8009 + 100 > v 0x3002), 0x8009), (decide (v 0x800A > v 0x5002) || decide (v 0x800A < v 0x3003 + 100), 0x800A)] ++
  (List.range 16).flatMap (fun n =>
    let f := v (0x8100 + n)
    let a := v (0x8130 + n)
    let b := v (0x8140 + n)
    [(f != 0 && v (0x8110 + n) == 0 && (a == 0 || b == 0 || a == b), 0x8130 + n),
     ((f == 1 || f == 2 || f == 4 || f == 5) && v (0x8170 + n) == 0, 0x8170 + n)]) ++
  [(v 0x800D != 0xFF && v (0x3100 + v 0x800D) == 0, 0x800D)] ++
  (List.range 16).map (fun n => (sinChange v old n && (rdB s SAF_SIN_DEMAND n || rdB s SAF_SIN_LATCH n || rdB s SAF_SIN_LATCH (16 + n)), 0x8100 + n))

/-- R453, but for its parameters "in STANDBY only". -/
def crossCluster (v : Nat → Nat) : List (Bool × Nat) :=
  let i := v 0xB003
  [(v 0xB006 == 1 && v 0x1001 == 1, 0xB006), (!(if i < 32 then nbit (v 0xB004) i else nbit (v 0xB005) (i - 32)), if i < 32 then 0xB004 else 0xB005),
   (v 0x5080 == 1 && v 0xB001 == 0, 0x5080), (v 0x1001 == 1 && v 0xB001 == 0, 0x1001)]

/-- A bit in CLK_CAN clock cycles, nominal and data (R457, R482). -/
def nbtLen (w : U32) : Nat := (fld w 23 9 + 1) * (fld w 14 9 + 1)
def dbtLen (w : U32) : Nat := (fld w 27 5 + 1) * (fld w 21 6 + 1)
/-- The nominal phase lies outside R457. -/
def nbtBad (w : U32) : Bool :=
  let t1 : Int := (fld w 14 9 : Int) - (fld w 7 7 + 1 : Nat)
  decide (t1 < 2) || decide (t1 > 256) || decide (fld w 0 7 > fld w 7 7) || decide (nbtLen w < 80) || decide (nbtLen w > 8000)
/-- The data phase lies outside R457; `nl` is the nominal bit. -/
def dbtBad (w : U32) (nl : Nat) : Bool :=
  let t1 : Int := (fld w 21 6 : Int) - (fld w 17 4 + 1 : Nat)
  decide (t1 < 1) || decide (t1 > 32) || decide (fld w 13 4 > fld w 17 4) || decide (dbtLen w < 10) || decide (dbtLen w > nl)
/-- R484, for controller n. -/
def crossCan (v : Nat → Nat) (n : Nat) : List (Bool × Nat) :=
  let b := 0xC000 + n * 0x100
  let nbt := w32 (v (b + 2))
  let dbt := w32 (v (b + 3))
  let ssp := w32 (v (b + 4))
  let pcs := v 0x5081 == n || v 0x5082 == n
  (if v b == 0 then []
   else [(nbtBad nbt, b + 2), (dbtBad dbt (nbtLen nbt), b + 3),
     ((v (b + 1) == 2 && decide (dbtLen dbt < 80) && !bitOf ssp 31) || (bitOf ssp 31 && decide (fld dbt 27 5 > 1)), b + 4)] ++
     (List.range 16).flatMap (fun k =>
       let w0 := w32 (v (b + 0x10 + k))
       let w1 := w32 (v (b + 0x20 + k))
       let used := fld w0 29 2 != 0
       [(used && ((fld w0 29 2 == 2 && decide (fld w0 0 29 > fld w1 0 29)) || (!bitOf w0 31 && (fld w0 11 18 != 0 || fld w1 11 18 != 0))), b + 0x10 + k),
        (used && bitOf w1 29, b + 0x20 + k)])) ++
  [(pcs && (v b == 0 || v (b + 1) != 2 || v (b + 6) != 0), if v 0x5081 = n then 0x5081 else 0x5082)]

/-- The events a unit has (R487). -/
def unitEvents (u : Nat) : List Nat :=
  if u < 9 then [1, 2, 3, 4, 5, 6, 7]
  else if 0x10 ≤ u ∧ u < 0x14 then [1, 2, 3, 4, 5]
  else if u = 0x20 then [1, 2, 3, 4, 5, 0x10]
  else if 0x30 ≤ u ∧ u < 0x40 then [1, 2, 3, 4, 0x10]
  else if 0x40 ≤ u ∧ u < 0x48 then [1, 2, 3, 0x10]
  else if 0x50 ≤ u ∧ u < 0x78 then [1, 2, 3, 4, 0x10]
  else if u = 0x78 ∨ u = 0x79 then [1, 2, 3, 0x10]
  else if u = 0x7A then [1, 0x10]
  else if u = 0x7B ∨ u = 0x7C then [1, 2]
  else []
/-- R510 and R542. -/
def crossRest (v : Nat → Nat) : List (Bool × Nat) :=
  (decide (v 0xD004 + v 0xD005 > 2048), 0xD004) ::
  (List.range 2048).map (fun n =>
    let w := v (0xD100 + n)
    (w != 0 && !(unitEvents (w / 256)).contains (w % 256) && !(w % 256 == 0 && !(unitEvents (w / 256)).isEmpty), 0xD100 + n)) ++
  (List.range 16).map (fun k => (v (0xD020 + k) != 0xFF && !(unitEvents (v (0xD020 + k))).contains 0x10, 0xD020 + k)) ++
  [(v 0xE004 != 0 && pinBad (v 0xE004) (v (0x3100 + v 0xE003)), 0xE004)]

/-- Every parameter ID of the catalogue, ascending (R363). -/
def allIds : List Nat :=
  let ids := fun (l : List Params.ParamRow) => l.flatMap (fun r => (List.range r.count).map (r.first + ·))
  let sys := ids Params.rowsSystem
  ids (Params.rowsTimebase ++ Params.rowsRing ++ Params.rowsAcq ++ Params.rowsEst ++ Params.rowsChg ++ Params.rowsLim ++ Params.rowsThermal ++
    Params.rowsString ++ Params.rowsSafety) ++ sys.filter (· < 0xC000) ++ (List.range 8).flatMap (fun n => ids (Params.rowsCan n)) ++ sys.filter (· ≥ 0xC000)

/-- A parameter marked "in STANDBY only" would change in another state (R295, R361, R453). -/
def crossStandby (s : Dev) (v old : Nat → Nat) (ids : List Nat) : List (Bool × Nat) :=
  ids.map (fun id => (s.dev != .standby && v id != old id && (match Params.paramRow id with | some r => r.standby | none => false), id))

/-- The first failing parameter ID, over every chapter's rules in their order; `ids` are the parameters staged (R385). -/
def crossFail (s : Dev) (v old : Nat → Nat) (ids : List Nat) : Option Nat :=
  firstFail (crossBasic v ++ crossEst s v (fun i => ids.contains i) ++ crossLim v ++ crossThermal v ++ crossString v ++ crossSafety s v old ++
    crossStandby s v old ids ++ crossCluster v ++ (List.range 8).flatMap (crossCan v) ++ crossRest v)

/-! ## Unit-map entries (R119, R404) -/

/-- The ACQ_UMAP index that word 2 of an entry names; none where it names no place. -/
def entryIdx (w2 : U32) : Option Nat :=
  if fld w2 17 15 ≠ 0 ∨ fld w2 15 1 ≠ 0 ∨ fld w2 5 3 ≠ 0 ∨ fld w2 8 7 = 0 then none
  else some (umapIdx (fld w2 0 5) (fld w2 8 7) (fld w2 16 1))
/-- The words of a valid entry break R119 or name a range beyond its table. -/
def entryBad (w0 w1 : U32) : Bool :=
  let n := fld w0 16 5
  let nt := fld w1 28 4
  fld w0 21 2 != 0 || fld w1 15 1 != 0 || decide (nt > 8) || decide (fld w1 0 15 + nt > 32768) ||
  (if bitOf w0 30 then n != 0 else decide (n = 0) || decide (n > 16) || decide (fld w0 0 16 + n > 65536))
/-- Two valid entries share a cell or a temperature input (R404). -/
def entryClash (a b : U32 × U32) : Bool :=
  let meet := fun (f n g m : Nat) => decide (n ≠ 0) && decide (m ≠ 0) && decide (f < g + m) && decide (g < f + n)
  (!bitOf a.1 30 && !bitOf b.1 30 && meet (fld a.1 0 16) (fld a.1 16 5) (fld b.1 0 16) (fld b.1 16 5)) ||
    meet (fld a.2 0 15) (fld a.2 28 4) (fld b.2 0 15) (fld b.2 28 4)
/-- The map that would result: staged entries over the map in force, valid ones alone. -/
def nextMap (s : Dev) (l : List (Nat × List U32)) : List (Nat × U32 × U32) :=
  ((umapList s).filter (fun e => !(l.any (fun f => f.1 == e.1)))) ++
    (l.filter (fun f => bitOf (f.2.getD 0 0) 31)).map (fun f => (f.1, f.2.getD 0 0, f.2.getD 1 0))
/-- The first staged entry that breaks a rule of R404. -/
def umapFail (s : Dev) (l : List (Nat × List U32)) : Option Nat :=
  let m := nextMap s l
  (l.find? (fun f =>
    let w0 := f.2.getD 0 0
    let w1 := f.2.getD 1 0
    bitOf w0 31 && (entryBad w0 w1 || m.any (fun e => e.1 != f.1 && entryClash e.2 (w0, w1))))).map (fun f => f.1)

/-! ## Staged pistes (R54, R402) -/

/-- Word i of a piste with staged words over the committed ones. -/
def stagedWord (s : Dev) (l : List (Nat × Nat × U32)) (dense : Bool) (i : Nat) : U32 :=
  match l.find? (fun e => e.1 == b2n dense && e.2.1 == i) with
  | some e => e.2.2
  | none => pisteWord s dense i
/-- An entry has class SAFETY or MEASURE, enabled or not (R402). DESIGN CHOICE: an empty entry, whose control word is 0, has no class
(log 136). -/
def guarded (w2 : U32) : Bool := w2 != 0 && decide (gateClass w2 ≤ 1)
/-- Entries, of both pistes, that the staged words change; (piste, entry). -/
def changedEntries (s : Dev) (l : List (Nat × Nat × U32)) : List (Bool × Nat) :=
  [false, true].flatMap (fun d => ((List.range 256).filter (fun i =>
    l.any (fun e => e.1 == b2n d && e.2.1 / 4 == i) && (List.range 4).any (fun w => stagedWord s l d (4 * i + w) != pisteWord s d (4 * i + w)))).map (d, ·))
/-- The first staged piste entry that fails a commit: invalid under R54, or a SAFETY or MEASURE change outside STANDBY and
SERVICE (R402). -/
def pisteFail (s : Dev) (l : List (Nat × Nat × U32)) : Option Nat :=
  ((changedEntries s l).find? (fun e =>
    let w := stagedWord s l e.1
    (gateEn (w (4 * e.2 + 2)) && gateBad (w (4 * e.2)) (w (4 * e.2 + 1)) (w (4 * e.2 + 2))) ||
      (s.dev != .standby && s.dev != .service && (guarded (w (4 * e.2 + 2)) || guarded (pisteWord s e.1 (4 * e.2 + 2)))))).map (fun e => e.2)

end Sys2Proof.Machine
end

