-- ==== Sys2Proof/Machine/LogUnit.lean ====
section
/-!
DEFINITION. Sys2Proof/Machine/LogUnit.lean: the accession log (spec 16 R503 to R508) and LOG_READ (13 R423).
-/
namespace Sys2Proof.Machine

/-- Bytes of a record but for its CHK: 0x00 to 0x15 and 0x18 to 0x1F (R503). -/
def logHead (n : Nat) (r : Post) (lost : Bool) : List U8 :=
  leBytes 8 n ++ leBytes 6 r.cyc ++ leBytes 2 r.code ++ leBytes 4 r.angle ++
  leBytes 1 (b2n lost * 128 + (if lost then 0 else Ev.cls r.code)) ++ leBytes 1 (if lost then 0 else r.pair * 16 + r.sess)
/-- A record's 32 bytes (R503). -/
def logRecord (n : Nat) (r : Post) (lost : Bool) : List U8 :=
  let h := logHead n r lost
  let a := leBytes 8 r.arg
  h ++ leBytes 2 (crc16 (h ++ a)) ++ a
/-- A lost record: its SEQ, LOST set, all other fields 0, a valid CHK (R507). -/
def lostRecord (n : Nat) : List U8 :=
  logRecord n { code := 0, arg := 0, cyc := 0, angle := 0, sess := 0, pair := 0 } true

/-- The record bytes at `a` carry number n and a valid CHK (R507, R508). -/
def logValid (l : List U8) (n : Nat) : Bool :=
  leNat (l.take 8) == n && leNat ((l.drop 0x16).take 2) == crc16 (l.take 0x16 ++ l.drop 0x18)

/-- Codes that are never suppressed and never counted (R505). -/
def neverSuppressed (code : Nat) : Bool :=
  code == Ev.LOG_CLOSED || code == Ev.LOG_RESUME || code == Ev.LOG_SUPPRESSED

/-- P2 assigns the next number to a record and writes it to the SRAM log; the retained copy follows (R504, R506). -/
def assignRecord (s : Dev) (r : Post) : Dev :=
  let n := s.log.next
  let s := stBytes s (logSlot n) (logRecord n r false)
  let s := { s with log := { s.log with next := n + 1, dirty := s.log.dirty ++ [n],
                                         dirtyAt := if s.log.dirty.isEmpty then s.uptimeMs else s.log.dirtyAt } }
  let s := countEv s 0x7C 1 1
  queueNotice s n (Ev.cls r.code)

/-- P2 takes one post: suppressed beyond 4,096 in the second for classes F0 to F2 (R505). -/
def takePost (s : Dev) (r : Post) : Dev :=
  if neverSuppressed r.code then assignRecord s r
  else if s.log.taken ≥ 4096 ∧ Ev.cls r.code ≤ 2 then
    countEv { s with log := { s.log with supp := s.log.supp + 1,
                                          suppFst := if s.log.supp = 0 then r.code else s.log.suppFst } } 0x7C 2 1
  else assignRecord { s with log := { s.log with taken := s.log.taken + 1 } } r

/-- LOG_INTAKE: every post waiting, P0's first, then P1's, P2's and P3's, each in posting order (R504). While P2 is lost the log
records nothing (R349). -/
def logIntake (s : Dev) : Dev :=
  if !pairUp s 2 then s
  else
    let all := Tbl.get [] s.log.posts 0 ++ Tbl.get [] s.log.posts 1 ++ Tbl.get [] s.log.posts 2 ++ Tbl.get [] s.log.posts 3
    let s := { s with log := { s.log with posts := [] } }
    sendNotices (forL s all takePost)

/-- Write every record not yet durable to the retained log (R506). -/
def flushLog (s : Dev) : Dev :=
  let s' := forL s s.log.dirty (fun s n => stBytes s (logRet n) (Memory.bytes s.mem (logSlot n) 32))
  { s' with log := { s'.log with dirty := [] } }

/-- LOG_SECOND_BOUNDARY: a new second of local time begins; suppressed events are logged as one record (R505). The record
stands ahead of posts taken later, so P2 takes it at once. -/
def logSecondBoundary (s : Dev) : Dev :=
  if !pairUp s 2 then s
  else
    let s1 := { s with log := { s.log with taken := 0, supp := 0, suppFst := 0 } }
    if s.log.supp = 0 then s1
    else
      let s2 := { s1 with inForce := s1.inForce ++ [{ code := Ev.LOG_SUPPRESSED, scope := devScope, once := true }] }
      assignRecord s2 { code := Ev.LOG_SUPPRESSED, arg := s.log.suppFst + s.log.supp % 2 ^ 32 * 2 ^ 32,
                        cyc := s.tb.cyc, angle := rdN s TB_ANGLE, pair := 2 }

/-- The highest number held, and the lowest (R507); 0 and 1 while none is held. -/
def logHigh (s : Dev) : Nat := s.log.next - 1
def logLow (s : Dev) : Nat := max 1 (logHigh s - 32767)

/-- The 32 bytes a read returns for number n: SRAM, else the retained copy, else a lost record (R507). -/
def logFetch (s : Dev) (n : Nat) : List U8 :=
  let a := Memory.bytes s.mem (logSlot n) 32
  let b := Memory.bytes s.mem (logRet n) 32
  if !s.exe.bad.contains (logSlot n) && logValid a n then a else if logValid b n then b else lostRecord n

/-- LOG_READ (R423). -/
def logReadBody (c : HostCmd) (s : Dev) : Dev :=
  let n := fld (pw c 2) 0 16
  if c.payload.length ≠ 3 then answer s OP_LOG_READ c ST_LENGTH
  else if n > 511 then answer s OP_LOG_READ c ST_LENGTH
  else if fld (pw c 2) 16 16 ≠ 0 then answer s OP_LOG_READ c ST_BAD_PARAM
  else
    let first := pwN c 0 + pwN c 1 * 2 ^ 32
    let lo := logLow s
    let hi := logHigh s
    let start := max first lo
    let k := min n (hi + 1 - start)
    let head := [w32 lo, w32 (lo / 2 ^ 32), w32 hi, w32 (hi / 2 ^ 32)]
    finish s OP_LOG_READ c (if first < lo then ST_OK_DEGRADED else ST_OK)
      (head ++ bytesToWords ((List.range k).flatMap (fun i => logFetch s (start + i))))
def logRead (c : HostCmd) (s : Dev) : Dev := serve s OP_LOG_READ c (logReadBody c)

/-- The highest number with a valid CHK in the retained log, over the slots (R508); 0 when none. -/
def logScan (s : Dev) : Nat :=
  (List.range 32768).foldl (fun h i =>
    let l := Memory.bytes s.mem (0x10180000 + i * 32) 32
    let n := leNat (l.take 8)
    if n % 32768 = i ∧ logValid l n ∧ n > h then n else h) 0

/-- At every start: the SRAM log is rebuilt and the next number chosen; EV_LOG_RESUME is the first record (R508). -/
def logResume (s : Dev) : Dev :=
  let h := logScan s
  let s := { s with mem := Memory.copy s.mem 0x10180000 0x21600000 0x100000 }
  let closed := ld16 s (logSlot h + 0x0E) == Ev.LOG_CLOSED
  let next := if h = 0 then 1 else if closed then h + 1 else h + 513
  let s := { s with log := { s.log with next := next } }
  post s 2 Ev.LOG_RESUME (h % 2 ^ 32 + b2n (h != 0 && !closed) * 2 ^ 32)

/-- P2 appends EV_LOG_CLOSED with a cause and every record is made durable (R508, R511). -/
def logClose (s : Dev) (cause : Nat) : Dev := flushLog (logIntake (post s 2 Ev.LOG_CLOSED cause))

end Sys2Proof.Machine
end

