-- ==== Sys2Proof/Machine/Counters.lean ====
section
/-!
DEFINITION. Sys2Proof/Machine/Counters.lean: counters, captures and bandwidth windows (spec 16 R486 to R502) and their
commands (13 R422).
-/
namespace Sys2Proof.Machine

/-- A read of CNTn_LO by pair p returns bits [31:0] and latches [47:32] and the flag for that pair (R489). -/
def cntTake (p n : Nat) (s : Dev) : Dev :=
  let hi := w32 (counterVal s n / 2 ^ 32 + b2n (counterOvf s n) * 2 ^ 31)
  { s with cnt := { s.cnt with latch := Tbl.set 0 s.cnt.latch p hi }, readVal := w32 (counterVal s n) }
/-- CNT_LO_READ: the same; the value enters the pair's input log, and a pair that re-executes a window reads that log and not the device
(R335, R336). -/
def cntLoRead (p n : Nat) (s : Dev) : Dev :=
  if !pairUp s p || (getPair s p).recov != .run then s else logFree (cntTake p n s) p (w32 (counterVal s n))

/-- CNT_LO_WRITE: P2 stages a low half; any other pair gets a bus error (R490, R501). -/
def cntLoWrite (p _n : Nat) (v : U32) (s : Dev) : Dev :=
  if p ≠ 2 then busErrorTo s p
  else { s with cnt := { s.cnt with staged := Tbl.set none s.cnt.staged p (some v) } }

/-- CNT_HI_WRITE: all 48 bits load at once; the staging register clears (R490, R501). The flag is not touched (R488). -/
def cntHiWrite (p n : Nat) (v : U32) (s : Dev) : Dev :=
  if p ≠ 2 then busErrorTo s p
  else
    let lo := ((Tbl.get none s.cnt.staged p).getD 0).toNat
    let s := setCounter s n (lo + fld v 0 16 * 2 ^ 32)
    { s with cnt := { s.cnt with staged := Tbl.set none s.cnt.staged p none } }

/-- The words of a dump record of the present counters (R496), first to first + count - 1. -/
def dumpRecord (s : Dev) (first count : Nat) : List U32 :=
  bytesToWords (leBytes 4 s.cnt.dseq ++ leBytes 2 (0x8000 + b2n (!coherent s) * 0x4000) ++ leBytes 2 count ++
    leBytes 6 s.tb.cyc ++ leBytes 2 first ++ leBytes 4 (localCyc s) ++ leBytes 2 (min s.cnt.skipped 65535) ++
    List.replicate 42 0#8) ++
  (List.range 504).flatMap (fun i =>
    if i < count then [w32 (counterVal s (first + i)), w32 (counterVal s (first + i) / 2 ^ 32 + b2n (counterOvf s (first + i)) * 2 ^ 31)]
    else [0, 0])

/-- A dump capture that falls due at angle 0 (R493). -/
def dumpCapture (s : Dev) : Dev :=
  let per := rdF s CNT_DUMP_PER 0 16
  if s.cnt.vitrine || decide (per = 0) || decide (localCyc s % per ≠ 0) then s
  else if rdB s CNT_STATUS 0 then
    let s := wrB s CNT_STATUS 1 true
    let n := s.cnt.skipped + 1
    let s' := { s with cnt := { s.cnt with skipped := n, skipEp := true } }
    if s.cnt.skipEp then s' else post s' 2 Ev.DUMP_SKIP n
  else
    let first := rdF s CNT_DUMP_CFG 16 11
    let count := rdF s CNT_DUMP_CFG 0 9
    let buf := dumpRecord s first count
    let s := wrB s CNT_STATUS 0 true
    { s with cnt := { s.cnt with dumpBuf := buf, skipped := 0, skipEp := false } }

/-- DUMP_RECORD_WRITTEN: the record lies in slot DSEQ mod 96 of the dump ring (R493). With no record under way nothing happens. -/
def dumpRecordWritten (s : Dev) : Dev :=
  if !rdB s CNT_STATUS 0 then s
  else
    let q := s.cnt.dseq
    let s := stWords s (0x21580000 + q % 96 * 0x1000) s.cnt.dumpBuf
    let s := wrN (wrB s CNT_STATUS 0 false) CNT_DUMP_SEQ q
    { s with cnt := { s.cnt with dseq := (q + 1) % 2 ^ 32, dumpBuf := [] } }

/-- A freeze: all 2,048 counters and flags into the vitrine bank in one clock cycle; waiting takes are answered (R494). -/
def vitrineFreeze (s : Dev) : Dev :=
  if s.cnt.vitrine && rdB s CNT_CTRL 1 then
    let s0 := s
    let s := forN s 2048 (fun s n =>
      let s := wrN s (CNT_VIT + n * 8) (counterVal s0 n)
      wrN s (CNT_VIT + n * 8 + 4) (counterVal s0 n / 2 ^ 32 + b2n (counterOvf s0 n) * 2 ^ 31))
    let s := wrN (wrN s CNT_VIT_CYC_LO (s.tb.cyc % 2 ^ 32)) CNT_VIT_CYC_HI (s.tb.cyc / 2 ^ 32 % 2 ^ 16)
    let s := wrB (wrB s CNT_CTRL 1 false) CNT_STATUS 2 true
    let w := s.cnt.vitWait
    forL { s with cnt := { s.cnt with vitWait := [] } } w
      (fun s c => finish s OP_VITRINE_TAKE c ST_OK [w32 s.tb.cyc, w32 (s.tb.cyc / 2 ^ 32)])
  else s

/-- The capture mode of CNT_CTRL takes effect at angle 0, a restored one at the first after BOOT (R492, R552): either entry leaves no frozen set. -/
def captureMode (s : Dev) : Dev :=
  let m := rdB s CNT_CTRL 0
  if m = s.cnt.vitrine then s
  else
    let s := wrB (wrB s CNT_STATUS 2 false) CNT_CTRL 1 false
    modeChange { s with cnt := { s.cnt with vitrine := m } } 2 4 (b2n m) 0

/-- VIT_REQ_WRITE: P2 requests a freeze at the next angle 0; ignored in DUMP (R494, R501). -/
def vitReqWrite (p : Nat) (s : Dev) : Dev :=
  if p ≠ 2 then busErrorTo s p else if s.cnt.vitrine then wrB s CNT_CTRL 1 true else s

/-- BW_WINDOW_END: a window of monitor k has ended (R497). `bytes` adds those of units whose bytes no row carries, SRAM banks and bus
requesters among them (log 139). A monitor that is off has no windows. -/
def bwWindowEnd (k bytes : Nat) (s : Dev) : Dev :=
  let a := BW_CFG + k * 16
  if !rdB s a 31 then s
  else
    let v := (Tbl.get 0 s.cnt.bw k + bytes) % 2 ^ 32
    let s := wrN { s with cnt := { s.cnt with bw := Tbl.set 0 s.cnt.bw k 0 } } (a + 4) v
    let s := if v > rdN s (a + 8) then wrN s (a + 8) v else s
    wrN s (a + 12) (rdN s (a + 12) + 1)

/-- BW_CFG_WRITE: P2 writes the configuration of monitor k; a change restarts it (R497, R501). -/
def bwCfgWrite (p k : Nat) (v : U32) (s : Dev) : Dev :=
  if p ≠ 2 then busErrorTo s p
  else
    let a := BW_CFG + k * 16
    let new := v &&& 0x80FFFFFF#32
    if new = rd s a then s else bwRestart (wr s a new) k

/-! ## Tagging (R498 to R500) -/

/-- k of R498. -/
def tagK (s : Dev) : Nat := let k := rdF s TAG_CTRL 0 5; if 8 ≤ k ∧ k ≤ 20 then k else 14

/-- One step of the tagging register, with polynomial x^16 + x^14 + x^13 + x^11 + 1 (R498). -/
def lfsrStep (l : Nat) : Nat := l / 2 + (l + l / 4 + l / 8 + l / 32) % 2 * 2 ^ 15
def lfsrRun : Nat → Nat → Nat
  | 0, l => l
  | n + 1, l => lfsrRun n (lfsrStep l)
/-- The next distance, drawn from the register within R498's bounds. The spec does not say how far the register moves at a draw, nor which
distance of the range a value of it gives: both are free (Log 55). -/
def tagDraw (s : Dev) : Nat × Dev :=
  let k := tagK s
  let l := lfsrRun (Config.tagSteps k % 65536) s.cnt.lfsr
  (2 ^ (k - 1) + Config.tagDist l % 2 ^ k, { s with cnt := { s.cnt with lfsr := l } })

/-- A sample record (R499). -/
def tagBytes (q win : Nat) (rolled : Bool) (r : Retired) : List U8 :=
  let o := r.seen
  leBytes 4 q ++ leBytes 4 r.pc.toNat ++ leBytes 4 o.insn.toNat ++ leBytes 2 (min o.lat 65535) ++
    leBytes 2 (b2n (nbit o.flags 15) * 2 ^ 15 + b2n rolled * 2 ^ 14 + o.flags % 256) ++ leBytes 4 o.addr.toNat ++ leBytes 2 (min o.memLat 65535) ++
    leBytes 2 win ++ leBytes 4 o.cyc.toNat ++ leBytes 4 o.angle.toNat

/-- The sample's place in the tagging pages (R500). -/
def tagAddr (q : Nat) : Nat := 0x21580000 + (96 + q / 128 % 32) * 0x1000 + q % 128 * 32

/-- One instruction of the tagged pair's primary core retires: it is the tagged one when it was fetched at or after the distance drawn,
and the next distance counts from its fetch (R498, R500). -/
def tagStep (win : Nat) (rolled : Bool) (s : Dev) (r : Retired) : Dev :=
  let n := s.cnt.tagN.getD 0
  if n + r.seen.ahead ≤ s.cnt.tagCnt then
    let q := s.cnt.tseq
    let s := wrN (stBytes s (tagAddr q) (tagBytes q win rolled r)) TAG_SEQ q
    let (m, s) := tagDraw s
    { s with cnt := { s.cnt with tseq := (q + 1) % 2 ^ 32, tagN := some m, tagCnt := r.seen.ahead + 1 } }
  else { s with cnt := { s.cnt with tagCnt := s.cnt.tagCnt + 1 } }

/-- Tagging over a window of pair p that has checked clean or mismatched (R498, R500). -/
def tagWindow (s : Dev) (p win : Nat) (rolled : Bool) (l : List Retired) : Dev :=
  if p ≠ rdF s TAG_CTRL 8 2 then s
  else if !rdB s TAG_CTRL 31 then (if s.cnt.tagN.isNone then s else { s with cnt := { s.cnt with tagN := none } })
  else
    let s := if s.cnt.tagN.isSome then s
      else
        let (m, s) := tagDraw s
        { s with cnt := { s.cnt with tagN := some m, tagCnt := 0 } }
    forL s l (tagStep win rolled)

/-- COUNTER_READ (R422, R495). -/
def counterReadBody (c : HostCmd) (s : Dev) : Dev :=
  let vit := bitOf (pw c 1) 0
  if c.payload.length ≠ 2 then answer s OP_COUNTER_READ c ST_LENGTH
  else if fld (pw c 1) 1 31 ≠ 0 then answer s OP_COUNTER_READ c ST_BAD_PARAM
  else
    match rangeStatus (rangeFirst c 0) (rangeCount c 0) 2048 0 2 with
    | some st => answer s OP_COUNTER_READ c st
    | none =>
      if vit && !rdB s CNT_STATUS 2 then answer s OP_COUNTER_READ c ST_NOT_PRESENT
      else
        let item := fun n =>
          if vit then [rd s (CNT_VIT + n * 8), rd s (CNT_VIT + n * 8 + 4)]
          else [w32 (counterVal s n), w32 (counterVal s n / 2 ^ 32 + b2n (counterOvf s n) * 2 ^ 31)]
        finish s OP_COUNTER_READ c ST_OK ((List.range (rangeCount c 0)).flatMap (fun i => item (rangeFirst c 0 + i)))
def counterRead (c : HostCmd) (s : Dev) : Dev := serve s OP_COUNTER_READ c (counterReadBody c)

/-- VITRINE_TAKE: P2 sets VIT_REQ, through its release buffer (R501), and waits for the freeze; a second take shares it (R422, R494). -/
def vitrineTakeBody (c : HostCmd) (s : Dev) : Dev :=
  if !s.cnt.vitrine then answer s OP_VITRINE_TAKE c ST_STATE
  else emit { s with cnt := { s.cnt with vitWait := s.cnt.vitWait ++ [c] } } 2 (.cfg [(CNT_CTRL, 2, 2)])
def vitrineTake (c : HostCmd) (s : Dev) : Dev := serve s OP_VITRINE_TAKE c (vitrineTakeBody c)

/-- One 4,096-byte page of the dump ring; a dump record with an uncorrectable slot has VALID 0 (R496). -/
def dumpPage (s : Dev) (i : Nat) : List U32 :=
  let a := 0x21580000 + i * 0x1000
  let w := ldWords s a 1024
  if i < 96 ∧ s.exe.bad.any (fun b => decide (a ≤ b) && decide (b < a + 0x1000)) then
    w.set 1 (w.getD 1 0 &&& 0xFFFF7FFF#32)
  else w

/-- DUMP_READ (R422, R495): dump records 0 to 95 and tagging pages 96 to 127. -/
def dumpReadBody (c : HostCmd) (s : Dev) : Dev := serveRange s OP_DUMP_READ c 128 1024 [] (dumpPage s)
def dumpRead (c : HostCmd) (s : Dev) : Dev := serve s OP_DUMP_READ c (dumpReadBody c)

end Sys2Proof.Machine
end

