-- ==== Sys2Proof/Machine/RetEngine.lean ====
section
/-!
DEFINITION. Sys2Proof/Machine/RetEngine.lean: the retained store's transaction engine, and P2's writes to it as they are released (spec 17
R527, R528, R540; 01 R22).
-/
namespace Sys2Proof.Machine

/-! ## The transaction engine (R527, R528) -/

/-- Register `o` (0 source, 4 destination, 8 length) of segment k. -/
def segReg (k o : Nat) : Nat := RET_SEG + k * 16 + o

/-- The first n segments as the registers hold them. -/
def segsOf (s : Dev) (n : Nat) : List (Nat × Nat × Nat) :=
  (List.range n).map (fun k => (rdN s (segReg k 0), rdN s (segReg k 4), rdN s (segReg k 8)))

/-- Two runs of bytes share a byte. -/
def overlap (a n b m : Nat) : Bool := decide (a < b + m) && decide (b < a + n)

/-- A segment the engine does not take (R527). -/
def segBad (e : Nat × Nat × Nat) : Bool :=
  let (src, dst, len) := e
  decide (len = 0) || decide (len % 8 ≠ 0) || decide (src < 0x20000000) || decide (src + len > 0x22000000) ||
    decide (dst < 0x10000000) || decide (dst + len > 0x10400000) || overlap dst len 0x10180000 0x100000 || overlap dst len 0x10344000 0x2000

/-- Transactions started within the last second of local time (R527). -/
def startsNow (s : Dev) : List Nat := s.pwr.starts.filter (fun t => decide (s.uptimeMs < t + 1000))

/-- RET_STATUS.STARTED as time passes (R540). -/
def syncStarts (s : Dev) : Dev :=
  let l := startsNow s
  wrF { s with pwr := { s.pwr with starts := l } } RET_STATUS 5 3 l.length

/-- The descriptor's bytes 0x00 to 0x7B with a STATE (R528). -/
def descHead (t : RetTxn) (st : Nat) : List U8 :=
  let segs := t.segs.flatMap (fun e => leBytes 4 e.2.1 ++ leBytes 4 e.2.2)
  leBytes 4 0x96407254 ++ leBytes 4 t.tseq ++ leBytes 1 st ++ leBytes 1 t.kind ++ leBytes 1 t.segs.length ++ leBytes 1 0 ++
    leBytes 4 t.snap.toNat ++ segs ++ List.replicate (64 - segs.length) 0 ++ leBytes 4 t.dcrc.toNat ++ List.replicate 40 0
/-- The descriptor, with its HCRC (R528). -/
def descBytes (t : RetTxn) (st : Nat) : List U8 := descHead t st ++ leBytes 4 (crc32 (descHead t 0)).toNat
/-- Its slot (R528). -/
def descAddr (tseq : Nat) : Nat := 0x10344000 + tseq % 64 * 128

/-- RET_GO is ignored (R527). -/
def goRejected (s : Dev) (v : U32) : Bool :=
  let n := fld v 0 4
  s.pwr.txn.isSome || rdB s RET_STATUS 2 || decide ((startsNow s).length ≥ 4) || decide (n = 0) || decide (n > 8) || (segsOf s n).any segBad

/-- The engine takes RET_GO: the transaction starts, or REJ is set (R527). -/
def retGo (s : Dev) (v : U32) : Dev :=
  let s := syncStarts s
  if goRejected s v then wrB s RET_STATUS 3 true
  else
    let segs := segsOf s (fld v 0 4)
    let kind := fld v 8 3
    let data := segs.flatMap (fun e => Memory.bytes s.mem e.1 e.2.2)
    let t : RetTxn := { kind := kind, tseq := s.pwr.tseq, snap := if kind = 1 then rd s RET_SNAP else 0, segs := segs, dcrc := crc32 data }
    let s := stBytes s (descAddr t.tseq) (descBytes t 1)
    let s := { s with pwr := { s.pwr with txn := some t, txnFor := none, tseq := (t.tseq + 1) % 2 ^ 32, starts := s.pwr.starts ++ [s.uptimeMs] } }
    syncStarts (wrB s RET_STATUS 0 true)

/-- Row RET_GO_WRITE: a released write by pair p (R527, R540). -/
def retGoWrite (p : Nat) (v : U32) (s : Dev) : Dev := if p ≠ 2 then busErrorTo s p else retGo s v

/-- The engine ends its transaction: segments copied in order, the descriptor DONE (R527, R528, R540). -/
def txnEnd (s : Dev) (t : RetTxn) : Dev :=
  let s := forL s t.segs (fun s e => { s with mem := Memory.copy s.mem e.1 e.2.1 e.2.2 })
  let s := st8 s (descAddr t.tseq + 8) 2
  let s := { s with pwr := { s.pwr with txn := none, txnFor := none, saveHold := s.pwr.saveHold || s.pwr.saveDue } }
  wr (wrN (wrB (wrB s RET_STATUS 0 false) RET_STATUS 1 true) RET_TSEQ t.tseq) RET_DCRC t.dcrc

/-- P2 writes the segment registers and RET_GO (R527). -/
def p2Go (s : Dev) (kind : Nat) (why : RetFor) (snap : Nat) (segs : List (Nat × Nat × Nat)) : Dev :=
  let s := forL s ((List.range segs.length).zip segs) (fun s e =>
    wrN (wrN (wrN s (segReg e.1 0) e.2.1) (segReg e.1 4) e.2.2.1) (segReg e.1 8) e.2.2.2)
  let was := s.pwr.tseq
  let s := retGo (wrN s RET_SNAP snap) (w32 (kind * 0x100 + segs.length))
  if s.pwr.tseq = was then s else { s with pwr := { s.pwr with txnFor := some why } }

/-- P2's released writes reach the engine; what P2 does next follows `why`. RET_GO rejected leaves the work due (R204, R527, R532). -/
def retDeliver (s : Dev) (kind : Nat) (why : RetFor) (snap : Nat) (segs : List (Nat × Nat × Nat)) : Dev :=
  let was := s.pwr.tseq
  let s := p2Go s kind why snap segs
  let ok := s.pwr.tseq != was
  match why with
  | .save =>
    if ok then { s with pwr := { s.pwr with saveAt := s.uptimeMs + 1 } }
    else { s with pwr := { s.pwr with saveDue := true, saveHold := true, saveWait := s.pwr.saveAns ++ s.pwr.saveWait, saveAns := [] } }
  | .boot =>
    let b := s.pwr.boot
    if ok then { s with pwr := { s.pwr with boot := { b with bseq := (b.bseq + 1) % 2 ^ 32, second := !b.second } } }
    else { s with pwr := { s.pwr with bootDue := true } }
  | .config => if ok then s else { s with pwr := { s.pwr with cfgDue := true } }
  | .masterSet _ => if ok then { s with pwr := { s.pwr with masterAt := s.uptimeMs + 1 } } else { s with pwr := { s.pwr with loadDue := true } }
  | .health => if ok then s else { s with exe := { s.exe with healthDue := true } }

end Sys2Proof.Machine
end

