-- ==== Sys2Proof/Machine/Session.lean ====
section
/-!
DEFINITION. Sys2Proof/Machine/Session.lean: replies entering the reply ring or a cluster port, sessions and their ends, the
session opcodes, and the intake of packets (spec 12 R364 to R389, 13 R417).
-/
namespace Sys2Proof.Machine

/-! ## Packets leave (R370, R388, R389) -/

/-- Fragments of a packet, 360 words each (R389). -/
def fragments (words : List U32) : List (List U32) :=
  let n := (words.length + 359) / 360
  let w1 := words.getD 1 0
  (List.range n).map (fun k =>
    let d := (words.drop (k * 360)).take 360
    [w32 (k * 2 ^ 28 + (n - 1) * 2 ^ 24 + fld w1 24 4 * 2 ^ 20 + fld w1 0 16), w32 (d.length * 4)] ++ d)

/-- A reply or notice leaves as REPLY frames, on the port of its host's latest COMMAND, or through the other port if that one is down, with that
host's MAC address (R389, R430, R433, Log 134). -/
def clusterReply (s : Dev) (x : OutPkt) : Dev :=
  let k := match Tbl.get 0 s.cl.hosts x.mac with
    | 0 => (x.port - 1) % 2
    | q + 1 => q
  let p := if cpUp s k then k else 1 - k
  let s := { s with host := { s.host with portOut := let q := s.host.portOut ++ [(p, x.words)]; q.drop (q.length - 64) } }
  forL s (fragments x.words) (fun s f => clusterFrame s 2 (clHost + clPort p) x.mac f)

/-- A packet leaves on its transport: 0 QSPI, which may lack room, 1 CP0, 2 CP1. -/
def pktOut (s : Dev) (x : OutPkt) : Option Dev := if x.port = 0 then tryEnter s x else some (clusterReply s x)

/-- An ordered packet waits behind those of its queue that wait, and in the ring behind every ordered one; a loose one neither waits so nor holds
another back (R370, R383, R388). -/
def blocked (kept : List OutPkt) (x : OutPkt) : Bool :=
  !x.loose && kept.any (fun k => !k.loose && (k.queue == x.queue || (k.port == 0 && x.port == 0)))

/-- Waiting packets leave as they can, in order; `kept` are those before that cannot. -/
def enterFrom (s : Dev) (kept : List OutPkt) : List OutPkt → Dev
  | [] => { s with host := { s.host with waiting := kept } }
  | x :: t =>
    if blocked kept x then enterFrom s (kept ++ [x]) t
    else match pktOut s x with
      | some u => enterFrom u kept t
      | none => enterFrom s (kept ++ [x]) t

/-- A released packet leaves on its transport, waits, or is kept for its session in hold (R13, R379, R388, R389). -/
def sendReply (s : Dev) (x : OutPkt) : Dev :=
  if inHold s x then setSess s x.sess { getSess s x.sess with back := (getSess s x.sess).back ++ [x] }
  else enterFrom s [] (s.host.waiting ++ [x])

/-! ## The end of sessions (R379 to R381) -/

/-- The transaction is aborted, with EV_CONFIG_ABORT: cause 1 command, 2 idle, 3 session dropped; a command's tag (R384, R391). -/
def abortTxn (s : Dev) (cause tag : Nat) : Dev :=
  match s.host.txn with
  | none => s
  | some t => post { s with host := { s.host with txn := none } } 2 Ev.CONFIG_ABORT (t.owner + cause * 256 + tag * 0x10000)

/-- A staged master set, and a firmware stage, end with their session (R410, R425). -/
def endStages (s : Dev) (n : Nat) : Dev :=
  let s := match s.pwr.load with
    | some (_, o) => if o = n ∧ s.pwr.loadWait.isNone then { s with pwr := { s.pwr with load := none } } else s
    | none => s
  match s.pwr.stage with
  | some (o, _) => if o = n then { s with pwr := { s.pwr with stage := none, staged := [] } } else s
  | none => s

/-- Replies of session n built and not delivered (R380); a NOREPLY command that ended ST_OK has none. -/
def undelivered (s : Dev) (n : Nat) : Nat :=
  let built := fun (p : Place) => p.sess == n && (match p.reply with | some w => !w.isEmpty | none => false)
  (getSess s n).heldRep.length + ((getSess s n).back.filter (fun x => !isNotice x)).length +
    ((List.range 16).map (fun q => ((getPlaces s q).filter built).length)).foldl (· + ·) 0

/-- Drop everything session n holds: replies, notices, queues, transaction and stages; its commands run on to their outcome
entries (R379, R380). The slot is then free. -/
def dropSession (s : Dev) (n : Nat) : Dev :=
  let s := endNoticeLoss s n
  let s := { s with host := { s.host with
      flight := s.host.flight.map (fun f => if f.cmd.sess = n then { f with timedOut := true } else f),
      owner := s.host.owner.filter (fun e => e.2 != n + 1) } }
  let s := forN s 16 (fun s q => setPlaces s q ((getPlaces s q).filter (fun p => p.sess != n)))
  let s := match s.host.txn with
    | some t => if t.owner = n then abortTxn s 3 0 else s
    | none => s
  let s := setSess (endStages s n) n {}
  syncHp (forN s 16 flushQueue)

/-- SESSION_CLOSE, or the replacement of the key, by a command with a tag: the session ends at once (R380, R391, R417). -/
def closeSession (s : Dev) (n tag : Nat) : Dev := dropSession (post s 2 Ev.SESSION_CLOSED (n + tag * 0x10000)) n

/-- A session's items go into hold, what waits for room in the ring with them (R379). -/
def holdSession (s : Dev) (n : Nat) : Dev :=
  let mine := fun (x : OutPkt) => x.sess == n && !x.bare
  let s := setSess s n { getSess s n with st := .held, resume := false, back := s.host.waiting.filter mine }
  syncHp (enterFrom s [] (s.host.waiting.filter (fun x => !mine x)))

/-- Row SESSION_EXPIRY: 2 s without an accepted packet (R379). -/
def sessionExpiry (n : Nat) (s : Dev) : Dev :=
  if !pairUp s 2 || (getSess s n).st != .active then s else holdSession (note s 2 Ev.SESSION_EXPIRED n) n

/-- Row SESSION_HOLD_EXPIRY: the hold runs out first (R380). -/
def sessionHoldExpiry (n : Nat) (s : Dev) : Dev :=
  if !pairUp s 2 || (getSess s n).st != .held then s
  else
    let k := undelivered s n
    note (dropSession s n) 2 Ev.SESSION_DROPPED (n + k * 2 ^ 32)

/-- Row AUTH_DEADLINE_EXPIRY: no SESSION_AUTH within 2 s of the opening (R376). A held session that was to be resumed stays
held. -/
def authDeadlineExpiry (n : Nat) (s : Dev) : Dev :=
  if !pairUp s 2 then s
  else if (getSess s n).st == .authWait then dropSession s n
  else if (getSess s n).resume then setSess s n { getSess s n with resume := false }
  else s

/-- Row AUTH_LOCKOUT_EXPIRY: SESSION_OPEN at privilege p is judged again (R376). -/
def authLockoutExpiry (p : Nat) (s : Dev) : Dev := { s with host := { s.host with lockout := Tbl.set 0 s.host.lockout (p % 4) 0 } }

/-! ## The session opcodes (R375, R376, R417) -/

/-- Four fresh free words: the device nonce (R376). -/
def takeNonce (s : Dev) : List U32 × Dev :=
  let (a, s) := takeWord s
  let (b, s) := takeWord s
  let (c, s) := takeWord s
  let (d, s) := takeWord s
  ([a, b, c, d], s)

/-- EV_SESSION_OPEN (R391). -/
def postOpen (s : Dev) (n priv : Nat) (resumed : Bool) (tag : Nat) : Dev :=
  post s 2 Ev.SESSION_OPEN (n + priv * 256 + b2n resumed * 1024 + tag * 0x10000)

/-- The held replies of a resumed session leave, in their queues' orders and before the reply that resumes it, then its notices (R26, R380). -/
def deliverHeld (s : Dev) (n : Nat) : Dev :=
  let y := getSess s n
  let l := y.back.filter (fun x => !isNotice x) ++ y.heldRep ++ y.back.filter isNotice
  sendNotices (forL (setSess s n { y with heldRep := [], back := [] }) l (fun s x => sendPkt s { x with port := y.port, mac := y.mac }))

/-- SESSION_OPEN (R375, R376, R380). -/
def sessionOpenBody (c : HostCmd) (s : Dev) : Dev :=
  let w := pw c 0
  let p := fld w 0 2
  let res := bitOf w 8
  let old := fld w 12 4
  let bare := decide (p = 0) && parB s 0xA001
  let free := (List.range 8).find? (fun n => (getSess s n).st == .free)
  let tgt : Option Nat := if res then (if old < 8 ∧ (getSess s old).st = .held ∧ !(getSess s old).resume then some old else none) else free
  let safetyOpen := (List.range 8).any (fun n => (getSess s n).st != .free && (getSess s n).priv == 3 && !(res && decide (n = old)))
  if c.payload.length ≠ 5 then answer s OP_SESSION_OPEN c ST_LENGTH
  else if fld w 2 6 ≠ 0 ∨ fld w 9 3 ≠ 0 ∨ fld w 16 16 ≠ 0 then answer s OP_SESSION_OPEN c ST_BAD_PARAM
  else if Tbl.get 0 s.host.lockout p ≠ 0 then answer s OP_SESSION_OPEN c ST_BUSY
  else if p ≠ 0 ∧ s.host.kdev.isNone then answer s OP_SESSION_OPEN c ST_AUTH
  else
    match tgt with
    | none => answer s OP_SESSION_OPEN c (if res then ST_AUTH else ST_BUSY)
    | some n =>
      if res && (getSess s n).priv != p then answer s OP_SESSION_OPEN c ST_CONFLICT
      else if p = 3 ∧ safetyOpen then answer s OP_SESSION_OPEN c ST_CONFLICT
      else
        let nh := (c.payload.drop 1).take 4
        let (nd, s) := takeNonce s
        let x := getSess s n
        let now : Session :=
          if bare then { x with st := .active, priv := 0, auth := false, nh := nh, nd := nd, port := c.port, mac := c.mac, lastAt := s.uptimeMs, resume := false }
          else if res then { x with nh := nh, nd := nd, resume := true }
          else { st := .authWait, priv := p, nh := nh, nd := nd, port := c.port, mac := c.mac, lastAt := s.uptimeMs }
        let s := syncHp (setSess s n now)
        let s := if bare then postOpen s n 0 res c.tag else s
        let s := if bare && res then deliverHeld s n else s
        finish s OP_SESSION_OPEN c ST_OK (w32 n :: nd)
def sessionOpen (c : HostCmd) (s : Dev) : Dev := serve s OP_SESSION_OPEN c (sessionOpenBody c)

/-- The session a SESSION_AUTH is for: its own, or with SESSION 0xF the lowest that waits for one. -/
def authTarget (s : Dev) (c : HostCmd) : Option Nat :=
  let waits := fun n => (getSess s n).st == .authWait || (getSess s n).resume
  if c.sess < 8 then (if waits c.sess then some c.sess else none) else (List.range 8).find? waits

/-- A wrong proof: EV_AUTH_FAIL with the command's tag, and the count of failures within 60 s (R376, R391). -/
def authFail (s : Dev) (n p tag : Nat) : Dev :=
  let l := ((Tbl.get [] s.host.fails p).filter (fun t => decide (s.uptimeMs < t + 60000))) ++ [s.uptimeMs]
  let s := note s 2 Ev.AUTH_FAIL (n + p * 256 + tag * 0x10000)
  if l.length ≥ 3 then
    { s with host := { s.host with fails := Tbl.set [] s.host.fails p [], lockout := Tbl.set 0 s.host.lockout p 1 } }
  else { s with host := { s.host with fails := Tbl.set [] s.host.fails p l } }

/-- A command's status leaves at once, as no reply of a session: the session ends with it, or was in hold (R376, R380). -/
def answerBare (s : Dev) (op : Nat) (c : HostCmd) (status : Nat) : Dev :=
  let s := recordOutcome (dropFlight s c) op c status (privOf s c.sess) false
  releaseReply s { sess := c.sess, queue := c.queue, port := c.port, mac := c.mac, loose := true, bare := true, raw := buildReply s op status c.queue c.sess c.tag [] }

/-- SESSION_AUTH: a wrong proof frees the slot, that of a session in hold too (R376, R380). -/
def sessionAuthBody (c : HostCmd) (s : Dev) : Dev :=
  if c.payload.length ≠ 8 then answer s OP_SESSION_AUTH c ST_LENGTH
  else
    match authTarget s c with
    | none => answer s OP_SESSION_AUTH c ST_STATE
    | some n =>
      let x := getSess s n
      let good := match s.host.kdev with
        | some k => decide (wordsToBytes c.payload = proofOf "GXAUTH-H" k n x.priv x.nh x.nd)
        | none => false
      if !good then
        dropSession (answerBare (authFail s n x.priv c.tag) OP_SESSION_AUTH c ST_AUTH) n
      else
        let k := s.host.kdev.getD []
        let y : Session := { x with st := .active, auth := true, key := sessKey k n x.priv x.nh x.nd, rxTop := 0, rxWin := 0, tx := 1, resume := false, port := c.port, mac := c.mac, lastAt := s.uptimeMs }
        let s := postOpen (syncHp (setSess s n y)) n x.priv x.resume c.tag
        let s := if x.resume then deliverHeld s n else s
        finish s OP_SESSION_AUTH c ST_OK (bytesToWords (proofOf "GXAUTH-D" k n x.priv x.nh x.nd))
def sessionAuth (c : HostCmd) (s : Dev) : Dev := serve s OP_SESSION_AUTH c (sessionAuthBody c)

/-- SESSION_CLOSE: its own reply leaves, then the session ends (R380). -/
def sessionCloseBody (c : HostCmd) (s : Dev) : Dev :=
  closeSession (finish (dropFlight s c) OP_SESSION_CLOSE { c with unordered := true } ST_OK []) c.sess c.tag
def sessionClose (c : HostCmd) (s : Dev) : Dev := serve s OP_SESSION_CLOSE c (sessionCloseBody c)

/-- SESSION_PING: being accepted keeps the session open (R379). -/
def sessionPingBody (c : HostCmd) (s : Dev) : Dev := answer s OP_SESSION_PING c ST_OK
def sessionPing (c : HostCmd) (s : Dev) : Dev := serve s OP_SESSION_PING c (sessionPingBody c)

/-- End a command that has not begun with a final status, or say that it has begun; a CAN_TX begins when its frame wins
arbitration, and `cancel` then makes it late (R374, R420). -/
def endUnbegun (s : Dev) (f : InFlight) (status : Nat) (cancel : Bool) : Bool × Dev :=
  if !f.begun then (true, answer s f.op f.cmd status)
  else if f.op = OP_CAN_TX then canWithdraw s f.cmd status cancel
  else (false, s)

/-- A command that has begun is answered with ST_TIMEOUT and runs on (R374). -/
def timeoutRuns (s : Dev) (f : InFlight) : Dev :=
  let s := recordOutcome s f.op f.cmd ST_TIMEOUT f.priv false
  let s := deliverReply s f.cmd (buildReply s f.op ST_TIMEOUT f.cmd.queue f.cmd.sess f.cmd.tag [])
  updFlight s f.cmd.sess f.cmd.tag (fun f => { f with timedOut := true })

/-- A released cancellation of a CAN_TX acts on the frame queued before it, and the CMD_CANCEL that asked for it is answered (R374, R420). -/
def canCancelled (s : Dev) (c : HostCmd) (status : Nat) (by_ : Option HostCmd) : Dev :=
  match flightOf s c with
  | none => match by_ with
    | some d => answer s OP_CMD_CANCEL d ST_CONFLICT
    | none => s
  | some f =>
    let r := canWithdraw s c status by_.isSome
    match by_ with
    | some d => answer r.2 OP_CMD_CANCEL d (if r.1 then ST_OK else ST_CONFLICT)
    | none => if r.1 || f.timedOut then r.2 else timeoutRuns r.2 f

/-- CMD_CANCEL (R374, R420). A tag that is not in flight is a record that is not there: ST_NOT_PRESENT. One that names a CAN_TX whose frame
still waits for its release is answered when the cancellation behind it is released. -/
def cmdCancelBody (c : HostCmd) (s : Dev) : Dev :=
  if c.payload.length ≠ 1 then answer s OP_CMD_CANCEL c ST_LENGTH
  else if fld (pw c 0) 16 16 ≠ 0 then answer s OP_CMD_CANCEL c ST_BAD_PARAM
  else
    match s.host.flight.find? (fun f => f.cmd.sess == c.sess && f.cmd.tag == fld (pw c 0) 0 16 && !f.timedOut && f.cmd != c) with
    | none => answer s OP_CMD_CANCEL c ST_NOT_PRESENT
    | some f =>
      if f.begun && f.op == OP_CAN_TX && canPending s f.cmd then emit s 3 (.canCancel f.cmd ST_CANCELLED (some c))
      else
        let r := endUnbegun s f ST_CANCELLED true
        answer r.2 OP_CMD_CANCEL c (if r.1 then ST_OK else ST_CONFLICT)
def cmdCancel (c : HostCmd) (s : Dev) : Dev := serve s OP_CMD_CANCEL c (cmdCancelBody c)

/-- TAG_QUERY: the newest entry of a session and tag, ST_PENDING while the command runs (R382). The spec gives no layout of the
entry: session and tag, opcode and status, then the cycle count in two words, with [16] of the second where no frame was sent (R420, Log 59). -/
def tagQueryBody (c : HostCmd) (s : Dev) : Dev :=
  let sn := fld (pw c 0) 16 4
  let tag := fld (pw c 0) 0 16
  if c.payload.length ≠ 1 then answer s OP_TAG_QUERY c ST_LENGTH
  else if fld (pw c 0) 20 12 ≠ 0 then answer s OP_TAG_QUERY c ST_BAD_PARAM
  else
    match s.host.flight.find? (fun f => f.cmd.sess == sn && f.cmd.tag == tag && f.cmd != c) with
    | some f => answer s OP_TAG_QUERY c (if privOf s c.sess < f.priv then ST_PRIVILEGE else ST_PENDING)
    | none =>
      match s.host.outcomes.find? (fun e => e.sess == sn && e.tag == tag) with
      | none => answer s OP_TAG_QUERY c ST_NOT_PRESENT
      | some e =>
        if privOf s c.sess < e.priv then answer s OP_TAG_QUERY c ST_PRIVILEGE
        else finish s OP_TAG_QUERY c ST_OK [w32 (e.sess * 0x10000 + e.tag), w32 (e.op * 0x10000 + e.status), w32 e.cyc, w32 (e.cyc / 2 ^ 32 % 65536 + b2n e.noFrame * 0x10000)]
def tagQuery (c : HostCmd) (s : Dev) : Dev := serve s OP_TAG_QUERY c (tagQueryBody c)

/-- NOTICE_SUBSCRIBE (R375, R383). -/
def noticeSubscribeBody (c : HostCmd) (s : Dev) : Dev :=
  if c.payload.length ≠ 1 then answer s OP_NOTICE_SUBSCRIBE c ST_LENGTH
  else if fld (pw c 0) 6 26 ≠ 0 then answer s OP_NOTICE_SUBSCRIBE c ST_BAD_PARAM
  else answer (setSess s c.sess { getSess s c.sess with sub := pwN c 0 }) OP_NOTICE_SUBSCRIBE c ST_OK
def noticeSubscribe (c : HostCmd) (s : Dev) : Dev := serve s OP_NOTICE_SUBSCRIBE c (noticeSubscribeBody c)

/-- KEY_PROVISION: the first key, or its replacement, which closes every other session (R376, R417). -/
def keyProvisionBody (c : HostCmd) (s : Dev) : Dev :=
  if c.payload.length ≠ 8 then answer s OP_KEY_PROVISION c ST_LENGTH
  else if c.payload.all (fun w => w == 0) then answer s OP_KEY_PROVISION c ST_BAD_PARAM
  else
    let first := s.host.kdev.isNone
    let s := { s with host := { s.host with kdev := some (wordsToBytes c.payload) } }
    let s := if first then s
      else forN s 8 (fun s n => if n = c.sess ∨ (getSess s n).st = .free then s else closeSession s n c.tag)
    answer s OP_KEY_PROVISION c ST_OK
def keyProvision (c : HostCmd) (s : Dev) : Dev := serve s OP_KEY_PROVISION c (keyProvisionBody c)

/-! ## Intake (R367 to R369, R377, R378) -/

/-- The counter is fresh: above the highest, or among the 64 below it and not seen (R378). -/
def ctrFresh (x : Session) (v : Nat) : Bool :=
  v != 0 && decide (x.rxTop < 0xFFFFFFFF) && decide (x.tx < 0xFFFFFFFF) &&
    (decide (v > x.rxTop) || (decide (v < x.rxTop) && decide (x.rxTop - v ≤ 64) && !nbit x.rxWin (x.rxTop - v - 1)))
/-- The counter is taken (R378). -/
def ctrTake (x : Session) (v : Nat) : Session :=
  if v > x.rxTop then
    let d := v - x.rxTop
    let below := if x.rxTop = 0 then 0 else 2 ^ (d - 1)
    { x with rxTop := v, rxWin := if d > 64 then 0 else (x.rxWin * 2 ^ d + below) % 2 ^ 64 }
  else { x with rxWin := nput x.rxWin (x.rxTop - v - 1) true }

/-- Words 0 to 3 of a packet as a command on a port, from a host (R364). -/
def packetCmd (port mac : Nat) (w : List U32) : HostCmd :=
  let w0 := w.getD 0 0
  let w1 := w.getD 1 0
  { sess := fld w1 24 4, queue := fld w1 28 4, tag := fld w1 0 16, payload := (w.drop 4).take (fld (w.getD 2 0) 0 16),
    unordered := bitOf w0 8, noreply := bitOf w0 10, urgent := bitOf w0 11, v1 := fld w0 0 8 == 1, port := port, mac := mac }

/-- Steps 2 to 4 of R367; the status of the first that fails. -/
def formStatus (s : Dev) (port size : Nat) (w : List U32) : Option Nat :=
  let w0 := w.getD 0 0
  let w1 := w.getD 1 0
  let w2 := w.getD 2 0
  let n := fld w2 0 16
  let auth := bitOf w0 9
  let sn := fld w1 24 4
  let ver := fld w0 0 8
  if size < 20 ∨ n > 4096 ∨ size ≠ 20 + 4 * n + b2n auth * 20 then some ST_LENGTH
  else if ver ≠ 2 ∧ !(ver = 1 && parB s 0xA002 && port = 0 && sn = 15 && !auth && !bitOf w0 8 && !bitOf w0 11) then some ST_BAD_OPCODE
  else if fld w0 12 4 ≠ 0 ∨ fld w1 16 8 ≠ 0 ∨ fld w2 16 16 ≠ 0 ∨ w.getD 3 0 ≠ 0 ∨ (8 ≤ sn ∧ sn < 15) ∨ fld w1 0 16 = 0xFFFF then
    some ST_BAD_PARAM
  else none

/-- Step 5: the session, its trailer, MAC and counter; the counter refused is given back for EV_REPLAY. -/
def authStatus (s : Dev) (w : List U32) : Bool × Option Nat :=
  let w0 := w.getD 0 0
  let sn := fld (w.getD 1 0) 24 4
  let n := fld (w.getD 2 0) 0 16
  let auth := bitOf w0 9
  let x := getSess s sn
  let isAuth := fld w0 16 16 == OP_SESSION_AUTH
  if sn = 15 then (!auth, none)
  else if x.st == .authWait || x.resume then (isAuth && !auth, none)
  else if x.st != .active || x.auth != auth then (false, none)
  else if !auth then (true, none)
  else
    let ctr := (w.getD (4 + n) 0).toNat
    if wordsToBytes ((w.drop (5 + n)).take 4) ≠ macOf x.key (wordsToBytes (w.take (5 + n))) then (false, none)
    else if ctrFresh x ctr then (true, none) else (false, some ctr)

/-- Steps 6 to 9 (R367, R369). -/
def queueStatus (s : Dev) (op : Nat) (c : HostCmd) : Option Nat :=
  let live := s.host.flight.filter (fun f => !f.timedOut)
  match opRow op with
  | none => some ST_BAD_OPCODE
  | some r =>
    if (c.sess ≥ 8 && !noSessOk s r c.v1) then some ST_BAD_OPCODE
    else if privOf s c.sess < opPriv s r then some ST_PRIVILEGE
    else
      let own := Tbl.get 0 s.host.owner c.queue
      if (c.sess < 8 ∧ own ≠ 0 ∧ own ≠ c.sess + 1) ∨ (inFlight? s c.sess c.tag).isSome then some ST_CONFLICT
      else if c.urgent && !r.urgent then some ST_BAD_PARAM
      else if live.length ≥ 128 ∨ (live.filter (fun f => f.cmd.sess == c.sess)).length ≥ 64 then some ST_BUSY
      else none

/-- A number that no command which agrees in all else still bears (R374). -/
def freshId (s : Dev) (c : HostCmd) : Nat :=
  (s.host.flight.filter (fun f => { f.cmd with id := 0 } == { c with id := 0 })).foldl (fun m f => max m (f.cmd.id + 1)) 0

/-- A packet that has passed every check of intake: its counter is taken, its session is alive, its queue is owned, and it enters
flight with its place in the queue's order (R369, R370, R378, R379). -/
def acceptCmd (s : Dev) (op : Nat) (c : HostCmd) (ctr : Option Nat) : Dev :=
  let c := { c with id := freshId s c }
  let s := if c.sess ≥ 8 then s
    else
      let x := getSess s c.sess
      let x := match ctr with
        | some v => ctrTake x v
        | none => x
      let s := setSess s c.sess { x with port := c.port, mac := c.mac, lastAt := s.uptimeMs }
      { s with host := { s.host with owner := Tbl.set 0 s.host.owner c.queue (c.sess + 1) } }
  let f : InFlight := { op := op, cmd := c, priv := privOf s c.sess }
  let s := { s with host := { s.host with flight := s.host.flight ++ [f] } }
  if c.unordered || c.urgent || decide (c.sess ≥ 8) then s
  else setPlaces s c.queue (getPlaces s c.queue ++ [{ sess := c.sess, tag := c.tag, port := c.port, mac := c.mac }])

/-- A packet of a transport, of a cluster port with its host's MAC, is taken in: steps 1 to 9 of R367, in order. -/
def intake (s : Dev) (port mac : Nat) (bytes : List U8) : Dev :=
  let n := bytes.length
  let w := bytesToWords bytes
  let crcBad := decide (n < 4) || decide (w32 (leNat (bytes.drop (n - 4))) ≠ crc32 (bytes.take (n - 4)))
  let w1 := w.getD 1 0
  let op := fld (w.getD 0 0) 16 16
  let c := packetCmd port mac w
  let loose := c.unordered || c.urgent
  if crcBad then (if port = 0 then bumpReg s HP_CRC_ERR 1 else clFrameErr s (port - 1))
  else
    match formStatus s port n w with
    | some st => rejectAt s op st w1 port mac loose false
    | none =>
      match authStatus s w with
      | (false, ctr) =>
        let s := match ctr with
          | some v => note s 2 Ev.REPLAY (c.sess + c.tag * 0x10000 + v * 2 ^ 32)
          | none => s
        rejectAt s op ST_AUTH w1 port mac loose true
      | (true, _) =>
        match queueStatus s op c with
        | some st => rejectAt s op st w1 port mac loose false
        | none => acceptCmd s op c (if bitOf (w.getD 0 0) 9 then some (w.getD (4 + c.payload.length) 0).toNat else none)

end Sys2Proof.Machine
end

