-- ==== Sys2Proof/Machine/Exec.lean ====
section
/-!
DEFINITION. Sys2Proof/Machine/Exec.lean: paired execution: signatures and compare windows, release, the vote, retry and loss of a
pair, self-tests, restarts, debug, and ECC events (spec 11 R331 to R362; 01 R16, R22 to R25).
-/
namespace Sys2Proof.Machine

/-! ## Signatures (R338) -/

/-- One compression step of the MISR. -/
def misrStep (g d : BitVec 64) : BitVec 64 :=
  let t := g <<< 1
  (if g.msb then t ^^^ 0x1B#64 else t) ^^^ d

/-- A word of the signature: PC[17:2], kind, bits [43:32], bits [31:0]. -/
def misrWord (pc : U32) (kind mid : Nat) (low : U32) : BitVec 64 :=
  BitVec.ofNat 64 (fld pc 2 16 * 2 ^ 48 + kind % 16 * 2 ^ 44 + mid % 4096 * 2 ^ 32 + low.toNat)

/-- Data with the bytes outside a mask made 0. -/
def maskData (m : Nat) (d : U32) : U32 :=
  w32 (leNat ((List.range 4).map (fun i => if nbit m i then (leBytes 4 d.toNat).getD i 0 else 0)))

/-- The words one retired instruction contributes; a write to x0 is none. -/
def retiredWords (r : Retired) : List (BitVec 64) :=
  let w := (r.wr.filter (fun e => !(e.1 == 1 && e.2.1 == 0))).map (fun e => misrWord r.pc e.1 e.2.1 e.2.2)
  let t := match r.st with
    | some (m, a, d) => [misrWord r.pc 4 (m % 16 * 256) a, misrWord r.pc 5 0 (maskData m d)]
    | none => []
  if (w ++ t).isEmpty then [misrWord r.pc 0 0 0] else w ++ t

/-- The signature of a window. -/
def signature (l : List Retired) : BitVec 64 := (l.flatMap retiredWords).foldl misrStep 0xFFFFFFFFFFFFFFFF#64

/-- What a lane compares: signature, retired count, number of stores (R339). -/
def laneView (l : List Retired) : BitVec 64 × Nat × Nat := (signature l, l.length, (l.filter (fun r => r.st.isSome)).length)
def agree (a b : List Retired) : Bool := decide (laneView a = laneView b)

/-! ## Release (R22 to R25, R341) -/

/-- P0's write of SAF_RESET or SAF_RESTART reaches the block; what it ends bears the command's session (R310, R319, R503). -/
def clearTaken (s : Dev) (sess : Nat) (restart : Bool) (v : U32) : Dev :=
  let s := { s with actor := sess }
  let s := if restart then (restartInputs s (fld v 0 16)).2 else safResetTake s v
  { s with actor := 0xF }

/-- One released effect leaves the device. -/
def deliver (s : Dev) (p : Nat) : Effect → Dev
  | .ring n tx => ringEnqueue s p n tx
  | .can n buf words cmd => canEnqueue s n buf words cmd
  | .cluster t d words => clusterSend s t d words
  | .reply x => sendReply s x
  | .clear sess restart v => clearTaken s sess restart v
  | .seo v => seoRequest s v
  | .safe ev => setLatch s ev
  | .scr l => scrTake s l
  | .cfg l => cfgDeliver s l
  | .est l => estTake s l
  | .ret k why snap segs => retDeliver s k why snap segs
  | .flush => flushLog s
  | .canCancel c st d => canCancelled s c st d
  | .canOp n w => canOpTake s n w

/-- Entries leave in the order the pair issued them (R24). -/
def deliverAll (s : Dev) (p : Nat) (l : List RelEntry) : Dev :=
  countEv (forL s l (fun s e => deliver s p e.eff)) (0x10 + p) 2 l.length

/-- The stores of a window. -/
def storesOf (l : List Retired) : List (Nat × U32 × U32) := l.filterMap (fun r => r.st)

/-- Stores to SRAM are committed in program order (R23, R341); one to what hardware or the engine owns ends in a bus error (R120, R152). -/
def commitStores (s : Dev) (p : Nat) (l : List (Nat × U32 × U32)) : Dev :=
  forL s l (fun s e => forN s 4 (fun s i =>
    let a := e.2.1.toNat + i
    if !nbit e.1 i || decide (a < 0x20000000) || decide (a ≥ 0x22000000) then s
    else if sramBarred s a then barredStore s p a
    else stBytes s a [(leBytes 4 e.2.2.toNat).getD i 0]))

/-- A window boundary: the feed asked for is taken (R334, R352), and the next window opens. -/
def nextWindow (s : Dev) (p : Nat) : Dev :=
  let q := getPair s p
  let want := rdB s EXE_FEED p || q.forced
  let s := setPair s p { getPair s p with exch := want, clean := q.win, win := (q.win + 1) % 65536, inLog := [] }
  if want = q.exch then s else modeChange s 0 1 (b2n !want) p

/-- Entries of a pair's release buffer, and what it issues only once entries have left (R24). -/
def inBuffer (l : List RelEntry) : List RelEntry := l.take 64
def stalled (l : List RelEntry) : List RelEntry := l.drop 64
/-- Entries tagged with the window in which they are issued after all. -/
def retag (win : Nat) (l : List RelEntry) : List RelEntry := l.map (fun e => { e with win := win })

/-- The cores of a pair stand at a window boundary with an architectural state; of a broken pair the primary alone (R340, R356). -/
def setCores (s : Dev) (p : Nat) (w : List U32) : Dev :=
  let q := getPair s p
  let s := setCore s q.primary w
  if q.broken then s else setCore s q.shadow w

/-- The open window has checked clean: its stores are committed, its effects `rel` leave, its checkpoint is the clean one (R341). `keep`
are effects that the pair issues in the window after. -/
def windowClean (s : Dev) (p : Nat) (l : List Retired) (rel keep : List RelEntry) (ckpt : List U32) : Dev :=
  let q := getPair s p
  let s := setPair s p { q with rel := retag ((q.win + 1) % 65536) keep, redo := [], ckpt := ckpt, recov := .run, retried := false }
  let s := commitStores (setCores s p ckpt) p (storesOf l)
  countEv (deliverAll (nextWindow s p) p rel) (0x10 + p) 1 1

/-! ## The loss of a pair (R349) -/

/-- Argument of a pair's event: pair and window (R362). -/
def pairArg (p win : Nat) : Nat := p + win * 0x10000

/-- P0 is lost: the latch is set in that clock cycle, SAFE_HOLD follows, and every string ends LOCKED_OUT, the connected ones at once, as no
P0 is left to confirm their openings (R316, R349; Log 133). -/
def lostP0 (s : Dev) (arg : Nat) : Dev :=
  let s := fault5 s 0 Ev.PAIR_LOST_P0 arg
  forL s (connStrs s) (fun s x => lockStr s x Ev.PAIR_LOST_P0)

/-- The pair is lost: halted, with what it has not released discarded (R349). The first loss during a trial fails the trial (R524). -/
def pairLost (s : Dev) (p : Nat) : Dev :=
  let arg := pairArg p (getPair s p).win
  let s := if p = 0 then lostP0 s arg else s
  let s := setPair s p { getPair s p with lost := true, rel := [], redo := [], inLog := [], recov := .run, restarting := false }
  let s := { s with pwr := { s.pwr with trialBad := s.pwr.trialBad || s.pwr.trial } }
  if p = 0 then s
  else if p = 3 then fault4 s 0 Ev.PAIR_LOST_P3 arg devScope (connStrs s) (fun _ => false) true
  else fault3 s 0 Ev.PAIR_LOST arg p false (connStrs s) true

/-! ## Comparison, vote and retry (R339 to R348, R352 to R354) -/

/-- EXE_LAST_MM: window, outvoted core, outcome, pair (R359). -/
def setLastMm (s : Dev) (win out outcome p : Nat) : Dev := wrN s EXE_LAST_MM (win * 0x10000 + out * 0x1000 + outcome * 16 + p)
/-- It still names the mismatch of pair p in window `win`. -/
def namesMm (s : Dev) (p win : Nat) : Bool := rdF s EXE_LAST_MM 0 2 == p && rdF s EXE_LAST_MM 16 16 == win
/-- Its outcome, and its outvoted core, for the mismatch it still names. -/
def setOutcome (s : Dev) (p win outcome : Nat) : Dev := if namesMm s p win then wrF s EXE_LAST_MM 4 4 outcome else s
def setOutvoted (s : Dev) (p win core : Nat) : Dev := if namesMm s p win then wrF s EXE_LAST_MM 12 4 core else s

/-- The core health record changes (R350). -/
def setHealth (s : Dev) (h : Health) : Dev := { s with exe := { s.exe with health := { h with lastCyc := s.tb.cyc }, healthDue := true } }
def bumpAt (l : List Nat) (i : Nat) : List Nat := (l.zip (List.range l.length)).map (fun e => if e.2 = i then min (e.1 + 1) 65535 else e.1)

/-- A mismatch on any pair ends the spare's self-test (R345). -/
def stopSpareTest (s : Dev) : Dev :=
  match s.exe.spare with
  | some c => { s with exe := { s.exe with testing := nput s.exe.testing c false } }
  | none => s
/-- The spare takes the pair's checkpoint (R342). -/
def loadSpare (s : Dev) (p : Nat) : Dev :=
  match s.exe.spare with
  | some c => setCore s c (getPair s p).ckpt
  | none => s
/-- A lane reports a mismatch of pair p: it counts, and the spare's self-test ends (R345, R359, R487). -/
def countMismatch (s : Dev) (p : Nat) : Dev := stopSpareTest (bumpReg (countEv s (0x10 + p) 5 1) (EXE_MM_CNT + 4 * p) 1)
/-- A mismatch of the open window, in which the primary retired n instructions: everything unchecked is discarded, the checkpoint of its start is loaded into both cores, and the spare
for a vote, and a vote or a retry on two begins (R341, R342, R347, R348, R354). -/
def mismatch (s : Dev) (p n : Nat) (inputs : List (Nat × U32)) : Dev :=
  let q := getPair s p
  let s := countMismatch s p
  let s := setLastMm s q.win 0xF (if s.exe.legacy then 6 else 0) p
  let vote := voteFree s
  let s := setCores (setPair s p { q with redo := inBuffer q.rel, rel := stalled q.rel, inLog := inputs, recov := if vote then .vote else .retry, count := n }) p q.ckpt
  let s := if vote then loadSpare s p else s
  if s.exe.legacy then
    let s := emit (wrB s EXE_STATUS 3 true) 0 (.cfg [(EXE_CTRL, 8, 8)])
    fault5 s 0 Ev.LEGACY_MISMATCH (pairArg p q.win)
  else s

/-- Lock-step of a broken pair is restored at a window boundary: the shadow takes the primary's checkpoint (R357). -/
def restorePair (s : Dev) (p : Nat) : Dev :=
  let q := getPair s p
  if q.restore then
    let s := setCore (setPair s p { q with restore := false, broken := false, hbAt := s.uptimeMs }) q.shadow q.ckpt
    clearCond (post s 0 Ev.LOCKSTEP_RESTORED p) 0 Ev.LOCKSTEP_BROKEN p 0x7F
  else s

/-- A core retires instructions: its counters count them, whatever its role and whether it re-executes (R487). -/
def retired (s : Dev) (core : Nat) (l : List Retired) : Dev := countEv s core 1 l.length
/-- Two cores agree on a window re-executed to its recorded count (R337, R342). -/
def agreeTo (n : Nat) (a b : List Retired) : Bool := a.length == n && agree a b

/-- Row COMPARE_WINDOW_CLOSE: the open window of pair p closes: what the primary and the shadow retired, whether a rail or an ECC
word was bad, the inputs it logged beside the reads that are rows, by the index of the instruction that consumed them, and the
architectural state at its end (R335, R337 to R341, R356). Tagging writes the samples of the
window, rolled back where it mismatched (R500). -/
def compareWindowClose (p : Nat) (prim shad : List Retired) (bad : Bool) (inputs : List (Nat × U32)) (ckpt : List U32) (s : Dev) : Dev :=
  let p := p % 4
  let q := getPair s p
  if !pairUp s p || q.recov != .run || decide (prim.length > 512) then s
  else
    let ok := q.broken || (agree prim shad && !bad)
    let s := retired s q.primary prim
    let s := tagWindow (if q.broken then s else retired s q.shadow shad) p q.win (!ok) prim
    if q.broken then restorePair (windowClean s p prim (inBuffer q.rel) (stalled q.rel) ckpt) p
    else if ok then windowClean s p prim (inBuffer q.rel) (stalled q.rel) ckpt
    else mismatch s p prim.length ((q.inLog ++ inputs).take 1024)

/-- A vote or retry has ended and the pair goes on with the window re-executed, `l` and the state at its end: its effects leave in order,
and what came meanwhile follows in the window after (R342). -/
def goOn (s : Dev) (p : Nat) (l : List Retired) (ckpt : List U32) : Dev :=
  windowClean (wrB s EXE_STATUS 2 true) p l (getPair s p).redo (getPair s p).rel ckpt

/-- The compare-path rules (R352, R353). -/
def comparePath (s : Dev) (p : Nat) (l : List Retired) (ckpt : List U32) : Dev :=
  let q := getPair s p
  let again := within s q.suspAt (par s 0x9002 * 1000)
  let s := post s 0 Ev.LOCKSTEP_MISMATCH (pairArg p q.win + 0x300)
  let s := note (wrB (setOutcome s p q.win 3) EXE_STATUS 1 true) 0 Ev.COMPARE_PATH_SUSPECT (pairArg p q.win)
  let s := setHealth s { s.exe.health with suspects := bumpAt s.exe.health.suspects p }
  let s := setPair (wrB s EXE_FEED p true) p { getPair s p with forced := true, suspAt := s.uptimeMs + 1 }
  if !again then goOn s p l ckpt
  else
    let s := raise s 0 Ev.COMPARATOR_RETIRED (p + q.lane * 256) q.lane
    let s := setHealth s { s.exe.health with retired := nput s.exe.health.retired q.lane true }
    if s.exe.lane4.isSome then pairLost (setOutcome s p q.win 5) p
    else goOn (setPair { s with exe := { s.exe with lane4 := some p } } p { getPair s p with lane := 4 }) p l ckpt

/-- A core runs logic self-test for 250 µs after a vote (R344). -/
def testCore (s : Dev) (core p win kind : Nat) : Dev :=
  { s with exe := { s.exe with testing := nput s.exe.testing core true, votes := s.exe.votes ++ [(core, p, win, kind)] } }

/-- The spare takes the role of an outvoted core (R343). -/
def outvote (s : Dev) (p core spare : Nat) (l : List Retired) (ckpt : List U32) : Dev :=
  let q := getPair s p
  let s := setOutvoted s p q.win core
  let s := setPair { s with exe := { s.exe with spare := none } } p { q with primary := if q.primary = core then spare else q.primary, shadow := if q.shadow = core then spare else q.shadow }
  let s := testCore s core p q.win (if q.retried then 4 else 1)
  goOn s p l ckpt

/-- Recovery fails: the pair cannot continue (R343, R347). `voted` says that a vote was held. -/
def recoveryLost (s : Dev) (p : Nat) (voted : Bool) : Dev :=
  let q := getPair s p
  let s := setOutcome s p q.win 5
  let s := if voted then post s 0 Ev.LOCKSTEP_MISMATCH (pairArg p q.win + 0x500) else s
  pairLost s p

/-- Row RECOVERY_VOTE: re-execution of pair p's window on primary, shadow and spare completes (R342, R343). -/
def recoveryVote (p : Nat) (prim shad spr : List Retired) (x : RunEnd) (s : Dev) : Dev :=
  let p := p % 4
  let q := getPair s p
  if !pairUp s p || q.recov != .vote then s
  else
    match s.exe.spare with
    | none => recoveryLost s p true
    | some c =>
      let s := retired (retired (retired s q.primary prim) q.shadow shad) c spr
      if x.bad then recoveryLost s p true
      else if agreeTo q.count prim shad then
        let s := if agree prim spr then s else testCore { s with exe := { s.exe with spare := none } } c p q.win 2
        comparePath s p prim x.ckpt
      else if agreeTo q.count spr prim then outvote s p q.shadow c prim x.ckpt
      else if agreeTo q.count spr shad then outvote s p q.primary c shad x.ckpt
      else recoveryLost s p true

/-- Row RETRY_COMPARE: a retry on two completes and is compared on the pair's own lane (R348). -/
def retryCompare (p : Nat) (prim shad : List Retired) (x : RunEnd) (s : Dev) : Dev :=
  let p := p % 4
  let q := getPair s p
  if !pairUp s p || q.recov != .retry then s
  else
    let s := retired (retired s q.primary prim) q.shadow shad
    if agreeTo q.count prim shad && !x.bad then
      let s := note s 0 Ev.RETRY_CLEAN (pairArg p q.win)
      goOn (if s.exe.legacy then s else setOutcome s p q.win 4) p prim x.ckpt
    else
      let s := countMismatch s p
      if !s.exe.legacy && spareFree s then
        setPair (loadSpare (setCores s p q.ckpt) p) p { getPair s p with recov := .vote, retried := true }
      else recoveryLost s p false

/-- Row RECOVERY_TIMEOUT: re-execution is not complete by 18.95 µs (R343, R348). -/
def recoveryTimeout (p : Nat) (s : Dev) : Dev :=
  let p := p % 4
  let q := getPair s p
  if !pairUp s p || q.recov == .run then s else recoveryLost s p (q.recov == .vote)

/-! ## Self-tests (R344, R345) -/

/-- Row CORE_SELFTEST_COMPLETE. -/
def coreSelftestComplete (core : Nat) (ok : Bool) (s : Dev) : Dev :=
  if !nbit s.exe.testing core then s
  else
    let v := s.exe.votes.find? (fun e => e.1 == core)
    let s := { s with exe := { s.exe with testing := nput s.exe.testing core false, votes := s.exe.votes.filter (fun e => e.1 != core) } }
    let logVote := fun (s : Dev) (outcome : Nat) => match v with
      | some (_, p, win, k) => if k = 2 then s else post (setOutcome s p win outcome) 0 Ev.LOCKSTEP_MISMATCH (pairArg p win + outcome * 256)
      | none => s
    if ok then
      if v.isNone then s
      else
        let s := logVote s 1
        let s := setHealth s { s.exe.health with transients := bumpAt s.exe.health.transients core }
        let s := post s 0 Ev.CORE_TRANSIENT (core + s.exe.health.transients.getD core 0 * 0x10000)
        if s.exe.spare.isNone then { s with exe := { s.exe with spare := some core } } else s
    else
      let s := logVote s 2
      let cause := match v with
        | some (_, _, _, 4) => 4
        | some (_, _, _, 1) => 1
        | _ => 2
      let s := setHealth s { s.exe.health with fenced := nput s.exe.health.fenced core true }
      let s := raise s 0 Ev.CORE_FENCED (core + cause * 256) core
      if s.exe.spare = some core then { s with exe := { s.exe with spare := none } } else s

/-- The spare starts its logic self-test, if it is free to (R345). -/
def spareTest (s : Dev) : Dev :=
  match s.exe.spare with
  | some c => if nbit s.exe.halted c || voting s then s else { s with exe := { s.exe with testing := nput s.exe.testing c true } }
  | none => s
/-- Row SPARE_SELFTEST_TIMER. -/
def spareSelftestTimer (s : Dev) : Dev := if anyFormed s then spareTest s else s
/-- Row SPARE_TEST_REQUEST: a write of EXE_CTRL.SPARE_TEST by pair p; hardware clears the bit (R359). -/
def spareTestRequest (p : Nat) (s : Dev) : Dev := if p ≠ 0 then busErrorTo s p else spareTest s

/-! ## Heartbeats and restarts (R351, R381) -/

/-- P2 answers what it held without a reply, in order of submission, and puts every session's items in hold (R351, R381). -/
def restartHost (s : Dev) : Dev :=
  let s := forL s (s.host.flight.filter (fun f => !f.timedOut)) (fun s f =>
    let r := endUnbegun s f ST_CANCELLED false
    if r.1 then r.2 else timeoutRuns r.2 f)
  forN s 8 (fun s n => if (getSess s n).st == .active then holdSession s n else if (getSess s n).st == .authWait then dropSession s n else s)

/-- What a restarted pair, rebuilding its working state, issues again of what was discarded: replies, transactions, register writes and
cancellations; frames it does not (R351, Log 133). -/
def rebuilt : Effect → Bool
  | .ring _ _ => false
  | .can _ _ _ _ => false
  | .cluster _ _ _ => false
  | _ => true
/-- The pair restarts with its cores cleared: what is unchecked is discarded (R333, R351). A second restart within 1 h loses it. -/
def restartPair (s : Dev) (p : Nat) : Dev :=
  let q := getPair s p
  let s := { s with pwr := { s.pwr with trialBad := s.pwr.trialBad || s.pwr.trial } }
  if within s q.restartAt 3600000 then pairLost s p
  else
    let s := setCores s p coreClear
    let s := setPair s p { q with ckpt := coreClear, rel := retag q.win ((q.redo ++ q.rel).filter (fun e => rebuilt e.eff)), redo := [], inLog := [], recov := .run, retried := false, restarting := true, restartAt := s.uptimeMs + 1, hbSeen := rdN s (EXE_HB + 4 * p), hbAt := s.uptimeMs }
    if p = 2 then restartHost s else s

/-- Row PAIR_HEARTBEAT_TIMEOUT: the counter of P1, P2 or P3 has stood for 10 ms (R351). The rule is suspended while the pair is
broken by debug (18 R554). -/
def pairHeartbeatTimeout (p : Nat) (s : Dev) : Dev :=
  let q := getPair s p
  if p = 0 ∨ p > 3 ∨ !pairUp s p ∨ !pairUp s 0 ∨ q.restarting ∨ q.broken ∨ s.uptimeMs < q.hbAt + 10 then s
  else restartPair (note s 0 Ev.PAIR_RESTART (p + (s.uptimeMs - q.hbAt) % 65536 * 65536)) p

/-- Row EXE_RESTART_WRITE: a write of pair p. -/
def exeRestartWrite (p : Nat) (v : U32) (s : Dev) : Dev :=
  if p ≠ 0 then busErrorTo s p
  else forL s [1, 2, 3] (fun s k => if bitOf v k && pairUp s k then restartPair s k else s)

/-- Row PAIR_RESTART_TIMEOUT: no heartbeat within 100 ms of the restart (R351). -/
def pairRestartTimeout (p : Nat) (s : Dev) : Dev :=
  if pairUp s p && (getPair s p).restarting && decide (1 ≤ p ∧ p ≤ 3) then pairLost s p else s

/-- P0's look at the three counters at a safety tick (R351). -/
def heartbeats (s : Dev) : Dev :=
  forL s [1, 2, 3] (fun s p =>
    let q := getPair s p
    let v := rdN s (EXE_HB + 4 * p)
    if v = q.hbSeen then s else setPair s p { q with hbSeen := v, hbAt := s.uptimeMs, restarting := false })

/-! ## Debug (R355 to R357) -/

/-- The pair a core serves. -/
def pairOfCore (s : Dev) (core : Nat) : Option Nat :=
  [0, 1, 2, 3].find? (fun p => pairUp s p && ((getPair s p).primary == core || (getPair s p).shadow == core))

/-- Every string is OPEN, LOCKED_OUT or WELD_SUSPECT (R355). -/
def stringsOff (s : Dev) : Bool :=
  (confStrs s).all (fun x => (getStr s x).st == .sOpen || (getStr s x).st == .sLockedOut || (getStr s x).st == .sWeldSuspect)
/-- The debug mode lets the debug module halt a core (R355). -/
def mayHalt (s : Dev) (core : Nat) : Bool :=
  match s.exe.debug with
  | .off => false
  | .live => match pairOfCore s core with
    | some p => p != 0
    | none => false
  | .service => decide (core < 9) && s.dev == .service && stringsOff s

/-- Row DEBUG_HALT (R355, R356). A request refused shows the core as unavailable (Log 137). -/
def debugHalt (core : Nat) (s : Dev) : Dev :=
  if nbit s.exe.halted core then s
  else if !mayHalt s core then { s with exe := { s.exe with unavail := nput s.exe.unavail core true } }
  else
    let s := { s with exe := { s.exe with halted := nput s.exe.halted core true, unavail := nput s.exe.unavail core false, testing := nput s.exe.testing core false } }
    match pairOfCore s core with
    | none => s
    | some p =>
      let q := getPair s p
      if q.broken then setPair s p { q with restore := false }
      else raise (setPair s p { q with broken := true, restore := false, recov := .run, rel := q.redo ++ q.rel, redo := [] }) 0 Ev.LOCKSTEP_BROKEN (p + core * 16) p

/-- DEBUG_SET (R355, R357, R415). -/
def debugSetBody (c : HostCmd) (s : Dev) : Dev :=
  let m := pwN c 0
  if c.payload.length ≠ 1 then answer s OP_DEBUG_SET c ST_LENGTH
  else if m > 2 then answer s OP_DEBUG_SET c ST_BAD_PARAM
  else if m = 2 ∧ privOf s c.sess < 3 then answer s OP_DEBUG_SET c ST_PRIVILEGE
  else if m = 2 ∧ (s.dev ≠ .service ∨ !stringsOff s) then answer s OP_DEBUG_SET c ST_STATE
  else
    let d : DebugMode := if m = 0 then .off else if m = 1 then .live else .service
    let s := if d = s.exe.debug then s else modeChange { s with exe := { s.exe with debug := d }, pwr := { s.pwr with scan := s.pwr.scan && d == .service } } 2 8 m 0
    let s := if m = 0 then
        forN { s with exe := { s.exe with halted := 0 } } 4 (fun s p => if (getPair s p).broken then setPair s p { getPair s p with restore := true } else s)
      else s
    answer s OP_DEBUG_SET c ST_OK
def debugSet (c : HostCmd) (s : Dev) : Dev := serve s OP_DEBUG_SET c (debugSetBody c)

/-! ## The host's reads (R415) -/

/-- The 64 bytes of the core health record (R350). -/
def healthBytes (h : Health) : List U8 :=
  leBytes 2 h.fenced ++ leBytes 1 h.retired ++ leBytes 1 0 ++ (List.range 9).flatMap (fun i => leBytes 2 (h.transients.getD i 0)) ++
    (List.range 4).flatMap (fun i => leBytes 2 (h.suspects.getD i 0)) ++ leBytes 2 0 ++ leBytes 6 h.lastCyc ++ List.replicate 26 0
/-- The record that 64 retained bytes spell (R350). -/
def healthOf (s : Dev) : Health :=
  let a := 0x10342000
  { fenced := ld16 s a % 512, retired := ld8 s (a + 2) % 32, transients := (List.range 9).map (fun i => ld16 s (a + 4 + 2 * i)), suspects := (List.range 4).map (fun i => ld16 s (a + 0x16 + 2 * i)), lastCyc := ldN s (a + 0x20) 6 }

def execReadBody (c : HostCmd) (s : Dev) : Dev :=
  finish s OP_EXEC_READ c ST_OK (([EXE_STATUS, EXE_SPARE, EXE_CORE, EXE_PAIR, EXE_PAIR + 4, EXE_PAIR + 8, EXE_PAIR + 12, EXE_LANES, EXE_LAST_MM].map (regRead s))
    ++ bytesToWords (healthBytes s.exe.health))
def execRead (c : HostCmd) (s : Dev) : Dev := serve s OP_EXEC_READ c (execReadBody c)

/-- CORE_UNFENCE: the record alone changes; a core rejoins at the next BOOT. -/
def coreUnfenceBody (c : HostCmd) (s : Dev) : Dev :=
  if c.payload.length ≠ 1 then answer s OP_CORE_UNFENCE c ST_LENGTH
  else if pwN c 0 = 0 ∨ pwN c 0 ≥ 512 then answer s OP_CORE_UNFENCE c ST_BAD_PARAM
  else
    let h := s.exe.health
    let f := packBits (fun i => nbit h.fenced i && !bitOf (pw c 0) i) 9
    let s := forN (setHealth s { h with fenced := f }) 9 (fun s i => if bitOf (pw c 0) i then clearCond s 0 Ev.CORE_FENCED i 0x7F else s)
    answer s OP_CORE_UNFENCE c ST_OK
def coreUnfence (c : HostCmd) (s : Dev) : Dev := serve s OP_CORE_UNFENCE c (coreUnfenceBody c)

/-! ## ECC and bus errors (R16, R358) -/

/-- P2 logs the corrections, at most once per second (R358). -/
def eccReport (s : Dev) : Dev :=
  if s.exe.eccSince = 0 || within s s.exe.eccAt 1000 || !pairUp s 2 then s
  else post { s with exe := { s.exe with eccSince := 0, eccAt := s.uptimeMs + 1 } } 2 Ev.ECC_CORRECTED (s.exe.eccSince % 2 ^ 32 * 2 ^ 32)

/-- Row SCRUB_TICK: the scrubber reads the next line; `err` that it corrected a single-bit error there (R358). -/
def scrubTick (err : Bool) (s : Dev) : Dev :=
  let line := s.exe.scrub
  let s := { s with exe := { s.exe with scrub := (line + 1) % 524288 } }
  if !err then s
  else
    let s := countEv (bumpReg s EXE_ECC_CE 1) (0x30 + line % 16) 4 1
    eccReport { s with exe := { s.exe with eccSince := s.exe.eccSince + 1 } }

/-- The entry that holds a damaged word of the history or the acquisition block counts as without measurement (R358). -/
def dropEntry (s : Dev) (a : Nat) : Dev :=
  if a < 0x20C00000 then
    let e := a / 8 * 8
    st32 s e (nput (ld32 s e) 27 false)
  else if a < 0x20DA0000 then st16 s (a / 4 * 4 + 2) 0x8000
  else if a < 0x20DA8000 then { s with exe := { s.exe with bad := insertNat (a / 8 * 8) s.exe.bad } }
  else if 0x20DA8000 ≤ a ∧ a < 0x20DB0000 then let e := a / 32 * 32; st16 s (e + 0xE) (nput (ld16 s (e + 0xE)) 15 false)
  else if 0x20DB0000 ≤ a ∧ a < 0x20DB2000 then let e := a / 16 * 16; st16 s (e + 0xC) (nput (ld16 s (e + 0xC)) 15 false)
  else s

/-- P2 restores a record of the log in SRAM, or marks it lost (R358, R507). -/
def restoreLogSlot (s : Dev) (a : Nat) : Dev :=
  let slot := (a - 0x21600000) / 32
  let h := logHigh s
  let n := h - (h + 32768 - slot) % 32768
  if n = 0 ∨ h = 0 ∨ !pairUp s 2 then s
  else
    let b := Memory.bytes s.mem (logRet n) 32
    stBytes s (logSlot n) (if logValid b n then b else lostRecord n)

/-- What an uncorrectable word at `a` means for its region; `req` is the pair that read it, or 4 for another requester (R358). -/
def eccConsequence (s : Dev) (req a : Nat) : Dev :=
  let mark := fun (s : Dev) (e : Nat) => { s with exe := { s.exe with bad := insertNat e s.exe.bad } }
  let fw := fun (s : Dev) => if req = 0 then (if pairUp s 0 then safeP0 (raise s 0 Ev.P0_DATA_ERROR (a * 2 ^ 32) devScope) Ev.P0_DATA_ERROR else s)
    else if req < 4 ∧ pairUp s req then restartPair s req else s
  if a < 0x20800000 then mark s (a / 128 * 128)
  else if a < 0x20C00000 then dropEntry s a
  else if a < 0x20C80000 then mark s (a / 0x10000 * 0x10000)
  else if a < 0x20D80000 then
    let x := (a - 0x20C80000) / 0x1000 % 128
    { (mark s (a / 0x1000 * 0x1000)) with est := { s.est with rebuild := insertNat x s.est.rebuild } }
  else if a < 0x20DB2000 then dropEntry s a
  else if a < 0x21380000 then fw s
  else if a < 0x21580000 then (if req = 0 then s else fw s)
  else if a < 0x215E0000 then let d := a / 0x1000 * 0x1000; st16 s (d + 4) (nput (ld16 s (d + 4)) 15 false)
  else if a < 0x21600000 then s
  else if a < 0x21700000 then restoreLogSlot s a
  else if a < 0x21800000 then (if req = 0 then s else fw s)
  else s

/-- A read ends in a bus error to its requester, 0 to 3 a pair, which takes it into its input log, 4 the engine, 5 another, which the row does not
tell: a free one of ring ingress, dump engine and spare core (R16, R334, R335, R487). -/
def busErrorOf (s : Dev) (req : Nat) : Dev :=
  if req < 4 then logFree (busErrorTo s req) req 0
  else if req = 4 then countEv (busError s) 0x42 3 1
  else
    let (k, s) := takeNat (busError s) 3
    countEv s (if k = 0 then 0x40 else 0x45 + k) 3 1

/-- Row ECC_UNCORRECTABLE_READ: requester 0 to 3 a pair, 4 the engine, 5 another; SRAM address a (R358), or an address of the
retained store (R525). -/
def eccUncorrectableRead (req a : Nat) (s : Dev) : Dev :=
  if 0x10000000 ≤ a ∧ a < 0x10400000 then
    let s := wrB (busErrorOf s req) RET_STATUS 4 true
    if pairUp s 2 then note s 2 Ev.RETAINED_ECC (a * 2 ^ 32) else s
  else if a < 0x20000000 ∨ a ≥ 0x22000000 then s
  else
    let s := note (busErrorOf (wrN s EXE_ECC_UE_ADDR a) req) (if req < 4 then req else 1) Ev.ECC_UNCORR (a * 2 ^ 32)
    eccConsequence s req a

/-- Row BUS_TRANSACTION_TIMEOUT: a transaction is not complete after 1 µs: a bus error to its requester, 0 to 3 a pair, 4 the engine, 5 another.
Which it is, and at which instruction of its window a pair takes the error into its input log, is not the row's to say: free values (R16,
R334, R335). The requester's own level of the hierarchy recovers it: what a pair's firmware loses by it shows as a miss of its gate or
heartbeat, the engine's pass ends at its deadline, and the others' data age (18 R556, Log 120). -/
def busTransactionTimeout (s : Dev) : Dev :=
  let (req, s) := takeNat s 6
  busErrorOf s req

end Sys2Proof.Machine
end

