-- ==== Sys2Proof/Machine/Retained.lean ====
section
/-!
DEFINITION. Sys2Proof/Machine/Retained.lean: what P2 writes through the retained store's transaction engine: saves,
configuration copies, core health, master sets, the boot record (spec 17 R522, R525 to R532; 06 R202 to R204; 09 R293).
-/
namespace Sys2Proof.Machine

/-! ## P2's writes to the engine -/

/-- A write to the engine waits in P2's release buffer. -/
def retPending (s : Dev) : Bool :=
  ((getPair s 2).redo ++ (getPair s 2).rel).any (fun e => match e.eff with
    | .ret _ _ _ _ => true
    | _ => false)
/-- The engine can take a transaction now (R527). -/
def engineFree (s : Dev) : Bool := s.pwr.txn.isNone && !retPending s && !rdB s RET_STATUS 2 && decide ((startsNow s).length < 4)

/-! ## What P2 writes -/

/-- The wear record of bus contactor n (R293). -/
def busWear (s : Dev) (n : Nat) : List U8 :=
  let b := Tbl.get {} s.bus n
  leBytes 4 b.ops ++ leBytes 4 b.drops ++ leBytes 2 b.welds ++ leBytes 1 (if b.weld then 2 else 0) ++ List.replicate 21 0

/-- The save's segments as P2 stages them: per-cell, per-string, string-wear and bus-wear records (R204, R527). -/
def saveSegs : List (Nat × Nat × Nat) :=
  [(0x20E00000, 0x10000000, 0x100000), (0x20F00000, 0x10340000, 0x2000), (0x20F02000, 0x10280000, 0x2000), (0x20F04000, 0x10282000, 0x200)]
/-- P2 stages a save (R202, R203, R293). -/
def stageSave (s : Dev) : Dev :=
  let s := confSave s
  let s := stBytes s 0x20E00000 ((List.range 65536).flatMap (cellSave s))
  let s := stBytes s 0x20F00000 ((List.range 128).flatMap (strSave s))
  let s := stWords s 0x20F02000 ((List.range 128).flatMap (wearWords s))
  stBytes s 0x20F04000 ((List.range 16).flatMap (busWear s))

/-- A save may be made now: one second after the last, and of records that reflect one snapshot (R204). -/
def saveNow (s : Dev) : Bool := s.pwr.saveOk && !within s s.pwr.saveAt 1000

/-- P2 makes the save that is due; one that RET_GO rejects waits for the next cycle (R204, R532). -/
def trySave (s : Dev) : Dev :=
  if s.pwr.saveDue && !s.pwr.saveHold && saveNow s && pairUp s 2 && engineFree s then
    let s := stageSave s
    let s := { s with pwr := { s.pwr with saveDue := false, saveAns := s.pwr.saveAns ++ s.pwr.saveWait, saveWait := [] } }
    emit s 2 (.ret 1 .save (rdN s EST_LAST_SNAP) saveSegs)
  else s

/-- The boot record's 64 bytes (R522). -/
def bootBytes (b : BootRec) : List U8 :=
  let h := leBytes 4 0x96400B01 ++ leBytes 4 b.bseq ++ leBytes 1 (b2n b.active) ++ leBytes 1 (b2n b.trial) ++ leBytes 1 b.tries ++ leBytes 1 (b2n b.prev) ++
    leBytes 2 b.minSec ++ leBytes 1 b.flags ++ leBytes 1 0 ++ leBytes 4 b.verA ++ leBytes 4 b.verB ++ List.replicate 36 0
  h ++ leBytes 4 (crc32 h).toNat
/-- The address of a boot-record copy (R522). -/
def bootAddr (second : Bool) : Nat := if second then 0x10342140 else 0x10342100
/-! ## Descriptor slots (R528, R529) -/

def slotAddr (k : Nat) : Nat := 0x10344000 + k * 128
/-- Slot k has a valid HCRC. -/
def slotOk (s : Dev) (k : Nat) : Bool :=
  let l := Memory.bytes s.mem (slotAddr k) 124
  ld32 s (slotAddr k) == 0x96407254 && crc32 (l.take 8 ++ [0] ++ l.drop 9) == w32 (ld32 s (slotAddr k + 0x7C))
def slotSeq (s : Dev) (k : Nat) : Nat := ld32 s (slotAddr k + 4)
def slotState (s : Dev) (k : Nat) : Nat := ld8 s (slotAddr k + 8)
def slotKind (s : Dev) (k : Nat) : Nat := ld8 s (slotAddr k + 9)
/-- The content of the slot's destinations has its DCRC. -/
def slotDone (s : Dev) (k : Nat) : Bool :=
  let n := ld8 s (slotAddr k + 10)
  let l := (List.range n).flatMap (fun i => Memory.bytes s.mem (ld32 s (slotAddr k + 16 + 8 * i)) (ld32 s (slotAddr k + 20 + 8 * i)))
  crc32 l == w32 (ld32 s (slotAddr k + 0x50))
/-- Slots with a valid HCRC. -/
def goodSlots (s : Dev) : List Nat := (List.range 64).filter (slotOk s)
/-- A later transaction of the slot's kind has been started: it decides for that kind (Log 19). -/
def slotStale (s : Dev) (k : Nat) : Bool :=
  (goodSlots s).any (fun j => slotKind s j == slotKind s k && decide (slotSeq s j > slotSeq s k))
/-- Slots of torn transactions. -/
def tornSlots (s : Dev) : List Nat := (goodSlots s).filter (fun k => slotState s k == 1 && !slotStale s k && !slotDone s k)
/-- The copy at address a is what a torn transaction of a kind was to write: it is invalid (R529). -/
def tornAt (s : Dev) (kind a : Nat) : Bool := (tornSlots s).any (fun k => slotKind s k == kind && ld32 s (slotAddr k + 16) == a)

/-- A copy of the boot record, when valid (R522). -/
def bootCopy (s : Dev) (second : Bool) : Option BootRec :=
  let a := bootAddr second
  let ok := ld32 s a == 0x96400B01 && !tornAt s 5 a && crc32 (Memory.bytes s.mem a 60) == w32 (ld32 s (a + 0x3C))
  if ok then some { bseq := ld32 s (a + 4), second := second, active := ld8 s (a + 8) == 1, trial := ld8 s (a + 9) == 1, tries := ld8 s (a + 10), prev := ld8 s (a + 11) == 1, minSec := ld16 s (a + 12), flags := ld8 s (a + 14), verA := ld32 s (a + 16), verB := ld32 s (a + 20) }
  else none
/-- The boot record in force (R522). -/
def bootRead (s : Dev) : BootRec :=
  match bootCopy s false, bootCopy s true with
  | some a, some b => if a.bseq ≥ b.bseq then a else b
  | some a, none => a
  | none, some b => b
  | none, none => {}

/-- P2 stages the boot record for the copy not in force, with the next BSEQ (R522). -/
def stageBoot (s : Dev) : Dev :=
  let b := s.pwr.boot
  let s := stBytes s 0x20F60100 (bootBytes { b with bseq := (b.bseq + 1) % 2 ^ 32, second := !b.second })
  { s with pwr := { s.pwr with bootDue := false } }
/-- Where it goes. -/
def bootSegs (s : Dev) : List (Nat × Nat × Nat) := [(0x20F60100, bootAddr (!s.pwr.boot.second), 64)]
/-- P2 writes the boot record (R522). -/
def startBoot (s : Dev) : Dev := emit (stageBoot s) 2 (.ret 5 .boot 0 (bootSegs s))

/-- The older of the configuration copies: B when A is newer or B invalid (R385, R531). An invalid copy counts as the older. -/
def copyBase (b : Bool) : Nat := if b then 0x10140000 else 0x10100000

/-- P2 issues the next transaction that waits, through its release buffer, in the order: boot record, configuration, master set, core health, save. A save that is
due while the engine is busy waits for the next cycle (R532). -/
def pumpTxns (s : Dev) : Dev :=
  if !pairUp s 2 then s
  else if !engineFree s then { s with pwr := { s.pwr with saveHold := s.pwr.saveHold || s.pwr.saveDue } }
  else if s.pwr.bootDue then startBoot s
  else if s.pwr.cfgDue then
    match s.host.commit with
    | some m =>
      let n := (ld32 s 0x20F10014 + 32 + 7) / 8 * 8
      emit { s with pwr := { s.pwr with cfgDue := false } } 2 (.ret 2 .config 0 [(0x20F10000, copyBase m.copyB, n)])
    | none => { s with pwr := { s.pwr with cfgDue := false } }
  else if s.pwr.loadDue then
    match s.pwr.load with
    | some (k, _) =>
      emit { s with pwr := { s.pwr with loadDue := false } } 2 (.ret 4 (.masterSet k) 0 [(0x21800000, 0x102C0000 + k % 8 * 0x10000, 0x10000)])
    | none => { s with pwr := { s.pwr with loadDue := false } }
  else if s.exe.healthDue then
    let s := stBytes s 0x20F60000 (healthBytes s.exe.health)
    emit { s with exe := { s.exe with healthDue := false } } 2 (.ret 3 .health 0 [(0x20F60000, 0x10342000, 64)])
  else trySave s

/-- A transaction done within one command: what is applying ends first (the restarts of R426 and R524, and BOOT). -/
def endNow (s : Dev) : Dev :=
  match s.pwr.txn with
  | some t => txnEnd s t
  | none => s

/-- The boot record written within one command, its release and the engine's work included. -/
def bootNow (s : Dev) : Dev := endNow (retDeliver (stageBoot s) 5 .boot 0 (bootSegs s))

/-- Row PERIODIC_SAVE: the cadence of retained.save_s has run out (R532). -/
def periodicSave (s : Dev) : Dev :=
  if !pairUp s 2 || s.pwr.booting || s.pwr.recovery then s else pumpTxns { s with pwr := { s.pwr with saveDue := true } }

/-- RETAINED_SAVE: the save is brought forward; the reply waits for it (R424). -/
def retainedSaveBody (c : HostCmd) (s : Dev) : Dev :=
  pumpTxns { s with pwr := { s.pwr with saveDue := true, saveWait := s.pwr.saveWait ++ [c] } }
def retainedSave (c : HostCmd) (s : Dev) : Dev := serve s OP_RETAINED_SAVE c (retainedSaveBody c)

end Sys2Proof.Machine
end

