-- ==== Sys2Proof/Machine/Configure.lean ====
section
/-!
DEFINITION. Sys2Proof/Machine/Configure.lean: the configuration: transactions and commits, what a commit applies, the retained
copies and their restoration (spec 12 R384, R385; 13 R395, R398, R399, R402, R404; 17 R530, R531).
-/
namespace Sys2Proof.Machine

/-! ## Registers that follow parameters -/

/-- Firmware version of the running bank's image (R520). -/
def fwVer (s : Dev) : U32 := w32 (ld32 s (b2n (rdB s PWR_BOOT 16) * 0x800000 + 8))

/-- SAF_SIN_CFGn from its parameters (R327, R328). -/
def sinImage (s : Dev) (n : Nat) : List (Nat × U32 × U32) :=
  let p := fun j => par s (0x8100 + 16 * j + n)
  let w0 := p 0 * 2 ^ 29 + p 1 * 2 ^ 28 + p 2 * 2 ^ 27 + p 3 * 2 ^ 24 + p 4 * 2 ^ 21 + p 5 / 50 * 2 ^ 16 + p 7 * 2 ^ 8
  [(SAF_SIN_CFG + n * 8, 0xFFFFFFFF, w32 w0), (SAF_SIN_CFG + n * 8 + 4, 0xFFFFFFFF, w32 (p 6))]
/-- P0's configuration of the safety block (R327): inputs, test pulses. -/
def safImage (s : Dev) : List (Nat × U32 × U32) :=
  (List.range 16).flatMap (sinImage s) ++
    [(SAF_TPO_CFG, 0xFFFFFFFF, w32 (par s 0x8004 * 0x10000 + par s 0x8005)), (SAF_SEO_TCFG, 0xFFFFFFFF, w32 (par s 0x8002 * 0x10000 + par s 0x8003))]
/-- P0's configuration of the execution block: policy and feeds (R359). -/
def exeImage (s : Dev) : List (Nat × U32 × U32) :=
  [(EXE_FEED, 0xF, w32 (packBits (fun p => parB s (0x9010 + p)) 4)), (EXE_CTRL, 4, w32 (b2n (parB s 0x9001) * 4))]
/-- The writes of configuration that change something. -/
def cfgDiff (s : Dev) (l : List (Nat × U32 × U32)) : List (Nat × U32 × U32) :=
  l.filter (fun w => (rd s w.1 &&& w.2.1) != (w.2.2 &&& w.2.1))
/-- Pair p's writes that change something, through its release buffer (R13, R327, R359, R451, R501). -/
def cfgWrite (s : Dev) (p : Nat) (l : List (Nat × U32 × U32)) : Dev :=
  let l := cfgDiff s l
  if l.isEmpty then s else emit s p (.cfg l)
/-- The cluster switch (R451). -/
def clImage (s : Dev) : List (Nat × U32 × U32) := [(CL_CTRL, 0xFFFFFFFF, w32 (par s 0xB001 + par s 0xB007 * 2))]
/-- P2's configuration of the counter block (R486, R491, R498, R501, R502): capture, tagging, monitors, selectors. -/
def cntImage (s : Dev) : List (Nat × U32 × U32) :=
  let all : U32 := 0xFFFFFFFF
  [(CNT_CTRL, 1, w32 (b2n (parB s 0xD002))), (CNT_DUMP_PER, all, w32 (par s 0xD003)), (CNT_DUMP_CFG, all, w32 (par s 0xD004 * 0x10000 + par s 0xD005)),
   (TAG_CTRL, all, w32 (par s 0xD006 * 2 ^ 31 + par s 0xD007 * 2 ^ 8 + par s 0xD008))] ++
  ((List.range 16).filter (fun k => par s (0xD020 + k) ≠ 0xFF || rd s (BW_CFG + k * 16) ≠ 0)).map (fun k =>
    let u := par s (0xD020 + k)
    (BW_CFG + k * 16, all, if u = 0xFF then w32 (par s (0xD030 + k)) else w32 (2 ^ 31 + u * 0x10000 + par s (0xD030 + k)))) ++
  (List.range 2048).map (fun n => (CNT_SEL + n * 4, all, w32 (par s (0xD100 + n))))
/-- Registers whose parameters take effect at an angle 0: timebase, rings, Curator share, counters, tagging, monitors. `ringsOff`
holds every ring disabled (R535). -/
def cycleRegs (s : Dev) (ringsOff : Bool) : Dev :=
  let v := par s 0x1001 + par s 0x1002 * 4 + par s 0x1003 * 8
  let s := if v = s.tb.ctl then s else wrN { s with tb := { s.tb with ctl := v } } TB_CTRL v
  let s := forN s 32 (fun s n =>
    let on := nbit (par s 0x2001) n && !ringsOff
    if ringOn s n && !on then ringOff s n else wrB s (ringReg n 0) 0 on)
  let s := linklossPush s
  let s := estWrite s [(EST_CUR_SHARE, 0x3F, if rdF s THM_STATUS 3 2 ≥ 2 then 5 else w32 (par s 0x400B))]
  cfgWrite s 2 (cntImage s)

/-! ## The unit map (R404) -/

/-- Catalogue CFG of cell i of a unit (R151, R404). -/
def cfgWord (w0 w1 : U32) (i : Nat) : Nat :=
  let nt := fld w1 28 4
  2 ^ 31 + fld w0 23 7 * 2 ^ 24 + (if nt = 0 then 2 ^ 23 else (fld w1 0 15 + i * nt / max (fld w0 16 5) 1) * 2 ^ 8)
/-- Cells of an entry. -/
def entryCells (w0 : U32) : List Nat := if bitOf w0 30 then [] else (List.range (fld w0 16 5)).map (fld w0 0 16 + ·)

/-- Temperature inputs of an entry's words. -/
def entryTemps (w0 w1 : U32) : List Nat := if bitOf w0 30 then [] else (List.range (fld w1 28 4)).map (fld w1 0 15 + ·)

/-- P1 writes ACQ_UMAP and derives CFG of every affected record; P3 has an input without an entry ABSENT, and one that gains an entry
start anew (R238, R239, R404). -/
def mapWrite (s : Dev) (l : List (Nat × List U32)) : Dev :=
  let old := (umapList s).filter (fun e => l.any (fun f => f.1 == e.1))
  let used := old.flatMap (fun e => entryCells e.2.1)
  let gone := old.flatMap (fun e => entryTemps e.2.1 e.2.2)
  let come := l.flatMap (fun f => if bitOf (f.2.getD 0 0) 31 then entryTemps (f.2.getD 0 0) (f.2.getD 1 0) else [])
  let s := forL s used (fun s c => st32 s (cellRec c + 0x50) 0)
  let s := forL s l (fun s f =>
    let on := bitOf (f.2.getD 0 0) 31
    let s := wr (wr s (ACQ_UMAP + f.1 * 8) (if on then f.2.getD 0 0 else 0)) (ACQ_UMAP + f.1 * 8 + 4) (if on then f.2.getD 1 0 else 0)
    { s with acq := { s.acq with serials := Tbl.set 0 s.acq.serials f.1 (if bitOf (f.2.getD 0 0) 31 then (f.2.getD 3 0).toNat + (f.2.getD 4 0).toNat * 2 ^ 32 else 0) } })
  let now := l.filter (fun f => bitOf (f.2.getD 0 0) 31)
  let s := forL s now (fun s f =>
    let w0 := f.2.getD 0 0
    let cells := entryCells w0
    forL s ((List.range cells.length).zip cells) (fun s e => st32 s (cellRec e.2 + 0x50) (cfgWord w0 (f.2.getD 1 0) e.1)))
  if pairUp s 3 then
    let s := forL s (gone.filter (fun i => !come.contains i)) (fun s i => setInState s i 1)
    forL s (come.filter (fun i => !gone.contains i)) (fun s i => setIn (setInState s i 0) i { stamp := inStamp s i })
  else s

/-- The map changes at a commit: a record that comes into use is restored as in BOOT, and so is a string that is new (R205). -/
def applyUmap (s : Dev) (l : List (Nat × List U32)) : Dev :=
  let was := confStrs s
  let used := ((umapList s).filter (fun e => l.any (fun f => f.1 == e.1))).flatMap (fun e => entryCells e.2.1)
  let s := mapWrite s l
  let s := forL s (l.filter (fun f => bitOf (f.2.getD 0 0) 31)) (fun s f =>
    let w0 := f.2.getD 0 0
    forL s ((entryCells w0).filter (fun c => !used.contains c)) (fun s c => restoreCell s (fld w0 23 7) c (cellSaveOk s (fld w0 23 7) c)))
  forL s ((confStrs s).filter (fun x => !was.contains x)) (fun s x => restoreStr s true false x)

/-- Nodes of the ring whose entries are still to be written, by (ring, address). -/
def pendNodes (s : Dev) : List (Nat × Nat) :=
  s.acq.umapPend.foldl (fun l f => let e := (umapRing f.1, umapAddr f.1); if l.contains e then l else l ++ [e]) []
/-- A node's NODE_MODE is written with ACTIVE set or clear, if it is there and contributes (R404). -/
def activeWrite (s : Dev) (e : Nat × Nat) (on : Bool) : Dev :=
  let d := Tbl.get {} (getRing s e.1).nodes e.2
  if d.present && nodeTaken d && (on || d.active) then sendConfig s e.1 e.2 0 8 (nodeMode s e.1 e.2 on) else s
/-- P1 writes the map once no node it changes has ACTIVE set and no estimator pass runs, and sets ACTIVE again; P0 loads the screen
limits that follow (R119, R136, R152, R163, R404). -/
def umapTry (s : Dev) : Dev :=
  let l := s.acq.umapPend
  let ns := pendNodes s
  if l.isEmpty || !pairUp s 1 || s.est.pass.isSome || ns.any (fun e => (Tbl.get {} (getRing s e.1).nodes e.2).active) then s
  else
    let was := confStrs s
    let s := applyUmap { s with acq := { s.acq with umapPend := [] } } l
    let s := if (confStrs s).all (was.contains ·) then s else tableFaults s
    let s := if pairUp s 0 then scrLoad s else s
    forL s ns (fun s e => activeWrite s e true)
/-- A commit changes the map: ACTIVE of the nodes affected is cleared first (R404). -/
def umapCommit (s : Dev) (l : List (Nat × List U32)) : Dev :=
  if l.isEmpty || !pairUp s 1 then s
  else
    let s := { s with acq := { s.acq with umapPend := s.acq.umapPend ++ l } }
    umapTry (forL s (pendNodes s) (fun s e => activeWrite s e false))

/-! ## What a commit applies (R385) -/

/-- A committed value changed among some IDs. -/
def changedIn (old new : Nat → Nat) (first count : Nat) : Bool := (List.range count).any (fun i => old (first + i) != new (first + i))

/-- A commit ends the device's membership, with its enable, its cluster or its index: no head is in force, the episodes of its view end,
and the view is empty (R436 to R438, R451). DESIGN CHOICE: the members it had in view enter it anew (log 71). -/
def clLeave (s : Dev) : Dev :=
  let s := newHead s none
  let s := forL s (s.cl.members.map (·.1)) (fun s i =>
    forL s [Ev.CLUSTER_LEAVE, Ev.CLUSTER_DUP_INDEX, Ev.CLUSTER_STRANGER, Ev.CLUSTER_CFG] (fun s e => clearCond s 3 e i 0x7F))
  let s := wrB (clearCond s 3 Ev.CLUSTER_NO_QUORUM devScope 0x7F) CL_STATUS 16 false
  let s := wrN { s with cl := { s.cl with members := [], contribs := [], result := [], syncPort := none, delays := [], req := none } } CL_PATH_D 0
  wrN (wrN s CL_VIEW_LO 0) CL_VIEW_HI 0

/-- What the owning pairs do as the committed values of a transaction apply: `old` gives the values before, `piste` says that the
piste of the mode in force changed. -/
def commitEffects (s : Dev) (old : Nat → Nat) (m : Txn) (piste : Bool) : Dev :=
  let new := parC s
  let ch := changedIn old new
  let s := cfgWrite s 0 (safImage s ++ exeImage s)
  let s := if ch 0xB001 7 then (let s := cfgWrite s 3 (clImage s); if ch 0xB001 3 then clLeave s else s) else s
  let s := cfgWrite s 2 [(CNT_CTRL, 1, w32 (b2n (parC s 0xD002 != 0)))]
  let s := syncHp s
  let s := umapCommit s m.umap
  let scr := ch 0x3002 2 || ch 0x7400 0x100
  let s := if scr && pairUp s 0 then scrLoad s else s
  let s := if ch 0x7300 0x30 && pairUp s 0 then forN s 16 busDerive else s
  let s := if ch 0x8200 128 && pairUp s 0 then forL s (confStrs s) directionSync else s
  let s := forN s 128 (fun s x => if old (0x4300 + x) != new (0x4300 + x) then ratedChange s x else s)
  let s := forN s 128 (fun s x => if old (0x4100 + x) != new (0x4100 + x) then learnAbort s x 6 else s)
  let s := if ch 0x4100 128 then healthAll (tableFaults s) else s
  let s := forN s 8 (fun s n =>
    let pcs := ch 0x5080 11 && (old 0x5081 == n || old 0x5082 == n || new 0x5081 == n || new 0x5082 == n)
    if ch (0xC000 + n * 0x100) 0x30 || pcs then canAsk (canAsk s n .settle) n .build else s)
  if pairUp s 0 && piste then pisteStage s s.acq.dense else s

/-- A value applies when its commit is durable: "immediate" and "at commit" (R385). -/
def appliesNow (id : Nat) : Bool :=
  match Params.paramRow id with
  | some r => r.takes == .immediate || r.takes == .atCommit
  | none => false

/-- A staged piste's words enter the committed pistes (R65). -/
def commitPistes (s : Dev) (l : List (Nat × Nat × U32)) : Dev :=
  forL s l (fun s e =>
    if e.1 = 1 then { s with piste := { s.piste with dense := Tbl.set (defPiste true e.2.1) s.piste.dense e.2.1 e.2.2 } }
    else { s with piste := { s.piste with single := Tbl.set (defPiste false e.2.1) s.piste.single e.2.1 e.2.2 } })

/-- The retained copy is durable: the commit takes effect and is answered (R385, R399). -/
def commitDone (s : Dev) (m : Commit) : Dev :=
  let before := s.parCfg
  let piste := (changedEntries s m.txn.pistes).any (fun e => e.1 == s.acq.dense)
  let old := fun id => Tbl.get (Params.paramDefault id) before id
  let s := forL s m.txn.vals (fun s e =>
    let s := { s with parCfg := Tbl.set (Params.paramDefault e.1) s.parCfg e.1 e.2 }
    if appliesNow e.1 then { s with parNow := Tbl.set (Params.paramDefault e.1) s.parNow e.1 e.2 } else s)
  let s := commitPistes s m.txn.pistes
  let s := { s with host := { s.host with commit := none, cfgSeq := m.seq, cfgCrc := m.crc, cfgCopy := some m.copyB } }
  let s := commitEffects s old m.txn piste
  let s := post s 2 Ev.CONFIG_COMMIT (m.txn.owner + b2n m.copyB * 256 + m.cmd.tag * 0x10000 + m.seq * 2 ^ 32)
  finish s OP_CONFIG_COMMIT m.cmd ST_OK [w32 m.seq, m.crc, w32 (b2n m.copyB)]

/-! ## The retained copies (R530, R531) -/

/-- The 20 bytes of a unit-map entry in a copy (R404, R530). -/
def umapBytes (e : Nat × U32 × U32) (serial : Nat) : List U8 :=
  leBytes 4 e.2.1.toNat ++ leBytes 4 e.2.2.toNat ++ leBytes 4 (umapUnit e.1 * 65536 + umapAddr e.1 * 256 + umapRing e.1) ++ leBytes 8 serial

/-- A configuration copy's bytes: every parameter of the catalogue, the valid unit-map entries, both pistes (R530). -/
def copyBytes (s : Dev) (v : Nat → Nat) (t : Txn) (seq : Nat) : List U8 :=
  let serialOf := fun i => match t.umap.find? (fun f => f.1 == i) with
    | some f => (f.2.getD 3 0).toNat + (f.2.getD 4 0).toNat * 2 ^ 32
    | none => Tbl.get 0 s.acq.serials i
  let map := nextMap s t.umap
  let body := allIds.flatMap (fun id => leBytes 4 id ++ leBytes 4 (v id)) ++ map.flatMap (fun e => umapBytes e (serialOf e.1)) ++
    [false, true].flatMap (fun d => (List.range 1024).flatMap (fun i => leBytes 4 (stagedWord s t.pistes d i).toNat))
  let head := leBytes 4 0x9640C0F6 ++ leBytes 2 1 ++ leBytes 2 allIds.length ++ leBytes 4 seq ++ leBytes 2 map.length ++ leBytes 2 512 ++
    leBytes 4 (fwVer s).toNat ++ leBytes 4 body.length ++ leBytes 4 0
  head ++ leBytes 4 (crc32 (head ++ leBytes 4 0 ++ body)).toNat ++ body

/-- What a retained copy holds. -/
structure ConfCopy where
  seq    : Nat
  crc    : U32
  vals   : List (Nat × Nat)
  umap   : List (Nat × List U32)
  pistes : List (Nat × Nat × U32)
  deriving DecidableEq, Repr

/-- Parameters of a copy that the catalogue does not know (R531). -/
def unknownIds (c : ConfCopy) : List Nat := (c.vals.map (·.1)).filter (fun id => (Params.paramRow id).isNone)

/-- The copy at a base, when its header and CRC are consistent (R530, R531). -/
def copyRead (s : Dev) (b : Bool) : Option ConfCopy :=
  let a := copyBase b
  let np := ld16 s (a + 6)
  let nu := ld16 s (a + 12)
  let bl := ld32 s (a + 20)
  if ld32 s a ≠ 0x9640C0F6 ∨ ld16 s (a + 4) ≠ 1 ∨ np > 4096 ∨ nu > 8128 ∨ ld16 s (a + 14) ≠ 512 ∨ bl ≠ np * 8 + nu * 20 + 8192 then none
  else
    let crc := crc32 (Memory.bytes s.mem a 28 ++ leBytes 4 0 ++ Memory.bytes s.mem (a + 32) bl)
    if crc ≠ w32 (ld32 s (a + 28)) then none
    else
      let pa := a + 32
      let ua := pa + np * 8
      let ga := ua + nu * 20
      let vals := (List.range np).map (fun i => (ld16 s (pa + i * 8), ld32 s (pa + i * 8 + 4)))
      let ents := (List.range nu).map (fun i => ldWords s (ua + i * 20) 5)
      let words := ldWords s ga 2048
      let pistes := (List.range 2048).map (fun i => (i / 1024, i % 1024, words.getD i 0))
      match ents.mapM (fun w => (entryIdx (w.getD 2 0)).map (fun i => (i, w))) with
      | none => none
      | some umap => some { seq := ld32 s (a + 8), crc := crc, vals := vals, umap := umap, pistes := pistes }

/-- Value of a parameter in a copy; its default where the copy lacks it. -/
def copyVal (c : ConfCopy) (id : Nat) : Nat :=
  match c.vals.find? (fun e => e.1 == id) with
  | some e => e.2
  | none => Params.paramDefault id
/-- Every rule of R531 on a copy's content holds; `s` has no unit map yet. -/
def copyGood (s : Dev) (c : ConfCopy) : Bool :=
  c.vals.all (fun e => match Params.paramRow e.1 with | some r => r.admits e.2 | none => true) &&
    c.umap.all (fun f => bitOf (f.2.getD 0 0) 31) && (umapFail s c.umap).isNone &&
    [false, true].all (fun d => (firstBad (stagedWord s c.pistes d)).isNone) &&
    (crossFail s (copyVal c) (copyVal c) []).isNone
/-- A copy is valid, and not what a torn transaction left (R529, R531). -/
def copyValid (s : Dev) (b : Bool) : Option ConfCopy :=
  match copyRead s b with
  | some c => if copyGood s c && !tornAt s 2 (copyBase b) then some c else none
  | none => none

/-- The copy with the higher SEQ, by serial arithmetic (R531): B when set. -/
def newerCopy (s : Dev) : Bool :=
  let d := (ld32 s (copyBase true + 8) + 2 ^ 32 - ld32 s (copyBase false + 8)) % 2 ^ 32
  d != 0 && decide (d < 2 ^ 31)

/-- The settings of a valid copy, all of them in force from BOOT (R21, R531). -/
def copyApply (s : Dev) (b : Bool) (c : ConfCopy) (rejected : Bool) : Dev :=
  let known := c.vals.filter (fun e => (Params.paramRow e.1).isSome)
  let t := known.foldl (fun t e => Tbl.set (Params.paramDefault e.1) t e.1 e.2) ([] : Tbl Nat)
  let s := { s with parCfg := t, parNow := t, host := { s.host with cfgSeq := c.seq, cfgCrc := c.crc, cfgCopy := some b } }
  let s := commitPistes s c.pistes
  let u := unknownIds c
  let s := if u.isEmpty then s else post s 2 Ev.CONFIG_UNKNOWN_ID (u.headD 0 + u.length * 2 ^ 32)
  post s 2 Ev.CONFIG_RESTORED (b2n b * 256 + b2n rejected * 512 + c.seq * 2 ^ 32)

/-- The configuration is restored in BOOT; answers the unit-map entries still to be written (R531). -/
def restoreConfig (s : Dev) : Dev × List (Nat × List U32) :=
  let n := newerCopy s
  match copyValid s n with
  | some c => (copyApply s n c false, c.umap)
  | none =>
    match copyValid s (!n) with
    | some c => (copyApply s (!n) c true, c.umap)
    | none => (note s 2 Ev.CONFIG_DEFAULTS 0, [])

/-! ## The commands (R384, R385, R395, R398, R399) -/

/-- The command's session owns the open transaction. -/
def ownsTxn (s : Dev) (c : HostCmd) : Bool :=
  match s.host.txn with
  | some t => t.owner == c.sess
  | none => false
/-- Change the open transaction. -/
def setTxn (s : Dev) (f : Txn → Txn) : Dev := { s with host := { s.host with txn := s.host.txn.map f } }

/-- CONFIG_BEGIN. -/
def configBeginBody (c : HostCmd) (s : Dev) : Dev :=
  if s.host.txn.isSome then answer s OP_CONFIG_BEGIN c ST_CONFLICT
  else answer { s with host := { s.host with txn := some { owner := c.sess } } } OP_CONFIG_BEGIN c ST_OK
def configBegin (c : HostCmd) (s : Dev) : Dev := serve s OP_CONFIG_BEGIN c (configBeginBody c)

/-- CONFIG_ABORT. -/
def configAbortBody (c : HostCmd) (s : Dev) : Dev :=
  if ownsTxn s c then answer (abortTxn s 1 c.tag) OP_CONFIG_ABORT c ST_OK else answer s OP_CONFIG_ABORT c ST_STATE
def configAbort (c : HostCmd) (s : Dev) : Dev := serve s OP_CONFIG_ABORT c (configAbortBody c)

/-- The pairs of a PARAM_SET. -/
def setPairs (c : HostCmd) : List (Nat × Nat) := (List.range (pwN c 0)).map (fun i => (pwN c (1 + 2 * i), pwN c (2 + 2 * i)))
/-- Staged values with one more; a value staged again replaces the one before. -/
def stageVal (l : List (Nat × Nat)) (e : Nat × Nat) : List (Nat × Nat) := l.filter (fun x => x.1 != e.1) ++ [e]

/-- PARAM_SET: three passes over its pairs, and the limit of 4,096 values (R384, R398). -/
def paramSetBody (c : HostCmd) (s : Dev) : Dev :=
  let n := pwN c 0
  let fail := fun st id => finish s OP_PARAM_SET c st [w32 id]
  if !ownsTxn s c then answer s OP_PARAM_SET c ST_STATE
  else if c.payload.isEmpty then answer s OP_PARAM_SET c ST_LENGTH
  else if n = 0 ∨ n > 512 then answer s OP_PARAM_SET c ST_BAD_PARAM
  else if c.payload.length ≠ 1 + 2 * n then answer s OP_PARAM_SET c ST_LENGTH
  else
    let l := setPairs c
    if l.any (fun e => decide (e.1 ≥ 65536)) then answer s OP_PARAM_SET c ST_BAD_PARAM
    else
      match l.find? (fun e => (Params.paramRow e.1).isNone) with
      | some e => fail ST_NOT_PRESENT e.1
      | none =>
        if privOf s c.sess < 3 && l.any (fun e => match Params.paramRow e.1 with | some r => r.safety | none => false) then
          answer s OP_PARAM_SET c ST_PRIVILEGE
        else
          match l.find? (fun e => match Params.paramRow e.1 with | some r => !r.admits e.2 | none => true) with
          | some e => fail ST_BAD_PARAM e.1
          | none =>
            let next := l.foldl stageVal (match s.host.txn with | some t => t.vals | none => [])
            if next.length > 4096 then answer s OP_PARAM_SET c ST_BUSY
            else answer (setTxn s (fun t => { t with vals := next })) OP_PARAM_SET c ST_OK
def paramSet (c : HostCmd) (s : Dev) : Dev := serve s OP_PARAM_SET c (paramSetBody c)

/-- The staged value of a parameter, for the transaction's owner. -/
def stagedVal (s : Dev) (c : HostCmd) (id : Nat) : Option Nat :=
  match s.host.txn with
  | some t => if t.owner = c.sess then (t.vals.find? (fun e => e.1 == id)).map (·.2) else none
  | none => none
/-- PARAM_GET (R398). -/
def paramGetBody (c : HostCmd) (s : Dev) : Dev :=
  let n := fld (pw c 0) 0 16
  if c.payload.isEmpty then answer s OP_PARAM_GET c ST_LENGTH
  else if n = 0 ∨ n > 2048 ∨ fld (pw c 0) 17 15 ≠ 0 then answer s OP_PARAM_GET c ST_BAD_PARAM
  else if c.payload.length ≠ 1 + n then answer s OP_PARAM_GET c ST_LENGTH
  else
    let ids := (List.range n).map (fun i => pwN c (1 + i))
    if ids.any (fun id => decide (id ≥ 65536)) then answer s OP_PARAM_GET c ST_BAD_PARAM
    else
      match ids.find? (fun id => (Params.paramRow id).isNone) with
      | some id => finish s OP_PARAM_GET c ST_NOT_PRESENT [w32 id]
      | none =>
        finish s OP_PARAM_GET c ST_OK (ids.flatMap (fun id =>
          match (if bitOf (pw c 0) 16 then stagedVal s c id else none) with
          | some v => [w32 (id + 65536), w32 v]
          | none => [w32 id, w32 (par s id)]))
def paramGet (c : HostCmd) (s : Dev) : Dev := serve s OP_PARAM_GET c (paramGetBody c)

/-- The value of a parameter that a transaction would leave. -/
def txnVal (s : Dev) (t : Txn) (id : Nat) : Nat :=
  match t.vals.find? (fun e => e.1 == id) with
  | some e => e.2
  | none => parC s id

/-- CONFIG_COMMIT: the cross-rules, then one retained transaction to the older copy (R385, R399). -/
def configCommitBody (c : HostCmd) (s : Dev) : Dev :=
  match s.host.txn with
  | none => answer s OP_CONFIG_COMMIT c ST_STATE
  | some t =>
    if t.owner ≠ c.sess then answer s OP_CONFIG_COMMIT c ST_STATE
    else if s.host.commit.isSome || within s s.host.commitAt 1000 then answer s OP_CONFIG_COMMIT c ST_BUSY
    else
      let v := txnVal s t
      match crossFail s v (parC s) (t.vals.map (·.1)) with
      | some id => finish s OP_CONFIG_COMMIT c ST_BAD_PARAM [w32 id]
      | none =>
        match pisteFail s t.pistes with
        | some i => finish s OP_CONFIG_COMMIT c ST_BAD_PARAM [w32 0xFFFF, w32 i]
        | none =>
          match umapFail s t.umap with
          | some i => finish s OP_CONFIG_COMMIT c ST_BAD_PARAM [w32 0xFFFF, w32 i]
          | none =>
            let seq := (s.host.cfgSeq + 1) % 2 ^ 32
            let bytes := copyBytes s v t seq
            let m : Commit := { cmd := c, txn := t, seq := seq, crc := w32 (leNat ((bytes.drop 28).take 4)), copyB := s.host.cfgCopy == some false }
            let s := stBytes s 0x20F10000 bytes
            pumpTxns { s with host := { s.host with txn := none, commit := some m, commitAt := s.uptimeMs + 1 }, pwr := { s.pwr with cfgDue := true } }
def configCommit (c : HostCmd) (s : Dev) : Dev := serve s OP_CONFIG_COMMIT c (configCommitBody c)

/-- PISTE_WRITE: every entry is judged under R54, then for its class (R402). -/
def pisteWriteBody (c : HostCmd) (s : Dev) : Dev :=
  let f := rangeFirst c 0
  let n := rangeCount c 0
  let d := bitOf (pw c 1) 0
  let w := fun i => pw c (2 + i)
  if !ownsTxn s c then answer s OP_PISTE_WRITE c ST_STATE
  else if c.payload.length ≠ 2 + 4 * n then answer s OP_PISTE_WRITE c ST_LENGTH
  else if f + n > 256 ∨ fld (pw c 1) 1 31 ≠ 0 then answer s OP_PISTE_WRITE c ST_BAD_PARAM
  else
    match (List.range n).find? (fun i => gateEn (w (4 * i + 2)) && gateBad (w (4 * i)) (w (4 * i + 1)) (w (4 * i + 2))) with
    | some i => finish s OP_PISTE_WRITE c ST_BAD_PARAM [w32 (f + i)]
    | none =>
      let l := match s.host.txn with | some t => t.pistes | none => []
      let changes := (List.range n).filter (fun i => (List.range 4).any (fun k => w (4 * i + k) != stagedWord s l d (4 * (f + i) + k)))
      if privOf s c.sess < 3 && changes.any (fun i => guarded (w (4 * i + 2)) || guarded (stagedWord s l d (4 * (f + i) + 2))) then
        answer s OP_PISTE_WRITE c ST_PRIVILEGE
      else
        let new := (List.range (4 * n)).map (fun i => (b2n d, 4 * f + i, w i))
        let keep := l.filter (fun e => !(e.1 == b2n d && decide (4 * f ≤ e.2.1) && decide (e.2.1 < 4 * (f + n))))
        answer (setTxn s (fun t => { t with pistes := keep ++ new })) OP_PISTE_WRITE c ST_OK
def pisteWrite (c : HostCmd) (s : Dev) : Dev := serve s OP_PISTE_WRITE c (pisteWriteBody c)

/-- UNIT_MAP_SET (R404). -/
def unitMapSetBody (c : HostCmd) (s : Dev) : Dev :=
  let n := pwN c 0
  if !ownsTxn s c then answer s OP_UNIT_MAP_SET c ST_STATE
  else if c.payload.isEmpty then answer s OP_UNIT_MAP_SET c ST_LENGTH
  else if n = 0 ∨ n > 819 then answer s OP_UNIT_MAP_SET c ST_BAD_PARAM
  else if c.payload.length ≠ 1 + 5 * n then answer s OP_UNIT_MAP_SET c ST_LENGTH
  else
    let words := (List.range n).map (fun i => (List.range 5).map (fun k => pw c (1 + 5 * i + k)))
    match words.mapM (fun w => (entryIdx (w.getD 2 0)).map (fun i => (i, w))) with
    | none => answer s OP_UNIT_MAP_SET c ST_BAD_PARAM
    | some l =>
      let old := match s.host.txn with | some t => t.umap | none => []
      let next := l.foldl (fun acc e => acc.filter (fun x => x.1 != e.1) ++ [e]) old
      match umapFail s next with
      | some i => finish s OP_UNIT_MAP_SET c ST_BAD_PARAM [w32 i]
      | none => answer (setTxn s (fun t => { t with umap := next })) OP_UNIT_MAP_SET c ST_OK
def unitMapSet (c : HostCmd) (s : Dev) : Dev := serve s OP_UNIT_MAP_SET c (unitMapSetBody c)

end Sys2Proof.Machine
end

