-- ==== Sys2Proof/Machine/Ecdsa.lean ====
section
/-!
DEFINITION. Sys2Proof/Machine/Ecdsa.lean: ECDSA signature verification on the curve P-256 with SHA-256 (17 R520, R521; the curve's
constants are those of FIPS 186).
-/
namespace Sys2Proof.Machine

/-- The field prime, the group order and the coefficient b of P-256; a is -3. -/
abbrev ecP : Nat := 0xFFFFFFFF00000001000000000000000000000000FFFFFFFFFFFFFFFFFFFFFFFF
abbrev ecN : Nat := 0xFFFFFFFF00000000FFFFFFFFFFFFFFFFBCE6FAADA7179E84F3B9CAC2FC632551
abbrev ecB : Nat := 0x5AC635D8AA3A93E7B3EBBD55769886BC651D06B0CC53B0F63BCE3C3E27D2604B

/-- A point: none is the point at infinity. -/
abbrev EcPt := Option (Nat × Nat)
/-- The base point. -/
def ecG : EcPt := some (0x6B17D1F2E12C4247F8BCE6E563A440F277037D812DEB33A0F4A13945D898C296, 0x4FE342E2FE1A7F9B8EE7EB4A7C0F9E162BCE33576B315ECECBB6406837BF51F5)

/-- b to the power e modulo m, for e below 2^fuel. -/
def powMod (m : Nat) : Nat → Nat → Nat → Nat
  | 0, _, _ => 1 % m
  | fuel + 1, b, e =>
    let h := powMod m fuel (b * b % m) (e / 2)
    if e % 2 = 1 then b * h % m else h
/-- The inverse modulo a 256-bit prime. -/
def invMod (m a : Nat) : Nat := powMod m 256 (a % m) (m - 2)

/-- The point on the line of slope l through (x1, y1) and a point with abscissa x2. -/
def ecLine (l x1 y1 x2 : Nat) : EcPt :=
  let x := (l * l + 2 * ecP - x1 - x2) % ecP
  some (x, (l * (x1 + ecP - x) + ecP - y1) % ecP)
/-- Twice a point. -/
def ecDouble : EcPt → EcPt
  | none => none
  | some (x, y) => if y = 0 then none else ecLine ((3 * x * x + ecP - 3) % ecP * invMod ecP (2 * y) % ecP) x y x
/-- The sum of two points. -/
def ecAdd : EcPt → EcPt → EcPt
  | none, q => q
  | p, none => p
  | some (x1, y1), some (x2, y2) =>
    if x1 = x2 then (if y1 = y2 then ecDouble (some (x1, y1)) else none)
    else ecLine ((y2 + ecP - y1) * invMod ecP (x2 + ecP - x1) % ecP) x1 y1 x2
/-- k times a point, for k below 2^fuel. -/
def ecMul : Nat → Nat → EcPt → EcPt
  | 0, _, _ => none
  | fuel + 1, k, p =>
    let h := ecMul fuel (k / 2) (ecDouble p)
    if k % 2 = 1 then ecAdd p h else h

/-- (x, y) is a point of the curve. -/
def ecOn (x y : Nat) : Bool := decide (x < ecP) && decide (y < ecP) && (y * y % ecP == (x * x % ecP * x + (ecP - 3) * x + ecB) % ecP)

/-- A signature over a 32-byte hash verifies: `key` is X then Y, `sig` is r then s, 32 bytes each, big-endian. -/
def ecdsaOk (key hash sig : List U8) : Bool :=
  let x := beNat (key.take 32)
  let y := beNat (key.drop 32)
  let r := beNat (sig.take 32)
  let t := beNat (sig.drop 32)
  if r = 0 ∨ t = 0 ∨ r ≥ ecN ∨ t ≥ ecN ∨ !ecOn x y then false
  else
    let w := invMod ecN t
    match ecAdd (ecMul 256 (beNat hash * w % ecN) ecG) (ecMul 256 (r * w % ecN) (some (x, y))) with
    | none => false
    | some (v, _) => v % ecN == r

end Sys2Proof.Machine
end

