-- ==== Sys2Proof/Machine/Firmware.lean ====
section
/-!
DEFINITION. Sys2Proof/Machine/Firmware.lean: firmware images and their verification, staging and activation (spec 17 R519 to R522,
R524; 13 R424 to R426).
-/
namespace Sys2Proof.Machine

/-! ## Images (R520, R521) -/

/-- The first byte of a bank, B when set; a bank holds 8 MiB (R17). -/
def bankBase (b : Bool) : Nat := if b then 0x800000 else 0
/-- The bytes from `off` of a bank are zero. -/
def zeroRun (s : Dev) (a n : Nat) : Bool := (Memory.bytes s.mem a n).all (· == 0)
/-- SIZE, SECVER and VERSION of a bank's image (R520). -/
def imgSize (s : Dev) (b : Bool) : Nat := ld32 s (bankBase b + 0x10)
def imgSec (s : Dev) (b : Bool) : Nat := ld16 s (bankBase b + 0xC)
def imgVer (s : Dev) (b : Bool) : Nat := ld32 s (bankBase b + 8)

/-- The six checks of a bank's image (R521); `size` is the staged size. At BOOT, none, SIZE is to fit the bank. -/
def imgCheck (s : Dev) (b : Bool) (size : Option Nat) (minSec : Nat) (k : Nat) : Bool :=
  let a := bankBase b
  let key := Memory.bytes s.mem (a + 0x80) 64
  let slot := ld8 s (a + 0xE)
  match k with
  | 1 => ld32 s a == 0x96404657 && ld16 s (a + 4) == 1 && zeroRun s (a + 6) 2 && zeroRun s (a + 0xF) 1 && zeroRun s (a + 0x38) 8 && zeroRun s (a + 0xC0) 64
  | 2 => imgSize s b % 4 == 0 && decide (260 ≤ imgSize s b) && decide (imgSize s b ≤ 8388608) && (match size with | some n => n == imgSize s b | none => true)
  | 3 => decide (imgSec s b ≥ minSec)
  | 4 => decide (slot ≤ 3) && beNat (sha256 key) == (Config.otpKeyHash slot).toNat && !Config.keyRevoked slot
  | 5 => sha256 (Memory.bytes s.mem (a + 0x100) (imgSize s b - 0x100)) == Memory.bytes s.mem (a + 0x18) 32
  | _ => ecdsaOk key (sha256 (Memory.bytes s.mem a 64)) (Memory.bytes s.mem (a + 0x40) 64)

/-- The first check that fails; none when the image verifies (R521). -/
def imgFail (s : Dev) (b : Bool) (size : Option Nat) : Option Nat :=
  [1, 2, 3, 4, 5, 6].find? (fun k => !imgCheck s b size s.pwr.boot.minSec k)

/-! ## The boot record as P2 keeps it (R522) -/

/-- Change the boot record; its write is due. -/
def setBootRec (s : Dev) (f : BootRec → BootRec) : Dev := { s with pwr := { s.pwr with boot := f s.pwr.boot, bootDue := true } }
/-- The bits of BFLAGS of a bank: invalid, verified. -/
def badBit (b : Bool) : Nat := if b then 1 else 0
def okBit (b : Bool) : Nat := if b then 3 else 2
/-- A bank's flags and, where it verifies, its version. -/
def bankFlags (r : BootRec) (b bad ok : Bool) : BootRec := { r with flags := nput (nput r.flags (badBit b) bad) (okBit b) ok }
def bankVersion (r : BootRec) (b : Bool) (v : Nat) : BootRec := if b then { r with verB := v } else { r with verA := v }
/-- VERSION of a bank by the boot record. -/
def recVer (r : BootRec) (b : Bool) : Nat := if b then r.verB else r.verA

/-- The bank that executes, none in the recovery service (R519, R540). -/
def runBank (s : Dev) : Option Bool := if s.pwr.recovery then none else some (rdB s PWR_BOOT 16)
/-- The bank that staging writes: the one that does not execute (R425). In the recovery service either may be written (R519): the
bank BOOTSEL selects, else the one not ACTIVE (Log 18). -/
def stageBank (s : Dev) : Bool :=
  match runBank s with
  | some b => !b
  | none => if s.pwr.selBoot = 1 then false else if s.pwr.selBoot = 2 then true else !s.pwr.boot.active

/-! ## Staging (R424, R425) -/

/-- A stage of another session is open. -/
def stageTaken (s : Dev) (c : HostCmd) : Bool := match s.pwr.stage with | some (o, _) => o != c.sess | none => false

/-- FW_STAGE_BEGIN. -/
def fwStageBeginBody (c : HostCmd) (s : Dev) : Dev :=
  let n := pwN c 0
  let b := stageBank s
  if c.payload.length ≠ 1 ∨ n > 8388608 then answer s OP_FW_STAGE_BEGIN c ST_LENGTH
  else if n % 4 ≠ 0 ∨ n < 4 then answer s OP_FW_STAGE_BEGIN c ST_BAD_PARAM
  else if stageTaken s c then answer s OP_FW_STAGE_BEGIN c ST_CONFLICT
  else
    let s := { s with pwr := { s.pwr with stage := some (c.sess, n), staged := [] } }
    let s := if nbit s.pwr.boot.flags (okBit b) then setBootRec s (fun r => bankFlags r b (nbit r.flags (badBit b)) false) else s
    finish (pumpTxns s) OP_FW_STAGE_BEGIN c ST_OK [w32 (b2n b)]
def fwStageBegin (c : HostCmd) (s : Dev) : Dev := serve s OP_FW_STAGE_BEGIN c (fwStageBeginBody c)

/-- FW_STAGE_DATA. Without a stage of its own session it fails (R425). -/
def fwStageDataBody (c : HostCmd) (s : Dev) : Dev :=
  let off := pwN c 0
  let data := wordsToBytes (c.payload.drop 1)
  if c.payload.length < 2 then answer s OP_FW_STAGE_DATA c ST_LENGTH
  else if off % 4 ≠ 0 then answer s OP_FW_STAGE_DATA c ST_BAD_PARAM
  else if stageTaken s c then answer s OP_FW_STAGE_DATA c ST_CONFLICT
  else
    match s.pwr.stage with
    | none => answer s OP_FW_STAGE_DATA c ST_STATE
    | some (_, n) =>
      if off + data.length > n then answer s OP_FW_STAGE_DATA c ST_LENGTH
      else
        let s := stBytes s (bankBase (stageBank s) + off) data
        answer { s with pwr := { s.pwr with staged := s.pwr.staged ++ [(off, off + data.length)] } } OP_FW_STAGE_DATA c ST_OK
def fwStageData (c : HostCmd) (s : Dev) : Dev := serve s OP_FW_STAGE_DATA c (fwStageDataBody c)

/-- The first offset from `pos` that no range covers, with fuel for each range once. -/
def firstGap (l : List (Nat × Nat)) : Nat → Nat → Nat
  | 0, pos => pos
  | fuel + 1, pos =>
    match l.find? (fun e => decide (e.1 ≤ pos) && decide (pos < e.2)) with
    | some e => firstGap l fuel e.2
    | none => pos

/-- FW_STAGE_VERIFY. -/
def fwStageVerifyBody (c : HostCmd) (s : Dev) : Dev :=
  let b := stageBank s
  if stageTaken s c then answer s OP_FW_STAGE_VERIFY c ST_CONFLICT
  else
    match s.pwr.stage with
    | none => answer s OP_FW_STAGE_VERIFY c ST_STATE
    | some (_, n) =>
      let gap := firstGap s.pwr.staged (s.pwr.staged.length + 1) 0
      if gap < n then finish s OP_FW_STAGE_VERIFY c ST_INTEGRITY [w32 gap]
      else
        let fail := imgFail s b (some n)
        let s := { s with pwr := { s.pwr with stage := none, staged := [] } }
        if fail.isSome then answer (pumpTxns (setBootRec s (fun r => bankFlags r b true false))) OP_FW_STAGE_VERIFY c ST_INTEGRITY
        else
          let v := imgVer s b
          finish (pumpTxns (setBootRec s (fun r => bankVersion (bankFlags r b false true) b v))) OP_FW_STAGE_VERIFY c ST_OK [w32 v]
def fwStageVerify (c : HostCmd) (s : Dev) : Dev := serve s OP_FW_STAGE_VERIFY c (fwStageVerifyBody c)

/-- State of a bank as FW_INFO reports it (R424, R522). -/
def bankState (s : Dev) (b : Bool) : Nat :=
  if runBank s = some b then 4
  else if s.pwr.stage.isSome && stageBank s == b then 1
  else if recVer s.pwr.boot b = 0 then 0
  else if nbit s.pwr.boot.flags (okBit b) then 2 else 3
/-- Version, state and size of a bank. The size is the image's, or the one declared for it while staging (Log 18). -/
def bankInfo (s : Dev) (b : Bool) : List U32 :=
  let st := bankState s b
  let size := match st, s.pwr.stage with
    | 1, some (_, n) => n
    | 0, _ => 0
    | _, _ => imgSize s b
  [w32 (if st = 4 then imgVer s b else recVer s.pwr.boot b), w32 st, w32 size]
/-- FW_INFO. -/
def fwInfoBody (c : HostCmd) (s : Dev) : Dev := finish s OP_FW_INFO c ST_OK (bankInfo s false ++ bankInfo s true)
def fwInfo (c : HostCmd) (s : Dev) : Dev := serve s OP_FW_INFO c (fwInfoBody c)

/-- FW_ACTIVATE: the restart follows as its own row (R426, R518, R519). -/
def fwActivateBody (c : HostCmd) (s : Dev) : Dev :=
  let b := stageBank s
  if c.payload.length ≠ 1 then answer s OP_FW_ACTIVATE c ST_LENGTH
  else if !s.pwr.recovery && s.pwr.selBoot ≠ 0 then answer s OP_FW_ACTIVATE c ST_STATE
  else if !nbit s.pwr.boot.flags (okBit b) || s.pwr.stage.isSome then answer s OP_FW_ACTIVATE c ST_INTEGRITY
  else if recVer s.pwr.boot b ≠ pwN c 0 then answer s OP_FW_ACTIVATE c ST_CONFLICT
  else answer { s with pwr := { s.pwr with activate := some b } } OP_FW_ACTIVATE c ST_OK
def fwActivate (c : HostCmd) (s : Dev) : Dev := serve s OP_FW_ACTIVATE c (fwActivateBody c)

end Sys2Proof.Machine
end

