-- ==== Sys2Proof/Machine/Boot.lean ====
section
/-!
DEFINITION. Sys2Proof/Machine/Boot.lean: BOOT: what a reset leaves, pairs, bank and trial, the descriptor ring, configuration and
records (spec 11 R332, R333; 17 R512, R516 to R524, R529 to R531, R539; 09 R275, R287, R293; 18 R558).
-/
namespace Sys2Proof.Machine

/-! ## OFF (R512, R513, R533) -/

/-- What no reset touches: MRAM, the device key, and what the power rules keep. Registers and cores are cleared (R333). -/
def resetDev (s : Dev) : Dev :=
  let p : Pwr := { resetN := s.pwr.resetN, pgood := s.pwr.pgood, vaon := s.pwr.vaon, reason := s.pwr.reason, marker := s.pwr.marker, woken := s.pwr.woken, named := s.pwr.named }
  { mem := Memory.below s.mem 0x10400000, host := { kdev := s.host.kdev }, pwr := p, freeCtr := s.freeCtr }

/-- Copy the first n bytes of a transaction's segments. -/
def copyPart (s : Dev) : Nat → List (Nat × Nat × Nat) → Dev
  | _, [] => s
  | n, e :: t => copyPart { s with mem := Memory.copy s.mem e.1 e.2.1 (min n e.2.2) } (n - e.2.2) t
/-- Power goes or a reset comes without the hold-up of R515: the transaction applying stops between two words (R513, R525). -/
def tearTxn (s : Dev) : Dev :=
  match s.pwr.txn with
  | none => s
  | some t =>
    let total := (t.segs.map (·.2.2)).foldl (· + ·) 0
    let (k, s) := takeNat s (total / 8 + 1)
    copyPart s (k * 8) t.segs

/-- The device enters OFF. -/
def enterOff (s : Dev) (reason : Nat) : Dev := resetDev { s with pwr := { s.pwr with reason := reason } }

/-! ## Self-test and pairs (R331, R332) -/

/-- A pair is formed of the two lowest cores left, on its own lane or lane 4 (R332). Answers the cores left and lane 4's use. -/
def formPair (h : Health) (acc : Dev × List Nat × Option Nat) (p : Nat) : Dev × List Nat × Option Nat :=
  let (s, cores, four) := acc
  match cores with
  | a :: b :: rest =>
    let base : Pair := { primary := a, shadow := b, formed := true, exch := false, hbAt := 0 }
    if !nbit h.retired p then (setPair s p { base with lane := p }, rest, four)
    else if four.isNone && !nbit h.retired 4 then (setPair s p { base with lane := 4 }, rest, some p)
    else acc
  | _ => acc

/-- The self-test of the nine cores and the forming of pairs; `failed` is the mask of the cores that fail. One core that remains becomes the
spare while lane 4 is free (R332). Events are posted later. -/
def formPairs (s : Dev) (h : Health) (failed : Nat) : Dev :=
  let cores := (List.range 9).filter (fun c => !nbit h.fenced c && !nbit failed c)
  let none4 : Pair := { formed := false }
  let s := forN s 4 (fun s p => setPair s p { none4 with primary := 2 * p, shadow := 2 * p + 1, lane := p })
  let (s, left, four) := [0, 2, 1, 3].foldl (formPair h) (s, cores, none)
  let spare := match left with
    | [c] => if four.isNone && !nbit h.retired 4 then some c else none
    | _ => none
  { s with exe := { s.exe with spare := spare, lane4 := four, health := h } }

/-- The events of the self-test, and what stays in force of the health record (R332, R350, R558). -/
def coreEvents (s : Dev) (h : Health) (failed : Nat) : Dev :=
  let s := forN s 9 (fun s c => if nbit h.fenced c then { s with inForce := s.inForce ++ [{ code := Ev.CORE_FENCED, scope := c }] } else s)
  let s := forN s 5 (fun s l => if nbit h.retired l then { s with inForce := s.inForce ++ [{ code := Ev.COMPARATOR_RETIRED, scope := l }] } else s)
  let s := forN s 9 (fun s c =>
    if nbit failed c && !nbit h.fenced c then
      let s := setHealth s { s.exe.health with fenced := nput s.exe.health.fenced c true }
      raise s 0 Ev.CORE_FENCED (c + 3 * 256) c
    else s)
  let n := ((List.range 9).filter (fun c => !nbit h.fenced c && !nbit failed c)).length
  if (List.range 4).all (fun p => (getPair s p).formed) then s else raise s 0 Ev.CORE_SHORTAGE n devScope

/-! ## The descriptor ring (R528, R529) -/

/-- A transaction of a kind is torn. -/
def tornKind (s : Dev) (kind : Nat) : Bool := (tornSlots s).any (fun k => slotKind s k == kind)
/-- Slots left APPLYING whose transactions completed become DONE; TSEQ goes on from the highest. -/
def ringScan (s : Dev) : Dev :=
  let done := (goodSlots s).filter (fun k => slotState s k == 1 && slotDone s k)
  let top := (goodSlots s).foldl (fun m k => max m (slotSeq s k)) 0
  forL { s with pwr := { s.pwr with tseq := top + 1 } } done (fun s k => st8 s (slotAddr k + 8) 2)
/-- EV_RETAINED_TORN of each torn transaction (R529). -/
def tornEvents (s : Dev) (l : List (Nat × Nat)) : Dev := forL s l (fun s e => note s 2 Ev.RETAINED_TORN (e.1 + e.2 * 2 ^ 32))

/-! ## Bank and trial (R518, R519, R523, R524) -/

/-- What the choice of a bank came to. -/
structure BankPick where
  bank     : Option Bool
  fallback : Bool
  trial    : Bool
  /-- Events to post: code and argument. -/
  events   : List (Nat × Nat)
  rcd      : BootRec
  deriving DecidableEq, Repr

/-- EV_FW_BANK_INVALID's argument. -/
def badArg (b : Bool) (k : Nat) : Nat := b2n b * 65536 + k

/-- The bank under BOOTSEL 0b00 from a boot record: trial handling, ACTIVE unless invalid, then the other bank (R523, R524). -/
def pickRecord (s : Dev) (r : BootRec) : BankPick :=
  let back := r.trial && decide (r.tries ≥ 2)
  let ev := if back then [(Ev.FW_ROLLBACK, recVer r r.active * 2 ^ 32)] else []
  let r := if back then { (bankFlags r r.active true false) with active := r.prev, trial := false } else if r.trial then { r with tries := r.tries + 1 } else r
  let first := if nbit r.flags (badBit r.active) then none else some (imgFail s r.active none)
  match first with
  | some none => { bank := some r.active, fallback := false, trial := r.trial, events := ev, rcd := r }
  | f =>
    let b := r.active
    let ev := match f with | some (some k) => ev ++ [(Ev.FW_BANK_INVALID, badArg b k)] | _ => ev
    let r := match f with | some (some _) => bankFlags r b true false | _ => r
    match imgFail s (!b) none with
    | none => { bank := some (!b), fallback := true, trial := false, events := ev, rcd := { r with active := !b, trial := false } }
    | some k => { bank := none, fallback := false, trial := false, events := ev ++ [(Ev.FW_BANK_INVALID, badArg (!b) k)], rcd := bankFlags r (!b) true false }

/-- The bank to run; none is the recovery service (R518, R519). -/
def pickBank (s : Dev) (sel : Nat) : BankPick :=
  let r := s.pwr.boot
  let only := fun (b : Bool) =>
    let p : BankPick := { bank := if (imgFail s b none).isNone then some b else none, fallback := false, trial := false, events := [], rcd := r }
    p
  if sel = 0 then pickRecord s (match s.pwr.named with | some b => { r with active := b, trial := false } | none => r)
  else if sel = 1 then only false
  else if sel = 2 then only true
  else { bank := none, fallback := false, trial := false, events := [], rcd := r }

/-! ## Records that P0 restores (R275, R287, R293) -/

/-- Wear, E_acc and lock of a string, as its retained record holds them. -/
def wearStr (s : Dev) (x : Nat) : Str :=
  let a := 0x10280000 + x * 64
  let w := fun (o : Nat) => ld32 s (a + o)
  let lock := ld8 s (a + 0x38)
  let t : Str := { opsMP := w 0, opsMN := w 4, opsPC := w 8, brkMP := [w 12, w 16, w 20], brkMN := [w 24, w 28, w 32], brkMax := w 0x24, pcE := ld64 s (a + 0x28) * 1000, eacc := w 0x30 * 1000, pcFail := ld16 s (a + 0x34), weldCnt := ld16 s (a + 0x36), firstChk := (confStrs s).contains x }
  if lock = 0 then t
  else { t with st := if lock = 2 then .sWeldSuspect else .sLockedOut, welds := ld8 s (a + 0x39) % 8, lockEvt := ld16 s (a + 0x3A), lockCyc := w 0x3C }
/-- What a retained lock keeps in force (R558). -/
def lockForce (t : Str) (x : Nat) : List InForce :=
  if t.st == .sLockedOut then [{ code := Ev.STRING_LOCKOUT, scope := x }]
  else if t.st == .sWeldSuspect then
    if (t.welds &&& 6) == 6 then [{ code := Ev.WELD_BOTH, scope := x }]
    else ([0, 1, 2].filter (fun i => nbit t.welds i)).map (fun i => ({ code := Ev.WELD_SUSPECT, scope := x * 4 + ctNum (2 ^ i) } : InForce))
  else []
/-- P0 takes back wear, locks and welds. -/
def restoreWear (s : Dev) : Dev :=
  let s := forN s 128 (fun s x =>
    let t := wearStr s x
    { (setStr s x t) with inForce := s.inForce ++ lockForce t x })
  forN s 16 (fun s n =>
    let a := 0x10282000 + n * 32
    let b := getBus s n
    setBus s n { b with ops := ld32 s a, drops := ld32 s (a + 4), welds := ld16 s (a + 8), weld := ld8 s (a + 10) == 2 })

/-! ## BOOT -/

/-- The log goes on: EV_LOG_RESUME, EV_BOOT and EV_STATE_CHANGE are its first records (R516, R550). -/
def bootLog (s : Dev) : Dev :=
  if pairUp s 2 then
    let s := post (logResume s) 2 Ev.BOOT (rdN s PWR_BOOT + (fwVer s).toNat * 2 ^ 32)
    logIntake (setDev s 2 .boot 0)
  else { s with dev := .boot }

/-- The pairs take their settings: feeds, policy, safety inputs, pistes, rings, CAN, cluster, thermal data (R21, R516, R65). DESIGN
CHOICE: the first piste is published at once, without angle 0 or EV_PISTE_SWAP (log 127). -/
def bootSettings (s : Dev) : Dev :=
  let s := feedWrite s (w32 (packBits (fun p => parB s (0x9010 + p)) 4))
  let s := { (wrB s EXE_CTRL 2 (parB s 0x9001)) with exe := { s.exe with legacy := parB s 0x9001 } }
  let s := forN s 4 (fun s p => setPair s p { getPair s p with exch := rdB s EXE_FEED p })
  let s := if pairUp s 0 then
      let s := cfgTake (restoreWear s) (safImage s)
      let s := { s with acq := { s.acq with dense := parB s 0x3001 } }
      let s := pisteStage s s.acq.dense
      wrF (wrB (wrF s PISTE_CTRL 0 1 (1 - pubBank s)) PISTE_CTRL 1 false) PISTE_STATUS 16 16 (rdF s PISTE_CTRL 16 16)
    else s
  let s := if pairUp s 3 then
      let s := forN s 8 (fun s n => canRestrict (canApply (fltBuild s n) n) n)
      let s := cfgTake s (clImage s)
      thmBoot s
    else s
  let s := if pairUp s 2 then cfgTake s (cfgDiff s (cntImage s)) else s
  let s := if Config.otpValid then s else note (wrB s THM_STATUS 0 true) 3 Ev.COMP_OTP 0
  syncHp s

/-- A save was ever made: a descriptor tells of one, or a record carries WRITTEN (R205). -/
def saveFound (s : Dev) : Bool :=
  (goodSlots s).any (fun k => slotKind s k == 1) || s.mem.any (fun c => decide (0x10000000 ≤ c.1) && decide (c.1 < 0x10100000))

/-- P1 and P2 take back tables, records and limits, and P1 enumerates every enabled ring (R98, R163, R205, R211, R218). -/
def bootRecords (s : Dev) (found torn wake : Bool) : Dev :=
  let s := if pairUp s 1 then
      let s := tableFaults (forN s 8 copySet)
      let s := restoreRecords s found wake
      let s := if torn && !wake then forL s (confStrs s) (fun s x => setConf s x { (getConf s x) with cRef := 0, c := 0 }) else s
      wrB s EST_CTRL 0 true
    else s
  let s := if pairUp s 0 then scrTake s (scrImage s) else s
  let s := if pairUp s 2 then limBoot (coefAll s true) else s
  if pairUp s 1 then
    forN s 32 (fun s n => if nbit (par s 0x2001) n then enumStart (wrB s (ringReg n 0) 0 true) n else s)
  else s

/-- PWR_BOOT of this start (R540). -/
def bootWord (reason woken : Nat) (p : BankPick) : Nat :=
  reason % 16 + (if reason = 4 then woken % 16 * 256 else 0) + b2n (p.bank == some true) * 2 ^ 16 + b2n p.trial * 2 ^ 17 + b2n p.bank.isNone * 2 ^ 18 + b2n p.fallback * 2 ^ 19

/-- The host port is ready: BOOT leaves both rings empty and their offsets 0 (R387, R388). -/
def hostReady (s : Dev) : Dev :=
  let s := forL { s with host := { s.host with ends := [], spaceLow := true } } [HP_CMD_WP, HP_CMD_RP, HP_RPL_WP, HP_RPL_RP] (fun s a => wrN s a 0)
  syncHp (wrB s HP_STATUS 1 true)

/-- The recovery service (R519). -/
def enterRecovery (s : Dev) (sel : Nat) : Dev :=
  let s := { s with pwr := { s.pwr with recovery := true, booting := false } }
  if pairUp s 2 then hostReady (note s 2 Ev.BOOT_RECOVERY sel) else s

/-- BOOT to its last step but one: its end waits for the enumerations (R516). `failed`: cores failing the self-test. -/
def bootRun (s : Dev) (reason bootsel failed : Nat) : Dev :=
  let wake := s.pwr.marker
  let sel := bootsel % 4
  let detected := rd s CAN_WAKE
  let woken := s.pwr.woken
  let s := resetDev s
  let s := { s with dev := if wake then .hibernate else .off, pwr := { s.pwr with reason := reason, marker := false, woken := 0, booting := true, selBoot := sel } }
  let s := if wake then wr s CAN_WAKE (putBit detected 0 false) else s
  let s := tbReenter { s with tb := { s.tb with running := true } }
  let torn := (tornSlots s).map (fun k => (slotKind s k, slotSeq s k))
  let h := if tornKind s 3 then {} else healthOf s
  let found := saveFound s
  let s := ringScan (formPairs s h failed)
  let s := { s with pwr := { s.pwr with boot := bootRead s } }
  let p := pickBank s sel
  let s := wrN s PWR_BOOT (bootWord reason woken p)
  let s := { s with pwr := { s.pwr with trial := p.trial, boot := p.rcd, named := if sel = 0 then none else s.pwr.named, bootDue := sel = 0 ∧ p.rcd ≠ s.pwr.boot } }
  let s := if s.pwr.bootDue && pairUp s 2 then bootNow s else s
  let s := bootLog s
  let s := forL s p.events (fun s e => note s 2 e.1 e.2)
  let s := tornEvents (coreEvents s h failed) torn
  if p.bank.isNone then enterRecovery s sel
  else
    let (s, umap) := if pairUp s 2 then restoreConfig s else (s, [])
    let s := if pairUp s 1 then mapWrite s umap else s
    bootRecords (bootSettings s) found (torn.any (fun e => e.1 == 1)) wake

/-- Every enumeration has ended, or the bound of its step has passed (R516). -/
def bootReady (s : Dev) : Bool :=
  s.pwr.booting && !s.pwr.recovery && ((List.range 32).all (fun n => (getRing s n).enm.isNone) || decide (s.uptimeMs ≥ 45))

/-- BOOT ends: P0 judges the levels its inputs have by then (R289, R305); it sets the latch for a shortage of cores (R549); the latch is cleared unless an F5 cause is present, and the device goes to STANDBY or SAFE_HOLD (R327, R516). -/
def bootEnd (s : Dev) : Dev :=
  let s := if pairUp s 0 then forN (forN s 16 sinJudge) 16 busDerive else s
  let s := if pairUp s 0 && inForceB s Ev.CORE_SHORTAGE devScope then setLatch s Ev.CORE_SHORTAGE else s
  let s := { s with pwr := { s.pwr with booting := false, bootEnd := s.uptimeMs }, lim := { s.lim with bootEnd := s.uptimeMs } }
  let hold := decide (f5Cause s ≠ 0) || f5Demand s || decide (s.saf.latchEvt ≠ 0) || !pairUp s 0
  let s := if hold then s else wrB s SAF_STATUS 0 false
  let s := setDev s 0 (if hold then .safeHold else .standby) (if hold then (if f5Cause s ≠ 0 then f5Cause s else s.saf.latchEvt) else 0)
  if pairUp s 2 then wrB (hostReady s) HP_IRQ 3 true else s

end Sys2Proof.Machine
end

