-- ==== Sys2Proof/Machine/SysOps.lean ====
section
/-!
DEFINITION. Sys2Proof/Machine/SysOps.lean: the remaining host commands of the system, estimation and cluster groups
(spec 13 R395 to R397, R407 to R410, R417).
-/
namespace Sys2Proof.Machine

/-! ## Identity, status and service (R395 to R397) -/

/-- A bank's image is verified, as the boot record says (R522). -/
def bankVerified (s : Dev) (b : Bool) : Bool := nbit s.pwr.boot.flags (if b then 3 else 2)

/-- IDENTIFY (R396). -/
def identifyBody (c : HostCmd) (s : Dev) : Dev :=
  let b := rdB s PWR_BOOT 16
  finish s OP_IDENTIFY c ST_OK
    [w32 (0x96400000 + Config.siliconRev.toNat * 0x100 + 2), w32 Config.serial.toNat, w32 (Config.serial.toNat / 2 ^ 32), fwVer s,
     w32 (b2n b + b2n (bankVerified s (!b)) * 2 + b2n s.host.kdev.isSome * 4 + b2n (parB s 0xA001) * 8),
     w32 (b2n (clOn s) * 2 ^ 31 + ownAddr s)]
def identify (c : HostCmd) (s : Dev) : Dev := serve s OP_IDENTIFY c (identifyBody c)

/-- Execution state of STATUS_GET (R347, R397). -/
def execState (s : Dev) : Nat := if anyLost s then 3 else if noSpare s then 2 else if spareBusy s then 1 else 0
/-- Debug mode as numbered in R397. -/
def debugNum (d : DebugMode) : Nat := match d with | .off => 0 | .live => 1 | .service => 2
/-- A mask over the controllers of a bit of their control register. -/
def canMask (s : Dev) (bit : Nat) : Nat := packBits (fun n => rdB s (canReg n 0) bit) 8
/-- Strings in a state. -/
def strCount (s : Dev) (f : StrState → Bool) : Nat := (s.strs.filter (fun e => f e.2.st)).length

/-- STATUS_GET (R397). -/
def statusGetBody (c : HostCmd) (s : Dev) : Dev :=
  let w0 := shownState s * 2 ^ 28 + fclass s * 2 ^ 24 + execState s * 2 ^ 22 + debugNum s.exe.debug * 2 ^ 16 + pairMask s (·.exch) * 2 ^ 12 +
    b2n s.cnt.vitrine * 2 ^ 11 + b2n s.acq.dense * 2 ^ 10 + b2n s.exe.legacy * 2 ^ 9 + min (tbSource s) 2 * 2 ^ 7
  let w5 := strCount s (· == .sWeldSuspect) * 2 ^ 24 + strCount s (· == .sLockedOut) * 2 ^ 16 + (connStrs s).length * 2 ^ 8 + strCount s (· == .sClosed)
  finish s OP_STATUS_GET c ST_OK
    [w32 w0, w32 (canMask s 6 * 2 ^ 16 + canMask s 4 * 2 ^ 8 + canMask s 5), rd s TB_STATUS, w32 s.tb.cyc, w32 (s.tb.cyc / 2 ^ 32 % 65536), w32 w5,
     regRead s EXE_STATUS, rd s SAF_STATUS, w32 (logHigh s), w32 (logHigh s / 2 ^ 32), w32 (rdF s THM_STATUS 3 2 * 65536 + rdF s THM_DIE_MAX 0 16)]
def statusGet (c : HostCmd) (s : Dev) : Dev := serve s OP_STATUS_GET c (statusGetBody c)

/-- SERVICE_ENTER: from STANDBY (R395). -/
def serviceEnterBody (c : HostCmd) (s : Dev) : Dev := answer (setDev s 0 .service 0) OP_SERVICE_ENTER c ST_OK
def serviceEnter (c : HostCmd) (s : Dev) : Dev := serve s OP_SERVICE_ENTER c (serviceEnterBody c)

/-- SERVICE_LEAVE: not while the debug mode is SERVICE (R395, R355). -/
def serviceLeaveBody (c : HostCmd) (s : Dev) : Dev :=
  if s.exe.debug = .service then answer s OP_SERVICE_LEAVE c ST_STATE else answer (setDev s 0 .standby 0) OP_SERVICE_LEAVE c ST_OK
def serviceLeave (c : HostCmd) (s : Dev) : Dev := serve s OP_SERVICE_LEAVE c (serviceLeaveBody c)

/-! ## Estimation (R407 to R410) -/

/-- A CATALOGUE_READ that has passed its checks is answered (R408). -/
def catalogueReply (s : Dev) (c : HostCmd) : Dev :=
  finish s OP_CATALOGUE_READ c ST_OK ([rd s EST_LAST_SNAP, rd s EST_LAST_LSNAP] ++
    (List.range (rangeCount c 0)).flatMap (fun i => catalogueWords s (rangeFirst c 0 + i)))
/-- CATALOGUE_READ: records of one pass, so it waits for the audit of a pass that has begun (R394, R408). -/
def catalogueReadBody (c : HostCmd) (s : Dev) : Dev :=
  if c.payload.length ≠ 1 then answer s OP_CATALOGUE_READ c ST_LENGTH
  else
    match rangeStatus (rangeFirst c 0) (rangeCount c 0) 65536 2 32 with
    | some st => answer s OP_CATALOGUE_READ c st
    | none => if s.pwr.saveOk then catalogueReply s c else { s with host := { s.host with catWait := s.host.catWait ++ [c] } }
def catalogueRead (c : HostCmd) (s : Dev) : Dev := serve s OP_CATALOGUE_READ c (catalogueReadBody c)
/-- The audit is done: waiting reads are answered. -/
def catalogueWaiting (s : Dev) : Dev := forL { s with host := { s.host with catWait := [] } } s.host.catWait catalogueReply

/-- The 21 words of one string (R407): equivalent full cycles in 0.001, rounded down (R187). -/
def stringEstWords (s : Dev) (x : Nat) : List U32 :=
  ldWords s (0x20DD8000 + x * 16) 4 ++ ldWords s (chgAddr x) 16 ++ [w32 (min (ld64 s (chgAddr x + 8) / max (ratedCap s x) 1) 0xFFFFFFFF)]
def stringEstReadBody (c : HostCmd) (s : Dev) : Dev := serveRange s OP_STRING_EST_READ c 128 21 [] (stringEstWords s)
def stringEstRead (c : HostCmd) (s : Dev) : Dev := serve s OP_STRING_EST_READ c (stringEstReadBody c)

/-- CAPACITY_WRITE (R409). -/
def capacityWriteBody (c : HostCmd) (s : Dev) : Dev :=
  let x := fld (pw c 0) 0 7
  let str := bitOf (pw c 0) 8
  let first := fld (pw c 1) 0 16
  let n := fld (pw c 1) 16 16
  let vals := (c.payload.drop 2).map (·.toNat)
  let r := ratedCap s x
  if c.payload.length < 2 then answer s OP_CAPACITY_WRITE c ST_LENGTH
  else if fld (pw c 0) 7 1 ≠ 0 ∨ fld (pw c 0) 9 23 ≠ 0 ∨ (if str then n ≠ 0 else n = 0 ∨ n > 4094) then answer s OP_CAPACITY_WRITE c ST_BAD_PARAM
  else if vals.length ≠ (if str then 1 else n) then answer s OP_CAPACITY_WRITE c ST_LENGTH
  else if vals.any (fun v => decide (2 * v < r) || decide (2 * v > 3 * r)) then answer s OP_CAPACITY_WRITE c ST_BAD_PARAM
  else if str then answer (hostCapS s x (vals.headD 0)) OP_CAPACITY_WRITE c ST_OK
  else
    let own := cellsOf s x
    let cells := (List.range n).map (first + ·)
    if cells.all (fun k => own.contains k) then answer (forL s (cells.zip vals) (fun s e => hostCap s e.1 e.2)) OP_CAPACITY_WRITE c ST_OK
    else answer s OP_CAPACITY_WRITE c ST_BAD_PARAM
def capacityWrite (c : HostCmd) (s : Dev) : Dev := serve s OP_CAPACITY_WRITE c (capacityWriteBody c)

/-- MASTER_TABLE_LOAD: chunks staged in the SRAM reserve; LAST checks and writes the set (R410, R534). -/
def masterTableLoadBody (c : HostCmd) (s : Dev) : Dev :=
  let k := fld (pw c 0) 0 3
  let last := bitOf (pw c 0) 31
  let off := pwN c 1
  let data := wordsToBytes (c.payload.drop 2)
  if c.payload.length < 2 then answer s OP_MASTER_TABLE_LOAD c ST_LENGTH
  else if fld (pw c 0) 3 28 ≠ 0 ∨ off % 4 ≠ 0 then answer s OP_MASTER_TABLE_LOAD c ST_BAD_PARAM
  else if off + data.length > 65536 then answer s OP_MASTER_TABLE_LOAD c ST_LENGTH
  else if s.pwr.loadWait.isSome || (match s.pwr.load with | some e => e != (k, c.sess) | none => false) then answer s OP_MASTER_TABLE_LOAD c ST_CONFLICT
  else if last && within s s.pwr.masterAt 10000 then answer s OP_MASTER_TABLE_LOAD c ST_BUSY
  else
    let s := if s.pwr.load.isSome then s else clearMem s 0x21800000 0x10000
    let s := stBytes { s with pwr := { s.pwr with load := some (k, c.sess) } } (0x21800000 + off) data
    if !last then answer s OP_MASTER_TABLE_LOAD c ST_OK
    else if setBytesOk (Memory.bytes s.mem 0x21800000 0x10000) then
      pumpTxns { s with pwr := { s.pwr with loadWait := some c, loadDue := true } }
    else answer { s with pwr := { s.pwr with load := none } } OP_MASTER_TABLE_LOAD c ST_INTEGRITY
def masterTableLoad (c : HostCmd) (s : Dev) : Dev := serve s OP_MASTER_TABLE_LOAD c (masterTableLoadBody c)

/-- The set is durable: P1 copies it after its next audit, and the command is answered (R164, R410). -/
def masterDone (s : Dev) (k : Nat) : Dev :=
  let w := s.pwr.loadWait
  let s := { s with est := { s.est with setCopy := insertNat k s.est.setCopy }, pwr := { s.pwr with load := none, loadWait := none } }
  match w with
  | some c => answer s OP_MASTER_TABLE_LOAD c ST_OK
  | none => s

/-! ## Cluster (R417) -/

/-- CLUSTER_READ; outside a cluster, the device's own index alone. A cluster without a head names none as 0x3F (R438). -/
def clusterReadBody (c : HostCmd) (s : Dev) : Dev :=
  let own := par s 0xB003
  let w := if clOn s then
      [w32 (b2n (s.cl.head == some own) * 2 ^ 24 + par s 0xB002 * 2 ^ 16 + s.cl.head.getD 0x3F % 64 * 2 ^ 8 + own), rd s CL_VIEW_LO, rd s CL_VIEW_HI] ++
        (List.range 12).map (fun i => s.cl.result.getD i 0)
    else w32 own :: List.replicate 14 0
  finish s OP_CLUSTER_READ c ST_OK w
def clusterRead (c : HostCmd) (s : Dev) : Dev := serve s OP_CLUSTER_READ c (clusterReadBody c)

end Sys2Proof.Machine
end

