-- ==== Sys2Proof/Machine/Power.lean ====
section
/-!
DEFINITION. Sys2Proof/Machine/Power.lean: supplies and reset, restarts, the end of retained transactions, hibernation and wake, and
boundary scan (spec 13 R426, R427; 15 R479; 17 R512 to R517, R524, R527, R535 to R540; 19 R575).
-/
namespace Sys2Proof.Machine

/-! ## Supplies and reset (R512 to R514) -/

/-- Row RESET_N_CHANGE: low forces OFF and resets every domain, the always-on domain too (R512, R539). -/
def resetNChange (high : Bool) (s : Dev) : Dev :=
  if high then { s with pwr := { s.pwr with resetN := true } }
  else
    let s := enterOff (tearTxn s) 1
    { s with pwr := { s.pwr with resetN := false, marker := false, woken := 0 } }

/-- Row VAON_POWER_ON: VAON rises above its power-on threshold, or falls below it (R512, R539). -/
def vaonPowerOn (above : Bool) (s : Dev) : Dev :=
  if above then { s with pwr := { s.pwr with vaon := true } }
  else
    let s := enterOff (tearTxn s) 0
    { s with pwr := { s.pwr with vaon := false, marker := false, woken := 0 } }

/-- Row BROWN_OUT: VDD or VDDM is too low: OFF at once, whatever the engine does (R513). -/
def brownOut (s : Dev) : Dev := if s.dev == .off then s else enterOff (tearTxn s) 2

/-- Row PGOOD_IN_FALL: PGOOD_IN has been low for 20 µs (R514); in HIBERNATE it only holds a wake back (R538). -/
def pgoodInFall (s : Dev) : Dev :=
  let s := { s with pwr := { s.pwr with pgood := false } }
  if asleep s || s.pwr.failing then s
  else
    let s := wrB { s with pwr := { s.pwr with failing := true } } RET_STATUS 2 true
    let s := setLatch (if pairUp s 2 then note s 2 Ev.POWER_FAIL 0 else s) Ev.POWER_FAIL
    if pairUp s 2 then flushLog (logIntake s) else s

/-- Row POWER_FAIL_RESET: 4.0 ms after the fall the engine has done and the device is OFF (R514, R527). -/
def powerFailReset (s : Dev) : Dev := if s.pwr.failing then enterOff (endNow s) 3 else s

/-! ## Starts (R512, R516, R517, R538 to R540) -/

/-- Row BOOT_START: 1 ms after the conditions of OFF have ended, or a wake is let through by PGOOD_IN: BOOTSEL as sampled, and the cores
that fail their self-test (R512, R516, R518, R538). -/
def bootStart (bootsel failed : Nat) (s : Dev) : Dev :=
  if !s.pwr.resetN || !s.pwr.vaon then s
  else
    let s := { s with pwr := { s.pwr with pgood := true } }
    if s.dev == .off then bootRun s s.pwr.reason bootsel failed
    else if s.dev == .hibernate && decide (s.pwr.woken ≠ 0) then bootRun s 4 bootsel failed
    else s

/-- Row BOOT_WATCHDOG_EXPIRY (R517). -/
def bootWatchdogExpiry (bootsel failed : Nat) (s : Dev) : Dev := if s.pwr.booting then bootRun (endNow s) 6 bootsel failed else s

/-- P2 closes the log and restarts the device with reason 5 (R508, R524, R540). -/
def restart (s : Dev) (cause bootsel failed : Nat) : Dev := bootRun (logClose (endNow s) cause) 5 bootsel failed

/-- Row PWR_CTRL_RESTART: a write of RESTART by pair p, which P2 makes once the log is closed (R508, R540). -/
def pwrCtrlRestart (p bootsel failed : Nat) (s : Dev) : Dev :=
  if p ≠ 2 then busErrorTo s p else if pairUp s 2 then restart s 3 bootsel failed else s

/-! ## Hibernation (R427, R535 to R539) -/

/-- The threshold of the current wake in DAC steps (R142, R537). -/
def cwakeSteps (s : Dev) : Nat := par s 0xE004 * 1000 * 1024 / (max (par s (0x3100 + par s 0xE003)) 1 * 150)

/-- Step 3 of R535: the state change and EV_LOG_CLOSED are recorded. -/
def hibLog (s : Dev) : Dev := logClose (post s 0 Ev.STATE_CHANGE (3 + 1 * 16)) 2
/-- What step 5 writes: CAN_WAKE.ARM by P3, the wake sources by P2 (R479, R535). -/
def armWords (s : Dev) : List (Nat × U32 × U32) × List (Nat × U32 × U32) :=
  ((if nbit s.pwr.hibSrc 1 then [(CAN_WAKE, 1, 1)] else []),
   [(PWR_WAKE_CFG, 0xFFFFFFFF, w32 s.pwr.hibSrc), (PWR_HIB_TIMER, 0xFFFFFFFF, w32 s.pwr.hibTimer),
    (PWR_CWAKE, 0xFFFFFFFF, w32 (par s 0xE003 * 0x10000 + min (cwakeSteps s) 1023))])
/-- Step 5: they enter the release buffers (R540). -/
def hibArm (s : Dev) : Dev := cfgWrite (cfgWrite s 3 (armWords s).1) 2 (armWords s).2
/-- The way into HIBERNATE goes on from the step under way, 2 to 4 (R535). -/
def hibAdvance (s : Dev) : Dev :=
  let s := if s.pwr.hibStep = 2 ∧ pairUp s 2 ∧ !s.pwr.saveDue ∧ !retPending s ∧ s.pwr.txnFor ≠ some .save then
      { (hibLog s) with pwr := { (hibLog s).pwr with hibStep := 4 } }
    else s
  if s.pwr.hibStep = 4 ∧ pairUp s 0 ∧ pairUp s 2 ∧ pairUp s 3 ∧ backsOn s = 0 then
    let s := hibArm s
    { s with pwr := { s.pwr with hibStep := 5 } }
  else s

/-- HIBERNATE (R427, R537). -/
def hibernateBody (c : HostCmd) (s : Dev) : Dev :=
  let src := fld (pw c 0) 0 4
  let t := pwN c 1
  if c.payload.length ≠ 2 then answer s OP_HIBERNATE c ST_LENGTH
  else if fld (pw c 0) 4 28 ≠ 0 ∨ src = 0 ∨ (nbit src 3 ∧ t = 0) ∨ (!nbit src 3 ∧ t ≠ 0) ∨ (nbit src 2 ∧ par s 0xE004 = 0) then answer s OP_HIBERNATE c ST_BAD_PARAM
  else if s.pwr.hibStep ≠ 0 then answer s OP_HIBERNATE c ST_BUSY
  else
    let s := answer { s with pwr := { s.pwr with hibStep := 1, hibSrc := src, hibTimer := t, saveDue := true } } OP_HIBERNATE c ST_OK
    let s := if pairUp s 1 then balCancel s else s
    pumpTxns s
def hibernate (c : HostCmd) (s : Dev) : Dev := serve s OP_HIBERNATE c (hibernateBody c)

/-- Step 6: the always-on domain arms the sources and every other domain is gated (R535, R536, R539). -/
def enterHibernate (s : Dev) : Dev :=
  let d := endNow s
  let d := resetDev { d with pwr := { d.pwr with marker := true, woken := 0 } }
  let d := wr (wr (wr (wr d PWR_WAKE_CFG (rd s PWR_WAKE_CFG)) PWR_HIB_TIMER (rd s PWR_HIB_TIMER)) PWR_CWAKE (rd s PWR_CWAKE)) CAN_WAKE (rd s CAN_WAKE)
  { d with dev := .hibernate }
/-- Writes of step 5 wait for their release, and HIB_REQ behind them (R535). -/
def armWaits (s : Dev) : Bool := s.pwr.hibStep == 5 && !(cfgDiff s ((armWords s).1 ++ (armWords s).2)).isEmpty
/-- Row PWR_CTRL_HIB_REQ: a write of HIB_REQ by pair p (R535, R540). -/
def pwrCtrlHibReq (p : Nat) (s : Dev) : Dev :=
  if p ≠ 2 then busErrorTo s p else if pairUp s 2 && !armWaits s then enterHibernate s else s

/-- Row HIBERNATE_ABORT_TIMEOUT: 2.5 s after the reply step 6 has not been reached (R535, R550). -/
def hibernateAbortTimeout (s : Dev) : Dev :=
  let k := s.pwr.hibStep
  if k = 0 ∨ !pairUp s 2 then s
  else
    let s := note { s with pwr := { s.pwr with hibStep := 0 } } 2 Ev.HIB_ABORT k
    if k ≥ 3 then post s 0 Ev.STATE_CHANGE (1 + 3 * 16) else s

/-- Row WAKE_SOURCE_FIRED: sources that fire, as R427 numbers them; a wake waits for PGOOD_IN (R537, R538). -/
def wakeSourceFired (srcs bootsel failed : Nat) (s : Dev) : Dev :=
  let fired := srcs % 16 &&& rdF s PWR_WAKE_CFG 0 4
  if s.dev != .hibernate || decide (fired ||| s.pwr.woken = 0) then s
  else
    let s := { s with pwr := { s.pwr with woken := fired ||| s.pwr.woken } }
    if s.pwr.pgood then bootRun s 4 bootsel failed else s

/-- Row CAN_WAKE_PATTERN: a complete wake-up pattern on CAN0_RXD, with the source armed (R479). -/
def canWakePattern (s : Dev) : Dev :=
  if s.dev == .hibernate && rdB s CAN_WAKE 0 && rdB s PWR_WAKE_CFG 1 then
    { (wrB s CAN_WAKE 1 true) with pwr := { s.pwr with woken := s.pwr.woken ||| 2 } }
  else s

/-! ## Retained transactions (R527) -/

/-- What P2 does once a transaction is durable. -/
def txnFollow (s : Dev) (why : Option RetFor) (snap : U32) : Dev :=
  match why with
  | some .save =>
    let l := s.pwr.saveAns
    forL { s with pwr := { s.pwr with saveAns := [] } } l (fun s c => finish s OP_RETAINED_SAVE c ST_OK [snap])
  | some .config => match s.host.commit with | some m => commitDone s m | none => s
  | some (.masterSet k) => masterDone s k
  | _ => s

/-- Row RETAINED_TRANSACTION_DONE: the engine writes DONE; P2 answers what waited, and starts what is due (R527). -/
def retainedTransactionDone (s : Dev) : Dev :=
  match s.pwr.txn with
  | none => s
  | some t =>
    let why := s.pwr.txnFor
    let s := txnEnd s t
    if pairUp s 2 then hibAdvance (pumpTxns (txnFollow s why t.snap)) else s

/-! ## Activation and trial (R426, R519, R524) -/

/-- The save and the boot record can be written now. -/
def activateReady (s : Dev) : Bool :=
  pairUp s 2 && s.pwr.txn.isNone && !retPending s && !rdB s RET_STATUS 2 && decide ((startsNow s).length ≤ 2) && (s.pwr.recovery || saveNow s)

/-- Row ACTIVATION_RESTART: at least 100 ms after the reply of FW_ACTIVATE. While the save is held back by its spacing, or the engine is
busy, nothing happens and the row comes again (R426, R519, R524). -/
def activationRestart (bootsel failed : Nat) (s : Dev) : Dev :=
  match s.pwr.activate with
  | none => s
  | some b =>
    if !activateReady s then s
    else
      let s := if s.pwr.recovery then s else endNow (retDeliver (stageSave s) 1 .save (rdN s EST_LAST_SNAP) saveSegs)
      let s := logClose { s with pwr := { s.pwr with activate := none } } 1
      let s := if s.pwr.recovery && s.pwr.selBoot = 3 then { s with pwr := { s.pwr with named := some b } }
        else bootNow { s with pwr := { s.pwr with boot := { s.pwr.boot with active := b, trial := true, tries := 0, prev := !b } } }
      bootRun s 5 bootsel failed

/-- Row TRIAL_CONFIRM_TIMEOUT: fw.trial_s after the end of BOOT with no pair restarted or lost (R524). -/
def trialConfirmTimeout (s : Dev) : Dev :=
  if !s.pwr.trial || s.pwr.trialBad || s.pwr.booting || !pairUp s 2 || decide (s.uptimeMs < s.pwr.bootEnd + par s 0xE002 * 1000) then s
  else
    let b := rdB s PWR_BOOT 16
    let s := { s with pwr := { s.pwr with trial := false } }
    let s := setBootRec s (fun r => { r with trial := false, minSec := max r.minSec (imgSec s b) })
    pumpTxns (post s 2 Ev.FW_CONFIRMED ((fwVer s).toNat * 2 ^ 32))

/-- Row TRIAL_ROLLBACK_RESTART: after a failed trial, at the first STANDBY or SAFE_HOLD (R524). -/
def trialRollbackRestart (bootsel failed : Nat) (s : Dev) : Dev :=
  if !s.pwr.trial || !s.pwr.trialBad || !(s.dev == .standby || s.dev == .safeHold) || !pairUp s 2 || s.pwr.txn.isSome || retPending s || decide ((startsNow s).length ≥ 4) then s
  else
    let r := s.pwr.boot
    let s := note s 2 Ev.FW_ROLLBACK (recVer r r.active * 2 ^ 32)
    let s := { s with pwr := { s.pwr with boot := { (bankFlags r r.active true false) with active := r.prev, trial := false } } }
    restart (bootNow s) 1 bootsel failed

/-! ## Boundary scan (R575) -/

/-- What the TAP shifts out under IDCODE (R574): the revision, 0x9640 and the description file's bits. DEDUCED: bit 0 reads 1, as
IEEE 1149.1, which the port meets, has it, and the revision is the low half of IDENTIFY's (log 4). -/
def jtagIdcode : U32 := w32 (Config.siliconRev.toNat % 16 * 2 ^ 28 + 0x9640 * 2 ^ 12 + Config.scanId.toNat * 2 + 1)

/-- Row JTAG_INSTRUCTION_UPDATE: EXTEST, INTEST and CLAMP outside SERVICE debug run as BYPASS. -/
def jtagInstructionUpdate (ins : JtagIns) (s : Dev) : Dev :=
  let force := s.exe.debug == .service && (ins == .extest || ins == .clamp)
  let s := { s with pwr := { s.pwr with scan := force } }
  if force then setLatch s 0 else s

end Sys2Proof.Machine
end

