-- ==== Sys2Proof/Machine/Cycle.lean ====
section
/-!
DEFINITION. Sys2Proof/Machine/Cycle.lean: angle 0: the count, the parameters and registers that change there, and the order of the
changes (spec 02 R38, R39, R48, R62 to R65; 12 R385; 17 R535; 18 R545, R555).
-/
namespace Sys2Proof.Machine

/-- Committed values whose "takes effect" is `k` come into force (R385). -/
def promote (s : Dev) (k : Params.Takes) : Dev :=
  let is := fun (id : Nat) => match Params.paramRow id with
    | some r => r.takes == k
    | none => false
  let keep := s.parNow.filter (fun e => !is e.1)
  let new := s.parCfg.filter (fun e => is e.1)
  { s with parNow := new.foldl (fun t e => Tbl.set (Params.paramDefault e.1) t e.1 e.2) keep }

/-- The same; P1 takes every state of health anew where the end-of-life ratio changes (R198). -/
def promoteAll (s : Dev) (k : Params.Takes) : Dev :=
  let t := promote s k
  if pairUp s 1 && par s 0x4205 != par t 0x4205 then healthAll t else t

/-- Staged entries of a class that R64 guards differ from the published ones. -/
def guardDiff (s : Dev) : Bool :=
  let p := pubBank s
  (List.range 256).any (fun i =>
    (List.range 4).any (fun w => bankWord s (1 - p) i w != bankWord s p i w) && (guarded (bankWord s (1 - p) i 2) || guarded (bankWord s p i 2)))
/-- The staged entries that R64 guards are those of the committed piste of the mode in force. -/
def guardCommitted (s : Dev) : Bool :=
  let b := 1 - pubBank s
  (List.range 256).all (fun i =>
    (List.range 4).all (fun w => bankWord s b i w == pisteWord s s.acq.dense (4 * i + w)) ||
      !(guarded (bankWord s b i 2) || guarded (pisteWord s s.acq.dense (4 * i + 2))))
/-- The staging bank may be published now (R64). -/
def swapAllowed (s : Dev) : Bool :=
  !guardDiff s || ((s.dev == .standby || s.dev == .service) && guardCommitted s)

/-- The acquisition mode that is asked for, as the die state lets it (R256, R257). -/
def wantDense (s : Dev) : Bool := parB s 0x3001 && dstate s == 0

/-- A published change of acquisition (R64, R83). -/
def acqEnter (s : Dev) (dense : Bool) : Dev :=
  let keep := s.acq.windows.filter (fun w => dense || !w.half)
  let s := modeChange { s with acq := { s.acq with dense := dense, windows := keep } } 0 2 (b2n dense) 0
  if dense && pairUp s 1 then balCancel s else s

/-- Steps 1 and 2 of R555, and publications (R62, R64, R65). -/
def pisteAtZero (s : Dev) : Dev :=
  if wantDense s != s.acq.dense && !s.pwr.booting && pairUp s 0 then
    let d := wantDense s
    let r := pisteSwap (pisteStage s d)
    if r.1 then acqEnter r.2 d else r.2
  else if rdB s PISTE_CTRL 1 && swapAllowed s then (pisteSwap s).2
  else s

/-- Rings and cluster ports start a cycle without a frame error, a save held back is tried again, and the balancing patterns move on
(R112, R139, R432, R532). -/
def clearCycleMarks (s : Dev) : Dev :=
  let s := balCycle s
  let s := { s with cl := { s.cl with errCyc := 0 }, pwr := { s.pwr with saveHold := false }, inForce := s.inForce.filter (fun e => !e.once) }
  forL s ((s.rings.filter (fun e => e.2.errThisCyc)).map (·.1)) (fun s n => setRing s n { getRing s n with errThisCyc := false })

/-- Registers that follow parameters at angle 0, and the timebase's source with them (R42, R535, R555 step 3). -/
def regsAtZero (s : Dev) : Dev :=
  let hib := decide (s.pwr.hibStep ≥ 1)
  let s := umapTry (cycleRegs s hib)
  let s := if s.pwr.hibStep = 1 then hibAdvance { s with pwr := { s.pwr with hibStep := 2 } } else s
  let s := pisteAtZero s
  let s := if rdF s TB_STATUS 2 3 = 0 ∧ s.tb.fnomDue = false then wrN s TB_FREQ (fNom s) else s
  if tbSource s = rdF s TB_CTRL 0 2 then s else if s.pwr.booting then tbReenter s else modeChange (tbReenter s) 0 3 (rdF s TB_CTRL 0 2) 0

/-- Row ANGLE_ZERO: the angle wraps; `tsc` is the TSC of that clock cycle (R39, R49, R555). -/
def angleZero (tsc : U32) (s : Dev) : Dev :=
  if !s.tb.running then s
  else
    let s := regsAtZero (promoteAll (clearCycleMarks (tbWrap s tsc)) .nextCycle)
    let s := vitrineFreeze s
    let s := if s.pwr.booting then s else captureMode s
    stepsDue (dumpCapture s)

end Sys2Proof.Machine
end

