-- ==== Sys2Proof/Machine/Gates.lean ====
section
/-!
DEFINITION. Sys2Proof/Machine/Gates.lean: the gates' work, by their actions; the engine's passes from EST_GO to their end
(spec 02 R55 to R61; 03 R89; 04 R113, R115, R123; 05 R157, R174; 06 R204; 07 R208, R210; 08 R249, R252; 11 R358; 14 R444).
A pair does a gate's work at the gate's start, and the work that a completed collection allows at the gate's completion. What a PUBLISH gate
gives acts with its completion: a missed one gives nothing (01 R33, 02 R58).
-/
namespace Sys2Proof.Machine

/-! ## Passes (R157, R210, R358) -/

/-- Before a pass P1 rewrites records and master sets that held an uncorrectable word (R358), and the save window closes (R204). -/
def passPrepare (s : Dev) : Dev :=
  let recs := s.exe.bad.filter (fun a => decide (0x20000000 ≤ a ∧ a < 0x20800000))
  let sets := (List.range 8).filter (fun k => s.exe.bad.contains (setAddr k))
  let s := forL s recs (fun s a =>
    let c := (a - 0x20000000) / 128
    let x := ld32 s (cellRec c + 0x50) / 2 ^ 24 % 128
    let s := if recInUse s c then restoreCell s x c (cellSaveOk s x c) else clearMem s (cellRec c) 128
    { s with exe := { s.exe with bad := s.exe.bad.filter (· != a) } })
  let s := forL s sets copySet
  { s with pwr := { s.pwr with saveOk := false }, est := { s.est with audited := false } }

/-- Row EST_GO: a write by pair p of a slot and the index of the ESTIMATE gate; the snapshot boundary (R157, R181, R385). -/
def estGo (p k gate : Nat) (s : Dev) : Dev :=
  if p ≠ 1 then busErrorTo s p
  else if !rdB s EST_CTRL 0 then s
  else if s.est.pass.isSome || !bitOf (slotWord s (k % 8) 1) 10 then wrB s EST_STATUS 5 true
  else passStart (promote (passPrepare s) .nextSnapshot) (k % 8) (gate % 256)

/-- The cells that the engine updates: records and master sets with an uncorrectable word are left out (R358). -/
def goodCells (s : Dev) (l : List (Nat × Nat)) : List (Nat × Nat) :=
  l.filter (fun e =>
    let k := cfgSet (match s.est.pass with | some ps => passView s ps | none => s) (ld32 s (cellRec e.1 + 0x50) / 2 ^ 24 % 128)
    !s.exe.bad.contains (cellRec e.1) && !s.exe.bad.contains (setAddr k))

/-- A string whose table showed an uncorrectable word during the pass is served from master (R358). -/
def passFallback (s : Dev) (ps : Pass) : Dev × Pass :=
  let more := (confStrs s).filter (fun x => !ps.fallback.contains x && s.exe.bad.contains (bankAddr (pubWt s x) x))
  if more.isEmpty then (s, ps)
  else
    let l := more.foldl (fun l x => insertNat x l) ps.fallback
    (fallbackSync s l, { ps with fallback := l })

/-- Row ESTIMATOR_PASS_COMPLETE: the pass ends in `clk` clock cycles. `upsets` are bytes that a faulty lane wrote wrong: cell, offset
in its record, value (R157, R175, R210). -/
def estimatorPassComplete (clk : Nat) (upsets : List (Nat × Nat × Nat)) (s : Dev) : Dev :=
  match s.est.pass with
  | none => s
  | some ps0 =>
    let (s, ps) := passFallback s ps0
    let cells := goodCells s (passCells s ps)
    let s := passEnd s ps cells clk false
    let hit := upsets.filter (fun u => cells.any (fun e => e.1 == u.1) && decide (8 ≤ u.2.1 ∧ u.2.1 < 0x50))
    let s := forL s hit (fun s u => st8 s (cellRec u.1 + u.2.1) u.2.2)
    capTake (reducerWrite s ps (cells.map (·.1)))

/-- The gate's deadline arrives before the pass ends: the group of 32 cells in progress is completed, the last one perhaps shorter; how
many groups were before it, and the duration, are open (R157). -/
def passAbort (s : Dev) : Dev :=
  match s.est.pass with
  | none => s
  | some ps0 =>
    let (s, ps) := passFallback s ps0
    let l := passCells s ps
    let (k, s) := takeNat s ((l.length + 31) / 32)
    let (w, s) := takeWord s
    capTake (passEnd s ps (goodCells s (l.take (32 * k + 32))) w.toNat true)

/-! ## Work of the actions (R60) -/

/-- P1's temperature set check: every mapped input carries a stamp of the 16 cycles before this one (R89). -/
def tempCheck (s : Dev) : Dev :=
  let gap := (mappedInputs s).any (fun i =>
    let d := (localCyc s + 0x100000000 - inStamp s i) % 65536
    decide (d = 0 ∨ d > 16))
  { s with acq := { s.acq with tempGap := gap } }

/-- P1's audit gate: the audit of the last complete pass and what follows it, once per pass; and the confidence work of the cycle
(R174 to R180, R184, R191, R199, R213). -/
def auditGate (s : Dev) : Dev :=
  let s := if s.est.pass.isSome || s.est.last.isNone || s.est.audited then s
    else
      let s := chgAfterPass (reducerAudit (innovCheck (auditRun s)))
      { s with est := { s.est with audited := true } }
  forL s (confStrs s) confCycle

/-- The audit gate is complete: the save window opens, sets are copied, reads that waited are answered (R164, R204, R408). -/
def auditDone (s : Dev) : Dev :=
  if s.est.pass.isSome || !s.est.audited || s.pwr.saveOk then s
  else
    let copied := !s.est.setCopy.isEmpty
    let s := setCopies s
    let s := if copied then healthAll s else s
    catalogueWaiting (pumpTxns { s with pwr := { s.pwr with saveOk := true } })

/-- A P3 PUBLISH gate: the phase unit holds TXB2 about it (R468). -/
def holdGate (w2 : U32) : Bool := gateClass w2 == 3 && gatePair w2 == 3

/-- Work that a pair does as a gate starts, by its ACTION and ARG. -/
def gateWork (s : Dev) (action : Nat) (arg : U32) : Dev :=
  let half := bitOf arg 0
  if action = 0x3002 then tempCheck s
  else if action = 0x3003 then balRun s
  else if action = 0x4001 then estSupervise s
  else if action = 0x4002 then auditGate s
  else if action = 0x5001 then limitsRun (factorsTake s) half
  else if action = 0x8001 then clampRun s
  else if action = 0x8002 then scrOvf (tripScan s)
  else s

/-- The slot being filled closes, and the pairs do their work of a snapshot (R123, R160, R186, R218, R231). -/
def collectEnd (s : Dev) : Dev :=
  match s.acq.filling with
  | none => s
  | some k =>
    let s := slotClose s
    let s := if pairUp s 1 then chgSnapshot (estSnapshot s k) k else s
    let s := if pairUp s 2 then limSnapshot s k else s
    if pairUp s 3 then pcsSnapshot s k else s

/-! ## The rows -/

/-- P2's or P0's PUBLISH gate starts, or completes: until then its output is not used (01 R33, R58). -/
def publishOpen (s : Dev) (action : Nat) (b : Bool) : Dev :=
  if action = 0x5001 then { s with lim := { s.lim with open2 := b } } else if action = 0x8001 then { s with lim := { s.lim with open0 := b } } else s

/-- Row GATE_START: gate i of the published bank starts (R55, R56). The hardware action TRIGGER runs to its completion (R53, R113). -/
def gateStart (i : Nat) (s : Dev) : Dev :=
  if s.pwr.booting || s.pwr.recovery || !gateSelected s i then s
  else
    let w2 := bankWord s (pubBank s) i 2
    let arg := bankWord s (pubBank s) i 3
    let s := countEv (openGate s i) 0x7B 1 1
    let s := if holdGate w2 then holdGateStart s else s
    if gateAction w2 = 1 then
      let s := if s.pwr.hibStep ≥ 2 then s else openWindow (ringTrigger s (bitOf arg 0)) (bitOf arg 0)
      gateComplete s i
    else
      let s := publishOpen s (gateAction w2) true
      if pairUp s (gatePair w2) then gateWork (takeStart s (gatePair w2) i) (gateAction w2) arg else s

/-- Row PISTE_DONE: a released write by pair p of a gate's index (R57). -/
def pisteDone (p i : Nat) (s : Dev) : Dev :=
  match openGate? s i with
  | none => wrB s PISTE_STATUS 2 true
  | some g =>
    if !pairUp s p then s
    else if gateAction g.w2 = 0x3001 && s.acq.filling.isSome && !collectDone s then s
    else
      let s := gateComplete s i
      let a := gateAction g.w2
      let s := publishOpen s a false
      if a = 0x3001 then collectEnd s
      else if a = 0x4002 then auditDone s
      else if a = 0x5002 && pairUp s 3 then reduceSend (publishRun s (bitOf g.arg 0))
      else s

/-- Row GATE_DEADLINE: the angle reaches the deadline of gate i (R58, R123, R157, R468). -/
def gateDeadline (i : Nat) (s : Dev) : Dev :=
  match dueGate? s i with
  | none =>
    let b := pubBank s
    let hold := gateEn (bankWord s b i 2) && holdGate (bankWord s b i 2) && decide (i < 256)
    let mine := s.est.pass.any (fun ps => ps.gate == i)
    let s := if hold || mine then wr s TB_ANGLE (bankWord s b i 1) else s
    let s := if mine then passAbort s else s
    if hold then holdGateEnd s else s
  | some g =>
    let a := gateAction g.w2
    let s := wr s TB_ANGLE g.deadline
    let s := if s.est.pass.any (fun ps => ps.gate == i) then passAbort s else s
    let s := if a = 0x3001 then collectEnd s else s
    let s := gateMiss s g
    if holdGate g.w2 then holdGateEnd s else s

end Sys2Proof.Machine
end

