-- ==== Sys2Proof/Machine/Tick.lean ====
section
/-!
DEFINITION. Sys2Proof/Machine/Tick.lean: the 1 ms tick: local time, P0's safety tick and what the other pairs do with the passing of
time (spec 10 R299, R325; 11 R351; 15 R473, R477; 16 R506; 17 R516, R527, R535).
-/
namespace Sys2Proof.Machine

/-- P0 at its safety tick: claim, heartbeats, SEO requests and backups, waiting strings, the device state (R290, R299, R325, R351). -/
def tickP0 (s : Dev) : Dev :=
  if !pairUp s 0 || primHalted s 0 || s.pwr.booting || s.pwr.recovery then s
  else deriveState (backupTick (busProgress (seoRequests (heartbeats (claimSync s))))) 0

/-- P1 at a tick: balancing ends with its conditions (R137). -/
def tickP1 (s : Dev) : Dev := if pairUp s 1 && !s.pwr.booting && !s.pwr.recovery then balEnd s else s

/-- The writes of the retained log wait for their release. -/
def flushPending (s : Dev) : Bool := ((getPair s 2).redo ++ (getPair s 2).rel).any (fun e => e.eff == .flush)

/-- P2 at a tick: records become durable within 100 ms, corrections are reported, transactions due are started (R358, R506, R527). -/
def tickP2 (s : Dev) : Dev :=
  if !pairUp s 2 then s
  else
    let (b, s) := takeBit s
    let due := !s.log.dirty.isEmpty && (b || decide (s.uptimeMs ≥ s.log.dirtyAt + 99))
    let s := eccReport (if due && !flushPending s then emit s 2 .flush else s)
    hibAdvance (pumpTxns s)

/-- Row SAFETY_TICK: a millisecond of local time passes, in which every full egress buffer empties (R434, Log 134); `direct` are the 1 ms means of the direct channels (R140, R299). -/
def safetyTick (direct : List (Nat × Int)) (s : Dev) : Dev :=
  let s := { s with uptimeMs := s.uptimeMs + 1 }
  let s := if s.tb.running then wrN s CAN_TSC ((rdN s CAN_TSC + 10000) % 0x100000000) else s
  let s := syncStarts (directNow s direct)
  let s := tickP2 (canTick (tickP1 (tickP0 (drainPort (drainPort s 0) 1))))
  if bootReady s then bootEnd s else s

end Sys2Proof.Machine
end

