-- ==== Sys2Proof/Machine/RegAccess.lean ====
section
/-!
DEFINITION. Sys2Proof/Machine/RegAccess.lean: register accesses without a row of their own (spec 00 R4, R5; writers: 04 R136; 05 R181;
08 R260; 10 R327; 11 R359; 14 R451; 15 R455; 16 R501; 17 R540).
-/
namespace Sys2Proof.Machine

/-- Offset of an address in its CAN controller, and the controller; none outside the eight. -/
def canOff (a : Nat) : Option (Nat × Nat) :=
  if 0x400C0000 ≤ a ∧ a < 0x400C8000 then some ((a - 0x400C0000) / 0x1000, (a - 0x400C0000) % 0x1000) else none

/-- Bits of a register whose write is a row of its own (opcode table): this row leaves them alone. -/
def ownBits (a : Nat) : U32 :=
  let all : U32 := 0xFFFFFFFF
  match canOff a with
  | some (_, o) =>
    if o = 0 ∨ o = 0x20 then 2
    else if o = 0x34 ∨ o = 0x44 ∨ (0x60 ≤ o ∧ o ≤ 0x70) ∨ o = 0x7C ∨ o = 0x90 ∨ o = 0x94 then all else 0
  | none =>
    if a = PISTE_CTRL ∨ a = EST_CTRL ∨ a = EXE_CTRL ∨ a = CNT_CTRL then 2
    else if RING_BASE ≤ a ∧ a < 0x40022000 ∧ a % 0x100 = 0 then 2
    else if a = PISTE_DONE ∨ a = ACQ_SCR_APPLY ∨ a = ACQ_FOC_STATUS ∨ a = EST_GO ∨ a = EST_CUR_JOB ∨ a = EST_LANE_FENCE ∨
        (EST_WT_DESC ≤ a ∧ a < EST_WT_DESC + 0x800) ∨ a = SAF_CTRL ∨ a = SAF_SEO_REQ ∨ (SAF_RESET ≤ a ∧ a ≤ SAF_WDOG) ∨ a = EXE_RESTART ∨
        (BW_CFG ≤ a ∧ a < BW_CFG + 0x100 ∧ a % 16 = 0) ∨ (CNT_VAL ≤ a ∧ a < CNT_VAL + 0x4000) ∨ a = PWR_CTRL ∨ a = RET_GO ∨ a ≥ HP_ID then all
    else 0

/-- A register's value after `v` is written, by its access masks (R4, R5). -/
def regMerge (r : RegRow) (old v : U32) : U32 :=
  let rw := w32 r.rw
  ((old &&& ~~~rw) ||| (v &&& rw)) &&& ~~~(v &&& w32 r.w1c) ||| (v &&& w32 r.w1s)

/-- A write of CAN_CTRL by P3 (R482, R550). INIT takes effect at the end of a frame in progress. -/
def canCtrlWrite (s : Dev) (n : Nat) (new : U32) : Dev :=
  let a := canReg n 0
  let old := rd s a
  let off := canInit s n
  let obj := if off then bitOf new 6 else bitOf old 6
  let s := if obj != bitOf old 6 then flushAll s n else s
  let s := wr s a (putBit new 6 obj)
  let s := if bitOf new 5 != bitOf old 5 then modeChange s 3 5 (b2n (bitOf new 5)) n else s
  let s := if bitOf new 4 != bitOf old 4 then modeChange s 3 6 (b2n !(bitOf new 4)) n else s
  let s := if obj != bitOf old 6 then modeChange s 3 7 (b2n obj) n else s
  let s := if bitOf new 4 && !bitOf old 4 then raise (canIr s n 9) 3 Ev.CAN_RESTRICTED n n else s
  let s := if !bitOf new 4 && bitOf old 4 then clearCond s 3 Ev.CAN_RESTRICTED n 0x7F else s
  let s := if off && !bitOf new 7 then setCan s n { getCan s n with integ := true } else s
  canSync s n

/-- A write of a CAN register: bit timing only in INIT, the filter stage not while a swap is asked for (R462, R482). -/
def canRegWrite (s : Dev) (n o : Nat) (new : U32) : Dev :=
  let a := canReg n o
  if o = 0 then canCtrlWrite s n new
  else if (o = 8 ∨ o = 0xC) ∧ !canInit s n then s
  else if (o = 0x20 ∨ o = 0x24) ∧ rdB s (canReg n 0x20) 1 then wrB s (canReg n 0x28) 3 true
  else wr s a new

/-- A word P3 writes to message RAM at offset o of controller n: nothing in the reserved part, nor in the published filter list or a staged
one whose swap is asked for (R459, R462). -/
def canRamWrite (s : Dev) (n o : Nat) (v : U32) : Dev :=
  if o ≥ 0x7C80 then s
  else if o < 0x1000 ∧ (o / 0x800 = rdF s (canReg n 0x20) 0 1 ∨ rdB s (canReg n 0x20) 1) then wrB s (canReg n 0x28) 3 true
  else st32 s (canRam n + o / 4 * 4) v.toNat

/-- A word of a map entry names a cell or a temperature index outside its table (R119); no auxiliary index can. -/
def umapWordBad (second : Bool) (w : U32) : Bool :=
  if second then decide (fld w 0 15 + fld w 28 4 > 32768) else !bitOf w 30 && decide (fld w 0 16 + fld w 16 5 > 65536)

/-- The unit of a map entry is on a node that has ACTIVE set: P1 does not write its entry (R119). -/
def umapActive (s : Dev) (i : Nat) : Bool := (Tbl.get {} (getRing s (umapRing i)).nodes (umapAddr i)).active

/-- What a write of pair p that is taken does: the new value enters the register, and what it commands follows. -/
def regTake (p : Nat) (s : Dev) (a : Nat) (v new : U32) : Dev :=
  match canOff a with
  | some (n, o) => canRegWrite s n o new
  | none =>
    if PISTE_BANK ≤ a ∧ a < PISTE_BANK + 0x2000 ∧ (a - PISTE_BANK) / 0x1000 = pubBank s then wrB s PISTE_STATUS 0 true
    else if ACQ_UMAP ≤ a ∧ a < ACQ_UMAP + 0xFE00 then
      if umapWordBad (nbit (a - ACQ_UMAP) 2) new then busErrorTo s p
      else if umapActive s ((a - ACQ_UMAP) / 8) then s else wr s a new
    else if RING_BASE ≤ a ∧ a < 0x40022000 ∧ a % 0x100 = 0 then
      let n := (a - RING_BASE) / 0x100
      if ringOn s n && !bitOf new 0 then ringOff (wr s a new) n else wr s a new
    else if a = ACQ_STATUS then
      let s := wr s a new
      if bitOf v 4 && s.acq.fifo.isEmpty then { s with acq := { s.acq with ovfOn := false } } else s
    else if SAF_SIN_CFG ≤ a ∧ a < SAF_SIN_CFG + 0x80 ∧ a % 8 = 0 then sinJudge (wr s a new) ((a - SAF_SIN_CFG) / 8)
    else if a = EXE_CTRL then exeCtrlWrite s new
    else if a = EXE_FEED then feedWrite s new
    else wr s a new

/-- Row REGISTER_WRITE: pair p writes a register without a row of its own, or a word of CAN message RAM (R455); a bit that hardware sets in the same clock cycle
stays set (R8). Where only other pairs may write, the write is terminated with a bus error; a pair that does not run
writes nothing. -/
def registerWrite (p a : Nat) (x : RegWrite) (s : Dev) : Dev :=
  match regRow a with
  | none =>
    if a < 0x30000000 ∨ a ≥ 0x30080000 ∨ !pairUp s p then s
    else if p ≠ 3 then busErrorTo s p
    else canRamWrite s ((a - 0x30000000) / 0x10000) (a % 0x10000) x.val
  | some r =>
    if ownBits a = 0xFFFFFFFF || !pairUp s p then s
    else if !nbit r.owners p then busErrorTo s p
    else regTake p s a x.val (regMerge r (rd s a) (x.val &&& ~~~ownBits a) ||| (x.set &&& w32 r.w1c))

/-- A read by pair p is terminated with a bus error: the CAN controllers and their message RAM are P3's alone (R455). -/
def readBarred (p a : Nat) : Bool := ((canOff a).isSome || (decide (0x30000000 ≤ a) && decide (a < 0x30080000))) && p != 3

/-- What a read that a register serves does by itself: TB_ANGLE latches the cycle count (02 R40), ACQ_SCR_EVT3 removes an event (03 R132),
CNTn_LO latches the high half and CNTn_HI returns the latch of the reading pair (16 R489). The link timer runs freely, and no command
tells its value: a read of CL_TS_LO takes free words and latches its upper half (14 R451, Log 3). -/
def readEffect (p a : Nat) (s : Dev) : Dev :=
  if a = TB_ANGLE then angleTake (rd s TB_ANGLE) s
  else if a = ACQ_SCR_EVT + 12 then scrEvtTake s
  else if a = CL_TS_LO then
    let (lo, s) := takeWord s
    let (hi, s) := takeWord s
    wr { s with readVal := lo } CL_TS_HI hi
  else if a % 8 = 0 then cntTake p ((a - CNT_VAL) / 8) s
  else { s with readVal := Tbl.get 0 s.cnt.latch p }
/-- The registers whose reads act so. -/
def readActs (a : Nat) : Bool :=
  a == TB_ANGLE || a == ACQ_SCR_EVT + 12 || a == CL_TS_LO || (decide (CNT_VAL ≤ a) && decide (a < CNT_VAL + 0x4000))

/-- What the read does and returns; an RC register is cleared by it, but for what hardware sets in the same clock cycle (R4, R8). -/
def readTake (p a : Nat) (rc : Bool) (set : U32) (s : Dev) : Dev :=
  if readActs a then readEffect p a s
  else
    let s := { s with readVal := regRead s a }
    let s := if a = THM_DIE_PEAK then { s with thm := { s.thm with peakNew := false } } else s
    if rc then wr s a set else s

/-- Row READ_CLEAR_REGISTER: pair p reads a register. A pair that re-executes a window reads its
input log and not the device (R336). -/
def readClearRegister (p : Nat) (x : RegRead) (s : Dev) : Dev :=
  if !pairUp s p || (getPair s p).recov != .run then s
  else if readBarred p x.addr then logInput (busErrorTo s p) p x.idx 0
  else match regRow x.addr with
    | none =>
      if 0x30000000 ≤ x.addr ∧ x.addr < 0x30080000 then
        let v := w32 (ld32 s (x.addr / 4 * 4))
        logInput { s with readVal := v } p x.idx v
      else s
    | some r =>
      let t := readTake p x.addr r.rc x.set s
      logInput t p x.idx t.readVal

end Sys2Proof.Machine
end

