-- ==== Sys2Proof/Machine/Pins.lean ====
section
/-!
DEFINITION. Sys2Proof/Machine/Pins.lean: the output pins as the device drives them (spec 10 R311, R314, R316, R318; 11 R354,
R355; 12 R387; 17 R536; 19 R568, R575).
-/
namespace Sys2Proof.Machine

/-- FAULT_N low: in reset, in BOOT, with the safe-state latch set, and under FAULT_HOLD (R318, R354); high in HIBERNATE (R536). -/
def faultLow (s : Dev) : Bool :=
  s.dev != .hibernate && (s.dev == .off || s.dev == .boot || latched s || rdB s EXE_CTRL 3)

/-- QIRQ_N low: an enabled bit of HP_IRQ is set (R387). -/
def qirqLow (s : Dev) : Bool := !asleep s && (rd s HP_IRQ &&& rd s HP_IRQ_EN) != 0

/-- A TPO high: it drives high but for its pulses (R308), once BOOT has ended (R568), and not under EXTEST or CLAMP (R575). -/
def tpoHigh (s : Dev) (k : Nat) : Bool := !asleep s && s.dev != .boot && !s.pwr.scan && s.saf.tpoPulse != some k

/-- The pins as the device drives them. -/
def pinsOf (s : Dev) : Pins :=
  { seoA := packBits (fun n => !asleep s && !s.pwr.scan && seoOut s n false) 8, seoB := packBits (fun n => !asleep s && !s.pwr.scan && seoOut s n true) 8, tpo := packBits (tpoHigh s) 4, faultN := !faultLow s, qirqN := !qirqLow s, dbg := !asleep s && lockstepBroken s, canTx := s.dev != .hibernate, phaseOut := s.tb.pulses }

end Sys2Proof.Machine
end

