-- ==== Sys2Proof/Machine/State.lean ====
section
/-!
DEFINITION. Sys2Proof/Machine/State.lean: the state of the block: the device, its output pins and the queue of waiting commands;
the state after reset; and the reasons a step may stop.
-/
namespace Sys2Proof.Machine

/-- The block: the device, its output pins, and the commands that wait, first in, first out. -/
structure State extends Dev where
  /-- Output pins. 19 R561. -/
  pins     : Pins
  /-- Commands that wait, the first to be taken first (the model's own). -/
  pending  : List Instr
  deriving DecidableEq, Repr

/-- Faults. No command of this block faults: a bus error is an effect on the state (01 R16). -/
inductive Fault where
  /-- Raised by nothing; safe. -/
  | none
  deriving DecidableEq, Repr

/-- Refusals. -/
inductive Refusal where
  /-- Raised by an arm of Dispatch.lean whose command has no meaning yet; safe: the block stops where the hardware goes on. -/
  | notModelled (mnemonic : String)
  deriving DecidableEq, Repr

/-- The device as RESET_N leaves it: OFF, every register at its reset value (17 R512, 00 R4; Log 1). -/
def Dev.reset : Dev := { }

/-- The state after reset: the device in OFF, its pins as R568 holds them, no command waiting. -/
def State.reset : State := { toDev := Dev.reset, pins := pinsOf Dev.reset, pending := [] }

/-- A command acts on the device, and the pins follow. -/
def State.apply (s : State) (f : Dev → Dev) : State :=
  let d := f s.toDev
  { toDev := d, pins := pinsOf d, pending := s.pending }

/-- A command that only a powered device takes: in OFF and in HIBERNATE nothing but the power rules and the always-on domain
acts (17 R512, R535, R536). -/
def State.live (s : State) (f : Dev → Dev) : State := s.apply (fun d => if asleep d then d else f d)

end Sys2Proof.Machine
end

