-- ==== Sys2Proof/Machine/Transport.lean ====
section
/-!
DEFINITION. Sys2Proof/Machine/Transport.lean: the host's access to the mailbox window, the taking of packets, and the timers of
commands, transactions and reassemblies (spec 12 R367, R373, R374, R384 to R389; 19 R573).
-/
namespace Sys2Proof.Machine

/-- The host port answers: power is up and the device is not in hibernation (R386, R535). -/
def portOn (s : Dev) : Bool := !(s.dev == .off || s.dev == .hibernate)

/-! ## Ring offsets (R388) -/

/-- A pointer write that is ignored (R388). -/
def ptrErr (s : Dev) : Dev := wrB (wrB s HP_STATUS 2 true) HP_IRQ 4 true

/-- Row HP_CMD_WP_WRITE: the host has written a packet up to offset v. -/
def hpCmdWpWrite (v : U32) (s : Dev) : Dev :=
  let wp := rdF s HP_CMD_WP 0 16
  let rp := rdF s HP_CMD_RP 0 16
  let x := fld v 0 16
  let adv := (x + 65536 - wp) % 65536
  if !portOn s then s
  else if x % 4 ≠ 0 ∨ adv > ringFree rp wp then ptrErr s
  else
    let s := wrB (wrN s HP_CMD_WP x) HP_STATUS 2 false
    if adv = 0 then s
    else { s with host := { s.host with ends := s.host.ends ++ [x], spaceLow := s.host.spaceLow && decide ((x + 65536 - rp) % 65536 ≤ 32768) } }

/-- Row HP_RPL_RP_WRITE: the host has read replies up to offset v. -/
def hpRplRpWrite (v : U32) (s : Dev) : Dev :=
  let rp := rdF s HP_RPL_RP 0 16
  let wp := rdF s HP_RPL_WP 0 16
  let x := fld v 0 16
  if !portOn s then s
  else if x % 4 ≠ 0 ∨ (x + 65536 - rp) % 65536 > (wp + 65536 - rp) % 65536 then ptrErr s
  else
    let s := wrB (wrN s HP_RPL_RP x) HP_STATUS 2 false
    let s := syncHp (enterFrom s [] s.host.waiting)
    if pairUp s 2 then sendNotices s else s

/-! ## QSPI transactions (R386, R573) -/

/-- A byte of the window as a read returns it; the command ring is write-only, and beyond a region reads give 0 (R386, R387). -/
def winByte (s : Dev) (a : Nat) : U8 :=
  if a < 0x24 then (leBytes 4 (regRead s (HP_ID + a / 4 * 4)).toNat).getD (a % 4) 0
  else if 0x20000 ≤ a ∧ a < 0x30000 then Memory.read s.win a
  else 0

/-- A read of `len` bytes from window address `a`. HP_CRC_ERR is cleared when its word is read (R4, R387). -/
def qspiRead (s : Dev) (a len : Nat) : Dev :=
  if !portOn s then s
  else
    let s := syncHp s
    let out := (List.range len).map (fun i => winByte s ((a + i) % 2 ^ 24))
    let s := { s with host := { s.host with qspiOut := out } }
    if a < 0x24 ∧ a + len > 0x20 then wr s HP_CRC_ERR 0 else s
/-- Rows QSPI_FAST_READ and QSPI_QUAD_IO_READ. -/
def qspiFastRead (a : BitVec 24) (len : Nat) (s : Dev) : Dev := qspiRead s a.toNat len
def qspiQuadIoRead (a : BitVec 24) (len : Nat) (s : Dev) : Dev := qspiRead s a.toNat len

/-- A whole word written to the window (R387, R573); `set` are the bits of HP_IRQ that hardware sets in the same clock cycle (R8). -/
def winWrite (s : Dev) (a : Nat) (v set : U32) : Dev :=
  if a = 0x8 then wr s HP_IRQ (rd s HP_IRQ &&& ~~~v ||| (set &&& 0x1F))
  else if a = 0xC then wr s HP_IRQ_EN (v &&& 0x1F)
  else if a = 0x10 then hpCmdWpWrite v s
  else if a = 0x1C then hpRplRpWrite v s
  else if 0x10000 ≤ a ∧ a < 0x20000 then { s with win := Memory.writeBytes s.win a (leBytes 4 v.toNat) }
  else s

/-- A write of bytes from window address `a`: the whole words within it, in address order (R573). -/
def qspiBytes (s : Dev) (a : Nat) (l : List U8) (set : U32) : Dev :=
  if !portOn s then s
  else
    let skip := (4 - a % 4) % 4
    let ws := l.drop skip
    forL s ((List.range (ws.length / 4)).map (fun i => (a + skip + 4 * i, w32 (leNat ((ws.drop (4 * i)).take 4))))) (fun s e => winWrite s e.1 e.2 set)
/-- Rows QSPI_WRITE and QSPI_QUAD_IO_WRITE. -/
def qspiWrite (a : BitVec 24) (x : HostWrite) (s : Dev) : Dev := qspiBytes s a.toNat x.bytes x.set
def qspiQuadIoWrite (a : BitVec 24) (x : HostWrite) (s : Dev) : Dev := qspiBytes s a.toNat x.bytes x.set

/-- The command ring can take the longest packet at the present offset (R386). -/
def takesLongest (s : Dev) : Bool :=
  let wp := rdF s HP_CMD_WP 0 16
  let need := if wp + 16424 > 65536 then 65536 - wp + 16424 else 16424
  decide (need ≤ ringFree (rdF s HP_CMD_RP 0 16) wp)
/-- Row QSPI_READ_STATUS_BYTE. -/
def qspiReadStatusByte (s : Dev) : Dev :=
  if !portOn s then s
  else
    let v := b2n (rdN s HP_RPL_WP != rdN s HP_RPL_RP) + b2n (takesLongest s) * 2 + b2n (rdB s HP_STATUS 1) * 4 + b2n (rdB s HP_STATUS 2) * 8
    { s with host := { s.host with qspiOut := leBytes 1 v } }

/-! ## Packets (R367, R388, R389) -/

/-- Row PACKET_INTAKE: P2 takes the next whole packet of the command ring. -/
def packetIntake (s : Dev) : Dev :=
  match s.host.ends with
  | [] => s
  | e :: t =>
    if !pairUp s 2 || !rdB s HP_STATUS 1 then s
    else
      let rp := rdF s HP_CMD_RP 0 16
      let wrap := decide (ld32 { s with mem := s.win } (0x10000 + rp) = 0xFFFFFFFF)
      let a := if wrap then 0 else rp
      let n := (e + 65536 - a) % 65536
      let bytes := (List.range n).map (fun i => Memory.read s.win (0x10000 + (a + i) % 65536))
      let left := (rdF s HP_CMD_WP 0 16 + 65536 - e) % 65536
      let s := { wrN s HP_CMD_RP e with host := { s.host with ends := t, spaceLow := s.host.spaceLow || decide (left ≤ 32768) } }
      let s := if left ≤ 32768 ∧ (rdF s HP_CMD_WP 0 16 + 65536 - rp) % 65536 > 32768 then wrB s HP_IRQ 1 true else s
      intake (countBytes (countEv s 0x7A 1 1) 0x7A bytes.length) 0 0 bytes

/-- The reassembly of a packet: host MAC, session and tag. -/
def isReasm (mac sn tag : Nat) (r : Reasm) : Bool := r.src == mac && r.sess == sn && r.tag == tag
def dropReasm (s : Dev) (mac sn tag : Nat) : Dev :=
  { s with host := { s.host with reasm := s.host.reasm.filter (fun r => !isReasm mac sn tag r) } }

/-- The bytes of a packet whose fragments are all present. -/
def reasmBytes (r : Reasm) : Option (List U8) :=
  if r.frags.length = r.nfrag then
    some ((List.range r.nfrag).flatMap (fun k => match r.frags.find? (fun f => f.1 == k) with | some f => f.2 | none => []))
  else none

/-- Row CLUSTER_COMMAND_FRAGMENT: a COMMAND body for this device on port p from the host with a MAC (R389). A reserved field of the
fragment words makes a frame error and nothing more (R5); a FLEN or NFRAG that breaks the rule also costs the packet in reassembly. -/
def clusterCommandFragment (p mac : Nat) (body : List U8) (s : Dev) : Dev :=
  let p := p % 2
  let w0 := w32 (leNat (body.take 4))
  let w1 := w32 (leNat ((body.drop 4).take 4))
  let k := fld w0 28 4
  let n := fld w0 24 4 + 1
  let sn := fld w0 20 4
  let tag := fld w0 0 16
  let len := fld w1 0 16
  let data := body.drop 8
  if !pairUp s 2 || !clOn s || !rdB s HP_STATUS 1 then s
  else if decide (body.length < 8) || fld w0 16 4 != 0 || fld w1 16 16 != 0 then clFrameErr s p
  else
    let bad := decide (n > 12) || decide (k ≥ n) || len % 4 != 0 ||
      decide (len < 4) || decide (len > 1440) || data.length != len || (decide (k + 1 < n) && len != 1440)
    let s := if bad then s else { s with cl := { s.cl with hostPort := p, hostMac := mac, hosts := Tbl.set 0 s.cl.hosts mac (p + 1) } }
    match s.host.reasm.find? (isReasm mac sn tag) with
    | none =>
      if bad then clFrameErr s p
      else if s.host.refused.contains (mac, sn, tag) ∧ n > 1 then clFrameErr s p
      else if s.host.reasm.length ≥ 16 then
        clFrameErr (if n = 1 then s else { s with host := { s.host with refused := s.host.refused ++ [(mac, sn, tag)] } }) p
      else if n = 1 then intake s (p + 1) mac data
      else { s with host := { s.host with reasm := s.host.reasm ++ [{ port := p, src := mac, sess := sn, tag := tag, nfrag := n, frags := [(k, data)] }] } }
    | some r =>
      if bad || r.nfrag != n then clFrameErr (dropReasm s mac sn tag) p
      else if r.frags.any (fun f => f.1 == k) then s
      else
        let r' := { r with frags := r.frags ++ [(k, data)], port := p }
        match reasmBytes r' with
        | some bytes => intake (dropReasm s mac sn tag) (p + 1) mac bytes
        | none => { s with host := { s.host with reasm := s.host.reasm.map (fun x => if isReasm mac sn tag x then r' else x) } }

/-- Row REASSEMBLY_TIMEOUT: 100 ms after the first fragment (R389). -/
def reassemblyTimeout (mac sn tag : Nat) (s : Dev) : Dev :=
  let s := { s with host := { s.host with refused := s.host.refused.filter (fun x => x != (mac, sn, tag)) } }
  match s.host.reasm.find? (isReasm mac sn tag) with
  | none => s
  | some r => clFrameErr (dropReasm s mac sn tag) r.port

/-! ## Timers (R373, R374, R384) -/

/-- Row COMMAND_TIMEOUT: the execution timeout of a command in flight (R374, R420). -/
def commandTimeout (sn tag : Nat) (s : Dev) : Dev :=
  if !pairUp s 2 then s
  else
    match inFlight? s sn tag with
    | none => s
    | some f =>
      let s := note s 2 Ev.CMD_TIMEOUT (sn + tag * 0x10000 + f.op * 2 ^ 48)
      let r := endUnbegun s f ST_TIMEOUT false
      let s := r.2
      if r.1 then s
      else timeoutRuns s f

/-- Row PENDING_INTERIM: host.pending_ms of execution, under a longer timeout (R373). -/
def pendingInterim (sn tag : Nat) (s : Dev) : Dev :=
  match inFlight? s sn tag with
  | none => s
  | some f =>
    let long := match opRow f.op with
      | some r => decide (r.timeout > par s 0xA003)
      | none => false
    if !pairUp s 2 || !f.begun || f.interim || !long then s
    else
      let s := updFlight s sn tag (fun f => { f with interim := true })
      releaseReply s { sess := sn, queue := f.cmd.queue, port := f.cmd.port, mac := f.cmd.mac, loose := true, raw := buildReply s f.op ST_PENDING f.cmd.queue sn tag [] }

/-- Row CONFIG_IDLE_TIMEOUT: the transaction has lain idle for host.config_idle_s (R384). -/
def configIdleTimeout (s : Dev) : Dev := if pairUp s 2 then abortTxn s 2 0 else s

end Sys2Proof.Machine
end

