-- ==== Sys2Proof/Machine/Meanings.lean ====
section
/-!
DEFINITION. Sys2Proof/Machine/Meanings.lean: the meaning of each command on the whole state: its effect on the device, by the
operation of its family's file, and the pins that follow.
-/
namespace Sys2Proof.Machine

/-- What a meaning answers. -/
abbrev Answer := Host.Outcome State Fault Refusal

/-- ANGLE_ZERO (R39). -/
def execAngleZero (tsc : U32) (s : State) : Answer := .next (s.live (angleZero tsc))
/-- TIMEBASE_EVALUATION (R41). -/
def execTimebaseEvaluation (half : Bool) (freq : Nat) (e : Int) (pos neg : Nat) (s : State) : Answer := .next (s.live (timebaseEvaluation half freq e pos neg))
/-- HOLDOVER_TIMER_EXPIRY (R42). -/
def execHoldoverTimerExpiry (s : State) : Answer := .next (s.live holdoverTimerExpiry)
/-- TB_ANGLE_READ (R40). -/
def execTbAngleRead (a : U32) (s : State) : Answer := .next (s.live (tbAngleRead a))
/-- GATE_START (R55). -/
def execGateStart (k : Nat) (s : State) : Answer := .next (s.live (gateStart k))
/-- GATE_DEADLINE (R58). -/
def execGateDeadline (k : Nat) (s : State) : Answer := .next (s.live (gateDeadline k))
/-- PISTE_DONE (R57). -/
def execPisteDone (p k : Nat) (s : State) : Answer := .next (s.live (pisteDone p k))
/-- PISTE_SWAP_REQ (R62). -/
def execPisteSwapReq (s : State) : Answer := .next (s.live pisteSwapReq)
/-- RING_FRAME_TRANSMIT (R95). -/
def execRingFrameTransmit (n : Nat) (s : State) : Answer := .next (s.live (ringFrameTransmit n))
/-- PHASEREF_BROADCAST (R82). -/
def execPhaserefBroadcast (s : State) : Answer := .next (s.live phaserefBroadcast)
/-- TRAIN_LAUNCH (R87). -/
def execTrainLaunch (direct : List (Nat × Int × Int × Int × Bool)) (s : State) : Answer := .next (s.live (trainLaunch direct))
/-- SEGMENT_RECEIVED (R90). -/
def execSegmentReceived (n : Nat) (sideB : Bool) (x : TrainPart) (last : Bool) (s : State) : Answer := .next (s.live (segmentReceived n sideB x last))
/-- RESP_RECEIVED (R93). -/
def execRespReceived (n : Nat) (frame : List U8) (s : State) : Answer := .next (s.live (respReceived n frame))
/-- RING_CMD_TIMEOUT (R93). -/
def execRingCmdTimeout (n : Nat) (s : State) : Answer := .next (s.live (ringCmdTimeout n))
/-- CMD_ECHO_CHECK (R93). -/
def execCmdEchoCheck (n : Nat) (frame : List U8) (s : State) : Answer := .next (s.live (cmdEchoCheck n frame))
/-- TRIGGER_ARRIVAL_CHECK (R100). -/
def execTriggerArrivalCheck (n : Nat) (ok : Bool) (s : State) : Answer := .next (s.live (triggerArrivalCheck n ok))
/-- TRAIN_RETURN_TIMEOUT (R100). -/
def execTrainReturnTimeout (n : Nat) (sideB : Bool) (s : State) : Answer := .next (s.live (trainReturnTimeout n sideB))
/-- STUB_ENDS_SET (R101). -/
def execStubEndsSet (n : Nat) (s : State) : Answer := .next (s.live (stubEndsSet n))
/-- PONG_RECEIVED (R97). -/
def execPongReceived (n : Nat) (sideB : Bool) (addr : Nat) (s : State) : Answer := .next (s.live (pongReceived n sideB addr))
/-- ENUM_ACK_RECEIVED (R98). -/
def execEnumAckReceived (n rtt id serial c0 c1 : Nat) (s : State) : Answer := .next (s.live (enumAckReceived n rtt id serial c0 c1))
/-- ASSIGN_ACK_TIMEOUT (R98). -/
def execAssignAckTimeout (n : Nat) (arrived : Bool) (lat : Nat) (s : State) : Answer := .next (s.live (assignAckTimeout n arrived lat))
/-- CLOSURE_PROBE_TIMER (R104). -/
def execClosureProbeTimer (s : State) : Answer := .next (s.live closureProbeTimer)
/-- CLOSE_PROBE_ARRIVED (R104). -/
def execCloseProbeArrived (n lat : Nat) (s : State) : Answer := .next (s.live (closeProbeArrived n lat))
/-- RING_ENUMERATE_REQUEST (R109). -/
def execRingEnumerateRequest (n : Nat) (s : State) : Answer := .next (s.live (ringEnumerateRequest n))
/-- STRING_DATA_LOST_TIMEOUT (R128). -/
def execStringDataLostTimeout (x : Nat) (s : State) : Answer := .next (s.live (stringDataLostTimeout x))
/-- ACQ_SCR_EVT3_READ (R132). -/
def execAcqScrEvt3Read (s : State) : Answer := .next (s.live acqScrEvt3Read)
/-- ACQ_SCR_APPLY (R131). -/
def execAcqScrApply (p : Nat) (v : U32) (s : State) : Answer := .next (s.live (acqScrApply p v))
/-- FOC_COMPARATOR_TRIP (R143). -/
def execFocComparatorTrip (n : Nat) (chg : Bool) (s : State) : Answer := .next (s.live (focComparatorTrip n chg))
/-- FOC_TRIP_CLEAR (R144). -/
def execFocTripClear (p : Nat) (v held : U32) (s : State) : Answer := .next (s.live (focTripClear p v held))
/-- FOC_COMPARATOR_TEST (R145). -/
def execFocComparatorTest (n : Nat) (chg : Bool) (s : State) : Answer := .next (s.live (focComparatorTest n chg))
/-- PROTECTED_SRAM_STORE (R120). -/
def execProtectedSramStore (a : Nat) (s : State) : Answer := .next (s.live (protectedSramStore a))
/-- EST_GO (R157). -/
def execEstGo (p k gate : Nat) (s : State) : Answer := .next (s.live (estGo p k gate))
/-- ESTIMATOR_PASS_COMPLETE (R210). -/
def execEstimatorPassComplete (clk : Nat) (upsets : List (Nat × Nat × Nat)) (s : State) : Answer := .next (s.live (estimatorPassComplete clk upsets))
/-- EST_CUR_JOB (R168). -/
def execEstCurJob (p x : Nat) (s : State) : Answer := .next (s.live (estCurJob p x))
/-- CURATOR_JOB_COMPLETE (R168). -/
def execCuratorJobComplete (atGo : Bool) (s : State) : Answer := .next (s.live (curatorJobComplete atGo))
/-- LANE_TEST_REQUEST (R175). -/
def execLaneTestRequest (p : Nat) (s : State) : Answer := .next (s.live (laneTestRequest p))
/-- LANE_TEST_COMPLETE (R175). -/
def execLaneTestComplete (mask : U32) (s : State) : Answer := .next (s.live (laneTestComplete mask))
/-- EST_LANE_FENCE_WRITE (R175). -/
def execEstLaneFenceWrite (p : Nat) (v : U32) (s : State) : Answer := .next (s.live (estLaneFenceWrite p v))
/-- EST_WT_DESC_WRITE (R169). -/
def execEstWtDescWrite (p x b w : Nat) (v : U32) (s : State) : Answer := .next (s.live (estWtDescWrite p x b w v))
/-- QUIET_WINDOW_COMPLETE (R179). -/
def execQuietWindowComplete (x : Nat) (s : State) : Answer := .next (s.live (quietWindowComplete x))
/-- UNEXCITED_TIMEOUT (R160). -/
def execUnexcitedTimeout (x : Nat) (s : State) : Answer := .next (s.live (unexcitedTimeout x))
/-- CAP_LEARN_ARM_TIMEOUT (R194). -/
def execCapLearnArmTimeout (x : Nat) (s : State) : Answer := .next (s.live (capLearnArmTimeout x))
/-- PCS_FEEDBACK_RECEIVED (R229). -/
def execPcsFeedbackReceived (n : Nat) (fdf : Bool) (data : List U8) (s : State) : Answer := .next (s.live (pcsFeedbackReceived n fdf data))
/-- PCS_HEARTBEAT_RECEIVED (R229). -/
def execPcsHeartbeatReceived (n : Nat) (data : List U8) (s : State) : Answer := .next (s.live (pcsHeartbeatReceived n data))
/-- PCS_SILENT_TIMEOUT (R230). -/
def execPcsSilentTimeout (s : State) : Answer := .next (s.live pcsSilentTimeout)
/-- PCS_BUS_SILENT_TIMEOUT (R229). -/
def execPcsBusSilentTimeout (n : Nat) (s : State) : Answer := .next (s.live (pcsBusSilentTimeout n))
/-- PCS_OVERLIMIT_TIMEOUT (R231). -/
def execPcsOverlimitTimeout (chg : Bool) (s : State) : Answer := .next (s.live (pcsOverlimitTimeout chg))
/-- THERMAL_EVALUATION (R249). -/
def execThermalEvaluation (s : State) : Answer := .next (s.live thermalEvaluation)
/-- THERMAL_DWELL_EXPIRY (R242). -/
def execThermalDwellExpiry (x : Nat) (low : Bool) (s : State) : Answer := .next (s.live (thermalDwellExpiry x low))
/-- THERMAL_HOLD_EXPIRY (R247). -/
def execThermalHoldExpiry (x : Nat) (s : State) : Answer := .next (s.live (thermalHoldExpiry x))
/-- THERMAL_STALL (R249). -/
def execThermalStall (s : State) : Answer := .next (s.live thermalStall)
/-- DIE_TEMPERATURE_UPDATE (R256). -/
def execDieTemperatureUpdate (l : List Int) (s : State) : Answer := .next (s.live (dieTemperatureUpdate l))
/-- DIE_STATE_DWELL_EXPIRY (R256). -/
def execDieStateDwellExpiry (s : State) : Answer := .next (s.live dieStateDwellExpiry)
/-- DIE_SENSOR_EXCLUSION (R255). -/
def execDieSensorExclusion (k : Nat) (s : State) : Answer := .next (s.live (dieSensorExclusion k))
/-- COMPENSATION_UPDATE (R258). -/
def execCompensationUpdate (s : State) : Answer := .next (s.live compensationUpdate)
/-- SNAPSHOT_SAFETY_CHECK (R300). -/
def execSnapshotSafetyCheck (tUs : Nat) (s : State) : Answer := .next (s.live (snapshotSafetyCheck tUs))
/-- CONTACTOR_POLL (R267). -/
def execContactorPoll (x : Nat) (s : State) : Answer := .next (s.live (contactorPoll x))
/-- CONTACTOR_FB_TIMEOUT (R267). -/
def execContactorFbTimeout (x mask : Nat) (s : State) : Answer := .next (s.live (contactorFbTimeout x mask))
/-- POLE_GAP_EXPIRY (R281). -/
def execPoleGapExpiry (x : Nat) (s : State) : Answer := .next (s.live (poleGapExpiry x))
/-- RAMP_TIMEOUT (R282). -/
def execRampTimeout (s : State) : Answer := .next (s.live rampTimeout)
/-- JOIN_WAIT_TIMEOUT (R277). -/
def execJoinWaitTimeout (x : Nat) (s : State) : Answer := .next (s.live (joinWaitTimeout x))
/-- PRECHARGE_DURATION_TIMEOUT (R272). -/
def execPrechargeDurationTimeout (x : Nat) (s : State) : Answer := .next (s.live (prechargeDurationTimeout x))
/-- FBK_INPUT_CHANGE (R289). -/
def execFbkInputChange (n : Nat) (high : Bool) (s : State) : Answer := .next (s.live (fbkInputChange n high))
/-- BUS_CONTACTOR_FB_TIMEOUT (R290). -/
def execBusContactorFbTimeout (n : Nat) (s : State) : Answer := .next (s.live (busContactorFbTimeout n))
/-- SAFETY_TICK (R299). -/
def execSafetyTick (direct : List (Nat × Int)) (s : State) : Answer := .next (s.live (safetyTick direct))
/-- SIN_CHANNEL_CHANGE (R306). -/
def execSinChannelChange (n : Nat) (chB high : Bool) (s : State) : Answer := .next (s.live (sinChannelChange n chB high))
/-- SIN_DISCREPANCY_TIMEOUT (R307). -/
def execSinDiscrepancyTimeout (n : Nat) (s : State) : Answer := .next (s.live (sinDiscrepancyTimeout n))
/-- TPO_PULSE (R308). -/
def execTpoPulse (k : Nat) (s : State) : Answer := .next (s.live (tpoPulse k))
/-- TPO_PULSE_END (R308). -/
def execTpoPulseEnd (k : Nat) (low crossed : List Nat) (s : State) : Answer := .next (s.live (tpoPulseEnd k low crossed))
/-- SSW_DWELL_EXPIRY (R303). -/
def execSswDwellExpiry (x : Nat) (chg : Bool) (s : State) : Answer := .next (s.live (sswDwellExpiry x chg))
/-- DIRECTION_SETTLE_EXPIRY (R301). -/
def execDirectionSettleExpiry (x : Nat) (chg : Bool) (s : State) : Answer := .next (s.live (directionSettleExpiry x chg))
/-- SEO_READBACK_MISMATCH (R313). -/
def execSeoReadbackMismatch (n : Nat) (chB back : Bool) (s : State) : Answer := .next (s.live (seoReadbackMismatch n chB back))
/-- SEO_TEST_PULSE (R314). -/
def execSeoTestPulse (n : Nat) (s : State) : Answer := .next (s.live (seoTestPulse n))
/-- SEO_TEST_PULSE_END (R314). -/
def execSeoTestPulseEnd (n : Nat) (off on : Bool) (s : State) : Answer := .next (s.live (seoTestPulseEnd n off on))
/-- SAF_WDOG_WRITE (R317). -/
def execSafWdogWrite (p v : Nat) (s : State) : Answer := .next (s.live (safWdogWrite p v))
/-- WATCHDOG_EXPIRY (R317). -/
def execWatchdogExpiry (s : State) : Answer := .next (s.live watchdogExpiry)
/-- SAF_CTRL_SAFE (R316). -/
def execSafCtrlSafe (p ev : Nat) (s : State) : Answer := .next (s.live (safCtrlSafe p ev))
/-- SAF_SEO_REQ_WRITE (R311). -/
def execSafSeoReqWrite (p v : Nat) (s : State) : Answer := .next (s.live (safSeoReqWrite p v))
/-- SAF_RESET_WRITE (R327). -/
def execSafResetWrite (p : Nat) (v : U32) (s : State) : Answer := .next (s.live (safResetWrite p v))
/-- SAF_RESTART_WRITE (R327). -/
def execSafRestartWrite (p : Nat) (v : U32) (s : State) : Answer := .next (s.live (safRestartWrite p v))
/-- COMPARE_WINDOW_CLOSE (R339). -/
def execCompareWindowClose (p : Nat) (prim shad : List Retired) (bad : Bool) (inputs : List (Nat × U32)) (ckpt : List U32) (s : State) : Answer := .next (s.live (compareWindowClose p prim shad bad inputs ckpt))
/-- RECOVERY_VOTE (R343). -/
def execRecoveryVote (p : Nat) (prim shad spr : List Retired) (x : RunEnd) (s : State) : Answer := .next (s.live (recoveryVote p prim shad spr x))
/-- RETRY_COMPARE (R348). -/
def execRetryCompare (p : Nat) (prim shad : List Retired) (x : RunEnd) (s : State) : Answer := .next (s.live (retryCompare p prim shad x))
/-- RECOVERY_TIMEOUT (R343). -/
def execRecoveryTimeout (p : Nat) (s : State) : Answer := .next (s.live (recoveryTimeout p))
/-- CORE_SELFTEST_COMPLETE (R344). -/
def execCoreSelftestComplete (core : Nat) (ok : Bool) (s : State) : Answer := .next (s.live (coreSelftestComplete core ok))
/-- SPARE_SELFTEST_TIMER (R345). -/
def execSpareSelftestTimer (s : State) : Answer := .next (s.live spareSelftestTimer)
/-- SPARE_TEST_REQUEST (R359). -/
def execSpareTestRequest (p : Nat) (s : State) : Answer := .next (s.live (spareTestRequest p))
/-- PAIR_HEARTBEAT_TIMEOUT (R351). -/
def execPairHeartbeatTimeout (p : Nat) (s : State) : Answer := .next (s.live (pairHeartbeatTimeout p))
/-- EXE_RESTART_WRITE (R351). -/
def execExeRestartWrite (p : Nat) (v : U32) (s : State) : Answer := .next (s.live (exeRestartWrite p v))
/-- PAIR_RESTART_TIMEOUT (R351). -/
def execPairRestartTimeout (p : Nat) (s : State) : Answer := .next (s.live (pairRestartTimeout p))
/-- DEBUG_HALT (R356). -/
def execDebugHalt (core : Nat) (s : State) : Answer := .next (s.live (debugHalt core))
/-- SCRUB_TICK (R358). -/
def execScrubTick (err : Bool) (s : State) : Answer := .next (s.live (scrubTick err))
/-- ECC_UNCORRECTABLE_READ (R358). -/
def execEccUncorrectableRead (req a : Nat) (s : State) : Answer := .next (s.live (eccUncorrectableRead req a))
/-- BUS_TRANSACTION_TIMEOUT (R16). -/
def execBusTransactionTimeout (s : State) : Answer := .next (s.live busTransactionTimeout)
/-- QSPI_FAST_READ (R386). -/
def execQspiFastRead (a : BitVec 24) (len : Nat) (s : State) : Answer := .next (s.live (qspiFastRead a len))
/-- QSPI_QUAD_IO_READ (R386). -/
def execQspiQuadIoRead (a : BitVec 24) (len : Nat) (s : State) : Answer := .next (s.live (qspiQuadIoRead a len))
/-- QSPI_WRITE (R386). -/
def execQspiWrite (a : BitVec 24) (x : HostWrite) (s : State) : Answer := .next (s.live (qspiWrite a x))
/-- QSPI_QUAD_IO_WRITE (R386). -/
def execQspiQuadIoWrite (a : BitVec 24) (x : HostWrite) (s : State) : Answer := .next (s.live (qspiQuadIoWrite a x))
/-- QSPI_READ_STATUS_BYTE (R386). -/
def execQspiReadStatusByte (s : State) : Answer := .next (s.live qspiReadStatusByte)
/-- HP_CMD_WP_WRITE (R388). -/
def execHpCmdWpWrite (v : U32) (s : State) : Answer := .next (s.live (hpCmdWpWrite v))
/-- HP_RPL_RP_WRITE (R388). -/
def execHpRplRpWrite (v : U32) (s : State) : Answer := .next (s.live (hpRplRpWrite v))
/-- PACKET_INTAKE (R367). -/
def execPacketIntake (s : State) : Answer := .next (s.live packetIntake)
/-- CLUSTER_COMMAND_FRAGMENT (R389). -/
def execClusterCommandFragment (p mac : Nat) (body : List U8) (s : State) : Answer := .next (s.live (clusterCommandFragment p mac body))
/-- REASSEMBLY_TIMEOUT (R389). -/
def execReassemblyTimeout (mac sn tag : Nat) (s : State) : Answer := .next (s.live (reassemblyTimeout mac sn tag))
/-- COMMAND_TIMEOUT (R374). -/
def execCommandTimeout (sn tag : Nat) (s : State) : Answer := .next (s.live (commandTimeout sn tag))
/-- PENDING_INTERIM (R373). -/
def execPendingInterim (sn tag : Nat) (s : State) : Answer := .next (s.live (pendingInterim sn tag))
/-- SESSION_EXPIRY (R379). -/
def execSessionExpiry (n : Nat) (s : State) : Answer := .next (s.live (sessionExpiry n))
/-- SESSION_HOLD_EXPIRY (R380). -/
def execSessionHoldExpiry (n : Nat) (s : State) : Answer := .next (s.live (sessionHoldExpiry n))
/-- AUTH_DEADLINE_EXPIRY (R376). -/
def execAuthDeadlineExpiry (n : Nat) (s : State) : Answer := .next (s.live (authDeadlineExpiry n))
/-- AUTH_LOCKOUT_EXPIRY (R376). -/
def execAuthLockoutExpiry (p : Nat) (s : State) : Answer := .next (s.live (authLockoutExpiry p))
/-- CONFIG_IDLE_TIMEOUT (R384). -/
def execConfigIdleTimeout (s : State) : Answer := .next (s.live configIdleTimeout)
/-- IDENTIFY (R396). -/
def execIdentify (c : HostCmd) (s : State) : Answer := .next (s.live (identify c))
/-- STATUS_GET (R397). -/
def execStatusGet (c : HostCmd) (s : State) : Answer := .next (s.live (statusGet c))
/-- SERVICE_ENTER (R395). -/
def execServiceEnter (c : HostCmd) (s : State) : Answer := .next (s.live (serviceEnter c))
/-- SERVICE_LEAVE (R395). -/
def execServiceLeave (c : HostCmd) (s : State) : Answer := .next (s.live (serviceLeave c))
/-- CONFIG_BEGIN (R384). -/
def execConfigBegin (c : HostCmd) (s : State) : Answer := .next (s.live (configBegin c))
/-- PARAM_SET (R384). -/
def execParamSet (c : HostCmd) (s : State) : Answer := .next (s.live (paramSet c))
/-- PARAM_GET (R398). -/
def execParamGet (c : HostCmd) (s : State) : Answer := .next (s.live (paramGet c))
/-- CONFIG_COMMIT (R385). -/
def execConfigCommit (c : HostCmd) (s : State) : Answer := .next (s.live (configCommit c))
/-- CONFIG_ABORT (R384). -/
def execConfigAbort (c : HostCmd) (s : State) : Answer := .next (s.live (configAbort c))
/-- TIMEBASE_GET (R400). -/
def execTimebaseGet (c : HostCmd) (s : State) : Answer := .next (s.live (timebaseGet c))
/-- TIMEBASE_ALIGN (R401). -/
def execTimebaseAlign (c : HostCmd) (s : State) : Answer := .next (s.live (timebaseAlign c))
/-- PISTE_READ (R400). -/
def execPisteRead (c : HostCmd) (s : State) : Answer := .next (s.live (pisteRead c))
/-- PISTE_WRITE (R402). -/
def execPisteWrite (c : HostCmd) (s : State) : Answer := .next (s.live (pisteWrite c))
/-- RING_STATUS (R403). -/
def execRingStatus (c : HostCmd) (s : State) : Answer := .next (s.live (ringStatusGet c))
/-- RING_ENUMERATE (R403). -/
def execRingEnumerate (c : HostCmd) (s : State) : Answer := .next (s.live (ringEnumerate c))
/-- RING_LEAVE (R107). -/
def execRingLeave (c : HostCmd) (s : State) : Answer := .next (s.live (ringLeave c))
/-- NODE_READ (R405). -/
def execNodeRead (c : HostCmd) (s : State) : Answer := .next (s.live (nodeRead c))
/-- UNIT_MAP_SET (R404). -/
def execUnitMapSet (c : HostCmd) (s : State) : Answer := .next (s.live (unitMapSet c))
/-- UNIT_MAP_GET (R403). -/
def execUnitMapGet (c : HostCmd) (s : State) : Answer := .next (s.live (unitMapGet c))
/-- HISTORY_READ (R406). -/
def execHistoryRead (c : HostCmd) (s : State) : Answer := .next (s.live (historyRead c))
/-- STRING_SAMPLE_READ (R403). -/
def execStringSampleRead (c : HostCmd) (s : State) : Answer := .next (s.live (stringSampleRead c))
/-- DIRECT_READ (R403). -/
def execDirectRead (c : HostCmd) (s : State) : Answer := .next (s.live (directRead c))
/-- BAL_CLEAR (R403). -/
def execBalClear (c : HostCmd) (s : State) : Answer := .next (s.live (balClear c))
/-- CATALOGUE_READ (R408). -/
def execCatalogueRead (c : HostCmd) (s : State) : Answer := .next (s.live (catalogueRead c))
/-- STRING_EST_READ (R407). -/
def execStringEstRead (c : HostCmd) (s : State) : Answer := .next (s.live (stringEstRead c))
/-- CAPACITY_WRITE (R409). -/
def execCapacityWrite (c : HostCmd) (s : State) : Answer := .next (s.live (capacityWrite c))
/-- MASTER_TABLE_LOAD (R410). -/
def execMasterTableLoad (c : HostCmd) (s : State) : Answer := .next (s.live (masterTableLoad c))
/-- LIMITS_READ (R407). -/
def execLimitsRead (c : HostCmd) (s : State) : Answer := .next (s.live (limitsRead c))
/-- THERMAL_READ (R407). -/
def execThermalRead (c : HostCmd) (s : State) : Answer := .next (s.live (thermalRead c))
/-- SENSOR_READ (R407). -/
def execSensorRead (c : HostCmd) (s : State) : Answer := .next (s.live (sensorRead c))
/-- STRING_CONNECT (R270). -/
def execStringConnect (c : HostCmd) (s : State) : Answer := .next (s.live (stringConnect c))
/-- STRING_DISCONNECT (R413). -/
def execStringDisconnect (c : HostCmd) (s : State) : Answer := .next (s.live (stringDisconnect c))
/-- STRING_LOCK (R285). -/
def execStringLock (c : HostCmd) (s : State) : Answer := .next (s.live (stringLock c))
/-- STRING_UNLOCK (R285). -/
def execStringUnlock (c : HostCmd) (s : State) : Answer := .next (s.live (stringUnlock c))
/-- STRING_WELD_RELEASE (R286). -/
def execStringWeldRelease (c : HostCmd) (s : State) : Answer := .next (s.live (stringWeldRelease c))
/-- STRING_READ (R414). -/
def execStringRead (c : HostCmd) (s : State) : Answer := .next (s.live (stringRead c))
/-- SAFETY_RESET (R319). -/
def execSafetyReset (c : HostCmd) (s : State) : Answer := .next (s.live (safetyReset c))
/-- SIN_RESET (R310). -/
def execSinReset (c : HostCmd) (s : State) : Answer := .next (s.live (sinReset c))
/-- SAFETY_READ (R415). -/
def execSafetyRead (c : HostCmd) (s : State) : Answer := .next (s.live (safetyRead c))
/-- EXEC_READ (R415). -/
def execExecRead (c : HostCmd) (s : State) : Answer := .next (s.live (execRead c))
/-- CORE_UNFENCE (R415). -/
def execCoreUnfence (c : HostCmd) (s : State) : Answer := .next (s.live (coreUnfence c))
/-- DEBUG_SET (R355). -/
def execDebugSet (c : HostCmd) (s : State) : Answer := .next (s.live (debugSet c))
/-- SESSION_OPEN (R375). -/
def execSessionOpen (c : HostCmd) (s : State) : Answer := .next (s.live (sessionOpen c))
/-- SESSION_AUTH (R376). -/
def execSessionAuth (c : HostCmd) (s : State) : Answer := .next (s.live (sessionAuth c))
/-- SESSION_CLOSE (R380). -/
def execSessionClose (c : HostCmd) (s : State) : Answer := .next (s.live (sessionClose c))
/-- SESSION_PING (R379). -/
def execSessionPing (c : HostCmd) (s : State) : Answer := .next (s.live (sessionPing c))
/-- CMD_CANCEL (R374). -/
def execCmdCancel (c : HostCmd) (s : State) : Answer := .next (s.live (cmdCancel c))
/-- TAG_QUERY (R382). -/
def execTagQuery (c : HostCmd) (s : State) : Answer := .next (s.live (tagQuery c))
/-- NOTICE_SUBSCRIBE (R375). -/
def execNoticeSubscribe (c : HostCmd) (s : State) : Answer := .next (s.live (noticeSubscribe c))
/-- KEY_PROVISION (R376). -/
def execKeyProvision (c : HostCmd) (s : State) : Answer := .next (s.live (keyProvision c))
/-- CLUSTER_READ (R417). -/
def execClusterRead (c : HostCmd) (s : State) : Answer := .next (s.live (clusterRead c))
/-- CAN_TX (R419). -/
def execCanTx (c : HostCmd) (s : State) : Answer := .next (s.live (canTx c))
/-- CAN_RX_READ (R421). -/
def execCanRxRead (c : HostCmd) (s : State) : Answer := .next (s.live (canRxRead c))
/-- CAN_STATUS (R418). -/
def execCanStatus (c : HostCmd) (s : State) : Answer := .next (s.live (canStatus c))
/-- CAN_RECOVER (R418). -/
def execCanRecover (c : HostCmd) (s : State) : Answer := .next (s.live (canRecover c))
/-- LOG_READ (R423). -/
def execLogRead (c : HostCmd) (s : State) : Answer := .next (s.live (logRead c))
/-- COUNTER_READ (R422). -/
def execCounterRead (c : HostCmd) (s : State) : Answer := .next (s.live (counterRead c))
/-- VITRINE_TAKE (R494). -/
def execVitrineTake (c : HostCmd) (s : State) : Answer := .next (s.live (vitrineTake c))
/-- DUMP_READ (R422). -/
def execDumpRead (c : HostCmd) (s : State) : Answer := .next (s.live (dumpRead c))
/-- FW_STAGE_BEGIN (R425). -/
def execFwStageBegin (c : HostCmd) (s : State) : Answer := .next (s.live (fwStageBegin c))
/-- FW_STAGE_DATA (R425). -/
def execFwStageData (c : HostCmd) (s : State) : Answer := .next (s.live (fwStageData c))
/-- FW_STAGE_VERIFY (R425). -/
def execFwStageVerify (c : HostCmd) (s : State) : Answer := .next (s.live (fwStageVerify c))
/-- FW_ACTIVATE (R426). -/
def execFwActivate (c : HostCmd) (s : State) : Answer := .next (s.live (fwActivate c))
/-- FW_INFO (R424). -/
def execFwInfo (c : HostCmd) (s : State) : Answer := .next (s.live (fwInfo c))
/-- HIBERNATE (R427). -/
def execHibernate (c : HostCmd) (s : State) : Answer := .next (s.live (hibernate c))
/-- RETAINED_SAVE (R424). -/
def execRetainedSave (c : HostCmd) (s : State) : Answer := .next (s.live (retainedSave c))
/-- HELLO_BROADCAST (R436). -/
def execHelloBroadcast (s : State) : Answer := .next (s.live helloBroadcast)
/-- HELLO_RECEIVED (R437). -/
def execHelloReceived (p : Nat) (body : List U8) (s : State) : Answer := .next (s.live (helloReceived p body))
/-- VIEW_EVALUATION (R438). -/
def execViewEvaluation (s : State) : Answer := .next (s.live viewEvaluation)
/-- PHASE_SYNC_BROADCAST (R440). -/
def execPhaseSyncBroadcast (angle : U32) (s : State) : Answer := .next (s.live (phaseSyncBroadcast angle))
/-- PHASE_SYNC_RECEIVED (R441). -/
def execPhaseSyncReceived (p src : Nat) (x : SyncFrame) (s : State) : Answer := .next (s.live (phaseSyncReceived p src x))
/-- DELAY_REQ_SEND (R441). -/
def execDelayReqSend (t1 : Nat) (s : State) : Answer := .next (s.live (delayReqSend t1))
/-- DELAY_REQ_RECEIVED (R441). -/
def execDelayReqReceived (p src seq corr t2 t3 : Nat) (s : State) : Answer := .next (s.live (delayReqReceived p src seq corr t2 t3))
/-- DELAY_RESP_RECEIVED (R441). -/
def execDelayRespReceived (seq corr corrReq t2 t3 t4 : Nat) (s : State) : Answer := .next (s.live (delayRespReceived seq corr corrReq t2 t3 t4))
/-- REDUCE_CONTRIBUTION_RECEIVED (R444). -/
def execReduceContributionReceived (src : Nat) (words : List U32) (s : State) : Answer := .next (s.live (reduceContributionReceived src words))
/-- REDUCE_COLLECTION (R444). -/
def execReduceCollection (s : State) : Answer := .next (s.live reduceCollection)
/-- REDUCE_RESULT_RECEIVED (R447). -/
def execReduceResultReceived (src : Nat) (words : List U32) (s : State) : Answer := .next (s.live (reduceResultReceived src words))
/-- CLUSTER_FRAME_ARRIVAL (R433). -/
def execClusterFrameArrival (p : Nat) (h : ClHead) (h1 h2 : U32) (body : List U8) (fcsOk : Bool) (residence : Nat) (busy : Bool) (s : State) : Answer := .next (s.live (clusterFrameArrival p h h1 h2 body fcsOk residence busy))
/-- CLUSTER_PORT_DOWN (R435). -/
def execClusterPortDown (p : Nat) (s : State) : Answer := .next (s.live (clusterPortDown p))
/-- PHY_POLL (R429). -/
def execPhyPoll (links : Nat) (s : State) : Answer := .next (s.live (phyPoll links))
/-- CAN_ATTEMPT_START (R467). -/
def execCanAttemptStart (n : Nat) (tsc : U32) (s : State) : Answer := .next (s.live (canAttemptStart n tsc))
/-- CAN_TRANSMIT_COMPLETE (R469). -/
def execCanTransmitComplete (n : Nat) (edges : List Nat) (s : State) : Answer := .next (s.live (canTransmitComplete n edges))
/-- TXB2_HOLD_START (R468). -/
def execTxb2HoldStart (s : State) : Answer := .next (s.live txb2HoldStart)
/-- CAN_FRAME_RECEIVED (R461). -/
def execCanFrameReceived (n : Nat) (f : CanFrame) (tsc : U32) (s : State) : Answer := .next (s.live (canFrameReceived n f tsc))
/-- CAN_BUS_ERROR (R474). -/
def execCanBusError (n : Nat) (e : CanError) (s : State) : Answer := .next (s.live (canBusError n e))
/-- CAN_RECOVERY_COMPLETE (R475). -/
def execCanRecoveryComplete (n : Nat) (s : State) : Answer := .next (s.live (canRecoveryComplete n))
/-- CAN_TXB_PUT_WRITE (R467). -/
def execCanTxbPutWrite (p n k v : Nat) (s : State) : Answer := .next (s.live (canTxbPutWrite p n k v))
/-- CAN_TX_CANCEL_WRITE (R470). -/
def execCanTxCancelWrite (p n : Nat) (v : U32) (win : Bool) (s : State) : Answer := .next (s.live (canTxCancelWrite p n v win))
/-- CAN_TX_RESUME_WRITE (R478). -/
def execCanTxResumeWrite (p n : Nat) (v : U32) (s : State) : Answer := .next (s.live (canTxResumeWrite p n v))
/-- CAN_TXEV_ACK_WRITE (R469). -/
def execCanTxevAckWrite (p n v : Nat) (s : State) : Answer := .next (s.live (canTxevAckWrite p n v))
/-- CAN_RXF_ACK_WRITE (R465). -/
def execCanRxfAckWrite (p n k v : Nat) (s : State) : Answer := .next (s.live (canRxfAckWrite p n k v))
/-- CAN_FLT_SWAP_REQ (R462). -/
def execCanFltSwapReq (p n : Nat) (s : State) : Answer := .next (s.live (canFltSwapReq p n))
/-- CAN_FILTER_SWAP (R462). -/
def execCanFilterSwap (n : Nat) (s : State) : Answer := .next (s.live (canFilterSwap n))
/-- CAN_CTRL_RECOVER (R475). -/
def execCanCtrlRecover (p n : Nat) (s : State) : Answer := .next (s.live (canCtrlRecover p n))
/-- CAN_OBJ_SEND (R472). -/
def execCanObjSend (p n w : Nat) (v : U32) (s : State) : Answer := .next (s.live (canObjSend p n w v))
/-- CAN_RAM_UNCORRECTABLE (R476). -/
def execCanRamUncorrectable (n off : Nat) (s : State) : Answer := .next (s.live (canRamUncorrectable n off))
/-- CAN_WAKE_PATTERN (R479). -/
def execCanWakePattern (s : State) : Answer := .next (s.apply canWakePattern)
/-- CNT_LO_READ (R489). -/
def execCntLoRead (p n : Nat) (s : State) : Answer := .next (s.live (cntLoRead p n))
/-- CNT_LO_WRITE (R490). -/
def execCntLoWrite (p n : Nat) (v : U32) (s : State) : Answer := .next (s.live (cntLoWrite p n v))
/-- CNT_HI_WRITE (R490). -/
def execCntHiWrite (p n : Nat) (v : U32) (s : State) : Answer := .next (s.live (cntHiWrite p n v))
/-- DUMP_RECORD_WRITTEN (R493). -/
def execDumpRecordWritten (s : State) : Answer := .next (s.live dumpRecordWritten)
/-- VIT_REQ_WRITE (R494). -/
def execVitReqWrite (p : Nat) (s : State) : Answer := .next (s.live (vitReqWrite p))
/-- BW_WINDOW_END (R497). -/
def execBwWindowEnd (k bytes : Nat) (s : State) : Answer := .next (s.live (bwWindowEnd k bytes))
/-- BW_CFG_WRITE (R497). -/
def execBwCfgWrite (p k : Nat) (v : U32) (s : State) : Answer := .next (s.live (bwCfgWrite p k v))
/-- LOG_INTAKE (R504). -/
def execLogIntake (s : State) : Answer := .next (s.live logIntake)
/-- LOG_SECOND_BOUNDARY (R505). -/
def execLogSecondBoundary (s : State) : Answer := .next (s.live logSecondBoundary)
/-- RESET_N_CHANGE (R512). -/
def execResetNChange (high : Bool) (s : State) : Answer := .next (s.apply (resetNChange high))
/-- VAON_POWER_ON (R512). -/
def execVaonPowerOn (above : Bool) (s : State) : Answer := .next (s.apply (vaonPowerOn above))
/-- BROWN_OUT (R513). -/
def execBrownOut (s : State) : Answer := .next (s.apply brownOut)
/-- PGOOD_IN_FALL (R514). -/
def execPgoodInFall (s : State) : Answer := .next (s.apply pgoodInFall)
/-- POWER_FAIL_RESET (R514). -/
def execPowerFailReset (s : State) : Answer := .next (s.apply powerFailReset)
/-- BOOT_START (R516). -/
def execBootStart (bootsel failed : Nat) (s : State) : Answer := .next (s.apply (bootStart bootsel failed))
/-- BOOT_WATCHDOG_EXPIRY (R517). -/
def execBootWatchdogExpiry (bootsel failed : Nat) (s : State) : Answer := .next (s.live (bootWatchdogExpiry bootsel failed))
/-- RET_GO_WRITE (R527). -/
def execRetGoWrite (p : Nat) (v : U32) (s : State) : Answer := .next (s.live (retGoWrite p v))
/-- RETAINED_TRANSACTION_DONE (R527). -/
def execRetainedTransactionDone (s : State) : Answer := .next (s.live retainedTransactionDone)
/-- PERIODIC_SAVE (R532). -/
def execPeriodicSave (s : State) : Answer := .next (s.live periodicSave)
/-- PWR_CTRL_HIB_REQ (R535). -/
def execPwrCtrlHibReq (p : Nat) (s : State) : Answer := .next (s.live (pwrCtrlHibReq p))
/-- PWR_CTRL_RESTART (R540). -/
def execPwrCtrlRestart (p bootsel failed : Nat) (s : State) : Answer := .next (s.live (pwrCtrlRestart p bootsel failed))
/-- HIBERNATE_ABORT_TIMEOUT (R535). -/
def execHibernateAbortTimeout (s : State) : Answer := .next (s.live hibernateAbortTimeout)
/-- WAKE_SOURCE_FIRED (R538). -/
def execWakeSourceFired (srcs bootsel failed : Nat) (s : State) : Answer := .next (s.apply (wakeSourceFired srcs bootsel failed))
/-- TRIAL_CONFIRM_TIMEOUT (R524). -/
def execTrialConfirmTimeout (s : State) : Answer := .next (s.live trialConfirmTimeout)
/-- TRIAL_ROLLBACK_RESTART (R524). -/
def execTrialRollbackRestart (bootsel failed : Nat) (s : State) : Answer := .next (s.live (trialRollbackRestart bootsel failed))
/-- REGISTER_WRITE (R4). -/
def execRegisterWrite (p a : Nat) (x : RegWrite) (s : State) : Answer := .next (s.live (registerWrite p a x))
/-- READ_CLEAR_REGISTER (R4). -/
def execReadClearRegister (p : Nat) (x : RegRead) (s : State) : Answer := .next (s.live (readClearRegister p x))
/-- PING_TIMEOUT (R100). -/
def execPingTimeout (n : Nat) (sideB : Bool) (s : State) : Answer := .next (s.live (pingTimeout n sideB))
/-- FOC_TEST_END (R145). -/
def execFocTestEnd (changed : Bool) (s : State) : Answer := .next (s.live (focTestEnd changed))
/-- BUSOFF_RECOVERY_START (R475). -/
def execBusoffRecoveryStart (n : Nat) (s : State) : Answer := .next (s.live (busoffRecoveryStart n))
/-- CAN_INTEGRATION_COMPLETE (R483). -/
def execCanIntegrationComplete (n : Nat) (s : State) : Answer := .next (s.live (canIntegrationComplete n))
/-- ACTIVATION_RESTART (R426). -/
def execActivationRestart (bootsel failed : Nat) (s : State) : Answer := .next (s.live (activationRestart bootsel failed))
/-- JTAG_INSTRUCTION_UPDATE (R575). -/
def execJtagInstructionUpdate (ins : JtagIns) (s : State) : Answer := .next (s.live (jtagInstructionUpdate ins))
/-- HEAD_ENTRY_SYNC (R440). -/
def execHeadEntrySync (angle : U32) (s : State) : Answer := .next (s.live (headEntrySync angle))

end Sys2Proof.Machine
end

