-- ==== Sys2Proof/Machine/Dispatch.lean ====
section
/-!
DEFINITION. Sys2Proof/Machine/Dispatch.lean: one arm per command.
-/
namespace Sys2Proof.Machine

def exec (i : Instr) (s : State) : Host.Outcome State Fault Refusal :=
  match i with
  | .angleZero tsc => Sys2Proof.Machine.execAngleZero tsc s
  | .timebaseEvaluation half freq e pos neg => Sys2Proof.Machine.execTimebaseEvaluation half freq e pos neg s
  | .holdoverTimerExpiry => Sys2Proof.Machine.execHoldoverTimerExpiry s
  | .tbAngleRead a => Sys2Proof.Machine.execTbAngleRead a s
  | .gateStart k => Sys2Proof.Machine.execGateStart k s
  | .gateDeadline k => Sys2Proof.Machine.execGateDeadline k s
  | .pisteDone p k => Sys2Proof.Machine.execPisteDone p k s
  | .pisteSwapReq => Sys2Proof.Machine.execPisteSwapReq s
  | .ringFrameTransmit n => Sys2Proof.Machine.execRingFrameTransmit n s
  | .phaserefBroadcast => Sys2Proof.Machine.execPhaserefBroadcast s
  | .trainLaunch direct => Sys2Proof.Machine.execTrainLaunch direct s
  | .segmentReceived n sideB x last => Sys2Proof.Machine.execSegmentReceived n sideB x last s
  | .respReceived n frame => Sys2Proof.Machine.execRespReceived n frame s
  | .ringCmdTimeout n => Sys2Proof.Machine.execRingCmdTimeout n s
  | .cmdEchoCheck n frame => Sys2Proof.Machine.execCmdEchoCheck n frame s
  | .triggerArrivalCheck n ok => Sys2Proof.Machine.execTriggerArrivalCheck n ok s
  | .trainReturnTimeout n sideB => Sys2Proof.Machine.execTrainReturnTimeout n sideB s
  | .stubEndsSet n => Sys2Proof.Machine.execStubEndsSet n s
  | .pongReceived n sideB addr => Sys2Proof.Machine.execPongReceived n sideB addr s
  | .enumAckReceived n rtt id serial c0 c1 => Sys2Proof.Machine.execEnumAckReceived n rtt id serial c0 c1 s
  | .assignAckTimeout n arrived lat => Sys2Proof.Machine.execAssignAckTimeout n arrived lat s
  | .closureProbeTimer => Sys2Proof.Machine.execClosureProbeTimer s
  | .closeProbeArrived n lat => Sys2Proof.Machine.execCloseProbeArrived n lat s
  | .ringEnumerateRequest n => Sys2Proof.Machine.execRingEnumerateRequest n s
  | .stringDataLostTimeout x => Sys2Proof.Machine.execStringDataLostTimeout x s
  | .acqScrEvt3Read => Sys2Proof.Machine.execAcqScrEvt3Read s
  | .acqScrApply p v => Sys2Proof.Machine.execAcqScrApply p v s
  | .focComparatorTrip n chg => Sys2Proof.Machine.execFocComparatorTrip n chg s
  | .focTripClear p v held => Sys2Proof.Machine.execFocTripClear p v held s
  | .focComparatorTest n chg => Sys2Proof.Machine.execFocComparatorTest n chg s
  | .protectedSramStore a => Sys2Proof.Machine.execProtectedSramStore a s
  | .estGo p k gate => Sys2Proof.Machine.execEstGo p k gate s
  | .estimatorPassComplete clk upsets => Sys2Proof.Machine.execEstimatorPassComplete clk upsets s
  | .estCurJob p x => Sys2Proof.Machine.execEstCurJob p x s
  | .curatorJobComplete atGo => Sys2Proof.Machine.execCuratorJobComplete atGo s
  | .laneTestRequest p => Sys2Proof.Machine.execLaneTestRequest p s
  | .laneTestComplete mask => Sys2Proof.Machine.execLaneTestComplete mask s
  | .estLaneFenceWrite p v => Sys2Proof.Machine.execEstLaneFenceWrite p v s
  | .estWtDescWrite p x b w v => Sys2Proof.Machine.execEstWtDescWrite p x b w v s
  | .quietWindowComplete x => Sys2Proof.Machine.execQuietWindowComplete x s
  | .unexcitedTimeout x => Sys2Proof.Machine.execUnexcitedTimeout x s
  | .capLearnArmTimeout x => Sys2Proof.Machine.execCapLearnArmTimeout x s
  | .pcsFeedbackReceived n fdf data => Sys2Proof.Machine.execPcsFeedbackReceived n fdf data s
  | .pcsHeartbeatReceived n data => Sys2Proof.Machine.execPcsHeartbeatReceived n data s
  | .pcsSilentTimeout => Sys2Proof.Machine.execPcsSilentTimeout s
  | .pcsBusSilentTimeout n => Sys2Proof.Machine.execPcsBusSilentTimeout n s
  | .pcsOverlimitTimeout chg => Sys2Proof.Machine.execPcsOverlimitTimeout chg s
  | .thermalEvaluation => Sys2Proof.Machine.execThermalEvaluation s
  | .thermalDwellExpiry x low => Sys2Proof.Machine.execThermalDwellExpiry x low s
  | .thermalHoldExpiry x => Sys2Proof.Machine.execThermalHoldExpiry x s
  | .thermalStall => Sys2Proof.Machine.execThermalStall s
  | .dieTemperatureUpdate l => Sys2Proof.Machine.execDieTemperatureUpdate l s
  | .dieStateDwellExpiry => Sys2Proof.Machine.execDieStateDwellExpiry s
  | .dieSensorExclusion k => Sys2Proof.Machine.execDieSensorExclusion k s
  | .compensationUpdate => Sys2Proof.Machine.execCompensationUpdate s
  | .snapshotSafetyCheck tUs => Sys2Proof.Machine.execSnapshotSafetyCheck tUs s
  | .contactorPoll x => Sys2Proof.Machine.execContactorPoll x s
  | .contactorFbTimeout x mask => Sys2Proof.Machine.execContactorFbTimeout x mask s
  | .poleGapExpiry x => Sys2Proof.Machine.execPoleGapExpiry x s
  | .rampTimeout => Sys2Proof.Machine.execRampTimeout s
  | .joinWaitTimeout x => Sys2Proof.Machine.execJoinWaitTimeout x s
  | .prechargeDurationTimeout x => Sys2Proof.Machine.execPrechargeDurationTimeout x s
  | .fbkInputChange n high => Sys2Proof.Machine.execFbkInputChange n high s
  | .busContactorFbTimeout n => Sys2Proof.Machine.execBusContactorFbTimeout n s
  | .safetyTick direct => Sys2Proof.Machine.execSafetyTick direct s
  | .sinChannelChange n chB high => Sys2Proof.Machine.execSinChannelChange n chB high s
  | .sinDiscrepancyTimeout n => Sys2Proof.Machine.execSinDiscrepancyTimeout n s
  | .tpoPulse k => Sys2Proof.Machine.execTpoPulse k s
  | .tpoPulseEnd k low crossed => Sys2Proof.Machine.execTpoPulseEnd k low crossed s
  | .sswDwellExpiry x chg => Sys2Proof.Machine.execSswDwellExpiry x chg s
  | .directionSettleExpiry x chg => Sys2Proof.Machine.execDirectionSettleExpiry x chg s
  | .seoReadbackMismatch n chB back => Sys2Proof.Machine.execSeoReadbackMismatch n chB back s
  | .seoTestPulse n => Sys2Proof.Machine.execSeoTestPulse n s
  | .seoTestPulseEnd n off on => Sys2Proof.Machine.execSeoTestPulseEnd n off on s
  | .safWdogWrite p v => Sys2Proof.Machine.execSafWdogWrite p v s
  | .watchdogExpiry => Sys2Proof.Machine.execWatchdogExpiry s
  | .safCtrlSafe p ev => Sys2Proof.Machine.execSafCtrlSafe p ev s
  | .safSeoReqWrite p v => Sys2Proof.Machine.execSafSeoReqWrite p v s
  | .safResetWrite p v => Sys2Proof.Machine.execSafResetWrite p v s
  | .safRestartWrite p v => Sys2Proof.Machine.execSafRestartWrite p v s
  | .compareWindowClose p prim shad bad inputs ckpt => Sys2Proof.Machine.execCompareWindowClose p prim shad bad inputs ckpt s
  | .recoveryVote p prim shad spr x => Sys2Proof.Machine.execRecoveryVote p prim shad spr x s
  | .retryCompare p prim shad x => Sys2Proof.Machine.execRetryCompare p prim shad x s
  | .recoveryTimeout p => Sys2Proof.Machine.execRecoveryTimeout p s
  | .coreSelftestComplete core ok => Sys2Proof.Machine.execCoreSelftestComplete core ok s
  | .spareSelftestTimer => Sys2Proof.Machine.execSpareSelftestTimer s
  | .spareTestRequest p => Sys2Proof.Machine.execSpareTestRequest p s
  | .pairHeartbeatTimeout p => Sys2Proof.Machine.execPairHeartbeatTimeout p s
  | .exeRestartWrite p v => Sys2Proof.Machine.execExeRestartWrite p v s
  | .pairRestartTimeout p => Sys2Proof.Machine.execPairRestartTimeout p s
  | .debugHalt core => Sys2Proof.Machine.execDebugHalt core s
  | .scrubTick err => Sys2Proof.Machine.execScrubTick err s
  | .eccUncorrectableRead req a => Sys2Proof.Machine.execEccUncorrectableRead req a s
  | .busTransactionTimeout => Sys2Proof.Machine.execBusTransactionTimeout s
  | .qspiFastRead a len => Sys2Proof.Machine.execQspiFastRead a len s
  | .qspiQuadIoRead a len => Sys2Proof.Machine.execQspiQuadIoRead a len s
  | .qspiWrite a x => Sys2Proof.Machine.execQspiWrite a x s
  | .qspiQuadIoWrite a x => Sys2Proof.Machine.execQspiQuadIoWrite a x s
  | .qspiReadStatusByte => Sys2Proof.Machine.execQspiReadStatusByte s
  | .hpCmdWpWrite v => Sys2Proof.Machine.execHpCmdWpWrite v s
  | .hpRplRpWrite v => Sys2Proof.Machine.execHpRplRpWrite v s
  | .packetIntake => Sys2Proof.Machine.execPacketIntake s
  | .clusterCommandFragment p mac body => Sys2Proof.Machine.execClusterCommandFragment p mac body s
  | .reassemblyTimeout mac sn tag => Sys2Proof.Machine.execReassemblyTimeout mac sn tag s
  | .commandTimeout sn tag => Sys2Proof.Machine.execCommandTimeout sn tag s
  | .pendingInterim sn tag => Sys2Proof.Machine.execPendingInterim sn tag s
  | .sessionExpiry n => Sys2Proof.Machine.execSessionExpiry n s
  | .sessionHoldExpiry n => Sys2Proof.Machine.execSessionHoldExpiry n s
  | .authDeadlineExpiry n => Sys2Proof.Machine.execAuthDeadlineExpiry n s
  | .authLockoutExpiry p => Sys2Proof.Machine.execAuthLockoutExpiry p s
  | .configIdleTimeout => Sys2Proof.Machine.execConfigIdleTimeout s
  | .identify c => Sys2Proof.Machine.execIdentify c s
  | .statusGet c => Sys2Proof.Machine.execStatusGet c s
  | .serviceEnter c => Sys2Proof.Machine.execServiceEnter c s
  | .serviceLeave c => Sys2Proof.Machine.execServiceLeave c s
  | .configBegin c => Sys2Proof.Machine.execConfigBegin c s
  | .paramSet c => Sys2Proof.Machine.execParamSet c s
  | .paramGet c => Sys2Proof.Machine.execParamGet c s
  | .configCommit c => Sys2Proof.Machine.execConfigCommit c s
  | .configAbort c => Sys2Proof.Machine.execConfigAbort c s
  | .timebaseGet c => Sys2Proof.Machine.execTimebaseGet c s
  | .timebaseAlign c => Sys2Proof.Machine.execTimebaseAlign c s
  | .pisteRead c => Sys2Proof.Machine.execPisteRead c s
  | .pisteWrite c => Sys2Proof.Machine.execPisteWrite c s
  | .ringStatus c => Sys2Proof.Machine.execRingStatus c s
  | .ringEnumerate c => Sys2Proof.Machine.execRingEnumerate c s
  | .ringLeave c => Sys2Proof.Machine.execRingLeave c s
  | .nodeRead c => Sys2Proof.Machine.execNodeRead c s
  | .unitMapSet c => Sys2Proof.Machine.execUnitMapSet c s
  | .unitMapGet c => Sys2Proof.Machine.execUnitMapGet c s
  | .historyRead c => Sys2Proof.Machine.execHistoryRead c s
  | .stringSampleRead c => Sys2Proof.Machine.execStringSampleRead c s
  | .directRead c => Sys2Proof.Machine.execDirectRead c s
  | .balClear c => Sys2Proof.Machine.execBalClear c s
  | .catalogueRead c => Sys2Proof.Machine.execCatalogueRead c s
  | .stringEstRead c => Sys2Proof.Machine.execStringEstRead c s
  | .capacityWrite c => Sys2Proof.Machine.execCapacityWrite c s
  | .masterTableLoad c => Sys2Proof.Machine.execMasterTableLoad c s
  | .limitsRead c => Sys2Proof.Machine.execLimitsRead c s
  | .thermalRead c => Sys2Proof.Machine.execThermalRead c s
  | .sensorRead c => Sys2Proof.Machine.execSensorRead c s
  | .stringConnect c => Sys2Proof.Machine.execStringConnect c s
  | .stringDisconnect c => Sys2Proof.Machine.execStringDisconnect c s
  | .stringLock c => Sys2Proof.Machine.execStringLock c s
  | .stringUnlock c => Sys2Proof.Machine.execStringUnlock c s
  | .stringWeldRelease c => Sys2Proof.Machine.execStringWeldRelease c s
  | .stringRead c => Sys2Proof.Machine.execStringRead c s
  | .safetyReset c => Sys2Proof.Machine.execSafetyReset c s
  | .sinReset c => Sys2Proof.Machine.execSinReset c s
  | .safetyRead c => Sys2Proof.Machine.execSafetyRead c s
  | .execRead c => Sys2Proof.Machine.execExecRead c s
  | .coreUnfence c => Sys2Proof.Machine.execCoreUnfence c s
  | .debugSet c => Sys2Proof.Machine.execDebugSet c s
  | .sessionOpen c => Sys2Proof.Machine.execSessionOpen c s
  | .sessionAuth c => Sys2Proof.Machine.execSessionAuth c s
  | .sessionClose c => Sys2Proof.Machine.execSessionClose c s
  | .sessionPing c => Sys2Proof.Machine.execSessionPing c s
  | .cmdCancel c => Sys2Proof.Machine.execCmdCancel c s
  | .tagQuery c => Sys2Proof.Machine.execTagQuery c s
  | .noticeSubscribe c => Sys2Proof.Machine.execNoticeSubscribe c s
  | .keyProvision c => Sys2Proof.Machine.execKeyProvision c s
  | .clusterRead c => Sys2Proof.Machine.execClusterRead c s
  | .canTx c => Sys2Proof.Machine.execCanTx c s
  | .canRxRead c => Sys2Proof.Machine.execCanRxRead c s
  | .canStatus c => Sys2Proof.Machine.execCanStatus c s
  | .canRecover c => Sys2Proof.Machine.execCanRecover c s
  | .logRead c => Sys2Proof.Machine.execLogRead c s
  | .counterRead c => Sys2Proof.Machine.execCounterRead c s
  | .vitrineTake c => Sys2Proof.Machine.execVitrineTake c s
  | .dumpRead c => Sys2Proof.Machine.execDumpRead c s
  | .fwStageBegin c => Sys2Proof.Machine.execFwStageBegin c s
  | .fwStageData c => Sys2Proof.Machine.execFwStageData c s
  | .fwStageVerify c => Sys2Proof.Machine.execFwStageVerify c s
  | .fwActivate c => Sys2Proof.Machine.execFwActivate c s
  | .fwInfo c => Sys2Proof.Machine.execFwInfo c s
  | .hibernate c => Sys2Proof.Machine.execHibernate c s
  | .retainedSave c => Sys2Proof.Machine.execRetainedSave c s
  | .helloBroadcast => Sys2Proof.Machine.execHelloBroadcast s
  | .helloReceived p body => Sys2Proof.Machine.execHelloReceived p body s
  | .viewEvaluation => Sys2Proof.Machine.execViewEvaluation s
  | .phaseSyncBroadcast angle => Sys2Proof.Machine.execPhaseSyncBroadcast angle s
  | .phaseSyncReceived p src x => Sys2Proof.Machine.execPhaseSyncReceived p src x s
  | .delayReqSend t1 => Sys2Proof.Machine.execDelayReqSend t1 s
  | .delayReqReceived p src seq corr t2 t3 => Sys2Proof.Machine.execDelayReqReceived p src seq corr t2 t3 s
  | .delayRespReceived seq corr corrReq t2 t3 t4 => Sys2Proof.Machine.execDelayRespReceived seq corr corrReq t2 t3 t4 s
  | .reduceContributionReceived src words => Sys2Proof.Machine.execReduceContributionReceived src words s
  | .reduceCollection => Sys2Proof.Machine.execReduceCollection s
  | .reduceResultReceived src words => Sys2Proof.Machine.execReduceResultReceived src words s
  | .clusterFrameArrival p h h1 h2 body fcsOk residence busy => Sys2Proof.Machine.execClusterFrameArrival p h h1 h2 body fcsOk residence busy s
  | .clusterPortDown p => Sys2Proof.Machine.execClusterPortDown p s
  | .phyPoll links => Sys2Proof.Machine.execPhyPoll links s
  | .canAttemptStart n tsc => Sys2Proof.Machine.execCanAttemptStart n tsc s
  | .canTransmitComplete n edges => Sys2Proof.Machine.execCanTransmitComplete n edges s
  | .txb2HoldStart => Sys2Proof.Machine.execTxb2HoldStart s
  | .canFrameReceived n f tsc => Sys2Proof.Machine.execCanFrameReceived n f tsc s
  | .canBusError n e => Sys2Proof.Machine.execCanBusError n e s
  | .canRecoveryComplete n => Sys2Proof.Machine.execCanRecoveryComplete n s
  | .canTxbPutWrite p n k v => Sys2Proof.Machine.execCanTxbPutWrite p n k v s
  | .canTxCancelWrite p n v win => Sys2Proof.Machine.execCanTxCancelWrite p n v win s
  | .canTxResumeWrite p n v => Sys2Proof.Machine.execCanTxResumeWrite p n v s
  | .canTxevAckWrite p n v => Sys2Proof.Machine.execCanTxevAckWrite p n v s
  | .canRxfAckWrite p n k v => Sys2Proof.Machine.execCanRxfAckWrite p n k v s
  | .canFltSwapReq p n => Sys2Proof.Machine.execCanFltSwapReq p n s
  | .canFilterSwap n => Sys2Proof.Machine.execCanFilterSwap n s
  | .canCtrlRecover p n => Sys2Proof.Machine.execCanCtrlRecover p n s
  | .canObjSend p n w v => Sys2Proof.Machine.execCanObjSend p n w v s
  | .canRamUncorrectable n off => Sys2Proof.Machine.execCanRamUncorrectable n off s
  | .canWakePattern => Sys2Proof.Machine.execCanWakePattern s
  | .cntLoRead p n => Sys2Proof.Machine.execCntLoRead p n s
  | .cntLoWrite p n v => Sys2Proof.Machine.execCntLoWrite p n v s
  | .cntHiWrite p n v => Sys2Proof.Machine.execCntHiWrite p n v s
  | .dumpRecordWritten => Sys2Proof.Machine.execDumpRecordWritten s
  | .vitReqWrite p => Sys2Proof.Machine.execVitReqWrite p s
  | .bwWindowEnd k bytes => Sys2Proof.Machine.execBwWindowEnd k bytes s
  | .bwCfgWrite p k v => Sys2Proof.Machine.execBwCfgWrite p k v s
  | .logIntake => Sys2Proof.Machine.execLogIntake s
  | .logSecondBoundary => Sys2Proof.Machine.execLogSecondBoundary s
  | .resetNChange high => Sys2Proof.Machine.execResetNChange high s
  | .vaonPowerOn above => Sys2Proof.Machine.execVaonPowerOn above s
  | .brownOut => Sys2Proof.Machine.execBrownOut s
  | .pgoodInFall => Sys2Proof.Machine.execPgoodInFall s
  | .powerFailReset => Sys2Proof.Machine.execPowerFailReset s
  | .bootStart bootsel failed => Sys2Proof.Machine.execBootStart bootsel failed s
  | .bootWatchdogExpiry bootsel failed => Sys2Proof.Machine.execBootWatchdogExpiry bootsel failed s
  | .retGoWrite p v => Sys2Proof.Machine.execRetGoWrite p v s
  | .retainedTransactionDone => Sys2Proof.Machine.execRetainedTransactionDone s
  | .periodicSave => Sys2Proof.Machine.execPeriodicSave s
  | .pwrCtrlHibReq p => Sys2Proof.Machine.execPwrCtrlHibReq p s
  | .pwrCtrlRestart p bootsel failed => Sys2Proof.Machine.execPwrCtrlRestart p bootsel failed s
  | .hibernateAbortTimeout => Sys2Proof.Machine.execHibernateAbortTimeout s
  | .wakeSourceFired srcs bootsel failed => Sys2Proof.Machine.execWakeSourceFired srcs bootsel failed s
  | .trialConfirmTimeout => Sys2Proof.Machine.execTrialConfirmTimeout s
  | .trialRollbackRestart bootsel failed => Sys2Proof.Machine.execTrialRollbackRestart bootsel failed s
  | .registerWrite p a x => Sys2Proof.Machine.execRegisterWrite p a x s
  | .readClearRegister p x => Sys2Proof.Machine.execReadClearRegister p x s
  | .pingTimeout n sideB => Sys2Proof.Machine.execPingTimeout n sideB s
  | .focTestEnd changed => Sys2Proof.Machine.execFocTestEnd changed s
  | .busoffRecoveryStart n => Sys2Proof.Machine.execBusoffRecoveryStart n s
  | .canIntegrationComplete n => Sys2Proof.Machine.execCanIntegrationComplete n s
  | .activationRestart bootsel failed => Sys2Proof.Machine.execActivationRestart bootsel failed s
  | .jtagInstructionUpdate ins => Sys2Proof.Machine.execJtagInstructionUpdate ins s
  | .headEntrySync angle => Sys2Proof.Machine.execHeadEntrySync angle s

end Sys2Proof.Machine
end

