-- ==== Sys2Proof/Safety.lean ====
section
/-!
DEFINITION. Sys2Proof/Safety.lean: what statements about the block are said in: a device that takes commands, a command that
completes, what a command leaves unchanged, and what a safe state is.
-/
namespace Sys2Proof.Machine

/-- The device takes commands: it is neither OFF nor in HIBERNATE (17 R512, R536). -/
abbrev Awake (s : State) : Prop := asleep s.toDev = false

/-- The register table from address `lo` up lists rising addresses, and no register at its reset value. -/
def Regs.wfFrom (lo : Nat) : Tbl U32 → Bool
  | [] => true
  | p :: t => decide (lo ≤ p.1) && decide (p.2 ≠ regReset p.1) && Regs.wfFrom (p.1 + 1) t

/-- The register table, memory and the host window have their canonical form: equal contents are equal data. -/
def Canon (s : Dev) : Prop := Regs.wfFrom 0 s.regs = true ∧ Memory.wf s.mem ∧ Memory.wf s.win

/-- The parts of the device. -/
inductive Part where
  | dev | regs | mem | win | parCfg | parNow | tb | piste | rings | acq | est | chg | lim | thm | strs | bus | saf | exe | host | cl | can | cnt | log | pwr | inForce | uptimeMs | actor | freeCtr | busErr | readVal
  /-- Event records that pairs have posted and P2 has not taken (part of the log). -/
  | posts
  /-- The canonical form of registers, memory and host window. -/
  | form
  deriving DecidableEq, Repr

/-- Two devices agree on a part, the later one first in the equations. Posted records agree when none is taken away, the canonical form
when it is kept. -/
def agreeOn (s t : Dev) : Part → Prop
  | .dev => t.dev = s.dev
  | .regs => t.regs = s.regs
  | .mem => t.mem = s.mem
  | .win => t.win = s.win
  | .parCfg => t.parCfg = s.parCfg
  | .parNow => t.parNow = s.parNow
  | .tb => t.tb = s.tb
  | .piste => t.piste = s.piste
  | .rings => t.rings = s.rings
  | .acq => t.acq = s.acq
  | .est => t.est = s.est
  | .chg => t.chg = s.chg
  | .lim => t.lim = s.lim
  | .thm => t.thm = s.thm
  | .strs => t.strs = s.strs
  | .bus => t.bus = s.bus
  | .saf => t.saf = s.saf
  | .exe => t.exe = s.exe
  | .host => t.host = s.host
  | .cl => t.cl = s.cl
  | .can => t.can = s.can
  | .cnt => t.cnt = s.cnt
  | .log => t.log = s.log
  | .pwr => t.pwr = s.pwr
  | .inForce => t.inForce = s.inForce
  | .uptimeMs => t.uptimeMs = s.uptimeMs
  | .actor => t.actor = s.actor
  | .freeCtr => t.freeCtr = s.freeCtr
  | .busErr => t.busErr = s.busErr
  | .readVal => t.readVal = s.readVal
  | .posts => ∀ p r, r ∈ Tbl.get [] s.log.posts p → r ∈ Tbl.get [] t.log.posts p
  | .form => Canon s → Canon t

/-- `t` differs from `s` in the parts listed, at most. -/
def Only (l : List Part) (s t : Dev) : Prop := ∀ p, p ∉ l → agreeOn s t p

/-- Every part of `l` is one of `m`. -/
def covers (m l : List Part) : Bool := l.all (fun p => m.contains p)

/-- The command completes: `exec` answers a next state, of which P holds; the commands that wait are the same, and the pins are
those of the device. -/
def Completes (c : Instr) (s : State) (P : Dev → Prop) : Prop :=
  ∃ t, exec c s = .next t ∧ t.pending = s.pending ∧ t.pins = pinsOf t.toDev ∧ P t.toDev

/-- Pair p has posted a record of an event with an argument, which P2 has not yet taken (16 R504). -/
def posted (t : Dev) (p code arg : Nat) : Prop := ∃ r, r ∈ Tbl.get [] t.log.posts p ∧ r.code = code ∧ r.arg = arg % 2 ^ 64

/-- The command raises an event: its record is posted where the event was not yet in force on its scope (18 R545, R547). -/
def raised (s t : Dev) (p code arg scope : Nat) : Prop := inForceB s code scope = false → posted t p code arg

/-- Registers other than those listed read as before. -/
def RegsBut (l : List Nat) (s t : Dev) : Prop := ∀ a, a ∉ l → rd t a = rd s a

/-- Registers outside a list read as before, but for the counters and their overflow flags, which count what happens (16 R486, R487). -/
def CountedBut (l : List Nat) (s t : Dev) : Prop :=
  ∀ a, a ∉ l → ¬(CNT_VAL ≤ a ∧ a < CNT_VAL + 0x4000) → ¬(CNT_OVF ≤ a ∧ a < CNT_OVF + 0x100) → rd t a = rd s a

/-- Bytes of memory outside [a, a + n) read as before. -/
def MemBut (a n : Nat) (s t : Dev) : Prop := ∀ x, x < a ∨ a + n ≤ x → Memory.read t.mem x = Memory.read s.mem x

/-- Host command `op` begins: it is in flight, and events it posts bear its session (12 R369, 16 R503). -/
def begun (s : Dev) (op : Nat) (c : HostCmd) : Dev := beginCmd { s with actor := if c.sess < 8 then c.sess else 0xF } op c

/-- The device after a host command of `u` has run: records that follow bear no session. -/
def ended (u : Dev) : Dev := { u with actor := 0xF }

/-- A host command begins and is answered at once, with a status and words, with no other effect. -/
def replied (s : Dev) (op : Nat) (c : HostCmd) (st : Nat) (words : List U32) : Dev := ended (finish (begun s op c) op c st words)

/-- P2 runs, the command has not begun before, no urgent one goes before it, and it meets the checks that every command meets as it begins:
its session, its privilege, the device state and the length of an empty payload (12 R367, R372, 13 R392). -/
def admitted (s : Dev) (op : Nat) (c : HostCmd) : Prop :=
  pairUp s 2 = true ∧ hasBegun s c = false ∧ urgentAhead s c = false ∧ ∃ r, opRow op = some r ∧ cmdCheck (begun s op c) r c (flightOf s c).isSome = none

/-- The newest entry of the outcome table records a command's final status (12 R382). -/
def answered (t : Dev) (op : Nat) (c : HostCmd) (st : Nat) : Prop :=
  ∃ e, t.host.outcomes.head? = some e ∧ e.sess = c.sess ∧ e.tag = c.tag ∧ e.op = op ∧ e.status = st

/-- A range command (13 R393): a payload of one word, FIRST and COUNT, reads `item` of each index of a table of `size` items after the
words `head`. A range beyond the table is refused. -/
def ReadsRange (row : HostCmd → Instr) (op size per : Nat) (head : Dev → List U32) (item : Dev → Nat → List U32) : Prop :=
  ∀ (s : State) (c : HostCmd), Awake s → admitted s.toDev op c → c.payload.length = 1 →
    (rangeFirst c 0 + rangeCount c 0 ≤ size → (head s.toDev).length + rangeCount c 0 * per ≤ 4096 → Completes (row c) s (fun t =>
      t = replied s.toDev op c ST_OK (head s.toDev ++ (List.range (rangeCount c 0)).flatMap (fun i => item s.toDev (rangeFirst c 0 + i))))) ∧
    (size < rangeFirst c 0 + rangeCount c 0 → Completes (row c) s (fun t => t = replied s.toDev op c ST_BAD_PARAM []))

/-- The records that wait, in the order in which P2 takes them (16 R504). -/
def waitingPosts (s : Dev) : List Post :=
  Tbl.get [] s.log.posts 0 ++ Tbl.get [] s.log.posts 1 ++ Tbl.get [] s.log.posts 2 ++ Tbl.get [] s.log.posts 3

/-- `t` holds what a device holds after the loss of every supply but the always-on one, as `s` went: registers at their reset values,
nothing in SRAM, no rings, strings, sessions or counters; the device key stays (17 R512, R533). -/
def Stripped (s t : Dev) : Prop :=
  (∀ a, a ∉ [PWR_WAKE_CFG, PWR_HIB_TIMER, PWR_CWAKE, CAN_WAKE] → rd t a = regReset a) ∧ (∀ x, 0x10400000 ≤ x → Memory.read t.mem x = 0) ∧
  (s.pwr.txn = none → ∀ x, x < 0x10400000 → Memory.read t.mem x = Memory.read s.mem x) ∧ t.host = { kdev := s.host.kdev } ∧
  Only [.dev, .regs, .mem, .host, .pwr, .freeCtr, .form] {} t

/-- The parts of the device that a command may change. -/
def changes : Instr → List Part
  | .angleZero _ => [.dev, .regs, .mem, .parNow, .tb, .piste, .rings, .acq, .est, .chg, .lim, .thm, .strs, .saf, .exe, .host, .cl, .can, .cnt, .log, .pwr, .inForce, .posts]
  | .timebaseEvaluation _ _ _ _ _ => [.regs, .tb, .log, .inForce]
  | .holdoverTimerExpiry => [.regs, .tb, .log, .inForce]
  | .tbAngleRead _ => [.regs, .exe, .freeCtr, .readVal]
  | .gateStart _ => [.dev, .regs, .mem, .piste, .rings, .acq, .est, .chg, .lim, .thm, .strs, .saf, .exe, .can, .cnt, .log, .pwr, .inForce]
  | .gateDeadline _ => [.dev, .regs, .mem, .piste, .acq, .est, .chg, .lim, .strs, .saf, .exe, .can, .cnt, .log, .inForce, .freeCtr]
  | .pisteDone _ _ => [.dev, .regs, .mem, .piste, .acq, .est, .chg, .lim, .strs, .saf, .exe, .host, .can, .log, .pwr, .inForce]
  | .pisteSwapReq => [.regs]
  | .ringFrameTransmit _ => [.dev, .regs, .rings, .strs, .saf, .exe, .host, .cnt, .log, .pwr, .inForce]
  | .phaserefBroadcast => [.regs, .rings, .cnt]
  | .trainLaunch _ => [.regs, .mem, .rings, .acq, .cnt, .log, .inForce]
  | .segmentReceived _ _ _ _ => [.regs, .mem, .rings, .acq, .exe, .cnt, .log, .inForce]
  | .respReceived _ _ => [.dev, .regs, .rings, .lim, .strs, .saf, .exe, .host, .cnt, .log, .pwr, .inForce, .actor]
  | .ringCmdTimeout _ => [.dev, .regs, .rings, .strs, .saf, .exe, .host, .log, .pwr, .inForce]
  | .cmdEchoCheck _ _ => [.regs, .rings, .cnt, .log, .inForce]
  | .triggerArrivalCheck _ _ => [.regs, .rings, .exe, .cnt, .log, .inForce]
  | .trainReturnTimeout _ _ => [.regs, .rings, .exe, .log, .inForce]
  | .stubEndsSet _ => [.dev, .regs, .rings, .strs, .saf, .exe, .host, .cnt, .log, .pwr, .inForce]
  | .pongReceived _ _ _ => [.regs, .rings, .exe, .cnt]
  | .enumAckReceived _ _ _ _ _ _ => [.regs, .rings, .exe, .host, .cnt, .log, .inForce]
  | .assignAckTimeout _ _ _ => [.regs, .rings, .exe, .host, .log, .inForce]
  | .closureProbeTimer => [.regs, .rings, .exe, .log, .inForce]
  | .closeProbeArrived _ _ => [.regs, .rings, .exe, .cnt, .log, .inForce]
  | .ringEnumerateRequest _ => [.dev, .regs, .rings, .strs, .saf, .exe, .host, .log, .pwr, .inForce, .busErr]
  | .stringDataLostTimeout _ => [.dev, .lim, .strs, .saf, .exe, .can, .log, .inForce]
  | .acqScrEvt3Read => [.dev, .regs, .acq, .lim, .strs, .saf, .exe, .can, .log, .pwr, .inForce, .freeCtr, .readVal]
  | .acqScrApply _ _ => [.regs, .acq, .log, .inForce, .busErr]
  | .focComparatorTrip _ _ => [.dev, .regs, .acq, .strs, .bus, .saf, .exe, .log, .pwr, .inForce]
  | .focTripClear _ _ _ => [.regs, .strs, .bus, .saf, .exe, .log, .busErr]
  | .focComparatorTest _ _ => [.acq]
  | .protectedSramStore _ => [.regs, .freeCtr, .busErr]
  | .estGo _ _ _ => [.regs, .mem, .parNow, .est, .exe, .log, .pwr, .busErr]
  | .estimatorPassComplete _ _ => [.regs, .mem, .est, .lim, .cnt, .log, .inForce]
  | .estCurJob _ _ => [.regs, .est, .busErr]
  | .curatorJobComplete _ => [.regs, .mem, .est, .exe, .freeCtr]
  | .laneTestRequest _ => [.regs, .est, .busErr]
  | .laneTestComplete _ => [.dev, .regs, .est, .lim, .strs, .saf, .exe, .can, .log, .inForce]
  | .estLaneFenceWrite _ _ => [.regs, .busErr]
  | .estWtDescWrite _ _ _ _ _ => [.regs, .busErr]
  | .quietWindowComplete _ => [.mem, .est, .chg, .exe, .log, .inForce]
  | .unexcitedTimeout _ => [.mem, .est, .log, .inForce]
  | .capLearnArmTimeout _ => [.mem]
  | .pcsFeedbackReceived _ _ _ => [.lim, .log, .inForce]
  | .pcsHeartbeatReceived _ _ => [.lim, .log, .inForce]
  | .pcsSilentTimeout => [.lim, .log, .inForce]
  | .pcsBusSilentTimeout _ => [.lim, .log, .inForce]
  | .pcsOverlimitTimeout _ => [.dev, .lim, .strs, .saf, .exe, .can, .log, .inForce]
  | .thermalEvaluation => [.mem, .thm, .log, .inForce]
  | .thermalDwellExpiry _ _ => [.mem, .thm, .log]
  | .thermalHoldExpiry _ => [.mem, .thm, .log]
  | .thermalStall => [.log, .inForce]
  | .dieTemperatureUpdate _ => [.dev, .regs, .lim, .thm, .strs, .saf, .exe, .can, .log, .inForce]
  | .dieStateDwellExpiry => [.dev, .regs, .lim, .thm, .strs, .saf, .exe, .can, .log, .inForce]
  | .dieSensorExclusion _ => [.dev, .regs, .lim, .thm, .strs, .saf, .exe, .can, .log, .inForce]
  | .compensationUpdate => [.regs]
  | .snapshotSafetyCheck _ => [.dev, .lim, .strs, .bus, .saf, .exe, .host, .can, .log, .pwr, .inForce, .actor]
  | .contactorPoll _ => [.exe]
  | .contactorFbTimeout _ _ => [.dev, .lim, .strs, .saf, .exe, .log, .pwr, .inForce, .actor]
  | .poleGapExpiry _ => [.strs, .exe]
  | .rampTimeout => [.strs, .saf, .exe]
  | .joinWaitTimeout _ => [.dev, .strs, .saf, .exe, .log, .inForce, .actor]
  | .prechargeDurationTimeout _ => [.dev, .strs, .saf, .exe, .log, .inForce, .actor]
  | .fbkInputChange _ _ => [.dev, .regs, .strs, .bus, .saf, .exe, .log, .pwr, .inForce]
  | .busContactorFbTimeout _ => [.strs, .bus, .log, .inForce]
  | .safetyTick _ => [.dev, .regs, .mem, .acq, .lim, .strs, .bus, .saf, .exe, .host, .cl, .can, .cnt, .log, .pwr, .inForce, .uptimeMs, .freeCtr, .posts]
  | .sinChannelChange _ _ _ => [.dev, .regs, .lim, .strs, .bus, .saf, .exe, .can, .log, .pwr, .inForce]
  | .sinDiscrepancyTimeout _ => [.dev, .regs, .lim, .strs, .bus, .saf, .exe, .can, .log, .pwr, .inForce]
  | .tpoPulse _ => [.regs, .saf]
  | .tpoPulseEnd _ _ _ => [.dev, .regs, .lim, .strs, .bus, .saf, .exe, .can, .log, .pwr, .inForce]
  | .sswDwellExpiry _ _ => [.strs, .log, .inForce]
  | .directionSettleExpiry _ _ => [.strs]
  | .seoReadbackMismatch _ _ _ => [.dev, .regs, .strs, .bus, .saf, .exe, .log, .pwr, .inForce]
  | .seoTestPulse _ => [.regs, .saf]
  | .seoTestPulseEnd _ _ _ => [.dev, .regs, .strs, .bus, .saf, .exe, .log, .pwr, .inForce]
  | .safWdogWrite _ _ => [.regs, .saf, .busErr]
  | .watchdogExpiry => [.dev, .regs, .strs, .bus, .saf, .exe, .log, .pwr, .inForce]
  | .safCtrlSafe _ _ => [.dev, .regs, .strs, .bus, .saf, .exe, .log, .pwr, .inForce, .busErr]
  | .safSeoReqWrite _ _ => [.regs, .strs, .bus, .saf, .exe, .log, .busErr]
  | .safResetWrite _ _ => [.regs, .strs, .bus, .saf, .exe, .log, .inForce, .busErr]
  | .safRestartWrite _ _ => [.regs, .strs, .bus, .saf, .exe, .log, .inForce, .busErr]
  | .compareWindowClose _ _ _ _ _ _ => [.dev, .regs, .mem, .win, .rings, .acq, .est, .lim, .strs, .bus, .saf, .exe, .host, .cl, .can, .cnt, .log, .pwr, .inForce, .actor, .freeCtr, .busErr]
  | .recoveryVote _ _ _ _ _ => [.dev, .regs, .mem, .win, .rings, .acq, .est, .lim, .strs, .bus, .saf, .exe, .host, .cl, .can, .cnt, .log, .pwr, .inForce, .actor, .freeCtr, .busErr]
  | .retryCompare _ _ _ _ => [.dev, .regs, .mem, .win, .rings, .acq, .est, .lim, .strs, .bus, .saf, .exe, .host, .cl, .can, .cnt, .log, .pwr, .inForce, .actor, .freeCtr, .busErr]
  | .recoveryTimeout _ => [.dev, .regs, .lim, .strs, .bus, .saf, .exe, .can, .log, .pwr, .inForce]
  | .coreSelftestComplete _ _ => [.regs, .exe, .log, .inForce]
  | .spareSelftestTimer => [.exe]
  | .spareTestRequest _ => [.regs, .exe, .busErr]
  | .pairHeartbeatTimeout _ => [.dev, .regs, .mem, .win, .lim, .strs, .bus, .saf, .exe, .host, .cl, .can, .cnt, .log, .pwr, .inForce, .freeCtr]
  | .exeRestartWrite _ _ => [.dev, .regs, .mem, .win, .lim, .strs, .bus, .saf, .exe, .host, .cl, .can, .cnt, .log, .pwr, .inForce, .freeCtr, .busErr]
  | .pairRestartTimeout _ => [.dev, .regs, .lim, .strs, .bus, .saf, .exe, .can, .log, .pwr, .inForce]
  | .debugHalt _ => [.exe, .log, .inForce]
  | .scrubTick _ => [.regs, .exe, .log]
  | .eccUncorrectableRead _ _ => [.dev, .regs, .mem, .win, .est, .lim, .strs, .bus, .saf, .exe, .host, .cl, .can, .cnt, .log, .pwr, .inForce, .freeCtr, .busErr]
  | .busTransactionTimeout => [.regs, .exe, .freeCtr, .busErr]
  | .qspiFastRead _ _ => [.regs, .host]
  | .qspiQuadIoRead _ _ => [.regs, .host]
  | .qspiWrite _ _ => [.regs, .win, .exe, .host, .cl, .cnt, .log, .inForce]
  | .qspiQuadIoWrite _ _ => [.regs, .win, .exe, .host, .cl, .cnt, .log, .inForce]
  | .qspiReadStatusByte => [.host]
  | .hpCmdWpWrite _ => [.regs, .host]
  | .hpRplRpWrite _ => [.regs, .win, .exe, .host, .cl, .cnt, .log, .inForce]
  | .packetIntake => [.regs, .mem, .exe, .host, .cl, .cnt, .log, .inForce]
  | .clusterCommandFragment _ _ _ => [.regs, .exe, .host, .cl, .log, .inForce]
  | .reassemblyTimeout _ _ _ => [.regs, .host, .cl, .log]
  | .commandTimeout _ _ => [.regs, .mem, .lim, .exe, .host, .can, .log, .inForce, .freeCtr]
  | .pendingInterim _ _ => [.exe, .host]
  | .sessionExpiry _ => [.regs, .win, .host, .cl, .cnt, .log, .inForce]
  | .sessionHoldExpiry _ => [.regs, .exe, .host, .log, .pwr, .inForce]
  | .authDeadlineExpiry _ => [.regs, .exe, .host, .log, .pwr, .inForce]
  | .authLockoutExpiry _ => [.host]
  | .configIdleTimeout => [.host, .log]
  | .identify _ => [.exe, .host, .actor]
  | .statusGet _ => [.exe, .host, .actor]
  | .serviceEnter _ => [.dev, .exe, .host, .log, .actor]
  | .serviceLeave _ => [.dev, .exe, .host, .log, .actor]
  | .configBegin _ => [.exe, .host, .actor]
  | .paramSet _ => [.exe, .host, .actor]
  | .paramGet _ => [.exe, .host, .actor]
  | .configCommit _ => [.mem, .exe, .host, .pwr, .actor]
  | .configAbort _ => [.exe, .host, .log, .actor]
  | .timebaseGet _ => [.regs, .exe, .host, .actor]
  | .timebaseAlign _ => [.tb, .exe, .host, .actor]
  | .pisteRead _ => [.exe, .host, .actor]
  | .pisteWrite _ => [.exe, .host, .actor]
  | .ringStatus _ => [.exe, .host, .actor]
  | .ringEnumerate _ => [.dev, .regs, .rings, .strs, .saf, .exe, .host, .log, .pwr, .inForce, .actor]
  | .ringLeave _ => [.regs, .rings, .exe, .host, .log, .inForce, .actor]
  | .nodeRead _ => [.exe, .host, .actor]
  | .unitMapSet _ => [.exe, .host, .actor]
  | .unitMapGet _ => [.exe, .host, .actor]
  | .historyRead _ => [.exe, .host, .actor]
  | .stringSampleRead _ => [.exe, .host, .actor]
  | .directRead _ => [.exe, .host, .actor]
  | .balClear _ => [.acq, .exe, .host, .log, .inForce, .actor]
  | .catalogueRead _ => [.exe, .host, .actor]
  | .stringEstRead _ => [.exe, .host, .actor]
  | .capacityWrite _ => [.mem, .est, .chg, .exe, .host, .log, .pwr, .inForce, .actor]
  | .masterTableLoad _ => [.mem, .exe, .host, .pwr, .actor]
  | .limitsRead _ => [.exe, .host, .actor]
  | .thermalRead _ => [.exe, .host, .actor]
  | .sensorRead _ => [.exe, .host, .actor]
  | .stringConnect _ => [.dev, .strs, .saf, .exe, .host, .log, .inForce, .actor]
  | .stringDisconnect _ => [.dev, .lim, .strs, .saf, .exe, .host, .can, .log, .actor]
  | .stringLock _ => [.strs, .exe, .host, .log, .pwr, .inForce, .actor]
  | .stringUnlock _ => [.strs, .exe, .host, .log, .pwr, .inForce, .actor]
  | .stringWeldRelease _ => [.strs, .bus, .exe, .host, .log, .inForce, .actor]
  | .stringRead _ => [.exe, .host, .actor]
  | .safetyReset _ => [.dev, .strs, .saf, .exe, .host, .log, .pwr, .inForce, .actor]
  | .sinReset _ => [.regs, .strs, .bus, .saf, .exe, .host, .log, .inForce, .actor]
  | .safetyRead _ => [.exe, .host, .actor]
  | .execRead _ => [.exe, .host, .actor]
  | .coreUnfence _ => [.exe, .host, .log, .inForce, .actor]
  | .debugSet _ => [.exe, .host, .log, .pwr, .actor]
  | .sessionOpen _ => [.regs, .exe, .host, .log, .inForce, .actor, .freeCtr]
  | .sessionAuth _ => [.regs, .exe, .host, .log, .pwr, .inForce, .actor]
  | .sessionClose _ => [.regs, .exe, .host, .log, .pwr, .inForce, .actor]
  | .sessionPing _ => [.exe, .host, .actor]
  | .cmdCancel _ => [.regs, .mem, .lim, .exe, .host, .can, .actor, .freeCtr]
  | .tagQuery _ => [.exe, .host, .actor]
  | .noticeSubscribe _ => [.exe, .host, .actor]
  | .keyProvision _ => [.regs, .exe, .host, .log, .pwr, .inForce, .actor]
  | .clusterRead _ => [.exe, .host, .actor]
  | .canTx _ => [.exe, .host, .actor]
  | .canRxRead _ => [.regs, .exe, .host, .can, .log, .inForce, .actor]
  | .canStatus _ => [.exe, .host, .actor]
  | .canRecover _ => [.exe, .host, .actor]
  | .logRead _ => [.exe, .host, .actor]
  | .counterRead _ => [.exe, .host, .actor]
  | .vitrineTake _ => [.exe, .host, .cnt, .actor]
  | .dumpRead _ => [.exe, .host, .actor]
  | .fwStageBegin _ => [.mem, .exe, .host, .pwr, .actor]
  | .fwStageData _ => [.mem, .exe, .host, .pwr, .actor]
  | .fwStageVerify _ => [.mem, .exe, .host, .pwr, .actor]
  | .fwActivate _ => [.exe, .host, .pwr, .actor]
  | .fwInfo _ => [.exe, .host, .actor]
  | .hibernate _ => [.mem, .acq, .exe, .host, .pwr, .actor]
  | .retainedSave _ => [.mem, .exe, .host, .pwr, .actor]
  | .helloBroadcast => [.exe, .cl]
  | .helloReceived _ _ => [.regs, .cl, .log, .inForce]
  | .viewEvaluation => [.regs, .lim, .cl, .log, .inForce]
  | .phaseSyncBroadcast _ => [.exe, .cl]
  | .phaseSyncReceived _ _ _ => [.regs, .tb, .cl]
  | .delayReqSend _ => [.exe, .cl]
  | .delayReqReceived _ _ _ _ _ _ => [.exe]
  | .delayRespReceived _ _ _ _ _ _ => [.regs, .cl, .log, .inForce]
  | .reduceContributionReceived _ _ => [.cl]
  | .reduceCollection => [.lim, .exe, .cl, .can, .log, .inForce, .freeCtr]
  | .reduceResultReceived _ _ => [.cl]
  | .clusterFrameArrival _ _ _ _ _ _ _ _ => [.regs, .cl, .cnt, .log, .inForce]
  | .clusterPortDown _ => [.regs, .log, .inForce]
  | .phyPoll _ => [.regs, .cl, .log, .inForce]
  | .canAttemptStart _ _ => [.regs, .mem, .lim, .exe, .host, .can, .log, .inForce]
  | .canTransmitComplete _ _ => [.regs, .mem, .lim, .exe, .host, .can, .cnt, .log, .inForce]
  | .txb2HoldStart => [.regs, .can]
  | .canFrameReceived _ _ _ => [.regs, .mem, .lim, .exe, .host, .can, .cnt, .log, .inForce, .freeCtr]
  | .canBusError _ _ => [.regs, .mem, .lim, .exe, .host, .can, .log, .inForce]
  | .canRecoveryComplete _ => [.regs, .can, .log, .inForce]
  | .canTxbPutWrite _ _ _ _ => [.regs, .can, .busErr]
  | .canTxCancelWrite _ _ _ _ => [.regs, .mem, .lim, .exe, .host, .can, .busErr]
  | .canTxResumeWrite _ _ _ => [.regs, .can, .log, .inForce, .busErr]
  | .canTxevAckWrite _ _ _ => [.regs, .mem, .lim, .exe, .host, .can, .busErr]
  | .canRxfAckWrite _ _ _ _ => [.regs, .can, .log, .inForce, .busErr]
  | .canFltSwapReq _ _ => [.regs, .can, .log, .inForce, .busErr]
  | .canFilterSwap _ => [.regs, .can, .log, .inForce]
  | .canCtrlRecover _ _ => [.regs, .can, .busErr]
  | .canObjSend _ _ _ _ => [.regs, .can, .busErr]
  | .canRamUncorrectable _ _ => [.regs, .exe, .can, .log, .inForce]
  | .canWakePattern => [.regs, .pwr]
  | .cntLoRead _ _ => [.exe, .cnt, .freeCtr, .readVal]
  | .cntLoWrite _ _ _ => [.regs, .cnt, .busErr]
  | .cntHiWrite _ _ _ => [.regs, .cnt, .busErr]
  | .dumpRecordWritten => [.regs, .mem, .cnt]
  | .vitReqWrite _ => [.regs, .busErr]
  | .bwWindowEnd _ _ => [.regs, .cnt]
  | .bwCfgWrite _ _ _ => [.regs, .cnt, .busErr]
  | .logIntake => [.regs, .mem, .exe, .host, .log, .inForce, .posts]
  | .logSecondBoundary => [.regs, .mem, .host, .log, .inForce]
  | .resetNChange _ => [.dev, .regs, .mem, .win, .parCfg, .parNow, .tb, .piste, .rings, .acq, .est, .chg, .lim, .thm, .strs, .bus, .saf, .exe, .host, .cl, .can, .cnt, .log, .pwr, .inForce, .uptimeMs, .actor, .freeCtr, .busErr, .readVal, .posts]
  | .vaonPowerOn _ => [.dev, .regs, .mem, .win, .parCfg, .parNow, .tb, .piste, .rings, .acq, .est, .chg, .lim, .thm, .strs, .bus, .saf, .exe, .host, .cl, .can, .cnt, .log, .pwr, .inForce, .uptimeMs, .actor, .freeCtr, .busErr, .readVal, .posts]
  | .brownOut => [.dev, .regs, .mem, .win, .parCfg, .parNow, .tb, .piste, .rings, .acq, .est, .chg, .lim, .thm, .strs, .bus, .saf, .exe, .host, .cl, .can, .cnt, .log, .pwr, .inForce, .uptimeMs, .actor, .freeCtr, .busErr, .readVal, .posts]
  | .pgoodInFall => [.dev, .regs, .mem, .strs, .bus, .saf, .exe, .host, .log, .pwr, .inForce, .posts]
  | .powerFailReset => [.dev, .regs, .mem, .win, .parCfg, .parNow, .tb, .piste, .rings, .acq, .est, .chg, .lim, .thm, .strs, .bus, .saf, .exe, .host, .cl, .can, .cnt, .log, .pwr, .inForce, .uptimeMs, .actor, .busErr, .readVal, .posts]
  | .bootStart _ _ => [.dev, .regs, .mem, .win, .parCfg, .parNow, .tb, .piste, .rings, .acq, .est, .chg, .lim, .thm, .strs, .bus, .saf, .exe, .host, .cl, .can, .cnt, .log, .pwr, .inForce, .uptimeMs, .actor, .busErr, .readVal, .posts]
  | .bootWatchdogExpiry _ _ => [.dev, .regs, .mem, .win, .parCfg, .parNow, .tb, .piste, .rings, .acq, .est, .chg, .lim, .thm, .strs, .bus, .saf, .exe, .host, .cl, .can, .cnt, .log, .pwr, .inForce, .uptimeMs, .actor, .busErr, .readVal, .posts]
  | .retGoWrite _ _ => [.regs, .mem, .pwr, .busErr]
  | .retainedTransactionDone => [.dev, .regs, .mem, .parCfg, .parNow, .piste, .acq, .est, .chg, .lim, .thm, .strs, .bus, .saf, .exe, .host, .cl, .can, .log, .pwr, .inForce, .posts]
  | .periodicSave => [.mem, .exe, .pwr]
  | .pwrCtrlHibReq _ => [.dev, .regs, .mem, .win, .parCfg, .parNow, .tb, .piste, .rings, .acq, .est, .chg, .lim, .thm, .strs, .bus, .saf, .exe, .host, .cl, .can, .cnt, .log, .pwr, .inForce, .uptimeMs, .actor, .busErr, .readVal, .posts]
  | .pwrCtrlRestart _ _ _ => [.dev, .regs, .mem, .win, .parCfg, .parNow, .tb, .piste, .rings, .acq, .est, .chg, .lim, .thm, .strs, .bus, .saf, .exe, .host, .cl, .can, .cnt, .log, .pwr, .inForce, .uptimeMs, .actor, .busErr, .readVal, .posts]
  | .hibernateAbortTimeout => [.log, .pwr, .inForce]
  | .wakeSourceFired _ _ _ => [.dev, .regs, .mem, .win, .parCfg, .parNow, .tb, .piste, .rings, .acq, .est, .chg, .lim, .thm, .strs, .bus, .saf, .exe, .host, .cl, .can, .cnt, .log, .pwr, .inForce, .uptimeMs, .actor, .busErr, .readVal, .posts]
  | .trialConfirmTimeout => [.mem, .exe, .log, .pwr]
  | .trialRollbackRestart _ _ => [.dev, .regs, .mem, .win, .parCfg, .parNow, .tb, .piste, .rings, .acq, .est, .chg, .lim, .thm, .strs, .bus, .saf, .exe, .host, .cl, .can, .cnt, .log, .pwr, .inForce, .uptimeMs, .actor, .busErr, .readVal, .posts]
  | .registerWrite _ _ _ => [.dev, .regs, .mem, .rings, .acq, .lim, .strs, .bus, .saf, .exe, .host, .can, .log, .pwr, .inForce, .busErr]
  | .readClearRegister _ _ => [.dev, .regs, .acq, .lim, .thm, .strs, .saf, .exe, .can, .cnt, .log, .pwr, .inForce, .freeCtr, .busErr, .readVal]
  | .pingTimeout _ _ => [.regs, .rings, .exe, .log, .inForce]
  | .focTestEnd _ => [.dev, .regs, .acq, .lim, .strs, .bus, .saf, .exe, .can, .log, .pwr, .inForce]
  | .busoffRecoveryStart _ => [.regs, .can]
  | .canIntegrationComplete _ => [.regs, .can]
  | .activationRestart _ _ => [.dev, .regs, .mem, .win, .parCfg, .parNow, .tb, .piste, .rings, .acq, .est, .chg, .lim, .thm, .strs, .bus, .saf, .exe, .host, .cl, .can, .cnt, .log, .pwr, .inForce, .uptimeMs, .actor, .busErr, .readVal, .posts]
  | .jtagInstructionUpdate _ => [.dev, .regs, .strs, .bus, .saf, .exe, .log, .pwr, .inForce]
  | .headEntrySync _ => [.exe, .cl]

end Sys2Proof.Machine
end

