-- ==== Sys2Proof/Certificates/Slice0/Obligations.lean ====
section
/-!
DEFINITION. Sys2Proof/Certificates/Slice0/Obligations.lean: the statements about the block. A command's row is said to complete by
`Completes` (Safety.lean): `exec` answers a next state, with the queue's rest as it was and the pins those of the device, of which the
rest of the statement speaks.
-/
open Sys2Proof Sys2Proof.Machine

/-! ## Timebase and piste (spec 02, 04 R113, 05 R157) -/

/-- 02 R39: at angle 0 the cycle count advances by one, modulo 2^48, where no step of the count is due; PHASE_OUT pulses (R49). Where no
map change waits and no ring is disabled there, the estimator, strings, safety functions and CAN are as before.
02 R40 to R42: what an evaluation stores, the end of the holdover timer, and a read of the angle.
The model's choices in it: Log 24, 25, 103, 120. -/
def Obligations.TimebaseRows : Prop :=
  (∀ (s : State) (tsc : U32), Awake s → s.tb.running = true → s.tb.step = none → s.tb.alignDue = none →
    Completes (.angleZero tsc) s (fun t => t.tb.cyc = (s.tb.cyc + 1) % 2 ^ 48 ∧ t.tb.angleLo = 0 ∧ t.tb.pulses = s.tb.pulses + 1 ∧
      t.parCfg = s.parCfg ∧ t.win = s.win ∧ t.bus = s.bus) ∧
    (s.acq.umapPend = [] → s.pwr.hibStep = 0 →
      (∀ n, n < 32 → ringOn s.toDev n = true → nbit (par (promote s.toDev .nextCycle) 0x2001) n = true) →
      Completes (.angleZero tsc) s (fun t => t.est = s.est ∧ t.strs = s.strs ∧ t.saf = s.saf ∧ t.can = s.can ∧ t.lim = s.lim))) ∧
  (∀ s : State, Awake s →
    (∀ half freq e pos neg, s.tb.running = true → Completes (.timebaseEvaluation half freq e pos neg) s (fun t =>
      rd t TB_PERR = ws32 (if tbSource s.toDev = 1 then s.cl.refErr else e) ∧ rd t TB_AMPL = w32 (pos % 65536 + neg % 65536 * 65536) ∧ t.tb.cyc = s.tb.cyc ∧ t.mem = s.mem)) ∧
    (tbState s.toDev = .holdover → s.tb.holdTimer = true → Completes .holdoverTimerExpiry s (fun t =>
      rdF t TB_STATUS 2 3 = 0 ∧ rdB t TB_STATUS 1 = false ∧ t.tb.holdTimer = false ∧ t.tb.fnomDue = true ∧
      inForceB t Ev.TB_FREE devScope = true)) ∧
    (∀ a, Completes (.tbAngleRead a) s (fun t =>
      t.readVal = a ∧ rd t TB_CYC_LAT_LO = w32 (s.tb.cyc % 2 ^ 32) ∧ rd t TB_CYC_LAT_HI = w32 (s.tb.cyc / 2 ^ 32) ∧
      RegsBut [TB_ANGLE, TB_CYC_LAT_LO, TB_CYC_LAT_HI] s.toDev t ∧ Only [.regs, .exe, .freeCtr, .readVal] s.toDev t)))

/-- 02 R55 to R58, R62: the piste's rows: a gate opens, completes, or is missed; a publication is asked for.
The model's choices in it: Log 26, 87, 106. -/
def Obligations.PisteRows : Prop :=
  ∀ s : State, Awake s →
    (∀ k, s.pwr.booting = false → s.pwr.recovery = false → gateSelected s.toDev k = true →
      gateAction (bankWord s.toDev (pubBank s.toDev) k 2) ≠ 1 → Completes (.gateStart k) s (fun t =>
        t.piste.open_.any (fun g => g.idx == k && g.cyc == s.tb.cyc) = true ∧ t.tb = s.tb ∧ t.parCfg = s.parCfg)) ∧
    (∀ k g, dueGate? s.toDev k = some g → Completes (.gateDeadline k) s (fun t =>
        t.piste.open_ = s.piste.open_.erase g ∧ t.tb = s.tb ∧
        Tbl.get 0 t.piste.misses k =
          (if Tbl.get 0 s.piste.missAt k = (g.local_ + 0xFFFFFFFF) % 0x100000000 then Tbl.get 0 s.piste.misses k + 1 else 1))) ∧
    (∀ p k g, openGate? s.toDev k = some g → pairUp s.toDev p = true →
      (gateAction g.w2 = 0x3001 → s.acq.filling = none ∨ collectDone s.toDev = true) → Completes (.pisteDone p k) s (fun t =>
        t.piste.open_ = s.piste.open_.erase g ∧ Tbl.get 0 t.piste.misses k = 0 ∧ t.tb = s.tb)) ∧
    (∀ p k, openGate? s.toDev k = none → Completes (.pisteDone p k) s (fun t =>
        rdB t PISTE_STATUS 2 = true ∧ RegsBut [PISTE_STATUS] s.toDev t ∧ Only [.regs] s.toDev t)) ∧
    Completes .pisteSwapReq s (fun t =>
        rdB t PISTE_CTRL 1 = true ∧ RegsBut [PISTE_CTRL] s.toDev t ∧ Only [.regs] s.toDev t)

/-! ## The Salivo link (spec 03) -/

/-- 03 R82, R93, R95, R100: what the ring controllers send: a waiting frame, P0's first; PHASEREF on every live ring; a PING, issued by
P1, where a frame did not arrive at B, and it alone meanwhile; a retransmission after a timeout.
03 R75, R92, R93: what a RESP and the echo of a CMD do.
The model's choices in it: Log 9, 16, 108, 109, 139. -/
def Obligations.RingTrafficRows : Prop :=
  (∀ (s : State) (n : Nat), Awake s →
    (∀ x q, (liveRings s.toDev).contains n = true → (getRing s.toDev n).trainOut = false → (getRing s.toDev n).search = none →
      (getRing s.toDev n).breakPing = false → (getRing s.toDev n).exch = none → (getRing s.toDev n).q0 = x :: q →
      Completes (.ringFrameTransmit n) s (fun t => (getRing t n).q0 = q ∧ (getRing t n).q1 = (getRing s.toDev n).q1 ∧ t.mem = s.mem ∧ t.tb = s.tb)) ∧
    (∀ x q, (liveRings s.toDev).contains n = true → (getRing s.toDev n).trainOut = false → (getRing s.toDev n).search = none →
      (getRing s.toDev n).breakPing = false → (getRing s.toDev n).exch = none → (getRing s.toDev n).q0 = [] → (getRing s.toDev n).q1 = x :: q →
      Completes (.ringFrameTransmit n) s (fun t => (getRing t n).q1 = q ∧ (getRing t n).q0 = [] ∧ t.mem = s.mem ∧ t.tb = s.tb)) ∧
    Completes .phaserefBroadcast s (fun t => CountedBut [] s.toDev t ∧ Only [.regs, .rings, .cnt] s.toDev t ∧
      ∀ m ∈ liveRings s.toDev, ∃ f, (getRing t m).sent.getLast? = some f ∧ f.ftype = 7 ∧ f.addr = 0) ∧
    (∀ a, ringMode s.toDev n = 1 → (getRing s.toDev n).search = none → (getRing s.toDev n).breakPing = false →
      (nodeAddrs s.toDev n).getLast? = some a →
      Completes (.triggerArrivalCheck n false) s (fun t => Only [.rings, .exe] s.toDev t ∧ (getRing t n).breakPing = true ∧
        (pairUp s.toDev 1 = true → ∃ e, (getPair t 1).rel.getLast? = some e ∧ e.eff = .ring n (.enm 4 [a] false)))) ∧
    (∀ a q, ringOn s.toDev n = true → (getRing s.toDev n).breakPing = true → (getRing s.toDev n).search = none →
      (getRing s.toDev n).q1 = .enm 4 [a] false :: q →
      Completes (.ringFrameTransmit n) s (fun t => CountedBut [] s.toDev t ∧ Only [.regs, .rings, .cnt] s.toDev t ∧ (getRing t n).q1 = q ∧
        ∃ f, (getRing t n).sent.getLast? = some f ∧ f.ftype = 5 ∧ f.sideB = false ∧ f.payload = [4, a])) ∧
    (∀ e, (getRing s.toDev n).exch = some e → e.resend = false → e.retries < par s.toDev 0x2002 →
      Completes (.ringCmdTimeout n) s (fun t => Only [.regs, .rings] s.toDev t ∧
        (getRing t n).exch = some { e with retries := e.retries + 1, resend := true, clear := false } ∧
        (getRing t n).totTmo = (getRing s.toDev n).totTmo + 1))) ∧
  (∀ (s : State) (n : Nat) (frame : List U8), Awake s →
    (∀ e, (getRing s.toDev n).exch = some e → e.resend = false → frameOk frame = true →
      frameHead frame / 0x1000 = 4 → frameHead frame / 32 % 128 = e.addr → (framePay frame).length ≥ 4 →
      ((framePay frame).getD 0 0).toNat = e.opcode → ((framePay frame).getD 1 0).toNat = e.unit * 128 →
      beNat (((framePay frame).drop 2).take 2) = e.seq → respReserved e 0 ((framePay frame).drop 4) = false →
      Completes (.respReceived n frame) s (fun t => (getRing t n).exch = none ∧ t.mem = s.mem ∧ t.tb = s.tb)) ∧
    (∀ e, (getRing s.toDev n).exch = some e → e.resend = false → frameOk frame = false →
      e.retries < par s.toDev 0x2002 →
      Completes (.respReceived n frame) s (fun t =>
        (getRing t n).exch = some { e with retries := e.retries + 1, resend := true, clear := false } ∧
        (getRing t n).totFrm = (getRing s.toDev n).totFrm + 1 ∧ Only [.regs, .rings, .cnt, .log] s.toDev t)) ∧
    (∀ f, (getRing s.toDev n).sent.reverse.find? (fun f => f.ftype == 3) = some f → ringMode s.toDev n = 1 → frameBytes f ≠ frame →
      Completes (.cmdEchoCheck n frame) s (fun t => rdB t (ringReg n 4) 4 = true ∧ posted t 1 Ev.RING_ECHO (ringArg n f.addr) ∧
        CountedBut [ringReg n 4, ringReg n 0x18] s.toDev t ∧ Only [.regs, .rings, .cnt, .log, .inForce] s.toDev t ∧
        (getRing t n).totFrm = (getRing s.toDev n).totFrm + (if frameOk frame then 0 else 1) ∧
        (frameOk frame = true → t.rings = s.rings ∧ CountedBut [ringReg n 4] s.toDev t))))

/-- 03 R97 to R107: enumeration, breaks, the search for the stub ends, closure and joins.
The model's choices in it: Log 16, 37 to 39, 108, 110, 112. -/
def Obligations.RingTopology : Prop :=
  ∀ (s : State) (n : Nat), Awake s →
    (n < 32 → pairUp s.toDev 1 = true → ringOn s.toDev n = true → s.dev = .standby ∨ s.dev = .service ∨ s.dev = .boot → (getRing s.toDev n).enm = none →
      Completes (.ringEnumerateRequest n) s (fun t => (getRing t n).exch = none ∧ (getRing t n).trainOut = false ∧
        (getRing t n).search = none ∧ t.mem = s.mem)) ∧
    (n ≥ 32 → Completes (.ringEnumerateRequest n) s (fun t => t = busErrorTo s.toDev 1)) ∧
    (∀ e a rtt id serial c0 c1, (getRing s.toDev n).enm = some e → e.addr = some a → e.join = false →
      Completes (.enumAckReceived n rtt id serial c0 c1) s (fun t =>
        (Tbl.get {} (getRing t n).nodes a).nodeId = w32 id ∧ (Tbl.get {} (getRing t n).nodes a).serial = serial ∧
        (Tbl.get {} (getRing t n).nodes a).cfg0 = c0 ∧ (Tbl.get {} (getRing t n).nodes a).cfg1 = c1 ∧ t.mem = s.mem)) ∧
    (∀ e a rtt id serial c0 c1, (getRing s.toDev n).enm = some e → e.addr = some a → e.join = true →
      Completes (.enumAckReceived n rtt id serial c0 c1) s (fun t => (getRing t n).enm = none ∧ t.mem = s.mem)) ∧
    (∀ e lat, (getRing s.toDev n).enm = some e → e.addr.isSome = true → e.join = true →
      Completes (.assignAckTimeout n false lat) s (fun t => (getRing t n).enm = none ∧ Only [.rings] s.toDev t)) ∧
    (∀ e lat, (getRing s.toDev n).enm = some e → e.addr.isSome = true → e.join = false → e.sideB = false →
      Completes (.assignAckTimeout n true lat) s (fun t => (getRing t n).enm = none ∧ ringMode t n = 1 ∧ t.mem = s.mem)) ∧
    (∀ sideB, (getRing s.toDev n).trainOut = true → (getRing s.toDev n).search = none → (getRing s.toDev n).enm = none → ringMode s.toDev n = 1 →
      Completes (.trainReturnTimeout n sideB) s (fun t => rdB t (ringReg n 4) 3 = true ∧ raised s.toDev t 1 Ev.RING_BREAK (ringArg n 0) n ∧
        (getRing t n).search.isSome = true ∧ Only [.regs, .rings, .exe, .log, .inForce] s.toDev t)) ∧
    (∀ x addr, (getRing s.toDev n).search = some x → x.pingA = some addr →
      Completes (.pongReceived n false addr) s (fun t => CountedBut [] s.toDev t ∧ Only [.regs, .rings, .exe, .cnt] s.toDev t ∧
        ∃ y, (getRing t n).search = some y ∧ y.loA = (x.loA + x.hiA + 1) / 2 ∧ y.hiA = x.hiA)) ∧
    (∀ x, (getRing s.toDev n).search = some x → x.pingB.isSome = true →
      Completes (.pingTimeout n true) s (fun t => Only [.rings, .exe] s.toDev t ∧
        ∃ y, (getRing t n).search = some y ∧ y.hiB = (x.loB + x.hiB + 1) / 2 - 1 ∧ y.loB = x.loB)) ∧
    (∀ x, (getRing s.toDev n).search = some x → searchOver x = true → stubWriteOpen s.toDev n = false →
      Completes (.stubEndsSet n) s (fun t => (getRing t n).search = none ∧ t.mem = s.mem)) ∧
    ((liveRings s.toDev).contains n = true → ringMode s.toDev n = 2 → (getRing s.toDev n).search = none → (getRing s.toDev n).enm = none →
      Completes .closureProbeTimer s (fun t => (getRing t n).probeOut = true ∧ t.mem = s.mem)) ∧
    (∀ lat, ringMode s.toDev n = 2 → (getRing s.toDev n).search = none →
      Completes (.closeProbeArrived n lat) s (fun t => ringMode t n = 1 ∧ (getRing t n).enm = none ∧ (getRing t n).probeOut = false ∧
        posted t 1 Ev.RING_CLOSED (ringArg n 0) ∧ Only [.regs, .rings, .exe, .cnt, .log, .inForce] s.toDev t))

/-- 03 R98, R100, R101, R104: every topology row of a ring runs to its own effect: `exec` answers the next state in which the ring is
enumerated, a node or the closed ring is found, a break is searched for, the search ends, or the ring is probed and closes.
The model's choices in it: Log 37, 110. -/
def Obligations.RingTopologyComplete : Prop :=
  ∀ (s : State) (n : Nat), Awake s → n < 32 →
    (pairUp s.toDev 1 = true → ringOn s.toDev n = true → s.dev = .standby ∨ s.dev = .service → (getRing s.toDev n).enm = none →
      ∃ t, Machine.exec (.ringEnumerateRequest n) s = .next t ∧ (getRing t.toDev n).trainOut = false ∧ (getRing t.toDev n).search = none) ∧
    (∀ e a rtt id serial c0 c1, (getRing s.toDev n).enm = some e → e.addr = some a → e.join = false →
      ∃ t, Machine.exec (.enumAckReceived n rtt id serial c0 c1) s = .next t ∧ (Tbl.get {} (getRing t.toDev n).nodes a).nodeId = w32 id) ∧
    (∀ e lat, (getRing s.toDev n).enm = some e → e.addr.isSome = true → e.join = false → e.sideB = false →
      ∃ t, Machine.exec (.assignAckTimeout n true lat) s = .next t ∧ (getRing t.toDev n).enm = none) ∧
    (∀ sideB, (getRing s.toDev n).trainOut = true → (getRing s.toDev n).search = none → (getRing s.toDev n).enm = none → ringMode s.toDev n = 1 →
      ∃ t, Machine.exec (.trainReturnTimeout n sideB) s = .next t ∧ (getRing t.toDev n).search.isSome = true) ∧
    (∀ x addr, (getRing s.toDev n).search = some x → x.pingA = some addr →
      ∃ t, Machine.exec (.pongReceived n false addr) s = .next t ∧ ∃ y, (getRing t.toDev n).search = some y ∧ y.loA = (x.loA + x.hiA + 1) / 2) ∧
    (∀ x, (getRing s.toDev n).search = some x → x.pingA.isSome = true →
      ∃ t, Machine.exec (.pingTimeout n false) s = .next t ∧ ∃ y, (getRing t.toDev n).search = some y ∧ y.hiA = (x.loA + x.hiA + 1) / 2 - 1) ∧
    (∀ x, (getRing s.toDev n).search = some x → searchOver x = true → stubWriteOpen s.toDev n = false →
      ∃ t, Machine.exec (.stubEndsSet n) s = .next t ∧ (getRing t.toDev n).search = none) ∧
    ((liveRings s.toDev).contains n = true → ringMode s.toDev n = 2 → (getRing s.toDev n).search = none → (getRing s.toDev n).enm = none →
      ∃ t, Machine.exec .closureProbeTimer s = .next t ∧ (getRing t.toDev n).probeOut = true) ∧
    (∀ lat, ringMode s.toDev n = 2 → (getRing s.toDev n).search = none →
      ∃ t, Machine.exec (.closeProbeArrived n lat) s = .next t ∧ ringMode t.toDev n = 1)
/-! ## Coherent acquisition (spec 03 R85 to R90, 04 R113 to R149) -/

/-- 03 R87, 04 R122: the launch of the trains claims the next history slot for the oldest open window, with its header.
03 R75, R85, R86, R90, 04 R125, R126: a train whose header fails its checks is a frame error, what its segments stored is taken back,
and it is parsed no further; a segment that
no contributor still to come sent is counted and ends the lane's train; a good one resets its unit's age, and a string unit's is stored
in its entry of the string table alone.
The model's choices in it: Log 16, 40, 41, 111. -/
def Obligations.SegmentRows : Prop :=
  (∀ (s : State) (direct : List (Nat × Int × Int × Int × Bool)), Awake s → ∀ w l, s.acq.windows = w :: l →
    Completes (.trainLaunch direct) s (fun t =>
      let q := (s.acq.seq + 1) % 2 ^ 32
      t.acq.windows = l ∧ t.acq.seq = q ∧ t.acq.filling = some (q % 8) ∧ t.acq.delivered = [] ∧ t.acq.tripped = [] ∧
      rd t (ACQ_HIST_SLOT + q % 8 * 16) = w32 w.snap ∧ rd t (ACQ_HIST_SLOT + q % 8 * 16 + 8) = 0 ∧
      rdF t (ACQ_HIST_SLOT + q % 8 * 16 + 4) 0 4 = q % 16 ∧ rdB t (ACQ_HIST_SLOT + q % 8 * 16 + 4) 15 = w.half ∧
      (∀ n, n < 32 → (liveRings s.toDev).contains n = true → (getRing t n).slot = q % 8 ∧ ((getRing s.toDev n).search.isSome = true ∨
        ringMode s.toDev n = 1 ∨ aEnd s.toDev n ≠ 0 ∨ bEnd s.toDev n ≠ 0 → (getRing t n).trainOut = true)) ∧
      t.est = s.est ∧ t.strs = s.strs ∧ t.saf = s.saf)) ∧
  (∀ (s : State) (n : Nat) (sideB : Bool) (head seg : List U8), Awake s →
    let r := getRing s.toDev n
    let lane := ringMode s.toDev n = 2 && sideB
    let hdr := beNat (seg.take 2)
    let addr := hdr / 512
    let unit := hdr / 256 % 2
    let content := hdr / 32 % 4
    let body := (seg.drop 2).take (seg.length - 4)
    let late := ((trainUnits s.toDev n lane).drop (if lane then r.nextB else r.nextA)).findIdx? (fun u => u == (addr, unit))
    let cfg := unitCfg s.toDev n addr unit
    let w0 := rd s.toDev (ACQ_UMAP + umapIdx n addr unit * 8)
    let x := fld w0 23 7
    r.trainOut = true → r.search = none → (if lane then r.endedB else r.endedA) = false →
      (head ≠ [] → trainHeadOk head = false → Completes (.segmentReceived n sideB ⟨head, seg⟩ false) s (fun t =>
        (getRing t n).totFrm = r.totFrm + 1 ∧ (if lane then (getRing t n).endedB else (getRing t n).endedA) = true ∧
        ((if lane then r.undoB else r.undoA) = {} → t.mem = s.mem ∧ t.acq = s.acq) ∧
        CountedBut [ringReg n 0x18] s.toDev t ∧ Only [.regs, .mem, .rings, .acq, .cnt, .log] s.toDev t)) ∧
      (head = [] ∨ trainHeadOk head = true → seg ≠ [] → (if lane then r.bodyB else r.bodyA) + seg.length + 8 ≤ 16384 → late = none →
        Completes (.segmentReceived n sideB ⟨head, seg⟩ false) s (fun t =>
        (getRing t n).totSeg = r.totSeg + 1 ∧ (if lane then (getRing t n).endedB else (getRing t n).endedA) = true ∧
        CountedBut [ringReg n 0x14] s.toDev t ∧ Only [.regs, .rings, .cnt] s.toDev t)) ∧
      (∀ j, head = [] ∨ trainHeadOk head = true → (if lane then r.bodyB else r.bodyA) + seg.length + 8 ≤ 16384 → late = some j →
        segReserved content body = false → seg.length ≥ 6 → crc16 (seg.take (seg.length - 2)) = beNat (seg.drop (seg.length - 2)) →
        bodyLenOk cfg content body.length = true → bitOf w0 31 = true → bitOf w0 30 = (cfgKind cfg == 2) →
        (bitOf w0 30 = true ∨ fld w0 16 5 = cfgCells cfg) → scrOn s.toDev x = true → content ≠ 0 →
        Completes (.segmentReceived n sideB ⟨head, seg⟩ false) s (fun t =>
          Tbl.get 0 t.acq.age (umapIdx n addr unit) = 0 ∧ Tbl.get 0 (getRing t n).segBad (addr * 2 + unit) = 0 ∧
          (bitOf w0 30 = true → MemBut (strEnt r.slot x) 32 s.toDev t) ∧ t.est = s.est ∧ t.strs = s.strs ∧ t.saf = s.saf)))

/-- 04 R120, R128, R131, R132: the string-data-lost fault, the FIFO of the limit screen, the transfer or rejection of a string's limits,
and a core's store into protected memory.
04 R143 to R145: the fast overcurrent comparators: a trip latches and holds the SEOs of its mask; the clearing of trips; the test of a
comparator. -/
def Obligations.ScreenAndFocRows : Prop :=
  (∀ s : State, Awake s →
    (∀ x, Tbl.get 0 s.acq.staleAt x ≠ 0 → strStale s.toDev x = true → pairUp s.toDev 0 = true →
      Completes (.stringDataLostTimeout x) s (fun t => raised s.toDev t 0 Ev.STRING_DATA_LOST x x ∧ t.acq = s.acq ∧ t.est = s.est)) ∧
    (∀ e l, s.acq.fifo = e :: l → rdB s.toDev ACQ_STATUS 4 = false → (getPair s.toDev 0).recov = .run → Completes .acqScrEvt3Read s (fun t =>
      t.readVal = rd s.toDev (ACQ_SCR_EVT + 12) ∧ t.acq.fifo = l ∧ t.est = s.est ∧ t.tb = s.tb)) ∧
    (∀ v : U32,
      let x := fld v 0 7
      let a := rd s.toDev (ACQ_SCR_A + x * 4)
      (rd s.toDev (ACQ_SCR_B + x * 4) = ~~~a ∧ fld a 16 16 ≥ fld a 0 16 + 2 → Completes (.acqScrApply 0 v) s (fun t =>
        rd t (ACQ_SCR_ACT + x * 4) = a ∧ Tbl.get 0xFFFF0000 t.acq.actB x = ~~~a ∧ scrOn t x = bitOf v 7 ∧
        RegsBut [ACQ_SCR_ACT + x * 4, ACQ_SCR_EN + x / 32 * 4] s.toDev t ∧ Only [.regs, .acq] s.toDev t)) ∧
      (¬(rd s.toDev (ACQ_SCR_B + x * 4) = ~~~a ∧ fld a 16 16 ≥ fld a 0 16 + 2) → Completes (.acqScrApply 0 v) s (fun t =>
        rdB t ACQ_STATUS 5 = true ∧ posted t 0 Ev.SCREEN_CFG x ∧ RegsBut [ACQ_STATUS] s.toDev t ∧ t.acq = s.acq ∧ t.mem = s.mem))) ∧
    (∀ p v, p ≠ 0 → Completes (.acqScrApply p v) s (fun t => t = busErrorTo s.toDev p)) ∧
    (∀ a, (0x20800000 ≤ a ∧ a < 0x20C00000) ∨ (0x20D80000 ≤ a ∧ a < 0x20DB2000) → Completes (.protectedSramStore a) s (fun t =>
      t.busErr = true ∧ rdB t ACQ_STATUS 0 = true ∧ CountedBut [ACQ_STATUS] s.toDev t ∧ Only [.regs, .freeCtr, .busErr] s.toDev t)) ∧
    (∀ a, 0x20000000 ≤ a ∧ a < 0x20800000 ∧ 8 ≤ a % 128 ∧ a % 128 < 0x50 → s.est.pass.isSome = true →
      Completes (.protectedSramStore a) s (fun t =>
        t.busErr = true ∧ rdB t EST_STATUS 2 = true ∧ CountedBut [EST_STATUS] s.toDev t ∧ Only [.regs, .freeCtr, .busErr] s.toDev t))) ∧
  (∀ s : State, Awake s →
    (∀ n chg, n < 16 → focOn s.toDev n chg = true → s.acq.focTest = none → Completes (.focComparatorTrip n chg) s (fun t =>
      rdB t ACQ_FOC_STATUS (n + 16 * b2n chg) = true ∧ (∀ q, q < 8 → nbit (par s.toDev (0x3130 + n)) q = true → rdB t SAF_SEO_HOLD (16 + q) = true) ∧
      t.acq = s.acq ∧ t.mem = s.mem ∧ t.est = s.est)) ∧
    (∀ v held : U32, Completes (.focTripClear 0 v held) s (fun t =>
      rd t ACQ_FOC_STATUS = rd s.toDev ACQ_FOC_STATUS &&& (~~~(v &&& focMay s.toDev) ||| held) ∧ t.acq = s.acq ∧ t.mem = s.mem ∧ t.dev = s.dev)) ∧
    (∀ p (v held : U32), p ≠ 0 → Completes (.focTripClear p v held) s (fun t => t = busErrorTo s.toDev p)) ∧
    (∀ n chg, n < 16 → focOn s.toDev n chg = true → s.acq.focTest = none → Completes (.focComparatorTest n chg) s (fun t =>
      t.acq.focTest = some (n, chg) ∧ Only [.acq] s.toDev t)) ∧
    (∀ n chg changed, n < 16 → s.acq.focTest = some (n, chg) → Completes (.focTestEnd changed) s (fun t =>
      t.acq.focTest = none ∧ t.acq.focDelayed = false ∧ t.est = s.est ∧
      (changed = true → s.acq.focDelayed = false → rdB t ACQ_FOC_TEST (n + 16 * b2n chg) = true ∧ RegsBut [ACQ_FOC_TEST] s.toDev t) ∧
      (changed = false → pairUp s.toDev 0 = true →
        raised s.toDev t 0 Ev.FOC_TEST (n + 256 * b2n chg) (n + 16 * b2n chg)))))

/-! ## The estimator engine (spec 05, 06) -/

/-- 05 R157, R181: EST_GO starts a pass on a closed slot, is refused while a pass runs or the slot is open, and does nothing while the
engine is off.
05 R157, R168, R170, R178, R181: the end of a pass, a Curator job queued, and its table built with its swap pending; while a pass runs
the Curator's job waits.
The model's choices in it: Log 29, 30, 32. -/
def Obligations.EstimatorPassRows : Prop :=
  (∀ (s : State) (k gate : Nat), Awake s →
    (rdB s.toDev EST_CTRL 0 = true → s.est.pass = none → bitOf (slotWord s.toDev (k % 8) 1) 10 = true →
      Completes (.estGo 1 k gate) s (fun t => (∃ ps, t.est.pass = some ps ∧ ps.slot = k % 8 ∧ ps.gate = gate % 256 ∧
        ps.lam = slotLam s.toDev (k % 8)) ∧ rdB t EST_STATUS 7 = true ∧ t.tb = s.tb ∧ t.strs = s.strs ∧ t.parCfg = s.parCfg)) ∧
    (rdB s.toDev EST_CTRL 0 = true → s.est.pass.isSome = true ∨ bitOf (slotWord s.toDev (k % 8) 1) 10 = false →
      Completes (.estGo 1 k gate) s (fun t => rdB t EST_STATUS 5 = true ∧ RegsBut [EST_STATUS] s.toDev t ∧ Only [.regs] s.toDev t)) ∧
    (rdB s.toDev EST_CTRL 0 = false → Completes (.estGo 1 k gate) s (fun t => Only [] s.toDev t)) ∧
    (∀ p, p ≠ 1 → Completes (.estGo p k gate) s (fun t => t = busErrorTo s.toDev p))) ∧
  (∀ s : State, Awake s →
    (∀ ps clk upsets, s.est.pass = some ps → Completes (.estimatorPassComplete clk upsets) s (fun t =>
      t.est.pass = none ∧ rdB t EST_STATUS 7 = false ∧ rd t EST_PASS_CLK = w32 clk ∧ rd t EST_LAST_SNAP = w32 ps.snap ∧
      rd t EST_LAST_LSNAP = w32 ps.lam ∧ t.tb = s.tb ∧ t.strs = s.strs)) ∧
    (∀ x, x < 128 →
      let b := 1 - pubWt s.toDev x
      rdB s.toDev (wtDesc x b) 15 = true → descVer s.toDev x b ≠ 0 → descVer s.toDev x b ≠ descVer s.toDev x (pubWt s.toDev x) →
      descLo s.toDev x b ≤ descHi s.toDev x b → descHi s.toDev x b - descLo s.toDev x b ≤ 1280 → descSet s.toDev x b = cfgSet s.toDev x →
      jobPending s.toDev x = false →
      Completes (.estCurJob 1 x) s (fun t => t.est.jobs = s.est.jobs ++ [x] ∧ rdB t EST_STATUS 6 = true ∧
        RegsBut [EST_STATUS] s.toDev t ∧ Only [.regs, .est] s.toDev t)) ∧
    (∀ x, jobPending s.toDev (x % 128) = true → Completes (.estCurJob 1 x) s (fun t =>
      rdB t EST_STATUS 3 = true ∧ RegsBut [EST_STATUS] s.toDev t ∧ Only [.regs] s.toDev t)) ∧
    (∀ x l atGo, s.est.jobs = x :: l → s.est.pass = none ∨ atGo = true → Completes (.curatorJobComplete atGo) s (fun t =>
      t.est.jobs = l ∧ strBit t EST_SWAP_PEND x = true ∧ rdB t EST_STATUS 6 = !l.isEmpty ∧
      MemBut (bankAddr (1 - pubWt s.toDev x) x) 4096 s.toDev t ∧ t.tb = s.tb ∧ t.strs = s.strs)) ∧
    (s.est.pass.isSome = true → Completes (.curatorJobComplete false) s (fun t => Only [] s.toDev t)))

/-- 05 R169, R170, R175, R181: lane tests, which run outside passes, lane fences and working-table descriptors. -/
def Obligations.EngineRegisterRows : Prop :=
  ∀ s : State, Awake s →
    Completes (.laneTestRequest 1) s (fun t => t.est.testing = true ∧ rdB t EST_CTRL 1 = true ∧ RegsBut [EST_CTRL] s.toDev t ∧ Only [.regs, .est] s.toDev t) ∧
    (s.est.testing = true → s.est.pass = none → Completes (.laneTestComplete 0xFFFFFFFF) s (fun t =>
      t.est.testing = false ∧ rd t EST_LANE_TEST = 0xFFFFFFFF ∧ rdB t EST_STATUS 1 = false ∧ rdB t EST_CTRL 1 = false ∧
      RegsBut [EST_CTRL, EST_LANE_TEST, EST_STATUS] s.toDev t ∧ Only [.regs, .est] s.toDev t)) ∧
    (∀ mask, s.est.testing = true → s.est.pass = none → Completes (.laneTestComplete mask) s (fun t => t.est.testing = false ∧
      rd t EST_LANE_TEST = mask ∧ rdB t EST_STATUS 1 = decide (mask ≠ 0xFFFFFFFF) ∧ rdB t EST_CTRL 1 = false ∧ t.tb = s.tb ∧ t.acq = s.acq)) ∧
    (∀ mask, s.est.pass.isSome = true → Completes (.laneTestComplete mask) s (fun t => Only [] s.toDev t)) ∧
    (∀ v, popCount v ≤ 2 → Completes (.estLaneFenceWrite 1 v) s (fun t =>
      rd t EST_LANE_FENCE = v ∧ RegsBut [EST_LANE_FENCE] s.toDev t ∧ Only [.regs] s.toDev t)) ∧
    (∀ v, popCount v > 2 → Completes (.estLaneFenceWrite 1 v) s (fun t =>
      rdB t EST_STATUS 3 = true ∧ RegsBut [EST_STATUS] s.toDev t ∧ Only [.regs] s.toDev t)) ∧
    (∀ x b w v, x < 128 → b = 1 - pubWt s.toDev x → w < 2 → jobPending s.toDev x = false → Completes (.estWtDescWrite 1 x b w v) s (fun t =>
      rd t (wtDesc x b + 4 * w) = (if w = 0 then v &&& 0xFFFFF000 else v) ∧ RegsBut [wtDesc x b + 4 * w] s.toDev t ∧ Only [.regs] s.toDev t)) ∧
    (∀ x w v, x < 128 → Completes (.estWtDescWrite 1 x (pubWt s.toDev x) w v) s (fun t => Only [] s.toDev t)) ∧
    (∀ p x b w v, p ≠ 1 → Completes (.estWtDescWrite p x b w v) s (fun t => t = busErrorTo s.toDev p) ∧
      Completes (.laneTestRequest p) s (fun t => t = busErrorTo s.toDev p) ∧
      Completes (.estLaneFenceWrite p v) s (fun t => t = busErrorTo s.toDev p))

/-- 05 R160, R176, R178, R179, R181, 06 R194: the end of a quiet window, which asks for the string's anchoring bit through P1's release
buffer, a string found unexcited, and learning disarmed.
The model's choices in it: Log 33. -/
def Obligations.ConfidenceRows : Prop :=
  ∀ (s : State) (x : Nat), Awake s → pairUp s.toDev 1 = true →
    ((getConf s.toDev x).quietAt ≠ 0 → Completes (.quietWindowComplete x) s (fun t =>
      posted t 1 Ev.QUIET_DONE x ∧ bitOf (estAsked t (EST_ANCHOR + x / 32 * 4)) (x % 32) = true ∧ t.regs = s.regs ∧ (getConf t x).kind = 1 ∧ (getConf t x).quietReq = false ∧
      (getConf t x).cRef = 2 ^ 64 ∧ t.acq = s.acq ∧ t.strs = s.strs)) ∧
    ((getConf s.toDev x).floorAt ≠ 0 → (getConf s.toDev x).unexc = false → Completes (.unexcitedTimeout x) s (fun t =>
      (getConf t x).unexc = true ∧ raised s.toDev t 1 Ev.Z_UNEXCITED x x ∧ MemBut (0x20DD8000 + x * 16 + 4) 2 s.toDev t ∧ t.regs = s.regs)) ∧
    (lstate s.toDev x = 1 → Completes (.capLearnArmTimeout x) s (fun t =>
      lstate t x = 0 ∧ MemBut (chgAddr x + 0x2C) 1 s.toDev t ∧ Only [.mem] s.toDev t))

/-! ## Limits and the PCS (spec 07) -/

/-- 07 R229 to R231: what alive frames of the PCS, its silence and its excess do.
The model's choices in it: Log 6, 45, 132. -/
def Obligations.PcsRows : Prop :=
  ∀ s : State, Awake s → pcsRules s.toDev = true →
    (∀ n data, isPcs s.toDev n = true → data.length = 16 → (data.getD 1 0).toNat < 16 → data.getD 10 0 = 0 → data.getD 11 0 = 0 →
      (getCtl s.toDev n).fb ≠ some (data.getD 2 0).toNat →
      Completes (.pcsFeedbackReceived n true data) s (fun t =>
        (copyTaken s.toDev n (data.getD 2 0).toNat = false → t.lim.fb = bytesToWords data ∧ t.lim.takenFb = some (data.getD 2 0).toNat) ∧
        (copyTaken s.toDev n (data.getD 2 0).toNat = true → t.lim.fb = s.lim.fb ∧ t.lim.takenFb = s.lim.takenFb) ∧
        (getCtl t n).alive = true ∧ (getCtl t n).fb = some (data.getD 2 0).toNat ∧
        (getCtl t n).at_ = s.uptimeMs ∧ t.regs = s.regs ∧ t.mem = s.mem)) ∧
    (∀ n data, isPcs s.toDev n = true → data.length = 8 → data.getD 1 0 = 2 → data.getD 3 0 = 0 →
      (getCtl s.toDev n).hb ≠ some (data.getD 0 0).toNat →
      Completes (.pcsHeartbeatReceived n data) s (fun t =>
        t.lim.takenHb = some (data.getD 0 0).toNat ∧ (getCtl t n).alive = true ∧ (getCtl t n).hb = some (data.getD 0 0).toNat ∧
        (s.lim.frozen = true → t.lim.frozen = true ∧ t.lim.thaw = true) ∧ t.regs = s.regs ∧ t.mem = s.mem)) ∧
    (s.lim.frozen = false ∨ s.lim.thaw = true → Completes .pcsSilentTimeout s (fun t =>
      t.lim.frozen = true ∧ t.lim.thaw = false ∧
      raised s.toDev t 3 Ev.PCS_SILENT (min (s.uptimeMs - (pcsCtls s.toDev).foldl (fun m n => max m (getCtl s.toDev n).at_) s.lim.bootEnd) 0xFFFFFFFF) devScope ∧
      t.regs = s.regs ∧ t.mem = s.mem ∧ t.strs = s.strs)) ∧
    (∀ n, isPcs s.toDev n = true → Completes (.pcsBusSilentTimeout n) s (fun t => (getCtl t n).alive = false ∧
      ((pcsCtls s.toDev).any (fun m => m != n && (getCtl s.toDev m).alive) = true → raised s.toDev t 3 Ev.PCS_BUS_DEGRADED n n) ∧
      t.regs = s.regs ∧ t.mem = s.mem)) ∧
    (∀ chg, (getWin s.toDev chg).overAt ≠ 0 → Completes (.pcsOverlimitTimeout chg) s (fun t =>
      raised s.toDev t 3 Ev.PCS_OVERLIMIT (b2n chg + (getWin s.toDev chg).excess * 2 ^ 32) (b2n chg + 0x100) ∧ t.est = s.est ∧ t.acq = s.acq))

/-! ## Temperatures (spec 08) -/

/-- 08 R242, R247, R249: the evaluation of the string temperatures, the dwell and the hold of a string, and a stalled P3.
08 R255, R256, R258: the die sensors, the die state, and the correction of the oscillator, which moves by at most 0.01 ppm.
The model's choices in it: Log 6, 48. -/
def Obligations.ThermalRows : Prop :=
  (∀ (s : State) (x : Nat), Awake s →
    (pairUp s.toDev 3 = true → Completes .thermalEvaluation s (fun t => t.thm.posted = true ∧ t.thm.noPost = 0 ∧ t.regs = s.regs ∧ t.strs = s.strs)) ∧
    (∀ low, pairUp s.toDev 3 = true → dwellOf (getThm s.toDev x) low ≠ 0 → (getThm s.toDev x).hold = 0 →
      Completes (.thermalDwellExpiry x low) s (fun t =>
        let k := (List.range (stepNow s.toDev x low)).foldl (fun m j => if stepOn s.toDev low j then j else m) 0
        stepNow t x low = k ∧ posted t 3 Ev.THERMAL_RELAX (x + b2n low * 256 + k * 512) ∧ t.regs = s.regs ∧ t.strs = s.strs)) ∧
    (∀ low, pairUp s.toDev 3 = true → dwellOf (getThm s.toDev x) low ≠ 0 → (getThm s.toDev x).hold ≠ 0 →
      Completes (.thermalDwellExpiry x low) s (fun t => (if low then (getThm t x).dueLo else (getThm t x).dueHi) = true ∧ Only [.thm] s.toDev t)) ∧
    (pairUp s.toDev 3 = true → (getThm s.toDev x).hold ≠ 0 → Completes (.thermalHoldExpiry x) s (fun t =>
      (getThm t x).hold = 0 ∧ t.regs = s.regs ∧ t.strs = s.strs)) ∧
    (pairUp s.toDev 2 = true → s.thm.posted = false → Completes .thermalStall s (fun t =>
      raised s.toDev t 2 Ev.THERMAL_STALL (max 5 s.thm.noPost) devScope ∧ Only [.log, .inForce] s.toDev t))) ∧
  (∀ s : State, Awake s →
    (∀ l, Completes (.dieTemperatureUpdate l) s (fun t => (∀ k, k < 8 → rd t (THM_DIE + 4 * k) = w32 (ws16 (l.getD k 0))) ∧ rd t THM_DIE_MAX = w32 (ws16 (dieMax t)) ∧
      t.mem = s.mem ∧ t.est = s.est)) ∧
    (s.thm.dieTimer = true → dstate s.toDev = 1 → Completes .dieStateDwellExpiry s (fun t => dstate t = 0 ∧ t.thm.dieTimer = false ∧ t.mem = s.mem)) ∧
    (s.thm.dieTimer = true → dstate s.toDev = 3 → Completes .dieStateDwellExpiry s (fun t => dstate t = 2 ∧ t.thm.dieTimer = false ∧ t.mem = s.mem)) ∧
    (s.thm.dieTimer = true → dstate s.toDev = 2 → dieMax s.toDev < 8640 → Completes .dieStateDwellExpiry s (fun t =>
      dstate t = 1 ∧ t.thm.dieTimer = false ∧ t.mem = s.mem)) ∧
    (s.thm.dieTimer = true → dstate s.toDev = 2 → dieMax s.toDev ≥ 8640 → Completes .dieStateDwellExpiry s (fun t =>
      t.thm.dieTimer = false ∧ raised s.toDev t 3 Ev.DIE_OVERTEMP (ws16 (dieMax s.toDev)) devScope)) ∧
    (∀ k, k < 8 → s.thm.departed.contains k = true → dieExcl s.toDev k = false → Completes (.dieSensorExclusion k) s (fun t =>
      dieExcl t k = true ∧ raised s.toDev t 3 Ev.DIE_SENSOR (rdF s.toDev THM_STATUS 8 8 + 2 ^ k) k ∧ t.mem = s.mem)) ∧
    (rdB s.toDev THM_STATUS 0 = true → Completes .compensationUpdate s (fun t => Only [] s.toDev t)) ∧
    (-2147483638 ≤ Params.toS32 (rdN s.toDev THM_OSC_CORR) → Params.toS32 (rdN s.toDev THM_OSC_CORR) ≤ 2147483637 →
      Completes .compensationUpdate s (fun t =>
        (Params.toS32 (rdN t THM_OSC_CORR) - Params.toS32 (rdN s.toDev THM_OSC_CORR)).natAbs ≤ 10 ∧
        RegsBut [THM_OSC_CORR, THM_REF_CORR] s.toDev t ∧ Only [.regs] s.toDev t)))

/-! ## Strings and contactors (spec 09, 10 R300) -/

/-- 09 R266 to R269, R272, R277, R281, R282, R284: P0's steps of a string's contactors: polls, contactors not confirmed, the pole gap, the
ramp's end, and the time limits of a join and a pre-charge.
The model's choices in it: Log 6, 88. -/
def Obligations.ContactorRows : Prop :=
  ∀ (s : State) (x : Nat), Awake s → pairUp s.toDev 0 = true →
    (∀ k, suOf s.toDev x = some k → (getStr s.toDev x).polling = true → (getStr s.toDev x).cmdOut = none → Completes (.contactorPoll x) s (fun t =>
      ∃ r, (getPair t 0).rel = (getPair s.toDev 0).rel ++ [r] ∧ r.win = (getPair s.toDev 0).win ∧
        r.eff = .ring (umapRing k) (.cmd { pair := 0, addr := umapAddr k, unit := umapUnit k, opcode := 0x41, args := [], who := .contactor x }) ∧
        Only [.exe] s.toDev t)) ∧
    (∀ mask, (getStr s.toDev x).unconf &&& mask &&& 7 = 1 → (getStr s.toDev x).coils &&& 1 = 0 → (getStr s.toDev x).welds &&& 1 = 0 →
      Completes (.contactorFbTimeout x mask) s (fun t => raised s.toDev t 0 Ev.WELD_SUSPECT (x + 0x200) (x * 4 + 2) ∧ t.mem = s.mem)) ∧
    (∀ mask, (getStr s.toDev x).unconf &&& mask &&& 7 ≠ 0 →
      (getStr s.toDev x).unconf &&& mask &&& 7 &&& (getStr s.toDev x).coils = (getStr s.toDev x).unconf &&& mask &&& 7 →
      (getStr s.toDev x).conn ≠ .none → (getStr s.toDev x).opn = .none → (getStr s.toDev x).st = .sPrecharging →
      Completes (.contactorFbTimeout x mask) s (fun t => posted t 0 Ev.PRECHARGE_FAIL (x + 7 * 2 ^ 32) ∧ (getStr t x).st = .sOpening ∧
        (getStr t x).failed = true ∧ t.regs = s.regs)) ∧
    ((getStr s.toDev x).opn = .gap → (getStr s.toDev x).gapDue = true → Completes (.poleGapExpiry x) s (fun t =>
      (getStr t x).opn = .second ∧ (getStr t x).gapDue = false ∧ ((getStr s.toDev x).cmdOut = none → (getStr t x).cmdOut = some 0) ∧
      ((getStr s.toDev x).cmdOut ≠ none → (getStr t x).want = some 0) ∧ Only [.strs, .exe] s.toDev t)) ∧
    Completes .rampTimeout s (fun t => t.saf.rampStr = [] ∧
      (∀ y, y ∈ s.saf.rampStr → (getStr s.toDev y).opn = .rampWait → (getStr t y).opn = .first) ∧ Only [.strs, .saf, .exe] s.toDev t) ∧
    ((getStr s.toDev x).conn = .joinWait → firstInLine s.toDev x = true → (getStr s.toDev x).joinOk < 2 → Completes (.joinWaitTimeout x) s (fun t =>
      posted t 0 Ev.JOIN_TIMEOUT (x + (match newestEntry s.toDev x with | some k => (strDv s.toDev k x).natAbs / 2 | none => 0) * 2 ^ 32) ∧
      (getStr t x).st = .sOpening ∧ (getStr t x).failed = true ∧ t.regs = s.regs)) ∧
    ((getStr s.toDev x).conn = .joinWait → (getStr s.toDev x).joinOk ≥ 2 → Completes (.joinWaitTimeout x) s (fun t => Only [] s.toDev t)) ∧
    ((getStr s.toDev x).opn = .none → (getStr s.toDev x).conn = .tau1 ∨ (getStr s.toDev x).conn = .tau5 ∨
        ((getStr s.toDev x).conn = .joinWait ∧ (getStr s.toDev x).passed5 = true ∧ (getStr s.toDev x).joinOk = 0) →
      Completes (.prechargeDurationTimeout x) s (fun t => posted t 0 Ev.PRECHARGE_FAIL (x + 6 * 2 ^ 32) ∧
        (getStr t x).st = .sOpening ∧ (getStr t x).failed = true ∧ t.regs = s.regs))

/-- 09 R289, R290, 10 R300, R301, R303: inputs that watch contactors, the current limit of a string at a snapshot, and the times of the
forbidden directions. -/
def Obligations.FeedbackAndDirectionRows : Prop :=
  ∀ s : State, Awake s → pairUp s.toDev 0 = true →
    (∀ n high, n < 16 → Completes (.fbkInputChange n high) s (fun t => rdB t SAF_FBK n = high ∧
      (fbkUsed s.toDev n = true → s.pwr.booting = false → (getBus t n).closed = (if par s.toDev (0x7300 + n) = 1 then high else !high)) ∧ t.mem = s.mem ∧ t.parCfg = s.parCfg)) ∧
    (∀ n, fbkUsed s.toDev n = true → (getBus s.toDev n).timer = true → (getBus s.toDev n).wantClosed = true → Completes (.busContactorFbTimeout n) s (fun t =>
      posted t 0 Ev.BUS_FB n ∧ (getBus t n).timer = false ∧ t.regs = s.regs ∧ t.mem = s.mem)) ∧
    (∀ n, fbkUsed s.toDev n = true → (getBus s.toDev n).timer = true → (getBus s.toDev n).wantClosed = false → (getBus s.toDev n).weld = false → Completes (.busContactorFbTimeout n) s (fun t =>
      raised s.toDev t 0 Ev.BUS_WELD n n ∧ (getBus t n).timer = false ∧ (getBus t n).weld = true ∧ (getBus t n).welds = (getBus s.toDev n).welds + 1 ∧ Only [.bus, .log, .inForce] s.toDev t)) ∧
    (∀ tUs k x l, newestSlot s.toDev = some k → confStrs s.toDev = x :: l → connected s.toDev x = true → strValid s.toDev k x = true →
      (strCur s.toDev k x).natAbs > par s.toDev 0x8006 * 1000 → Completes (.snapshotSafetyCheck tUs) s (fun t =>
        raised s.toDev t 0 Ev.SLC_EXCEED (x + (strCur s.toDev k x).natAbs / 100 * 2 ^ 32) x ∧ t.est = s.est ∧ t.acq = s.acq ∧ t.tb = s.tb)) ∧
    (∀ tUs, newestSlot s.toDev = none → Completes (.snapshotSafetyCheck tUs) s (fun t => Only [] s.toDev t)) ∧
    (∀ x, (getStr s.toDev x).sswChg = true → (getStr s.toDev x).sswChgAt ≠ 0 → Completes (.sswDwellExpiry x true) s (fun t =>
      (getStr t x).sswChg = false ∧ (getStr t x).fbChg = sdrForbids s.toDev x true ∧ inForceB t Ev.SSW_LIMIT (x * 2 + 1) = false ∧
      Only [.strs, .log, .inForce] s.toDev t)) ∧
    (∀ x, (getStr s.toDev x).sswDis = true → (getStr s.toDev x).sswDisAt ≠ 0 → Completes (.sswDwellExpiry x false) s (fun t =>
      (getStr t x).sswDis = false ∧ (getStr t x).fbDis = sdrForbids s.toDev x false ∧ inForceB t Ev.SSW_LIMIT (x * 2) = false ∧
      Only [.strs, .log, .inForce] s.toDev t)) ∧
    (∀ x, Completes (.directionSettleExpiry x true) s (fun t => (getStr t x).setChg = (getStr s.toDev x).fbChg ∧
      (getStr t x).setDis = (getStr s.toDev x).setDis ∧ Only [.strs] s.toDev t) ∧
      Completes (.directionSettleExpiry x false) s (fun t => (getStr t x).setDis = (getStr s.toDev x).fbDis ∧
      (getStr t x).setChg = (getStr s.toDev x).setChg ∧ Only [.strs] s.toDev t))

/-! ## Safety I/O (spec 10) -/

/-- 10 R305 to R309: a safe input that comes into demand acts by its function; its discrepancy; the pulses of the test outputs. -/
def Obligations.SafeInputRows : Prop :=
  ∀ (s : State) (n : Nat), Awake s → n < 16 →
    (∀ chB high, sinFunc s.toDev n = 0 → Completes (.sinChannelChange n chB high) s (fun t =>
      rdB t SAF_SIN_LEVEL (n + if chB then 16 else 0) = high ∧ RegsBut [SAF_SIN_LEVEL] s.toDev t ∧ Only [.regs] s.toDev t)) ∧
    (∀ chB : Bool, rdB s.toDev SAF_SIN_DEMAND n = false →
      let high := if chB then rdB s.toDev (SAF_SIN_CFG + n * 8) 28 else false
      let arg := n + b2n chB * 0x100
      (sinFunc s.toDev n = 1 → Completes (.sinChannelChange n chB high) s (fun t => raised s.toDev t 0 Ev.SIN_TRIP_F3 arg n ∧ t.est = s.est)) ∧
      (sinFunc s.toDev n = 2 → Completes (.sinChannelChange n chB high) s (fun t => raised s.toDev t 0 Ev.SIN_TRIP_F4 arg n ∧
        rdB t SAF_SIN_DEMAND n = true ∧ (∀ q, q < 8 → nbit (sinMask s.toDev n) q = true → rdB t SAF_SEO_HOLD (8 + q) = true) ∧ t.mem = s.mem)) ∧
      (sinFunc s.toDev n = 3 → Completes (.sinChannelChange n chB high) s (fun t => raised s.toDev t 0 Ev.SIN_TRIP_F5 arg devScope ∧
        rdB t SAF_SIN_DEMAND n = true ∧ latched t = true ∧ t.mem = s.mem)) ∧
      (sinFunc s.toDev n = 4 ∨ sinFunc s.toDev n = 5 → Completes (.sinChannelChange n chB high) s (fun t =>
        raised s.toDev t 0 Ev.SIN_BLOCK (n + sinFunc s.toDev n * 0x100) n ∧ rdB t SAF_SIN_DEMAND n = true ∧ t.mem = s.mem ∧ t.dev = s.dev))) ∧
    ((getSin s.toDev n).discRun = true → sinFunc s.toDev n ≠ 0 → Completes (.sinDiscrepancyTimeout n) s (fun t =>
      raised s.toDev t 0 Ev.SIN_DISCREPANCY (n + b2n (getSin s.toDev n).edgeRel * 0x100) n ∧ t.est = s.est)) ∧
    (∀ k, k < 4 → s.saf.tpoPulse = none →
      (∀ m, m < 16 → excited s.toDev m k = true → (getSin s.toDev m).changed = 0 ∨ (getSin s.toDev m).changed - 1 + 50 ≤ s.uptimeMs) →
      Completes (.tpoPulse k) s (fun t => t.saf.tpoPulse = some k ∧ rdB t SAF_TEST (8 + k) = true ∧ RegsBut [SAF_TEST] s.toDev t ∧ Only [.regs, .saf] s.toDev t)) ∧
    (∀ k low, k < 4 → s.saf.tpoPulse = some k → (∀ j, j < 32 → sinTpo s.toDev (j / 2) (j % 2 == 1) = k + 1 → low.contains j = true) →
      Completes (.tpoPulseEnd k low []) s (fun t => t.saf.tpoPulse = none ∧ rdB t SAF_TEST (8 + k) = false ∧ RegsBut [SAF_TEST] s.toDev t ∧
        Only [.regs, .saf] s.toDev t)) ∧
    (∀ k low crossed, k < 4 → s.saf.tpoPulse = some k → sinFunc s.toDev 0 ≠ 0 → sinTpo s.toDev 0 false = k + 1 → low.contains 0 = false →
      Completes (.tpoPulseEnd k low crossed) s (fun t => raised s.toDev t 0 Ev.SIN_TEST (k * 0x1000) 0 ∧ t.est = s.est))

/-- 10 R313 to R315: the readbacks and test pulses of a safe energize output. -/
def Obligations.SeoRows : Prop :=
  ∀ (s : State) (n : Nat), Awake s → n < 8 →
    (∀ chB, Completes (.seoReadbackMismatch n chB (seoOut s.toDev n chB)) s (fun t =>
      rdB t SAF_SEO_STATE ((if chB then 16 else 8) + n) = seoOut s.toDev n chB ∧ RegsBut [SAF_SEO_STATE] s.toDev t ∧ Only [.regs] s.toDev t)) ∧
    (∀ chB, Completes (.seoReadbackMismatch n chB (!seoOut s.toDev n chB)) s (fun t =>
      rdB t SAF_SEO_HOLD n = true ∧ rdB t SAF_STATUS 9 = true ∧ seoOn t n = false ∧
      rdB t SAF_SEO_STATE ((if chB then 16 else 8) + n) = !seoOut s.toDev n chB ∧
      raised s.toDev t 0 (if seoOut s.toDev n chB then Ev.SEO_DROP else Ev.SEO_STUCK) (n + b2n chB * 0x100) (n + b2n chB * 8) ∧ t.mem = s.mem)) ∧
    (seoOn s.toDev n = true → (getSeo s.toDev n).pulse = none → (getSeo s.toDev n).changed = 0 ∨ (getSeo s.toDev n).changed - 1 + 50 ≤ s.uptimeMs →
      Completes (.seoTestPulse n) s (fun t => (getSeo t n).pulse = some (getSeo s.toDev n).nextB ∧ rdB t SAF_SEO_STATE n = true ∧
        seoOut t n (getSeo s.toDev n).nextB = false ∧ RegsBut [SAF_SEO_STATE] s.toDev t ∧ Only [.regs, .saf] s.toDev t)) ∧
    (∀ chB, seoOn s.toDev n = true → (getSeo s.toDev n).pulse = some chB → Completes (.seoTestPulseEnd n true true) s (fun t =>
      (getSeo t n).pulse = none ∧ (getSeo t n).nextB = !chB ∧ rdB t SAF_SEO_STATE n = false ∧ rdB t SAF_SEO_STATE ((if chB then 16 else 8) + n) = true ∧
      RegsBut [SAF_SEO_STATE, SAF_TEST] s.toDev t ∧ Only [.regs, .saf] s.toDev t)) ∧
    (∀ chB, seoOn s.toDev n = true → (getSeo s.toDev n).pulse = some chB → Completes (.seoTestPulseEnd n false true) s (fun t =>
      (getSeo t n).pulse = none ∧ rdB t SAF_SEO_HOLD n = true ∧ t.mem = s.mem))

/-- 10 R311, R316, R317, R319, R327, 11 R356: P0's writes of the watchdog, which a P0 halted by debug does not service, of the safe state,
the energize requests and the resets, and the watchdog's end.
10 R299, 02 R39: the millisecond tick advances the local time.
The model's choices in it: Log 6, 119. -/
def Obligations.SafetyRegisterRows : Prop :=
  (∀ s : State, Awake s →
    (∀ v, v % 256 = 0x5A → primHalted s.toDev 0 = false → Completes (.safWdogWrite 0 v) s (fun t =>
      t.saf = { s.saf with wdogAt := s.uptimeMs + 1 } ∧ Only [.saf] s.toDev t)) ∧
    (∀ v, v % 256 ≠ 0x5A ∨ primHalted s.toDev 0 = true → Completes (.safWdogWrite 0 v) s (fun t => Only [] s.toDev t)) ∧
    Completes .watchdogExpiry s (fun t => latched t = true ∧ rdB t SAF_STATUS 11 = true ∧ raised s.toDev t 2 Ev.P0_WATCHDOG 0 devScope ∧ t.mem = s.mem) ∧
    (∀ ev, Completes (.safCtrlSafe 0 ev) s (fun t => latched t = true ∧ t.saf.latchEvt = ev ∧ (∀ q, q < 8 → seoOn t q = false) ∧ t.mem = s.mem ∧ t.tb = s.tb)) ∧
    (∀ v n, n < 8 → Completes (.safSeoReqWrite 0 v) s (fun t =>
      (seoFree s.toDev n = true → (getSeo s.toDev n).pulse = none → seoOn t n = nbit v n) ∧
      (seoFree s.toDev n = false → seoOn t n = false) ∧ t.mem = s.mem ∧ t.inForce = s.inForce)) ∧
    (∀ v, resetBars s.toDev ≠ 0 → Completes (.safResetWrite 0 v) s (fun t => Only [] s.toDev t)) ∧
    (∀ v, resetBars s.toDev = 0 → bitOf v 15 = true → Completes (.safResetWrite 0 v) s (fun t => latched t = false ∧ t.mem = s.mem ∧ t.dev = s.dev)) ∧
    (∀ v n, n < 16 → bitOf v n = true → sinReleased s.toDev n = true → rdB s.toDev SAF_SIN_LATCH (16 + n) = false →
      Completes (.safRestartWrite 0 v) s (fun t => rdB t SAF_SIN_LATCH n = false ∧ ((getSin s.toDev n).discRun = false → rdB t SAF_SIN_DEMAND n = false ∧
        (rdB s.toDev SAF_SIN_DEMAND n = true → posted t 0 Ev.SIN_RELEASE n)) ∧ t.mem = s.mem ∧ t.dev = s.dev)) ∧
    (∀ p v (w : U32) ev, p ≠ 0 → Completes (.safWdogWrite p v) s (fun t => t = busErrorTo s.toDev p) ∧
      Completes (.safCtrlSafe p ev) s (fun t => t = busErrorTo s.toDev p) ∧
      Completes (.safSeoReqWrite p v) s (fun t => t = busErrorTo s.toDev p) ∧
      Completes (.safResetWrite p w) s (fun t => t = busErrorTo s.toDev p) ∧
      Completes (.safRestartWrite p w) s (fun t => t = busErrorTo s.toDev p))) ∧
  (∀ (s : State) (direct : List (Nat × Int)), Awake s → Completes (.safetyTick direct) s (fun t =>
    t.uptimeMs = s.uptimeMs + 1 ∧ t.tb = s.tb ∧ t.piste = s.piste ∧ t.parCfg = s.parCfg))

/-! ## Paired execution (spec 11) -/

/-- 11 R339 to R343, R347, R348: a window that compares clean is released; one that does not is re-executed; the vote, the retry on two,
and a recovery that takes too long.
The model's choices in it: Log 9, 52, 119, 120, 133. -/
def Obligations.CompareAndRecovery : Prop :=
  ∀ (s : State) (p : Nat), Awake s → p < 4 → pairUp s.toDev p = true →
    let q := getPair s.toDev p
    (∀ prim shad inputs ckpt, q.recov = .run → q.broken = false → prim.length ≤ 512 → agree prim shad = true →
      Completes (.compareWindowClose p prim shad false inputs ckpt) s (fun t =>
        (getPair t p).win = (q.win + 1) % 65536 ∧ (getPair t p).clean = q.win ∧ (getPair t p).ckpt = ckpt ∧ (getPair t p).recov = .run ∧
        t.parCfg = s.parCfg ∧ (q.rel = [] → (getPair t p).rel = [] ∧ t.est = s.est ∧ t.strs = s.strs))) ∧
    (∀ prim shad bad inputs ckpt, q.recov = .run → q.broken = false → prim.length ≤ 512 → agree prim shad = false ∨ bad = true → s.exe.legacy = false →
      Completes (.compareWindowClose p prim shad bad inputs ckpt) s (fun t =>
        (getPair t p).recov = (if voteFree s.toDev then .vote else .retry) ∧ (getPair t p).rel = stalled q.rel ∧ (getPair t p).redo = inBuffer q.rel ∧
        (getPair t p).win = q.win ∧ (getPair t p).ckpt = q.ckpt ∧ (getPair t p).inLog = (q.inLog ++ inputs).take 1024 ∧ (getPair t p).count = prim.length ∧ rd t EXE_LAST_MM = w32 (q.win * 0x10000 + 0xF000 + p) ∧
        MemBut 0x215E0000 0x20000 s.toDev t ∧ Only [.regs, .mem, .exe, .cnt, .freeCtr] s.toDev t)) ∧
    (∀ prim shad spr ckpt c, q.recov = .vote → s.exe.spare = some c → q.primary ≠ q.shadow → agree prim shad = false → spr.length = q.count → agree spr prim = true →
      Completes (.recoveryVote p prim shad spr ⟨false, ckpt⟩) s (fun t =>
        (getPair t p).shadow = c ∧ (getPair t p).primary = q.primary ∧ (getPair t p).recov = .run ∧ t.exe.spare = none ∧
        nbit t.exe.testing q.shadow = true ∧ (getPair t p).ckpt = ckpt ∧ (getPair t p).redo = [] ∧ t.parCfg = s.parCfg ∧
        (q.redo = [] → t.est = s.est ∧ t.strs = s.strs))) ∧
    (∀ prim shad ckpt, q.recov = .retry → prim.length = q.count → agree prim shad = true → Completes (.retryCompare p prim shad ⟨false, ckpt⟩) s (fun t =>
      posted t 0 Ev.RETRY_CLEAN (pairArg p q.win) ∧ (getPair t p).recov = .run ∧ (getPair t p).clean = q.win ∧ (getPair t p).ckpt = ckpt ∧
      t.parCfg = s.parCfg ∧ (q.redo = [] → t.est = s.est ∧ t.strs = s.strs))) ∧
    (∀ prim shad x, q.recov = .retry → prim.length ≠ q.count → s.exe.legacy = true → Completes (.retryCompare p prim shad x) s (fun t =>
      (getPair t p).lost = true ∧ t.parCfg = s.parCfg)) ∧
    (q.recov ≠ .run → Completes (.recoveryTimeout p) s (fun t => (getPair t p).lost = true ∧ t.est = s.est ∧ t.parCfg = s.parCfg))

/-- 11 R344, R345, R359: the self-tests of cores.
11 R351, R355, R356: a pair whose heartbeat stands is restarted, a restart asked for and one that fails, and a halt by debug.
The model's choices in it: Log 53, 133. -/
def Obligations.CoreRows : Prop :=
  (∀ s : State, Awake s →
    (∀ core, core < 9 → nbit s.exe.testing core = true → Completes (.coreSelftestComplete core false) s (fun t =>
      nbit t.exe.testing core = false ∧ nbit t.exe.health.fenced core = true ∧ t.exe.spare ≠ some core ∧ t.mem = s.mem ∧ t.strs = s.strs)) ∧
    (∀ core, core < 9 → nbit s.exe.testing core = true → s.exe.votes.find? (fun e => e.1 == core) = none →
      Completes (.coreSelftestComplete core true) s (fun t => nbit t.exe.testing core = false ∧ t.exe.health = s.exe.health ∧ Only [.exe] s.toDev t)) ∧
    (∀ c, s.exe.spare = some c → nbit s.exe.halted c = false → voting s.toDev = false →
      (anyFormed s.toDev = true → Completes .spareSelftestTimer s (fun t => nbit t.exe.testing c = true ∧ t.exe.spare = some c ∧ Only [.exe] s.toDev t)) ∧
      Completes (.spareTestRequest 0) s (fun t => nbit t.exe.testing c = true ∧ t.exe.spare = some c ∧ Only [.exe] s.toDev t)) ∧
    (∀ p, p ≠ 0 → Completes (.spareTestRequest p) s (fun t => t = busErrorTo s.toDev p))) ∧
  (∀ (s : State) (p : Nat), Awake s → 1 ≤ p → p ≤ 3 →
    (pairUp s.toDev p = true → pairUp s.toDev 0 = true → (getPair s.toDev p).restarting = false → (getPair s.toDev p).broken = false →
      (getPair s.toDev p).hbAt + 10 ≤ s.uptimeMs → Completes (.pairHeartbeatTimeout p) s (fun t =>
        posted t 0 Ev.PAIR_RESTART (p + (s.uptimeMs - (getPair s.toDev p).hbAt) % 65536 * 65536) ∧
        ((getPair t p).restarting = true ∨ (getPair t p).lost = true) ∧ t.est = s.est ∧ t.tb = s.tb)) ∧
    (pairUp s.toDev p = true → within s.toDev (getPair s.toDev p).restartAt 3600000 = false → Completes (.exeRestartWrite 0 (w32 (2 ^ p))) s (fun t =>
      (getPair t p).restarting = true ∧ (getPair t p).recov = .run ∧ (getPair t p).restartAt = s.uptimeMs + 1 ∧
      (getPair t p).ckpt = coreClear ∧ (getPair t p).redo = [] ∧ (p ≠ 2 → ∀ e ∈ (getPair t p).rel, rebuilt e.eff = true) ∧ t.est = s.est)) ∧
    (∀ v k, k ≠ 0 → Completes (.exeRestartWrite k v) s (fun t => t = busErrorTo s.toDev k)) ∧
    (pairUp s.toDev p = true → (getPair s.toDev p).restarting = true → Completes (.pairRestartTimeout p) s (fun t =>
      (getPair t p).lost = true ∧ (getPair t p).restarting = false ∧ t.est = s.est)) ∧
    (∀ core k, core < 9 → mayHalt s.toDev core = true → nbit s.exe.halted core = false → pairOfCore s.toDev core = some k →
      (getPair s.toDev k).broken = false → Completes (.debugHalt core) s (fun t =>
        nbit t.exe.halted core = true ∧ (getPair t k).broken = true ∧ raised s.toDev t 0 Ev.LOCKSTEP_BROKEN (k + core * 16) k ∧
        Only [.exe, .log, .inForce] s.toDev t)))

/-- 01 R16, 11 R358, 17 R525: the scrubber, an uncorrectable word read, and a bus transaction that no one answers.
The model's choices in it: Log 54, 120. -/
def Obligations.EccAndBusRows : Prop :=
  ∀ s : State, Awake s →
    Completes (.scrubTick false) s (fun t => t.exe.scrub = (s.exe.scrub + 1) % 524288 ∧ Only [.exe] s.toDev t) ∧
    Completes (.scrubTick true) s (fun t => t.exe.scrub = (s.exe.scrub + 1) % 524288 ∧ t.mem = s.mem ∧ t.strs = s.strs) ∧
    (∀ req a, 0x20000000 ≤ a → a < 0x22000000 → Completes (.eccUncorrectableRead req a) s (fun t =>
      t.busErr = true ∧ posted t (if req < 4 then req else 1) Ev.ECC_UNCORR (a * 2 ^ 32) ∧ t.tb = s.tb)) ∧
    (∀ req a, 0x10000000 ≤ a → a < 0x10400000 → Completes (.eccUncorrectableRead req a) s (fun t =>
      t.busErr = true ∧ rdB t RET_STATUS 4 = true ∧ (pairUp s.toDev 2 = true → posted t 2 Ev.RETAINED_ECC (a * 2 ^ 32)) ∧
      CountedBut [RET_STATUS] s.toDev t ∧ Only [.regs, .exe, .freeCtr, .busErr, .log, .inForce] s.toDev t)) ∧
    Completes .busTransactionTimeout s (fun t => t.busErr = true ∧ CountedBut [] s.toDev t ∧
      (∃ req idx, req < 6 ∧ idx < 512 ∧ (∀ q, q < 4 → q ≠ req → getPair t q = getPair s.toDev q) ∧
        (req < 4 → pairUp s.toDev req = true → getPair t req = { getPair s.toDev req with inLog := ((getPair s.toDev req).inLog ++ [(idx, 0)]).take 1024 })) ∧
      Only [.regs, .exe, .freeCtr, .busErr] s.toDev t)

/-! ## The command transport (spec 12, 19 R573) -/

/-- 00 R8, 12 R4, R386 to R388, 19 R573: what the host's QSPI transactions read and write, HP_IRQ bits that hardware sets in the clock cycle
of their clearing, and the ring offsets it writes. -/
def Obligations.QspiRows : Prop :=
  ∀ s : State, Awake s →
    (∀ (a : BitVec 24) (len : Nat), Completes (.qspiFastRead a len) s (fun t =>
        t.host.qspiOut.length = len ∧ t.win = s.win ∧ t.mem = s.mem ∧
        (∀ k, k < len → 0x20000 ≤ a.toNat + k → a.toNat + k < 0x30000 → t.host.qspiOut[k]? = some (Memory.read s.win (a.toNat + k))) ∧
        (∀ k, k < len → 0x10000 ≤ a.toNat + k → a.toNat + k < 0x20000 → t.host.qspiOut[k]? = some 0)) ∧
      Completes (.qspiQuadIoRead a len) s (fun t =>
        t.host.qspiOut.length = len ∧ t.win = s.win ∧ t.mem = s.mem ∧
        (∀ k, k < len → 0x20000 ≤ a.toNat + k → a.toNat + k < 0x30000 → t.host.qspiOut[k]? = some (Memory.read s.win (a.toNat + k))) ∧
        (∀ k, k < len → 0x10000 ≤ a.toNat + k → a.toNat + k < 0x20000 → t.host.qspiOut[k]? = some 0))) ∧
    (∀ (a : BitVec 24) (b0 b1 b2 b3 : U8) (set : U32), 0x10000 ≤ a.toNat → a.toNat < 0x20000 → a.toNat % 4 = 0 →
      Completes (.qspiWrite a ⟨[b0, b1, b2, b3], set⟩) s (fun t =>
        Memory.read t.win a.toNat = b0 ∧ Memory.read t.win (a.toNat + 1) = b1 ∧ Memory.read t.win (a.toNat + 2) = b2 ∧ Memory.read t.win (a.toNat + 3) = b3 ∧
        (∀ x, x < a.toNat ∨ a.toNat + 4 ≤ x → Memory.read t.win x = Memory.read s.win x) ∧ Only [.win] s.toDev t) ∧
      Completes (.qspiQuadIoWrite a ⟨[b0, b1, b2, b3], set⟩) s (fun t =>
        Memory.read t.win a.toNat = b0 ∧ Memory.read t.win (a.toNat + 1) = b1 ∧ Memory.read t.win (a.toNat + 2) = b2 ∧ Memory.read t.win (a.toNat + 3) = b3 ∧
        (∀ x, x < a.toNat ∨ a.toNat + 4 ≤ x → Memory.read t.win x = Memory.read s.win x) ∧ Only [.win] s.toDev t)) ∧
    (∀ (v set : U32), Completes (.qspiWrite 8 ⟨leBytes 4 v.toNat, set⟩) s (fun t =>
        rd t HP_IRQ = rd s.toDev HP_IRQ &&& ~~~v ||| (set &&& 0x1F) ∧ RegsBut [HP_IRQ] s.toDev t ∧ Only [.regs] s.toDev t) ∧
      Completes (.qspiQuadIoWrite 8 ⟨leBytes 4 v.toNat, set⟩) s (fun t =>
        rd t HP_IRQ = rd s.toDev HP_IRQ &&& ~~~v ||| (set &&& 0x1F) ∧ RegsBut [HP_IRQ] s.toDev t ∧ Only [.regs] s.toDev t)) ∧
    Completes .qspiReadStatusByte s (fun t => ∃ b, t.host.qspiOut = [b] ∧ nbit b.toNat 0 = (rdN s.toDev HP_RPL_WP != rdN s.toDev HP_RPL_RP) ∧
      nbit b.toNat 1 = takesLongest s.toDev ∧ nbit b.toNat 2 = rdB s.toDev HP_STATUS 1 ∧ nbit b.toNat 3 = rdB s.toDev HP_STATUS 2 ∧ Only [.host] s.toDev t) ∧
    (∀ v, fld v 0 16 % 4 = 0 → (fld v 0 16 + 65536 - rdF s.toDev HP_CMD_WP 0 16) % 65536 ≤ ringFree (rdF s.toDev HP_CMD_RP 0 16) (rdF s.toDev HP_CMD_WP 0 16) →
      Completes (.hpCmdWpWrite v) s (fun t => rd t HP_CMD_WP = w32 (fld v 0 16) ∧ rdB t HP_STATUS 2 = false ∧
        (fld v 0 16 ≠ rdF s.toDev HP_CMD_WP 0 16 → t.host.ends = s.host.ends ++ [fld v 0 16]) ∧
        RegsBut [HP_CMD_WP, HP_STATUS] s.toDev t ∧ Only [.regs, .host] s.toDev t)) ∧
    (∀ v, fld v 0 16 % 4 ≠ 0 → Completes (.hpCmdWpWrite v) s (fun t => rdB t HP_STATUS 2 = true ∧ rdB t HP_IRQ 4 = true ∧
        RegsBut [HP_STATUS, HP_IRQ] s.toDev t ∧ Only [.regs] s.toDev t) ∧
      Completes (.hpRplRpWrite v) s (fun t => rdB t HP_STATUS 2 = true ∧ rdB t HP_IRQ 4 = true ∧
        RegsBut [HP_STATUS, HP_IRQ] s.toDev t ∧ Only [.regs] s.toDev t)) ∧
    (∀ v, fld v 0 16 % 4 = 0 →
      (fld v 0 16 + 65536 - rdF s.toDev HP_RPL_RP 0 16) % 65536 ≤ (rdF s.toDev HP_RPL_WP 0 16 + 65536 - rdF s.toDev HP_RPL_RP 0 16) % 65536 →
      Completes (.hpRplRpWrite v) s (fun t => rd t HP_RPL_RP = w32 (fld v 0 16) ∧ rdB t HP_STATUS 2 = false ∧ t.mem = s.mem ∧ t.strs = s.strs))

/-- 12 R367, R369, R389: the intake of packets from the command ring, and the fragments of packets that come over the cluster.
The model's choices in it: Log 57, 58, 61, 122, 134. -/
def Obligations.IntakeRows : Prop :=
  ∀ s : State, Awake s →
    (∀ e l, s.host.ends = e :: l → pairUp s.toDev 2 = true → rdB s.toDev HP_STATUS 1 = true → e < 65536 → Completes .packetIntake s (fun t =>
      t.host.ends = l ∧ rd t HP_CMD_RP = w32 e ∧ t.win = s.win ∧ t.strs = s.strs)) ∧
    (∀ p mac body, p < 2 → pairUp s.toDev 2 = true → clOn s.toDev = true → rdB s.toDev HP_STATUS 1 = true → body.length < 8 →
      Completes (.clusterCommandFragment p mac body) s (fun t => t.cl.hostPort = s.cl.hostPort ∧ t.cl.hostMac = s.cl.hostMac ∧
        rd t (CL_FRM_ERR + 4 * p) = w32 (min (rdN s.toDev (CL_FRM_ERR + 4 * p) + 1) 0xFFFFFFFF) ∧ t.host = s.host ∧ t.mem = s.mem)) ∧
    (∀ p mac w0 w1 data, p < 2 → pairUp s.toDev 2 = true → clOn s.toDev = true → rdB s.toDev HP_STATUS 1 = true →
      fld w0 16 4 = 0 → fld w1 16 16 = 0 → 1 ≤ fld w0 24 4 → fld w0 24 4 < 12 → fld w0 28 4 ≤ fld w0 24 4 → fld w1 0 16 = data.length →
      data.length % 4 = 0 → 4 ≤ data.length → data.length ≤ 1440 → (fld w0 28 4 < fld w0 24 4 → data.length = 1440) →
      s.host.reasm.find? (isReasm mac (fld w0 20 4) (fld w0 0 16)) = none → s.host.reasm.length < 16 →
      (mac, fld w0 20 4, fld w0 0 16) ∉ s.host.refused →
      Completes (.clusterCommandFragment p mac (leBytes 4 w0.toNat ++ leBytes 4 w1.toNat ++ data)) s (fun t =>
        t.host.reasm = s.host.reasm ++ [{ port := p, src := mac, sess := fld w0 20 4, tag := fld w0 0 16, nfrag := fld w0 24 4 + 1, frags := [(fld w0 28 4, data)] }] ∧
        t.cl.hostMac = mac ∧ Only [.host, .cl] s.toDev t)) ∧
    (∀ mac sn tag r, s.host.reasm.find? (isReasm mac sn tag) = some r → Completes (.reassemblyTimeout mac sn tag) s (fun t =>
      t.host.reasm.find? (isReasm mac sn tag) = none ∧ t.host.flight = s.host.flight ∧ t.mem = s.mem))

/-- 12 R373 to R376, R379, R380, R384: the timers of commands, sessions and the configuration transaction.
The model's choices in it: Log 6, 134. -/
def Obligations.HostTimerRows : Prop :=
  ∀ s : State, Awake s → pairUp s.toDev 2 = true →
    (∀ sn tag f, inFlight? s.toDev sn tag = some f → f.begun = true → f.op ≠ OP_CAN_TX → Completes (.commandTimeout sn tag) s (fun t =>
      posted t 2 Ev.CMD_TIMEOUT (sn + tag * 0x10000 + f.op * 2 ^ 48) ∧ inFlight? t sn tag = none ∧
      (∃ e, t.host.outcomes.head? = some e ∧ e.sess = f.cmd.sess ∧ e.tag = f.cmd.tag ∧ e.status = ST_TIMEOUT) ∧ t.mem = s.mem)) ∧
    (∀ sn tag f r, inFlight? s.toDev sn tag = some f → f.begun = true → f.interim = false → opRow f.op = some r → r.timeout > par s.toDev 0xA003 →
      Completes (.pendingInterim sn tag) s (fun t => (∃ g, inFlight? t sn tag = some g ∧ g.interim = true) ∧
        t.host.outcomes = s.host.outcomes ∧ Only [.exe, .host] s.toDev t)) ∧
    (∀ n, n < 8 → (getSess s.toDev n).st = .active → Completes (.sessionExpiry n) s (fun t => (getSess t n).st = .held ∧
      posted t 2 Ev.SESSION_EXPIRED n ∧
      (s.host.waiting = [] → RegsBut [HP_STATUS] s.toDev t ∧ t.win = s.win) ∧ CountedBut [HP_STATUS, HP_RPL_WP, HP_IRQ] s.toDev t ∧ t.mem = s.mem)) ∧
    (∀ n, n < 8 → (getSess s.toDev n).st = .held → Completes (.sessionHoldExpiry n) s (fun t => (getSess t n).st = .free ∧
      posted t 2 Ev.SESSION_DROPPED (n + undelivered s.toDev n * 2 ^ 32) ∧ t.mem = s.mem)) ∧
    (∀ n, n < 8 → (getSess s.toDev n).st = .authWait → Completes (.authDeadlineExpiry n) s (fun t => (getSess t n).st = .free ∧ t.mem = s.mem)) ∧
    (∀ p, p < 4 → Completes (.authLockoutExpiry p) s (fun t => Tbl.get 0 t.host.lockout p = 0 ∧
      (∀ q, q ≠ p → Tbl.get 0 t.host.lockout q = Tbl.get 0 s.host.lockout q) ∧ Only [.host] s.toDev t)) ∧
    (∀ x, s.host.txn = some x → Completes .configIdleTimeout s (fun t => t.host.txn = none ∧
      posted t 2 Ev.CONFIG_ABORT (x.owner + 2 * 256) ∧ t.parCfg = s.parCfg ∧ t.mem = s.mem))

/-! ## Host commands that read (spec 13) -/

/-- 13 R396, R397, R400, R403, R407, R415, R417, R424: the reads of fixed length: their reply is the words the spec names, and nothing
else happens, but that TIMEBASE_GET's read of the angle latches the cycle count (02 R40). -/
def Obligations.FixedReads : Prop :=
  ∀ (s : State) (c : HostCmd), Awake s →
    (admitted s.toDev OP_IDENTIFY c → Completes (.identify c) s (fun t => t = replied s.toDev OP_IDENTIFY c ST_OK
      [w32 (0x96400000 + Config.siliconRev.toNat * 0x100 + 2), w32 Config.serial.toNat, w32 (Config.serial.toNat / 2 ^ 32), fwVer s.toDev,
       w32 (b2n (rdB s.toDev PWR_BOOT 16) + b2n (nbit s.pwr.boot.flags (if rdB s.toDev PWR_BOOT 16 then 2 else 3)) * 2 + b2n s.host.kdev.isSome * 4 +
         b2n (parB s.toDev 0xA001) * 8), w32 (b2n (clOn s.toDev) * 2 ^ 31 + ownAddr s.toDev)])) ∧
    (admitted s.toDev OP_STATUS_GET c → Completes (.statusGet c) s (fun t => ∃ w, t = replied s.toDev OP_STATUS_GET c ST_OK w ∧ w.length = 11 ∧
      (∀ v, w[0]? = some v → fld v 28 4 = shownState s.toDev ∧ fld v 24 4 = fclass s.toDev) ∧
      w[2]? = some (rd s.toDev TB_STATUS) ∧ w[3]? = some (w32 s.tb.cyc) ∧ w[7]? = some (rd s.toDev SAF_STATUS) ∧
      w[8]? = some (w32 (s.log.next - 1)) ∧ w[9]? = some (w32 ((s.log.next - 1) / 2 ^ 32)))) ∧
    (admitted s.toDev OP_TIMEBASE_GET c → Completes (.timebaseGet c) s (fun t => rd t TB_CYC_LAT_LO = w32 s.tb.cyc ∧ rd t TB_CYC_LAT_HI = w32 (s.tb.cyc / 2 ^ 32) ∧
      t = ended (finish (latchCycle (begun s.toDev OP_TIMEBASE_GET c)) OP_TIMEBASE_GET c ST_OK
      [rd s.toDev TB_STATUS, rd s.toDev TB_ANGLE, w32 s.tb.cyc, w32 (s.tb.cyc / 2 ^ 32), rd s.toDev TB_FREQ, rd s.toDev TB_PERR,
       rd s.toDev TB_AMPL, rd s.toDev TB_LOCAL_CYC, rd s.toDev PISTE_STATUS]))) ∧
    (admitted s.toDev OP_DIRECT_READ c → Completes (.directRead c) s (fun t => t = replied s.toDev OP_DIRECT_READ c ST_OK
      ((List.range 40).map (fun i => rd s.toDev (ACQ_DIR_NOW + 4 * i)) ++ [rd s.toDev ACQ_FOC_STATUS, rd s.toDev ACQ_FOC_TEST]))) ∧
    (admitted s.toDev OP_SAFETY_READ c → Completes (.safetyRead c) s (fun t => t = replied s.toDev OP_SAFETY_READ c ST_OK
      [rd s.toDev SAF_STATUS, rd s.toDev SAF_SEO_STATE, rd s.toDev SAF_SEO_HOLD, rd s.toDev SAF_SIN_LEVEL, rd s.toDev SAF_SIN_DEMAND,
       rd s.toDev SAF_SIN_LATCH, rd s.toDev SAF_FBK, rd s.toDev SAF_TEST])) ∧
    (admitted s.toDev OP_EXEC_READ c → Completes (.execRead c) s (fun t => t = replied s.toDev OP_EXEC_READ c ST_OK
      ([EXE_STATUS, EXE_SPARE, EXE_CORE, EXE_PAIR, EXE_PAIR + 4, EXE_PAIR + 8, EXE_PAIR + 12, EXE_LANES, EXE_LAST_MM].map (regRead s.toDev) ++
        bytesToWords (healthBytes s.exe.health)))) ∧
    (admitted s.toDev OP_LIMITS_READ c → s.lim.frames.length = 36 → Completes (.limitsRead c) s (fun t =>
      t = replied s.toDev OP_LIMITS_READ c ST_OK (s.lim.frames ++ [w32 s.lim.pubCyc]))) ∧
    (admitted s.toDev OP_CLUSTER_READ c → clOn s.toDev = false → Completes (.clusterRead c) s (fun t =>
      t = replied s.toDev OP_CLUSTER_READ c ST_OK (w32 (par s.toDev 0xB003) :: List.replicate 14 0))) ∧
    (admitted s.toDev OP_CLUSTER_READ c → clOn s.toDev = true → par s.toDev 0xB002 < 256 → par s.toDev 0xB003 < 64 → s.cl.result.length = 32 → Completes (.clusterRead c) s (fun t =>
      ∃ w, t = replied s.toDev OP_CLUSTER_READ c ST_OK ([w, rd s.toDev CL_VIEW_LO, rd s.toDev CL_VIEW_HI] ++ s.cl.result.take 12) ∧
        (∀ h, s.cl.head = some h → h < 64 → fld w 8 6 = h) ∧ bitOf w 24 = (s.cl.head == some (par s.toDev 0xB003)))) ∧
    (admitted s.toDev OP_FW_INFO c → Completes (.fwInfo c) s (fun t => t = replied s.toDev OP_FW_INFO c ST_OK (bankInfo s.toDev false ++ bankInfo s.toDev true))) ∧
    (admitted s.toDev OP_SESSION_PING c → Completes (.sessionPing c) s (fun t => t = replied s.toDev OP_SESSION_PING c ST_OK []))

/-- 13 R393, R403, R404, R407, R408, R411, R422: the reads of a range of a table, and ranges refused.
13 R393: a reply above 4,096 words is refused with ST_LENGTH, by every command whose table can ask for one.
The model's choices in it: Log 57. -/
def Obligations.RangeReads : Prop :=
  (ReadsRange .ringStatus OP_RING_STATUS 32 8 (fun _ => []) (fun d n => (List.range 5).map (fun i => rd d (ringReg n (4 * i))) ++
    [w32 (getRing d n).totSeg, w32 (getRing d n).totFrm, w32 (getRing d n).totTmo]) ∧
  ReadsRange .unitMapGet OP_UNIT_MAP_GET 8128 5 (fun _ => []) (fun d i => [rd d (ACQ_UMAP + i * 8), rd d (ACQ_UMAP + i * 8 + 4),
    w32 (umapUnit i * 65536 + umapAddr i * 256 + umapRing i), w32 (Tbl.get 0 d.acq.serials i), w32 (Tbl.get 0 d.acq.serials i / 2 ^ 32)]) ∧
  ReadsRange .stringEstRead OP_STRING_EST_READ 128 21 (fun _ => []) stringEstWords ∧
  ReadsRange .thermalRead OP_THERMAL_READ 128 8 (fun _ => []) (fun d x => ldWords d (0x20DE0000 + x * 32) 8) ∧
  ReadsRange .stringRead OP_STRING_READ 128 18 (fun _ => []) stringReadWords ∧
  ReadsRange .dumpRead OP_DUMP_READ 128 1024 (fun _ => []) dumpPage) ∧
  (∀ (s : State) (c : HostCmd), Awake s → c.payload.length = 1 →
    (admitted s.toDev OP_UNIT_MAP_GET c → rangeFirst c 0 + rangeCount c 0 ≤ 8128 → 4096 < rangeCount c 0 * 5 →
      Completes (.unitMapGet c) s (fun t => t = replied s.toDev OP_UNIT_MAP_GET c ST_LENGTH [])) ∧
    (admitted s.toDev OP_DUMP_READ c → rangeFirst c 0 + rangeCount c 0 ≤ 128 → 4096 < rangeCount c 0 * 1024 →
      Completes (.dumpRead c) s (fun t => t = replied s.toDev OP_DUMP_READ c ST_LENGTH [])) ∧
    (admitted s.toDev OP_CATALOGUE_READ c → rangeFirst c 0 + rangeCount c 0 ≤ 65536 → 4096 < 2 + rangeCount c 0 * 32 →
      Completes (.catalogueRead c) s (fun t => t = replied s.toDev OP_CATALOGUE_READ c ST_LENGTH [])))

/-- 13 R400, R403, R406 to R408, R422, R423: reads with words of their own beside the range.
The model's choices in it: Log 57, 60, 68, 134. -/
def Obligations.SelectedReads : Prop :=
  ∀ (s : State) (c : HostCmd), Awake s →
    (admitted s.toDev OP_PISTE_READ c → c.payload.length = 2 → pwN c 1 < 2 → rangeFirst c 0 + rangeCount c 0 ≤ 256 → Completes (.pisteRead c) s (fun t =>
      t = replied s.toDev OP_PISTE_READ c ST_OK ((List.range (rangeCount c 0)).flatMap (fun i => (List.range 4).map (fun w =>
        bankWord s.toDev (if pwN c 1 = 0 then pubBank s.toDev else 1 - pubBank s.toDev) (rangeFirst c 0 + i) w))))) ∧
    (admitted s.toDev OP_HISTORY_READ c → c.payload.length = 3 → fld (pw c 2) 0 30 = 0 → rangeFirst c 0 + rangeCount c 0 ≤ 65536 → 4 + rangeCount c 0 * 2 ≤ 4096 →
      ∀ k, slotFor s.toDev c = .ok k → Completes (.historyRead c) s (fun t => t = replied s.toDev OP_HISTORY_READ c ST_OK
        ((List.range 4).map (slotWord s.toDev k) ++ (List.range (rangeCount c 0)).flatMap (fun i => ldWords s.toDev (cellHist k (rangeFirst c 0 + i)) 2)))) ∧
    (admitted s.toDev OP_STRING_SAMPLE_READ c → c.payload.length = 3 → fld (pw c 2) 0 30 = 0 → rangeFirst c 0 + rangeCount c 0 ≤ 128 →
      ∀ k, slotFor s.toDev c = .ok k → Completes (.stringSampleRead c) s (fun t => t = replied s.toDev OP_STRING_SAMPLE_READ c ST_OK
        ((List.range 4).map (slotWord s.toDev k) ++ (List.range (rangeCount c 0)).flatMap (fun i => ldWords s.toDev (strEnt k (rangeFirst c 0 + i)) 8)))) ∧
    (admitted s.toDev OP_HISTORY_READ c → c.payload.length = 3 → fld (pw c 2) 0 30 = 0 → rangeFirst c 0 + rangeCount c 0 ≤ 65536 → 4 + rangeCount c 0 * 2 ≤ 4096 →
      bitOf (pw c 2) 31 = true → newestSlot s.toDev = none → Completes (.historyRead c) s (fun t => t = replied s.toDev OP_HISTORY_READ c ST_NOT_PRESENT [])) ∧
    (c.payload.length = 3 → fld (pw c 2) 0 30 ≠ 0 →
      (admitted s.toDev OP_HISTORY_READ c → Completes (.historyRead c) s (fun t => t = replied s.toDev OP_HISTORY_READ c ST_BAD_PARAM [])) ∧
      (admitted s.toDev OP_STRING_SAMPLE_READ c → Completes (.stringSampleRead c) s (fun t => t = replied s.toDev OP_STRING_SAMPLE_READ c ST_BAD_PARAM []))) ∧
    (admitted s.toDev OP_SENSOR_READ c → c.payload.length = 1 → rangeCount c 0 ≤ 16384 → rangeFirst c 0 + rangeCount c 0 ≤ 32768 →
      Completes (.sensorRead c) s (fun t => t = replied s.toDev OP_SENSOR_READ c ST_OK
        (bytesToWords ((List.range (rangeCount c 0)).map (fun i => sensorByte s.toDev (mappedInputs s.toDev) (rangeFirst c 0 + i)))))) ∧
    (admitted s.toDev OP_CATALOGUE_READ c → c.payload.length = 1 → rangeFirst c 0 + rangeCount c 0 ≤ 65536 → 2 + rangeCount c 0 * 32 ≤ 4096 →
      s.pwr.saveOk = true → Completes (.catalogueRead c) s (fun t => t = replied s.toDev OP_CATALOGUE_READ c ST_OK
        ([rd s.toDev EST_LAST_SNAP, rd s.toDev EST_LAST_LSNAP] ++ (List.range (rangeCount c 0)).flatMap (fun i => catalogueWords s.toDev (rangeFirst c 0 + i))))) ∧
    (admitted s.toDev OP_CATALOGUE_READ c → c.payload.length = 1 → rangeFirst c 0 + rangeCount c 0 ≤ 65536 → 2 + rangeCount c 0 * 32 ≤ 4096 →
      s.pwr.saveOk = false → Completes (.catalogueRead c) s (fun t => t.host.catWait = s.host.catWait ++ [c] ∧
        t.host.outcomes = s.host.outcomes ∧ Only [.host, .actor] s.toDev t)) ∧
    (admitted s.toDev OP_COUNTER_READ c → c.payload.length = 2 → pwN c 1 = 0 → rangeFirst c 0 + rangeCount c 0 ≤ 2048 → Completes (.counterRead c) s (fun t =>
      t = replied s.toDev OP_COUNTER_READ c ST_OK ((List.range (rangeCount c 0)).flatMap (fun i =>
        [w32 (counterVal s.toDev (rangeFirst c 0 + i)), w32 (counterVal s.toDev (rangeFirst c 0 + i) / 2 ^ 32 + b2n (counterOvf s.toDev (rangeFirst c 0 + i)) * 2 ^ 31)])))) ∧
    (admitted s.toDev OP_COUNTER_READ c → c.payload.length = 2 → pwN c 1 = 1 → rangeFirst c 0 + rangeCount c 0 ≤ 2048 → Completes (.counterRead c) s (fun t =>
      t = if rdB s.toDev CNT_STATUS 2 then replied s.toDev OP_COUNTER_READ c ST_OK ((List.range (rangeCount c 0)).flatMap (fun i =>
            [rd s.toDev (CNT_VIT + (rangeFirst c 0 + i) * 8), rd s.toDev (CNT_VIT + (rangeFirst c 0 + i) * 8 + 4)]))
          else replied s.toDev OP_COUNTER_READ c ST_NOT_PRESENT [])) ∧
    (admitted s.toDev OP_LOG_READ c → c.payload.length = 3 → pwN c 2 ≤ 511 → Completes (.logRead c) s (fun t =>
      ∃ w, w.take 4 = [w32 (logLow s.toDev), w32 (logLow s.toDev / 2 ^ 32), w32 (logHigh s.toDev), w32 (logHigh s.toDev / 2 ^ 32)] ∧
        t = replied s.toDev OP_LOG_READ c (if pwN c 0 + pwN c 1 * 2 ^ 32 < logLow s.toDev then ST_OK_DEGRADED else ST_OK) w)) ∧
    (admitted s.toDev OP_CAN_STATUS c → c.payload.length = 1 → pwN c 0 < 8 → Completes (.canStatus c) s (fun t =>
      ∃ w, t = replied s.toDev OP_CAN_STATUS c ST_OK [w, rd s.toDev (canReg (pwN c 0) 0x84), rd s.toDev (canReg (pwN c 0) 0x88), rd s.toDev CAN_TSC] ∧
        bitOf w 18 = canRestricted s.toDev (pwN c 0) ∧ bitOf w 19 = ((getCan s.toDev (pwN c 0)).susp != 0 || (getCan s.toDev (pwN c 0)).suspObj != 0))) ∧
    (admitted s.toDev OP_PARAM_GET c → c.payload.length = 2 → pwN c 0 = 1 → pwN c 1 < 65536 → Completes (.paramGet c) s (fun t =>
      t = if (Params.paramRow (pwN c 1)).isNone then replied s.toDev OP_PARAM_GET c ST_NOT_PRESENT [w32 (pwN c 1)]
          else replied s.toDev OP_PARAM_GET c ST_OK [w32 (pwN c 1), w32 (par s.toDev (pwN c 1))])) ∧
    (admitted s.toDev OP_TAG_QUERY c → c.payload.length = 1 → fld (pw c 0) 20 12 = 0 →
      (∀ f, f ∈ s.host.flight → ¬(f.cmd.sess = fld (pw c 0) 16 4 ∧ f.cmd.tag = fld (pw c 0) 0 16)) →
      (s.host.outcomes.find? (fun e => e.sess == fld (pw c 0) 16 4 && e.tag == fld (pw c 0) 0 16) = none →
        Completes (.tagQuery c) s (fun t => t = replied s.toDev OP_TAG_QUERY c ST_NOT_PRESENT [])) ∧
      (∀ e, s.host.outcomes.find? (fun e => e.sess == fld (pw c 0) 16 4 && e.tag == fld (pw c 0) 0 16) = some e → e.priv ≤ privOf s.toDev c.sess →
        Completes (.tagQuery c) s (fun t => t = replied s.toDev OP_TAG_QUERY c ST_OK
          [w32 (e.sess * 0x10000 + e.tag), w32 (e.op * 0x10000 + e.status), w32 e.cyc, w32 (e.cyc / 2 ^ 32 % 65536 + b2n e.noFrame * 0x10000)])))

/-! ## Host commands that change the system, the configuration and sessions (spec 12, 13) -/

/-- 13 R355, R384, R385, R395, R398, R399, R401, R402, R404: service, the configuration transaction, the unit map, a step of the cycle count.
The model's choices in it: Log 57, 64. -/
def Obligations.ConfigurationCommands : Prop :=
  ∀ (s : State) (c : HostCmd), Awake s →
    (admitted s.toDev OP_SERVICE_ENTER c → Completes (.serviceEnter c) s (fun t => t.dev = .service ∧ answered t OP_SERVICE_ENTER c ST_OK ∧
      posted t 0 Ev.STATE_CHANGE (3 + 8 * 16) ∧ Only [.dev, .exe, .host, .log, .actor] s.toDev t)) ∧
    (admitted s.toDev OP_SERVICE_LEAVE c → s.exe.debug ≠ .service → Completes (.serviceLeave c) s (fun t => t.dev = .standby ∧
      answered t OP_SERVICE_LEAVE c ST_OK ∧ posted t 0 Ev.STATE_CHANGE (8 + 3 * 16) ∧ Only [.dev, .exe, .host, .log, .actor] s.toDev t)) ∧
    (admitted s.toDev OP_SERVICE_LEAVE c → s.exe.debug = .service → Completes (.serviceLeave c) s (fun t => t = replied s.toDev OP_SERVICE_LEAVE c ST_STATE [])) ∧
    (admitted s.toDev OP_CONFIG_BEGIN c → s.host.txn = none → Completes (.configBegin c) s (fun t => t.host.txn = some { owner := c.sess } ∧
      answered t OP_CONFIG_BEGIN c ST_OK ∧ Only [.exe, .host, .actor] s.toDev t)) ∧
    (admitted s.toDev OP_CONFIG_BEGIN c → s.host.txn.isSome = true → Completes (.configBegin c) s (fun t => t = replied s.toDev OP_CONFIG_BEGIN c ST_CONFLICT [])) ∧
    (∀ x, admitted s.toDev OP_CONFIG_ABORT c → s.host.txn = some x → x.owner = c.sess → Completes (.configAbort c) s (fun t => t.host.txn = none ∧
      answered t OP_CONFIG_ABORT c ST_OK ∧ posted t 2 Ev.CONFIG_ABORT (x.owner + 256 + c.tag * 0x10000) ∧ Only [.exe, .host, .log, .actor] s.toDev t)) ∧
    (∀ x, admitted s.toDev OP_PARAM_SET c → s.host.txn = some x → x.owner = c.sess → 1 ≤ pwN c 0 → pwN c 0 ≤ 512 → c.payload.length = 1 + 2 * pwN c 0 →
      (∀ e, e ∈ setPairs c → e.1 < 65536 ∧ ∃ r, Params.paramRow e.1 = some r ∧ r.admits e.2 = true ∧ (r.safety = true → 3 ≤ privOf s.toDev c.sess)) →
      ((setPairs c).foldl stageVal x.vals).length ≤ 4096 → Completes (.paramSet c) s (fun t =>
        t.host.txn = some { x with vals := (setPairs c).foldl stageVal x.vals } ∧ answered t OP_PARAM_SET c ST_OK ∧ Only [.exe, .host, .actor] s.toDev t)) ∧
    (∀ x r, admitted s.toDev OP_PARAM_SET c → s.host.txn = some x → x.owner = c.sess → pwN c 0 = 1 → c.payload.length = 3 → pwN c 1 < 65536 →
      Params.paramRow (pwN c 1) = some r → r.safety = false → r.admits (pwN c 2) = false → Completes (.paramSet c) s (fun t =>
        t = replied s.toDev OP_PARAM_SET c ST_BAD_PARAM [w32 (pwN c 1)])) ∧
    (∀ x, admitted s.toDev OP_CONFIG_COMMIT c → s.host.txn = some x → x.owner = c.sess → s.host.commit = none → within s.toDev s.host.commitAt 1000 = false →
      crossFail s.toDev (txnVal s.toDev x) (parC s.toDev) (x.vals.map (·.1)) = none → pisteFail s.toDev x.pistes = none → umapFail s.toDev x.umap = none →
      Completes (.configCommit c) s (fun t => t.host.txn = none ∧ (∃ m, t.host.commit = some m ∧ m.cmd = c ∧ m.txn = x ∧ m.seq = (s.host.cfgSeq + 1) % 2 ^ 32) ∧
        t.host.outcomes = s.host.outcomes ∧ Only [.mem, .exe, .host, .pwr, .actor] s.toDev t)) ∧
    (∀ x, s.host.txn = some x → x.owner ≠ c.sess →
      (admitted s.toDev OP_PARAM_SET c → Completes (.paramSet c) s (fun t => t = replied s.toDev OP_PARAM_SET c ST_STATE [])) ∧
      (admitted s.toDev OP_CONFIG_COMMIT c → Completes (.configCommit c) s (fun t => t = replied s.toDev OP_CONFIG_COMMIT c ST_STATE [])) ∧
      (admitted s.toDev OP_CONFIG_ABORT c → Completes (.configAbort c) s (fun t => t = replied s.toDev OP_CONFIG_ABORT c ST_STATE [])) ∧
      (admitted s.toDev OP_PISTE_WRITE c → Completes (.pisteWrite c) s (fun t => t = replied s.toDev OP_PISTE_WRITE c ST_STATE [])) ∧
      (admitted s.toDev OP_UNIT_MAP_SET c → Completes (.unitMapSet c) s (fun t => t = replied s.toDev OP_UNIT_MAP_SET c ST_STATE []))) ∧
    (∀ x, admitted s.toDev OP_PISTE_WRITE c → s.host.txn = some x → x.owner = c.sess → c.payload.length = 2 + 4 * rangeCount c 0 → pwN c 1 < 2 →
      rangeFirst c 0 + rangeCount c 0 ≤ 256 → 3 ≤ privOf s.toDev c.sess →
      (∀ i, i < rangeCount c 0 → gateEn (pw c (4 * i + 4)) = true → gateBad (pw c (4 * i + 2)) (pw c (4 * i + 3)) (pw c (4 * i + 4)) = false) →
      Completes (.pisteWrite c) s (fun t => (∃ y, t.host.txn = some y ∧ y.owner = x.owner ∧ y.vals = x.vals ∧ y.umap = x.umap ∧
          ∀ i, i < 4 * rangeCount c 0 → (pwN c 1, 4 * rangeFirst c 0 + i, pw c (2 + i)) ∈ y.pistes) ∧
        answered t OP_PISTE_WRITE c ST_OK ∧ Only [.exe, .host, .actor] s.toDev t)) ∧
    (∀ x i, admitted s.toDev OP_UNIT_MAP_SET c → s.host.txn = some x → x.owner = c.sess → pwN c 0 = 1 → c.payload.length = 6 → entryIdx (pw c 3) = some i →
      umapFail s.toDev (x.umap.filter (fun e => e.1 != i) ++ [(i, [pw c 1, pw c 2, pw c 3, pw c 4, pw c 5])]) = none → Completes (.unitMapSet c) s (fun t =>
        t.host.txn = some { x with umap := x.umap.filter (fun e => e.1 != i) ++ [(i, [pw c 1, pw c 2, pw c 3, pw c 4, pw c 5])] } ∧
        answered t OP_UNIT_MAP_SET c ST_OK ∧ Only [.exe, .host, .actor] s.toDev t)) ∧
    (∀ d : Int, admitted s.toDev OP_TIMEBASE_ALIGN c → c.payload.length = 2 → d.natAbs ≤ 2 ^ 47 - 1 → d % 2 ^ 64 = (pwN c 0 + pwN c 1 * 2 ^ 32 : Nat) →
      isReference s.toDev = true → s.tb.alignDue = none →
      (d ≠ 0 → Completes (.timebaseAlign c) s (fun t => t.tb = { s.tb with alignDue := some d } ∧ t.host.align = some c ∧ t.host.outcomes = s.host.outcomes ∧
        Only [.tb, .host, .actor] s.toDev t)) ∧
      (d = 0 → Completes (.timebaseAlign c) s (fun t => t = replied s.toDev OP_TIMEBASE_ALIGN c ST_OK [w32 s.tb.cyc, w32 (s.tb.cyc / 2 ^ 32)]))) ∧
    (∀ d : Int, admitted s.toDev OP_TIMEBASE_ALIGN c → c.payload.length = 2 → d.natAbs ≤ 2 ^ 47 - 1 → d % 2 ^ 64 = (pwN c 0 + pwN c 1 * 2 ^ 32 : Nat) →
      (isReference s.toDev = false → Completes (.timebaseAlign c) s (fun t => t = replied s.toDev OP_TIMEBASE_ALIGN c ST_CONFLICT [])) ∧
      (isReference s.toDev = true → s.tb.alignDue.isSome = true → Completes (.timebaseAlign c) s (fun t => t = replied s.toDev OP_TIMEBASE_ALIGN c ST_BUSY [])))

/-- 12 R374 to R376, R380, R383, 13 R417: sessions open, prove themselves, close; a command is cancelled; notices; the device key.
The model's choices in it: Log 57, 59, 60. -/
def Obligations.SessionCommands : Prop :=
  ∀ (s : State) (c : HostCmd), Awake s →
    (∀ n, admitted s.toDev OP_SESSION_OPEN c → c.payload.length = 5 → pw c 0 = 0 → parB s.toDev 0xA001 = true → Tbl.get 0 s.host.lockout 0 = 0 →
      (List.range 8).find? (fun k => (getSess s.toDev k).st == .free) = some n → Completes (.sessionOpen c) s (fun t =>
        (getSess t n).st = .active ∧ (getSess t n).priv = 0 ∧ (getSess t n).auth = false ∧ answered t OP_SESSION_OPEN c ST_OK ∧
        posted t 2 Ev.SESSION_OPEN (n + c.tag * 0x10000) ∧ t.mem = s.mem ∧ RegsBut [HP_STATUS] s.toDev t)) ∧
    (∀ n p, admitted s.toDev OP_SESSION_OPEN c → c.payload.length = 5 → pwN c 0 = p → 1 ≤ p → p < 4 → s.host.kdev.isSome = true → Tbl.get 0 s.host.lockout p = 0 →
      (p = 3 → ∀ k, k < 8 → (getSess s.toDev k).st = .free ∨ (getSess s.toDev k).priv ≠ 3) →
      (List.range 8).find? (fun k => (getSess s.toDev k).st == .free) = some n → Completes (.sessionOpen c) s (fun t =>
        (getSess t n).st = .authWait ∧ (getSess t n).priv = p ∧ (getSess t n).nh = (c.payload.drop 1).take 4 ∧ answered t OP_SESSION_OPEN c ST_OK ∧
        t.mem = s.mem ∧ t.log = s.log ∧ RegsBut [HP_STATUS] s.toDev t)) ∧
    (admitted s.toDev OP_SESSION_OPEN c → c.payload.length = 5 → pwN c 0 < 4 → Tbl.get 0 s.host.lockout (pwN c 0) ≠ 0 →
      Completes (.sessionOpen c) s (fun t => t = replied s.toDev OP_SESSION_OPEN c ST_BUSY [])) ∧
    (admitted s.toDev OP_SESSION_OPEN c → c.payload.length = 5 → pwN c 0 < 4 → Tbl.get 0 s.host.lockout (pwN c 0) = 0 → pwN c 0 ≠ 0 → s.host.kdev = none →
      Completes (.sessionOpen c) s (fun t => t = replied s.toDev OP_SESSION_OPEN c ST_AUTH [])) ∧
    (∀ k x, admitted s.toDev OP_SESSION_AUTH c → c.payload.length = 8 → c.sess < 8 → getSess s.toDev c.sess = x → x.st = .authWait → x.resume = false →
      s.host.kdev = some k →
      Completes (.sessionAuth c) s (fun t => t.mem = s.mem ∧
        (wordsToBytes c.payload = proofOf "GXAUTH-H" k c.sess x.priv x.nh x.nd →
          (getSess t c.sess).st = .active ∧ (getSess t c.sess).auth = true ∧ (getSess t c.sess).key = sessKey k c.sess x.priv x.nh x.nd ∧
          answered t OP_SESSION_AUTH c ST_OK ∧ posted t 2 Ev.SESSION_OPEN (c.sess + x.priv * 256 + c.tag * 0x10000)) ∧
        (wordsToBytes c.payload ≠ proofOf "GXAUTH-H" k c.sess x.priv x.nh x.nd →
          (getSess t c.sess).st = .free ∧ answered t OP_SESSION_AUTH c ST_AUTH ∧ posted t 2 Ev.AUTH_FAIL (c.sess + x.priv * 256 + c.tag * 0x10000)))) ∧
    (admitted s.toDev OP_SESSION_CLOSE c → c.sess < 8 → Completes (.sessionClose c) s (fun t => (getSess t c.sess).st = .free ∧
      answered t OP_SESSION_CLOSE c ST_OK ∧ posted t 2 Ev.SESSION_CLOSED (c.sess + c.tag * 0x10000) ∧ t.mem = s.mem ∧ RegsBut [HP_STATUS] s.toDev t)) ∧
    (∀ f, admitted s.toDev OP_CMD_CANCEL c → c.payload.length = 1 → pwN c 0 < 65536 →
      s.host.flight.find? (fun f => f.cmd.sess == c.sess && f.cmd.tag == pwN c 0 && !f.timedOut && f.cmd != c) = some f →
      (f.begun = false → Completes (.cmdCancel c) s (fun t => answered t OP_CMD_CANCEL c ST_OK ∧ f ∉ t.host.flight ∧
        (∃ e, t.host.outcomes[1]? = some e ∧ e.sess = f.cmd.sess ∧ e.tag = f.cmd.tag ∧ e.status = ST_CANCELLED) ∧ Only [.exe, .host, .actor] s.toDev t)) ∧
      (f.begun = true → f.op ≠ OP_CAN_TX → Completes (.cmdCancel c) s (fun t => t = replied s.toDev OP_CMD_CANCEL c ST_CONFLICT [])) ∧
      (f.begun = true → f.op = OP_CAN_TX → canPending s.toDev f.cmd = true → pairUp s.toDev 3 = true → Completes (.cmdCancel c) s (fun t =>
        (∃ r, (getPair t 3).rel = (getPair s.toDev 3).rel ++ [r] ∧ r.eff = .canCancel f.cmd ST_CANCELLED (some c)) ∧
        t.host.outcomes = s.host.outcomes ∧ Only [.exe, .host, .actor] s.toDev t))) ∧
    (admitted s.toDev OP_CMD_CANCEL c → c.payload.length = 1 → pwN c 0 < 65536 →
      s.host.flight.find? (fun f => f.cmd.sess == c.sess && f.cmd.tag == pwN c 0 && !f.timedOut && f.cmd != c) = none →
      Completes (.cmdCancel c) s (fun t => t = replied s.toDev OP_CMD_CANCEL c ST_NOT_PRESENT [])) ∧
    (admitted s.toDev OP_NOTICE_SUBSCRIBE c → c.payload.length = 1 → pwN c 0 < 64 → c.sess < 8 → Completes (.noticeSubscribe c) s (fun t =>
      (getSess t c.sess).sub = pwN c 0 ∧ (∀ m, m ≠ c.sess → (getSess t m).sub = (getSess s.toDev m).sub) ∧ answered t OP_NOTICE_SUBSCRIBE c ST_OK ∧
      Only [.exe, .host, .actor] s.toDev t)) ∧
    (admitted s.toDev OP_KEY_PROVISION c → c.payload.length = 8 → c.payload.all (fun w => w == 0) = false →
      (s.host.kdev = none → Completes (.keyProvision c) s (fun t => t.host.kdev = some (wordsToBytes c.payload) ∧ answered t OP_KEY_PROVISION c ST_OK ∧
        Only [.exe, .host, .actor] s.toDev t)) ∧
      (s.host.kdev.isSome = true → Completes (.keyProvision c) s (fun t => t.host.kdev = some (wordsToBytes c.payload) ∧ answered t OP_KEY_PROVISION c ST_OK ∧
        (∀ m, m < 8 → m ≠ c.sess → (getSess t m).st = .free) ∧ t.mem = s.mem ∧ t.strs = s.strs)))

/-- 12 R384, 13 R395, R398, R399, R401, R402, R404, 12 R385: every command of this group runs to its own effect: `exec` answers the next
state in which service is entered or left, the transaction is opened, filled, committed or aborted, or the step of the cycle count is
taken up. -/
def Obligations.ConfigurationCommandsComplete : Prop :=
  ∀ (s : State) (c : HostCmd), Awake s →
    (admitted s.toDev OP_SERVICE_ENTER c → ∃ t, Machine.exec (.serviceEnter c) s = .next t ∧ t.dev = .service) ∧
    (admitted s.toDev OP_SERVICE_LEAVE c → s.exe.debug ≠ .service → ∃ t, Machine.exec (.serviceLeave c) s = .next t ∧ t.dev = .standby) ∧
    (admitted s.toDev OP_CONFIG_BEGIN c → s.host.txn = none → ∃ t, Machine.exec (.configBegin c) s = .next t ∧ t.host.txn = some { owner := c.sess }) ∧
    (∀ x, s.host.txn = some x → x.owner = c.sess →
      (∀ r, admitted s.toDev OP_PARAM_SET c → pwN c 0 = 1 → c.payload.length = 3 → pwN c 1 < 65536 → Params.paramRow (pwN c 1) = some r →
        r.admits (pwN c 2) = true → (r.safety = true → 3 ≤ privOf s.toDev c.sess) → x.vals.length < 4096 →
        ∃ t, Machine.exec (.paramSet c) s = .next t ∧ t.host.txn = some { x with vals := stageVal x.vals (pwN c 1, pwN c 2) }) ∧
      (admitted s.toDev OP_CONFIG_COMMIT c → s.host.commit = none → within s.toDev s.host.commitAt 1000 = false →
        crossFail s.toDev (txnVal s.toDev x) (parC s.toDev) (x.vals.map (·.1)) = none → pisteFail s.toDev x.pistes = none →
        umapFail s.toDev x.umap = none → ∃ t, Machine.exec (.configCommit c) s = .next t ∧ t.host.txn = none ∧ t.host.commit.isSome = true) ∧
      (admitted s.toDev OP_CONFIG_ABORT c → ∃ t, Machine.exec (.configAbort c) s = .next t ∧ t.host.txn = none) ∧
      (∀ k, admitted s.toDev OP_PISTE_WRITE c → c.payload.length = 6 → pwN c 0 = 0x10000 + k → k < 256 → pwN c 1 < 2 → 3 ≤ privOf s.toDev c.sess →
        (gateEn (pw c 4) = true → gateBad (pw c 2) (pw c 3) (pw c 4) = false) →
        ∃ t, Machine.exec (.pisteWrite c) s = .next t ∧ ∃ y, t.host.txn = some y ∧ (pwN c 1, 4 * k, pw c 2) ∈ y.pistes ∧ y.vals = x.vals) ∧
      (∀ i, admitted s.toDev OP_UNIT_MAP_SET c → pwN c 0 = 1 → c.payload.length = 6 → entryIdx (pw c 3) = some i →
        umapFail s.toDev (x.umap.filter (fun e => e.1 != i) ++ [(i, [pw c 1, pw c 2, pw c 3, pw c 4, pw c 5])]) = none →
        ∃ t, Machine.exec (.unitMapSet c) s = .next t ∧
          t.host.txn = some { x with umap := x.umap.filter (fun e => e.1 != i) ++ [(i, [pw c 1, pw c 2, pw c 3, pw c 4, pw c 5])] })) ∧
    (∀ d : Int, admitted s.toDev OP_TIMEBASE_ALIGN c → c.payload.length = 2 → d ≠ 0 → d.natAbs ≤ 2 ^ 47 - 1 → d % 2 ^ 64 = (pwN c 0 + pwN c 1 * 2 ^ 32 : Nat) →
      isReference s.toDev = true → s.tb.alignDue = none → ∃ t, Machine.exec (.timebaseAlign c) s = .next t ∧ t.tb.alignDue = some d)

/-! ## Host commands to strings, safety, pairs and rings (spec 13 R403 to R416) -/

/-- 09 R269, R270, R274, R282, R285, R286, 13 R412, R413: connect, disconnect, lock, unlock and weld release of one string.
The model's choices in it: Log 57, 88, 89. -/
def Obligations.StringCommands : Prop :=
  ∀ (s : State) (c : HostCmd) (x : Nat), Awake s → maskStrs c = [x] →
    (∀ dv : Int, admitted s.toDev OP_STRING_CONNECT c → c.payload.length = 4 → s.pwr.hibStep = 0 → (∀ f, flightOf s.toDev c = some f → f.cut = []) →
      (suOf s.toDev x).isSome = true → connectOk s.toDev x = true → busLive s.toDev x = false → fbkOfBus s.toDev (busOf s.toDev x) = [] →
      dv = dvNow s.toDev x →
      (dv.natAbs ≤ par s.toDev 0x7005 * 2 → Completes (.stringConnect c) s (fun t => (getStr t x).st = .sJoining ∧ answered t OP_STRING_CONNECT c ST_OK ∧ t.mem = s.mem)) ∧
      (par s.toDev 0x7005 * 2 < dv.natAbs → (getStr s.toDev x).eacc + predicted s.toDev dv ≤ par s.toDev 0x7003 * 1000 →
        Completes (.stringConnect c) s (fun t => (getStr t x).st = .sPrecharging ∧ (getStr t x).dv0 = dv ∧ answered t OP_STRING_CONNECT c ST_OK ∧ t.mem = s.mem)) ∧
      ((∀ e, e ∈ s.strs → e.1 ≠ x → e.2.conn ≠ .waitBus) → par s.toDev 0x7005 * 2 < dv.natAbs →
        par s.toDev 0x7003 * 1000 < (getStr s.toDev x).eacc + predicted s.toDev dv →
        Completes (.stringConnect c) s (fun t => t.strs = s.strs ∧ answered t OP_STRING_CONNECT c ST_BUSY ∧
          posted t 0 Ev.PRECHARGE_BUDGET (x + budgetWait s.toDev (getStr s.toDev x).eacc (predicted s.toDev dv) * 2 ^ 32) ∧ Only [.exe, .host, .log, .inForce, .actor] s.toDev t))) ∧
    (admitted s.toDev OP_STRING_CONNECT c → c.payload.length = 4 → s.pwr.hibStep = 0 → (∀ f, flightOf s.toDev c = some f → f.cut = []) →
      (suOf s.toDev x).isSome = true → (getStr s.toDev x).st ≠ .sClosed → connectOk s.toDev x = false → Completes (.stringConnect c) s (fun t =>
        ∃ w, t = replied s.toDev OP_STRING_CONNECT c ST_CONFLICT w)) ∧
    (admitted s.toDev OP_STRING_DISCONNECT c → c.payload.length = 4 → connected s.toDev x = true → (getStr s.toDev x).conn ≠ .waitBus → (getStr s.toDev x).opn = .none →
      Completes (.stringDisconnect c) s (fun t => (getStr t x).st = .sOpening ∧ answered t OP_STRING_DISCONNECT c ST_OK ∧
        posted t 0 Ev.DISCONNECT_CMD (x + c.sess * 0x100) ∧ ((getStr s.toDev x).loaded = false → (getStr t x).opn = .first ∧ t.mem = s.mem ∧ t.lim = s.lim))) ∧
    (admitted s.toDev OP_STRING_DISCONNECT c → c.payload.length = 4 → (suOf s.toDev x).isSome = true → connected s.toDev x = false → (getStr s.toDev x).conn = .waitBus →
      Completes (.stringDisconnect c) s (fun t => (getStr t x).conn = .none ∧ (getStr t x).st = (getStr s.toDev x).st ∧ answered t OP_STRING_DISCONNECT c ST_OK ∧ t.mem = s.mem)) ∧
    (admitted s.toDev OP_STRING_LOCK c → c.payload.length = 4 → (suOf s.toDev x).isSome = true →
      ((getStr s.toDev x).st = .sOpen → Completes (.stringLock c) s (fun t => (getStr t x).st = .sLockedOut ∧ (getStr t x).lockEvt = 0 ∧
        raised s.toDev t 0 Ev.STRING_LOCKOUT x x ∧ t.pwr.saveDue = true ∧ answered t OP_STRING_LOCK c ST_OK ∧
        (∀ y, y ≠ x → getStr t y = getStr s.toDev y) ∧ Only [.strs, .exe, .host, .log, .pwr, .inForce, .actor] s.toDev t)) ∧
      (connected s.toDev x = true → Completes (.stringLock c) s (fun t => ∃ w, t = replied s.toDev OP_STRING_LOCK c ST_CONFLICT w))) ∧
    (admitted s.toDev OP_STRING_UNLOCK c → c.payload.length = 4 → (suOf s.toDev x).isSome = true → (getStr s.toDev x).st = .sLockedOut →
      (safetyLock (getStr s.toDev x).lockEvt = false → causeGone s.toDev x = true → Completes (.stringUnlock c) s (fun t => (getStr t x).st = .sOpen ∧
        posted t 0 Ev.STRING_UNLOCK x ∧ t.pwr.saveDue = true ∧ answered t OP_STRING_UNLOCK c ST_OK ∧
        (∀ y, y ≠ x → getStr t y = getStr s.toDev y) ∧ Only [.strs, .exe, .host, .log, .pwr, .inForce, .actor] s.toDev t)) ∧
      (safetyLock (getStr s.toDev x).lockEvt = true → Completes (.stringUnlock c) s (fun t => ∃ w, t = replied s.toDev OP_STRING_UNLOCK c ST_CONFLICT w))) ∧
    (admitted s.toDev OP_STRING_WELD_RELEASE c → c.payload.length = 5 → pw c 4 = 0 → (suOf s.toDev x).isSome = true →
      ((getStr s.toDev x).st = .sWeldSuspect → Completes (.stringWeldRelease c) s (fun t => (getStr t x).relAsked = true ∧ (getStr t x).relN = 0 ∧ (getStr t x).st = .sWeldSuspect ∧
        t.host.welds = s.host.welds ++ [(c, [(x, 0xFFFF)])] ∧ t.host.outcomes = s.host.outcomes ∧ Only [.strs, .host, .actor] s.toDev t)) ∧
      ((getStr s.toDev x).st ≠ .sWeldSuspect → Completes (.stringWeldRelease c) s (fun t => ∃ w, t = replied s.toDev OP_STRING_WELD_RELEASE c ST_OK w)))

/-- 10 R310, R319, 11 R350, R355, 13 R415: SAFETY_RESET, SIN_RESET, CORE_UNFENCE and DEBUG_SET. -/
def Obligations.SafetyAndExecCommands : Prop :=
  ∀ (s : State) (c : HostCmd), Awake s →
    (admitted s.toDev OP_SAFETY_RESET c →
      (resetBars s.toDev ≠ 0 → Completes (.safetyReset c) s (fun t => t = replied s.toDev OP_SAFETY_RESET c ST_CONFLICT [w32 (resetBars s.toDev)])) ∧
      (resetBars s.toDev = 0 → Completes (.safetyReset c) s (fun t =>
        (pairUp s.toDev 0 = true → ∃ r, r ∈ (getPair t 0).rel ∧ r.eff = .clear (if c.sess < 8 then c.sess else 0xF) false resetAll) ∧ t.regs = s.regs ∧
        t.saf.latchEvt = 0 ∧ t.dev = (if s.dev = .safeHold then .standby else s.dev) ∧ (∀ e, e ∈ t.inForce → Ev.cls e.code ≠ 5) ∧
        posted t 0 Ev.SAFE_RESET (c.sess * 0x100) ∧ answered t OP_SAFETY_RESET c ST_OK ∧ t.mem = s.mem ∧ t.lim = s.lim))) ∧
    (∀ n, admitted s.toDev OP_SIN_RESET c → c.payload.length = 1 → n < 16 → pwN c 0 = 2 ^ n →
      (pairUp s.toDev 0 = true → rdB s.toDev SAF_SIN_LATCH n = true → sinReleased s.toDev n = true → Completes (.sinReset c) s (fun t =>
        (∃ r, (getPair t 0).rel = (getPair s.toDev 0).rel ++ [r] ∧ r.eff = .clear (if c.sess < 8 then c.sess else 0xF) true (w32 (2 ^ n))) ∧
        answered t OP_SIN_RESET c ST_OK ∧ Only [.exe, .host, .actor] s.toDev t)) ∧
      (rdB s.toDev SAF_SIN_LATCH n = false ∨ sinReleased s.toDev n = false → Completes (.sinReset c) s (fun t => answered t OP_SIN_RESET c ST_OK ∧
        (pairUp s.toDev 0 = true → ∃ r, (getPair t 0).rel = (getPair s.toDev 0).rel ++ [r] ∧ r.eff = .clear (if c.sess < 8 then c.sess else 0xF) true 0) ∧
        Only [.exe, .host, .actor] s.toDev t))) ∧
    (admitted s.toDev OP_CORE_UNFENCE c → c.payload.length = 1 → 1 ≤ pwN c 0 → pwN c 0 < 512 → Completes (.coreUnfence c) s (fun t =>
      (∀ i, i < 9 → nbit t.exe.health.fenced i = (nbit s.exe.health.fenced i && !bitOf (pw c 0) i)) ∧ t.exe.healthDue = true ∧
      t.exe.health.retired = s.exe.health.retired ∧ t.exe.spare = s.exe.spare ∧ (∀ p, (getPair t p).formed = (getPair s.toDev p).formed) ∧
      answered t OP_CORE_UNFENCE c ST_OK ∧ Only [.exe, .host, .log, .inForce, .actor] s.toDev t)) ∧
    (admitted s.toDev OP_DEBUG_SET c → c.payload.length = 1 →
      (pwN c 0 = 1 → Completes (.debugSet c) s (fun t => t.exe.debug = .live ∧ (s.exe.debug ≠ .live → posted t 2 Ev.MODE_CHANGE (8 + 1 * 0x100)) ∧
        answered t OP_DEBUG_SET c ST_OK ∧ Only [.exe, .host, .log, .pwr, .actor] s.toDev t)) ∧
      (pwN c 0 = 0 → Completes (.debugSet c) s (fun t => t.exe.debug = .off ∧ t.exe.halted = 0 ∧
        (∀ p, p < 4 → (getPair s.toDev p).broken = true → (getPair t p).restore = true) ∧ answered t OP_DEBUG_SET c ST_OK ∧ Only [.exe, .host, .log, .pwr, .actor] s.toDev t)) ∧
      (pwN c 0 = 2 → 3 ≤ privOf s.toDev c.sess → s.dev = .service → stringsOff s.toDev = true → Completes (.debugSet c) s (fun t => t.exe.debug = .service ∧
        answered t OP_DEBUG_SET c ST_OK ∧ Only [.exe, .host, .log, .pwr, .actor] s.toDev t)) ∧
      (pwN c 0 = 2 → privOf s.toDev c.sess < 3 → Completes (.debugSet c) s (fun t => t = replied s.toDev OP_DEBUG_SET c ST_PRIVILEGE [])) ∧
      (pwN c 0 = 2 → 3 ≤ privOf s.toDev c.sess → s.dev ≠ .service ∨ stringsOff s.toDev = false → Completes (.debugSet c) s (fun t => t = replied s.toDev OP_DEBUG_SET c ST_STATE [])))

/-- 03 R97, R107, 04 R137 to R139, 13 R403, R405: the host's commands to rings, nodes and the balancing checks. That payload bits which no
table lists are reserved, for RING_LEAVE and NODE_READ, is the model's choice (log 113).
The model's choices in it: Log 57. -/
def Obligations.RingCommands : Prop :=
  ∀ (s : State) (c : HostCmd), Awake s →
    (∀ n, admitted s.toDev OP_RING_ENUMERATE c → c.payload.length = 1 → n < 32 → pwN c 0 = 2 ^ n → pairUp s.toDev 1 = true → ringOn s.toDev n = true → (getRing s.toDev n).enm = none →
      (getRing s.toDev n).exch = none → (getRing s.toDev n).held = none → Completes (.ringEnumerate c) s (fun t => (getRing t n).enm.isSome = true ∧ (getRing t n).nodes = [] ∧
        (c, [n]) ∈ t.host.enums ∧ t.mem = s.mem ∧ t.strs = s.strs ∧ ∀ m, m ≠ n → (getRing t m).nodes = (getRing s.toDev m).nodes)) ∧
    (∀ n a, admitted s.toDev OP_RING_LEAVE c → c.payload.length = 1 → fld (pw c 0) 5 3 = 0 → fld (pw c 0) 15 17 = 0 → fld (pw c 0) 0 5 = n → fld (pw c 0) 8 7 = a →
      ((liveRings s.toDev).contains n = true → (nodeAddrs s.toDev n).contains a = true → leaveBarred s.toDev n a = false → pairUp s.toDev 1 = true → Completes (.ringLeave c) s (fun t => (nodeAddrs t n).contains a = false ∧
        ringMode t n = 2 ∧ posted t 1 Ev.RING_LEAVE (n + a * 256) ∧ answered t OP_RING_LEAVE c ST_OK ∧ t.mem = s.mem ∧ t.strs = s.strs ∧
        ∀ m, m ≠ n → getRing t m = getRing s.toDev m)) ∧
      ((liveRings s.toDev).contains n = true → (nodeAddrs s.toDev n).contains a = true → leaveBarred s.toDev n a = true → Completes (.ringLeave c) s (fun t => t = replied s.toDev OP_RING_LEAVE c ST_CONFLICT [])) ∧
      ((liveRings s.toDev).contains n = false ∨ (nodeAddrs s.toDev n).contains a = false → Completes (.ringLeave c) s (fun t => t = replied s.toDev OP_RING_LEAVE c ST_NOT_PRESENT []))) ∧
    (admitted s.toDev OP_RING_LEAVE c → c.payload.length = 1 → fld (pw c 0) 5 3 ≠ 0 ∨ fld (pw c 0) 15 17 ≠ 0 →
      Completes (.ringLeave c) s (fun t => t = replied s.toDev OP_RING_LEAVE c ST_BAD_PARAM [])) ∧
    (admitted s.toDev OP_NODE_READ c → c.payload.length = 2 → fld (pw c 0) 5 3 ≠ 0 ∨ fld (pw c 0) 15 9 ≠ 0 ∨ fld (pw c 0) 25 6 ≠ 0 →
      Completes (.nodeRead c) s (fun t => t = replied s.toDev OP_NODE_READ c ST_BAD_PARAM [])) ∧
    (∀ n, admitted s.toDev OP_NODE_READ c → c.payload.length = 2 → fld (pw c 0) 5 3 = 0 → fld (pw c 0) 15 9 = 0 → fld (pw c 0) 25 6 = 0 →
      fld (pw c 1) 8 24 = 0 → fld (pw c 0) 0 5 = n → bitOf (pw c 0) 31 = false →
      ((liveRings s.toDev).contains n = true → pairUp s.toDev 1 = true → Completes (.nodeRead c) s (fun t =>
        (∃ r, (getPair t 1).rel = (getPair s.toDev 1).rel ++ [r] ∧
          ∃ k, r.eff = .ring n (.cmd k) ∧ k.addr = fld (pw c 0) 8 7 ∧ k.unit = fld (pw c 0) 24 1 ∧ k.opcode = 1 ∧ k.args = [fld (pw c 1) 0 8]) ∧
        t.host.outcomes = s.host.outcomes ∧ Only [.exe, .host, .actor] s.toDev t)) ∧
      ((liveRings s.toDev).contains n = false → Completes (.nodeRead c) s (fun t => t = replied s.toDev OP_NODE_READ c ST_NOT_PRESENT []))) ∧
    (admitted s.toDev OP_BAL_CLEAR c → c.payload.length = 1 → fld (pw c 0) 16 15 ≠ 0 →
      Completes (.balClear c) s (fun t => t = replied s.toDev OP_BAL_CLEAR c ST_BAD_PARAM [])) ∧
    (admitted s.toDev OP_BAL_CLEAR c → c.payload.length = 1 → fld (pw c 0) 16 15 = 0 →
      (bitOf (pw c 0) 31 = true → Completes (.balClear c) s (fun t => t.acq.balStop = [] ∧ t.acq.balNoCur = [] ∧ t.acq.balStuck = [] ∧
        answered t OP_BAL_CLEAR c ST_OK ∧ Only [.acq, .exe, .host, .log, .inForce, .actor] s.toDev t)) ∧
      (bitOf (pw c 0) 31 = false → Completes (.balClear c) s (fun t => fld (pw c 0) 0 16 ∉ t.acq.balStop ∧
        (∀ y, y ≠ fld (pw c 0) 0 16 → y ∈ s.acq.balStop → y ∈ t.acq.balStop) ∧ Tbl.get 0 t.acq.balStuck (fld (pw c 0) 0 16) = 0 ∧
        answered t OP_BAL_CLEAR c ST_OK ∧ Only [.acq, .exe, .host, .log, .inForce, .actor] s.toDev t)))

/-! ## Host commands to capacity, master sets, CAN, captures, firmware and power (spec 13 R409, R410, R418 to R427) -/

/-- 13 R409, R410: a capacity written, and master-set data staged.
The model's choices in it: Log 57, 69. -/
def Obligations.EstimationCommands : Prop :=
  ∀ (s : State) (c : HostCmd), Awake s →
    (∀ x v, admitted s.toDev OP_CAPACITY_WRITE c → x < 128 → c.payload = [w32 (x + 0x100), 0, v] →
      (ratedCap s.toDev x ≤ 2 * v.toNat → 2 * v.toNat ≤ 3 * ratedCap s.toDev x → Completes (.capacityWrite c) s (fun t => capS t x = v.toNat ∧ t.pwr.saveDue = true ∧
        answered t OP_CAPACITY_WRITE c ST_OK ∧ t.regs = s.regs ∧ t.strs = s.strs)) ∧
      (2 * v.toNat < ratedCap s.toDev x ∨ 3 * ratedCap s.toDev x < 2 * v.toNat → Completes (.capacityWrite c) s (fun t => t = replied s.toDev OP_CAPACITY_WRITE c ST_BAD_PARAM []))) ∧
    (∀ k x, admitted s.toDev OP_MASTER_TABLE_LOAD c → 2 ≤ c.payload.length → pwN c 0 = k → k < 8 → pwN c 1 = x → x % 4 = 0 → x + 4 * (c.payload.length - 2) ≤ 65536 →
      s.pwr.loadWait = none →
      (s.pwr.load = some (k, c.sess) → Completes (.masterTableLoad c) s (fun t =>
        Memory.bytes t.mem (0x21800000 + x) (4 * (c.payload.length - 2)) = wordsToBytes (c.payload.drop 2) ∧
        MemBut (0x21800000 + x) (4 * (c.payload.length - 2)) s.toDev t ∧ t.pwr = s.pwr ∧ answered t OP_MASTER_TABLE_LOAD c ST_OK ∧
        Only [.mem, .exe, .host, .pwr, .actor] s.toDev t)) ∧
      (s.pwr.load = none → Completes (.masterTableLoad c) s (fun t =>
        Memory.bytes t.mem (0x21800000 + x) (4 * (c.payload.length - 2)) = wordsToBytes (c.payload.drop 2) ∧
        MemBut 0x21800000 0x10000 s.toDev t ∧ t.pwr.load = some (k, c.sess) ∧ answered t OP_MASTER_TABLE_LOAD c ST_OK ∧
        Only [.mem, .exe, .host, .pwr, .actor] s.toDev t)) ∧
      (∀ e, s.pwr.load = some e → e ≠ (k, c.sess) → Completes (.masterTableLoad c) s (fun t => t = replied s.toDev OP_MASTER_TABLE_LOAD c ST_CONFLICT [])))

/-- 13 R418 to R421, 15 R465, R475, R478: the pass-through commands.
The model's choices in it: Log 15, 57. -/
def Obligations.CanCommands : Prop :=
  ∀ (s : State) (c : HostCmd) (n : Nat), Awake s → fld (pw c 0) 0 3 = n →
    (admitted s.toDev OP_CAN_TX c → canTxBad c = false → 2 ≤ c.payload.length → canObject s.toDev n = false → fld (pw c 0) 24 8 = 0 →
      (canPar s.toDev n 0 ≠ 0 → canRestricted s.toDev n = false → isPcs s.toDev n = false → txbSusp s.toDev n 2 = false → pairUp s.toDev 3 = true →
        Completes (.canTx c) s (fun t => (∃ r w, (getPair t 3).rel = (getPair s.toDev 3).rel ++ [r] ∧ r.eff = .can n 2 (w :: pw c 1 :: c.payload.drop 2) (some c) ∧
          fld w 28 4 = fld (pw c 0) 16 4 ∧ bitOf w 27 = bitOf (pw c 0) 6 ∧ bitOf w 24 = bitOf (pw c 0) 7) ∧
          t.host.outcomes = s.host.outcomes ∧ Only [.exe, .host, .actor] s.toDev t)) ∧
      (canPar s.toDev n 0 = 0 → Completes (.canTx c) s (fun t => t = replied s.toDev OP_CAN_TX c ST_NOT_PRESENT [])) ∧
      (canPar s.toDev n 0 ≠ 0 → canRestricted s.toDev n = true → Completes (.canTx c) s (fun t => t = replied s.toDev OP_CAN_TX c ST_STATE [])) ∧
      (canPar s.toDev n 0 ≠ 0 → canRestricted s.toDev n = false → txbSusp s.toDev n 2 = true → Completes (.canTx c) s (fun t => t = replied s.toDev OP_CAN_TX c ST_CONFLICT []))) ∧
    (∀ k, admitted s.toDev OP_CAN_RX_READ c → c.payload.length = 1 → fld (pw c 0) 3 13 = 0 → fld (pw c 0) 16 16 = k → k < 216 →
      (canPar s.toDev n 0 ≠ 0 → canObject s.toDev n = false → Completes (.canRxRead c) s (fun t => rxfFill t n 1 = rxfFill s.toDev n 1 - min k (rxfFill s.toDev n 1) ∧
        rxfFill t n 0 = rxfFill s.toDev n 0 ∧ (getCan t n).lostRead = (getCan s.toDev n).lostTot ∧ (getCan t n).lostTot = (getCan s.toDev n).lostTot ∧
        answered t OP_CAN_RX_READ c ST_OK ∧ RegsBut [rxfReg n 1] s.toDev t ∧ t.mem = s.mem)) ∧
      (canPar s.toDev n 0 = 0 → Completes (.canRxRead c) s (fun t => t = replied s.toDev OP_CAN_RX_READ c ST_NOT_PRESENT []))) ∧
    (admitted s.toDev OP_CAN_RECOVER c → c.payload.length = 1 → pwN c 0 = n + 0x100 →
      (canSupervised s.toDev n = true → (getCan s.toDev n).busoff = true → pairUp s.toDev 3 = true → Completes (.canRecover c) s (fun t =>
        (∃ r, (getPair t 3).rel = (getPair s.toDev 3).rel ++ [r] ∧ r.eff = .canOp n .recover) ∧ answered t OP_CAN_RECOVER c ST_OK ∧
        Only [.exe, .host, .actor] s.toDev t)) ∧
      (canSupervised s.toDev n = false ∨ (getCan s.toDev n).busoff = false → Completes (.canRecover c) s (fun t => t = replied s.toDev OP_CAN_RECOVER c ST_STATE []))) ∧
    (admitted s.toDev OP_CAN_RECOVER c → c.payload.length = 1 → pwN c 0 = n + 0x200 → pairUp s.toDev 3 = true → Completes (.canRecover c) s (fun t =>
      (∃ r, (getPair t 3).rel = (getPair s.toDev 3).rel ++ [r] ∧ r.eff = .canOp n (.resume 0xF)) ∧ answered t OP_CAN_RECOVER c ST_OK ∧
      Only [.exe, .host, .actor] s.toDev t))

/-- 13 R422, R424 to R427, 16 R494, 17 R535: a freeze is asked for; an image is staged, verified and activated; hibernation; a save.
The model's choices in it: Log 18, 57, 79. -/
def Obligations.SystemCommands : Prop :=
  ∀ (s : State) (c : HostCmd), Awake s →
    (admitted s.toDev OP_VITRINE_TAKE c → s.cnt.vitrine = true → Completes (.vitrineTake c) s (fun t => t.cnt = { s.cnt with vitWait := s.cnt.vitWait ++ [c] } ∧
      (∃ r, (getPair t 2).rel = (getPair s.toDev 2).rel ++ [r] ∧ r.eff = .cfg [(CNT_CTRL, 2, 2)]) ∧ t.host.outcomes = s.host.outcomes ∧
      Only [.exe, .cnt, .host, .actor] s.toDev t)) ∧
    (admitted s.toDev OP_VITRINE_TAKE c → s.cnt.vitrine = false → Completes (.vitrineTake c) s (fun t => t = replied s.toDev OP_VITRINE_TAKE c ST_STATE [])) ∧
    (∀ z, admitted s.toDev OP_FW_STAGE_BEGIN c → c.payload.length = 1 → pwN c 0 = z → z % 4 = 0 → 4 ≤ z → z ≤ 8388608 → stageTaken s.toDev c = false →
      Completes (.fwStageBegin c) s (fun t => t.pwr.stage = some (c.sess, z) ∧ t.pwr.staged = [] ∧ nbit t.pwr.boot.flags (okBit (stageBank s.toDev)) = false ∧
        answered t OP_FW_STAGE_BEGIN c ST_OK ∧ t.strs = s.strs ∧ t.parCfg = s.parCfg)) ∧
    (admitted s.toDev OP_FW_STAGE_BEGIN c → c.payload.length = 1 → 8388608 < pwN c 0 → Completes (.fwStageBegin c) s (fun t =>
      t = replied s.toDev OP_FW_STAGE_BEGIN c ST_LENGTH [])) ∧
    (∀ z, admitted s.toDev OP_FW_STAGE_DATA c → 2 ≤ c.payload.length → pwN c 0 % 4 = 0 → s.pwr.stage = some (c.sess, z) →
      (pwN c 0 + 4 * (c.payload.length - 1) ≤ z → Completes (.fwStageData c) s (fun t =>
        Memory.bytes t.mem (bankBase (stageBank s.toDev) + pwN c 0) (4 * (c.payload.length - 1)) = wordsToBytes (c.payload.drop 1) ∧
        MemBut (bankBase (stageBank s.toDev) + pwN c 0) (4 * (c.payload.length - 1)) s.toDev t ∧
        t.pwr.staged = s.pwr.staged ++ [(pwN c 0, pwN c 0 + 4 * (c.payload.length - 1))] ∧ t.pwr.stage = s.pwr.stage ∧
        answered t OP_FW_STAGE_DATA c ST_OK ∧ Only [.mem, .exe, .host, .pwr, .actor] s.toDev t)) ∧
      (z < pwN c 0 + 4 * (c.payload.length - 1) → Completes (.fwStageData c) s (fun t => t = replied s.toDev OP_FW_STAGE_DATA c ST_LENGTH []))) ∧
    (∀ z, admitted s.toDev OP_FW_STAGE_VERIFY c → s.pwr.stage = some (c.sess, z) →
      (firstGap s.pwr.staged (s.pwr.staged.length + 1) 0 < z → Completes (.fwStageVerify c) s (fun t =>
        t = replied s.toDev OP_FW_STAGE_VERIFY c ST_INTEGRITY [w32 (firstGap s.pwr.staged (s.pwr.staged.length + 1) 0)])) ∧
      (z ≤ firstGap s.pwr.staged (s.pwr.staged.length + 1) 0 → Completes (.fwStageVerify c) s (fun t => t.pwr.stage = none ∧
        (imgFail s.toDev (stageBank s.toDev) (some z) = none → nbit t.pwr.boot.flags (okBit (stageBank s.toDev)) = true ∧
          recVer t.pwr.boot (stageBank s.toDev) = imgVer s.toDev (stageBank s.toDev) ∧ answered t OP_FW_STAGE_VERIFY c ST_OK) ∧
        ((imgFail s.toDev (stageBank s.toDev) (some z)).isSome = true → nbit t.pwr.boot.flags (okBit (stageBank s.toDev)) = false ∧
          nbit t.pwr.boot.flags (badBit (stageBank s.toDev)) = true ∧ answered t OP_FW_STAGE_VERIFY c ST_INTEGRITY)))) ∧
    (admitted s.toDev OP_FW_ACTIVATE c → c.payload.length = 1 → s.pwr.recovery = false → s.pwr.selBoot = 0 →
      (nbit s.pwr.boot.flags (okBit (stageBank s.toDev)) = true → s.pwr.stage = none → recVer s.pwr.boot (stageBank s.toDev) = pwN c 0 →
        Completes (.fwActivate c) s (fun t => t.pwr = { s.pwr with activate := some (stageBank s.toDev) } ∧ answered t OP_FW_ACTIVATE c ST_OK ∧
          Only [.exe, .host, .pwr, .actor] s.toDev t)) ∧
      (nbit s.pwr.boot.flags (okBit (stageBank s.toDev)) = true → s.pwr.stage = none → recVer s.pwr.boot (stageBank s.toDev) ≠ pwN c 0 →
        Completes (.fwActivate c) s (fun t => t = replied s.toDev OP_FW_ACTIVATE c ST_CONFLICT [])) ∧
      (nbit s.pwr.boot.flags (okBit (stageBank s.toDev)) = false → Completes (.fwActivate c) s (fun t => t = replied s.toDev OP_FW_ACTIVATE c ST_INTEGRITY []))) ∧
    (admitted s.toDev OP_HIBERNATE c → c.payload.length = 2 → 1 ≤ pwN c 0 → pwN c 0 < 16 → (nbit (pwN c 0) 3 = true ↔ pwN c 1 ≠ 0) →
      (nbit (pwN c 0) 2 = true → par s.toDev 0xE004 ≠ 0) → s.pwr.hibStep = 0 → Completes (.hibernate c) s (fun t => t.pwr.hibStep = 1 ∧ t.pwr.hibSrc = pwN c 0 ∧
        t.pwr.hibTimer = pwN c 1 ∧ answered t OP_HIBERNATE c ST_OK ∧ t.dev = s.dev ∧ t.strs = s.strs)) ∧
    (admitted s.toDev OP_RETAINED_SAVE c →
      (engineFree s.toDev = false → Completes (.retainedSave c) s (fun t => t.pwr = { s.pwr with saveDue := true, saveHold := true, saveWait := s.pwr.saveWait ++ [c] } ∧
        t.host.outcomes = s.host.outcomes ∧ Only [.pwr, .host, .actor] s.toDev t)) ∧
      (engineFree s.toDev = true → Completes (.retainedSave c) s (fun t => (c ∈ t.pwr.saveWait ∨ c ∈ t.pwr.saveAns) ∧
        t.host.outcomes = s.host.outcomes ∧ Only [.regs, .mem, .exe, .host, .pwr, .actor] s.toDev t)))

/-! ## The cluster (spec 14) -/

/-- 14 R431 to R435: a frame on a cluster port is forwarded out of the other port with its hop count reduced, waits when that port is busy,
or is a frame error; a frame for this device alone, or of its own, leaves no more. A port goes down.
The model's choices in it: Log 16, 51, 121. -/
def Obligations.ClusterFrames : Prop :=
  ∀ (s : State) (p dst src : Nat) (h0 h1 h2 : U32) (body : List U8) (res : Nat), Awake s → p < 2 →
    let b := if fld h0 24 4 = 4 then addCorr body res else body
    (rdB s.toDev CL_CTRL 0 = true → clFrameBad h0 h1 h2 body = false → clForwards s.toDev h0 h1 = true →
      (Completes (.clusterFrameArrival p ⟨dst, src, h0⟩ h1 h2 body true res false) s (fun t =>
        (∃ f, t.cl.sent.getLast? = some f ∧ f.port = 1 - p ∧ f.dst = dst ∧ f.src = src ∧ f.h1 = h1 ∧ f.h2 = h2 ∧ f.body = b ∧ f.bad = false ∧
          fld f.h0 18 6 = fld h0 18 6 - 1 ∧ fld f.h0 0 18 = fld h0 0 18 ∧ fld f.h0 24 8 = fld h0 24 8) ∧ getEgress t (1 - p) = [] ∧
        getEgress t p = getEgress s.toDev p ∧ CountedBut [] s.toDev t ∧ Only [.regs, .cl, .cnt] s.toDev t)) ∧
      (((getEgress s.toDev (1 - p)).map frameLen).sum + max 64 (30 + b.length) ≤ 65536 → Completes (.clusterFrameArrival p ⟨dst, src, h0⟩ h1 h2 body true res true) s (fun t =>
        (∃ f, getEgress t (1 - p) = getEgress s.toDev (1 - p) ++ [f] ∧ f.dst = dst ∧ f.src = src ∧ f.h1 = h1 ∧ f.h2 = h2 ∧ f.body = b ∧ f.bad = false) ∧
        t.cl.sent = s.cl.sent ∧ CountedBut [] s.toDev t ∧ Only [.regs, .cl, .cnt] s.toDev t))) ∧
    (∀ busy, rdB s.toDev CL_CTRL 0 = true → clFrameBad h0 h1 h2 body = false → clForwards s.toDev h0 h1 = false →
      Completes (.clusterFrameArrival p ⟨dst, src, h0⟩ h1 h2 body true res busy) s (fun t => CountedBut [] s.toDev t ∧ Only [.regs, .cnt] s.toDev t)) ∧
    (∀ ok busy, rdB s.toDev CL_CTRL 0 = true → clFrameBad h0 h1 h2 body = true → Completes (.clusterFrameArrival p ⟨dst, src, h0⟩ h1 h2 body ok res busy) s (fun t =>
      rdB t CL_STATUS 0 = true ∧ (nbit s.cl.errCyc p = false → posted t 3 Ev.CLUSTER_FRAME_ERR (p * 256)) ∧ t.cl.sent = s.cl.sent ∧
      t.cl.egress = s.cl.egress ∧ CountedBut [CL_STATUS, CL_FRM_ERR + 4 * p] s.toDev t ∧ Only [.regs, .cl, .cnt, .log] s.toDev t)) ∧
    (∀ ok busy, rdB s.toDev CL_CTRL 0 = false → Completes (.clusterFrameArrival p ⟨dst, src, h0⟩ h1 h2 body ok res busy) s (fun t => t = s.toDev)) ∧
    (cpUp s.toDev p = true → Completes (.clusterPortDown p) s (fun t => cpUp t p = false ∧ raised s.toDev t 3 Ev.CLUSTER_PORT_DOWN (p * 256) p ∧
      RegsBut [CL_STATUS] s.toDev t ∧ Only [.regs, .log, .inForce] s.toDev t)) ∧
    (∀ links, clOn s.toDev = true → pairUp s.toDev 3 = true → Completes (.phyPoll links) s (fun t =>
      Tbl.get false t.cl.link p = nbit links p ∧ (nbit links p = false → cpUp t p = false) ∧ (nbit links p = true → cpUp t p = cpUp s.toDev p) ∧
      RegsBut [CL_STATUS] s.toDev t ∧ Only [.regs, .cl, .log, .inForce] s.toDev t))

/-- 14 R436, R437: the HELLO of this device and of others; a serial that uses an index of another; a member the configuration does not
name.
14 R437 to R439: the view and quorum; a head that stays, one that leaves, and a device that becomes the head.
The model's choices in it: Log 49. -/
def Obligations.MembershipRows : Prop :=
  (∀ s : State, Awake s → clOn s.toDev = true → pairUp s.toDev 3 = true →
    Completes .helloBroadcast s (fun t =>
      (∃ r w, (getPair t 3).rel = (getPair s.toDev 3).rel ++ [r] ∧ r.eff = .cluster 5 clBcast w ∧ w.length = 10 ∧
        w[0]? = some (w32 (ownIdx s.toDev + par s.toDev 0xB002 * 0x100 + shownState s.toDev * 0x10000 + helloFlags s.toDev * 0x1000000)) ∧
        w[1]? = some (w32 Config.serial.toNat) ∧ w[3]? = some (w32 s.tb.cyc)) ∧
      (getMem t (ownIdx s.toDev)).at_ = localCyc s.toDev + 1 ∧ (∀ i, i ≠ ownIdx s.toDev → getMem t i = getMem s.toDev i) ∧ Only [.exe, .cl] s.toDev t) ∧
    (∀ (p : Nat) (body : List U8), p < 2 → body.length = 40 →
      let n := fun o k => leNat ((body.drop o).take k)
      n 0 1 < 64 → n 3 1 < 64 → n 19 1 = 0 → n 32 8 = 0 → n 1 1 = par s.toDev 0xB002 →
      (n 0 1 ≠ ownIdx s.toDev → (present s.toDev (n 0 1) = false ∨ (getMem s.toDev (n 0 1)).serial = n 4 8) → Completes (.helloReceived p body) s (fun t =>
        (getMem t (n 0 1)).at_ = localCyc s.toDev + 1 ∧ (getMem t (n 0 1)).serial = n 4 8 ∧ (getMem t (n 0 1)).state = n 2 1 ∧
        (getMem t (n 0 1)).flags = n 3 1 ∧ (getMem t (n 0 1)).port = p + 1 ∧ (∀ i, i ≠ n 0 1 → getMem t i = getMem s.toDev i) ∧
        (stranger s.toDev (n 0 1) = true → rdB t CL_STATUS 3 = true ∧ raised s.toDev t 3 Ev.CLUSTER_STRANGER (n 0 1) (n 0 1)) ∧
        (Tbl.get false s.cl.link p = true → cpUp t p = true) ∧ RegsBut [CL_STATUS] s.toDev t ∧ Only [.regs, .cl, .log, .inForce] s.toDev t)) ∧
      (n 0 1 = ownIdx s.toDev → n 4 8 ≠ Config.serial.toNat → Completes (.helloReceived p body) s (fun t =>
        rdB t CL_STATUS 2 = true ∧ raised s.toDev t 3 Ev.CLUSTER_DUP_INDEX (n 0 1) (n 0 1) ∧ (getMem t (n 0 1)).dupSer = n 4 8 ∧
        (getMem t (n 0 1)).dupAt = localCyc s.toDev + 1 ∧ (getMem t (n 0 1)).at_ = (getMem s.toDev (n 0 1)).at_ ∧ Only [.regs, .cl, .log, .inForce] s.toDev t)))) ∧
  (∀ s : State, Awake s → clOn s.toDev = true → pairUp s.toDev 3 = true →
    Completes .viewEvaluation s (fun t =>
      rd t CL_VIEW_LO = w32 (viewMask t % 2 ^ 32) ∧ rdB t CL_STATUS 16 = quorumOk t ∧ t.tb = s.tb ∧ t.strs = s.strs ∧ t.mem = s.mem ∧
      RegsBut [CL_STATUS, CL_PATH_D, CL_VIEW_LO, CL_VIEW_HI] s.toDev t ∧
      (∀ h, s.cl.head = some h → present s.toDev h = true → healthyOf s.toDev h = true → duplicate s.toDev h = false → stranger s.toDev h = false →
        (∀ c, candidate s.toDev = some c → h ≤ c) → t.cl.head = some h ∧ t.lim = s.lim) ∧
      (∀ h, s.cl.head = some h → present s.toDev h = false → candidate s.toDev = none → t.cl.head = none ∧ posted t 3 Ev.CLUSTER_HEAD (0x3F + h * 256)) ∧
      (s.cl.head = none → candidate s.toDev = some (ownIdx s.toDev) → 2 ≤ (getMem s.toDev (ownIdx s.toDev)).evals →
        t.cl.head = some (ownIdx s.toDev) ∧ rdB t CL_STATUS 17 = true ∧ t.cl.entrySync = true ∧ t.lim.frozen = false ∧
        posted t 3 Ev.CLUSTER_HEAD (ownIdx s.toDev + 0x3F * 256))))

/-- 14 R440 to R442, 02 R47, R48: SYNC as the head sends it and as a member takes it, and the path delay. A step asked for is withdrawn by a
SYNC whose count agrees.
The model's choices in it: Log 50, 126. -/
def Obligations.PhaseRows : Prop :=
  ∀ s : State, Awake s → pairUp s.toDev 3 = true →
    (∀ angle, (isHead s.toDev = true → Completes (.phaseSyncBroadcast angle) s (fun t =>
        (∃ r w, (getPair t 3).rel = (getPair s.toDev 3).rel ++ [r] ∧ r.eff = .cluster 4 clBcast w ∧ w.length = 12 ∧ fld (w.getD 0 0) 0 8 = 0 ∧
          fld (w.getD 0 0) 16 16 = Tbl.get 0 s.cl.seqs 0 % 65536 ∧ w[1]? = some angle ∧ w[2]? = some (w32 s.tb.cyc)) ∧
        Tbl.get 0 t.cl.seqs 0 = (Tbl.get 0 s.cl.seqs 0 + 1) % 65536 ∧ t.cl.head = s.cl.head ∧ Only [.exe, .cl] s.toDev t)) ∧
      (isHead s.toDev = true → s.cl.entrySync = true → Completes (.headEntrySync angle) s (fun t =>
        (∃ r w, (getPair t 3).rel = (getPair s.toDev 3).rel ++ [r] ∧ r.eff = .cluster 4 clBcast w ∧ w[1]? = some angle) ∧
        t.cl.entrySync = false ∧ Only [.exe, .cl] s.toDev t)) ∧
      (isHead s.toDev = false → Completes (.phaseSyncBroadcast angle) s (fun t => t = s.toDev) ∧ Completes (.headEntrySync angle) s (fun t => t = s.toDev))) ∧
    (∀ (p src : Nat) (own : U32) (body : List U8), p < 2 → clOn s.toDev = true → isHead s.toDev = false → s.cl.head = some (src % 64) → body.length = 48 →
      let n := fun o k => leNat ((body.drop o).take k)
      n 0 1 = 0 → n 1 1 < 4 → n 14 2 = 0 → n 20 4 = 0 → n 16 4 ≠ 0 →
      (∀ d, s.cl.syncPort = some p → pathDelay s.toDev = some d → Completes (.phaseSyncReceived p src ⟨own, body⟩) s (fun t =>
        t.cl.refAngle = some ((n 4 4 + (16 * d + n 24 4) * 2 ^ 32 / (160 * n 16 4)) % 2 ^ 32) ∧ t.cl.refCoh = nbit (n 1 1) 0 ∧ t.cl.refAt = localCyc s.toDev ∧
        t.cl.refErr = (w32 ((n 4 4 + (16 * d + n 24 4) * 2 ^ 32 / (160 * n 16 4)) % 2 ^ 32) - own).toInt ∧ t.cl.refFreq = 10 ^ 14 / n 16 4 ∧
        t.tb = { s.tb with step := if n 8 6 = s.tb.cyc then none else some ((n 8 6 : Int) - (s.tb.cyc : Int)) } ∧
        Only [.tb, .cl] s.toDev t)) ∧
      (s.cl.syncPort ≠ some p → Completes (.phaseSyncReceived p src ⟨own, body⟩) s (fun t => t.cl.syncPort = some p ∧ t.cl.delays = [] ∧ t.cl.refAngle = s.cl.refAngle ∧
        rd t CL_PATH_D = 0 ∧ RegsBut [CL_PATH_D] s.toDev t ∧ Only [.regs, .cl] s.toDev t))) ∧
    (∀ h t1, clOn s.toDev = true → isHead s.toDev = false → s.cl.head = some h → Completes (.delayReqSend t1) s (fun t =>
      t.cl.req = some (Tbl.get 0 s.cl.seqs 1, t1) ∧ (∃ r w, (getPair t 3).rel = (getPair s.toDev 3).rel ++ [r] ∧
        r.eff = .cluster 4 (par s.toDev 0xB002 * 64 + h + (match s.cl.syncPort with | some p => clPort p | none => 0)) w ∧ fld (w.getD 0 0) 0 8 = 1) ∧ Only [.exe, .cl] s.toDev t)) ∧
    (∀ p src seq corr t2 t3, isHead s.toDev = true → Completes (.delayReqReceived p src seq corr t2 t3) s (fun t =>
      (∃ r w, (getPair t 3).rel = (getPair s.toDev 3).rel ++ [r] ∧ r.eff = .cluster 4 (src % 0x4000 + clPort (p % 2)) w ∧ fld (w.getD 0 0) 0 8 = 2 ∧
        fld (w.getD 0 0) 16 16 = seq % 65536 ∧ w[7]? = some (w32 corr) ∧ w[8]? = some (w32 t2) ∧ w[10]? = some (w32 t3)) ∧ Only [.exe] s.toDev t)) ∧
    (∀ seq corr corrReq t1 t2 t3 t4 : Nat, clOn s.toDev = true → s.cl.req = some (seq, t1) →
      let w : Int := 16 * (((t4 : Int) - t1) - ((t3 : Int) - t2)) - (corrReq + corr : Nat)
      let d : Int := w / 32
      (0 ≤ w → w ≤ 16000000 → Completes (.delayRespReceived seq corr corrReq t2 t3 t4) s (fun t => t.cl.req = none ∧ t.cl.delays = (d.toNat :: s.cl.delays).take 3 ∧
        rd t CL_PATH_D = w32 ((pathDelay t).getD 0) ∧ RegsBut [CL_PATH_D] s.toDev t ∧ Only [.regs, .cl] s.toDev t)) ∧
      (w < 0 ∨ 16000000 < w → Completes (.delayRespReceived seq corr corrReq t2 t3 t4) s (fun t => t.cl.req = none ∧ t.cl.delays = s.cl.delays ∧
        rdB t CL_STATUS 1 = true ∧ posted t 3 Ev.CLUSTER_PATH ((d % 2 ^ 32).toNat * 2 ^ 32) ∧ RegsBut [CL_STATUS] s.toDev t))) ∧
    (∀ seq corr corrReq t2 t3 t4, s.cl.req = none → Completes (.delayRespReceived seq corr corrReq t2 t3 t4) s (fun t => t = s.toDev))

/-- 14 R443 to R447, 00 R11: a contribution taken, the collection of the head, and a result taken; a body that claims more than four steps is
not taken. -/
def Obligations.ReduceRows : Prop :=
  ∀ s : State, Awake s → pairUp s.toDev 3 = true →
    (∀ src words, clOn s.toDev = true → words.length = 32 → src / 64 = par s.toDev 0xB002 →
      fld (words.getD 12 0) 24 8 = 0 → fld (words.getD 12 0) 8 8 ≤ 4 → fld (words.getD 12 0) 16 8 ≤ 4 →
      (fld (words.getD 12 0) 0 8 = 0 → Completes (.reduceContributionReceived src words) s (fun t =>
        t.cl = { s.cl with contribs := s.cl.contribs.filter (fun c => c.idx != src % 64) ++ [{ idx := src % 64, words := words }] } ∧ Only [.cl] s.toDev t)) ∧
      (fld (words.getD 12 0) 0 8 = 1 → Completes (.reduceResultReceived src words) s (fun t =>
        t.cl = { s.cl with result := words, resFrom := src % 64 } ∧ Only [.cl] s.toDev t))) ∧
    (∀ src words, 4 < fld (words.getD 12 0) 8 8 ∨ 4 < fld (words.getD 12 0) 16 8 →
      Completes (.reduceContributionReceived src words) s (fun t => t = s.toDev) ∧ Completes (.reduceResultReceived src words) s (fun t => t = s.toDev)) ∧
    (isHead s.toDev = true →
      let own := ownContrib s.toDev
      let l := counted s.toDev own
      Completes .reduceCollection s (fun t =>
        t.cl = { s.cl with result := (reduceResult s.toDev own l).2, resFrom := ownIdx s.toDev, contribs := [] } ∧
        (∃ r, r ∈ (getPair t 3).rel ∧ r.eff = .cluster 3 clBcast (reduceResult s.toDev own l).2) ∧
        (∃ r, r ∈ (getPair t 3).rel ∧ r.eff = .cluster 3 clHost (reduceResult s.toDev own l).2) ∧
        (∀ i, i < 64 → configured s.toDev i = true → l.any (fun c => c.idx == i) = false → raised s.toDev t 3 Ev.CLUSTER_REDUCE_MISS i i) ∧
        t.strs = s.strs ∧ t.est = s.est)) ∧
    (isHead s.toDev = false → Completes .reduceCollection s (fun t => t = s.toDev))

/-! ## CAN controllers (spec 15) -/

/-- 15 R458, R466 to R470: an attempt starts, and ends with its frame on the bus and the loop delay that an FD frame measured; buffer 2 is held on the PCS controllers.
15 R457, R461 to R465: a frame received is stored, lost to a full FIFO, rejected, or foreign to a classic controller.
The model's choices in it: Log 13, 123, 138. -/
def Obligations.CanTrafficRows : Prop :=
  (∀ (s : State) (n : Nat), Awake s → n < 8 →
    (∀ tsc, canOnBus s.toDev n = true → canRestricted s.toDev n = false → (getCan s.toDev n).attempt = none → (getCan s.toDev n).rx = false →
      evFull s.toDev n = false →
      (∀ buf k, offer s.toDev n = some (buf, k) → buf < 3 →
        elemInvalid s.toDev n ((elemWords s.toDev n buf k).getD 0 0 &&& 0xFF00FFFF#32) ((elemWords s.toDev n buf k).getD 1 0) = false →
        Completes (.canAttemptStart n tsc) s (fun t => (getCan t n).attempt = some { buf := buf, idx := k, sof := tsc } ∧
          (getHead t n buf k).attempts = min ((getHead s.toDev n buf k).attempts + 1) 255 ∧ (getCan t n).tec = (getCan s.toDev n).tec ∧
          RegsBut [canReg n 4] s.toDev t ∧ Only [.regs, .can] s.toDev t)) ∧
      (offer s.toDev n = none → Completes (.canAttemptStart n tsc) s (fun t => t = s.toDev))) ∧
    (∀ tsc, (getCan s.toDev n).attempt.isSome = true ∨ ((getCan s.toDev n).rx = false ∧
        (canOnBus s.toDev n = false ∨ canRestricted s.toDev n = true ∨ evFull s.toDev n = true)) →
      Completes (.canAttemptStart n tsc) s (fun t => t = s.toDev)) ∧
    (∀ a edges, (getCan s.toDev n).attempt = some a → a.buf < 3 → a.idx < 64 → (getCan s.toDev n).tec ≤ 255 → (getCan s.toDev n).initDue = false →
      rdB s.toDev (canReg n 0x28) 1 = false →
      let e := canRam n + 0x6280 + rdF s.toDev (canReg n 0x78) 24 7 * 16
      Completes (.canTransmitComplete n edges) s (fun t => (getCan t n).attempt = none ∧ (getCan t n).evFill = (getCan s.toDev n).evFill + 1 ∧
        (getCan t n).sent = some (sentFrame s.toDev n a.buf a.idx) ∧ ld32 t e % 256 = (if (getHead s.toDev n a.buf a.idx).late then 1 else 0) ∧ ld32 t e / 0x4000 % 4 = a.buf ∧ ld32 t (e + 8) = a.sof.toNat ∧
        rdB t (canReg n 0x18) 6 = true ∧ rd t (canReg n 0x84) = w32 (rdN s.toDev (canReg n 0x84) + 1) ∧
        (canRestricted s.toDev n = false → (getCan t n).tec = (getCan s.toDev n).tec - 1) ∧ MemBut e 16 s.toDev t ∧
        Only [.regs, .mem, .lim, .exe, .host, .can, .cnt, .log, .inForce] s.toDev t)) ∧
    (∀ a edges d, (getCan s.toDev n).attempt = some a → a.buf < 3 → a.idx < 64 → (getCan s.toDev n).tec ≤ 255 → (getCan s.toDev n).initDue = false →
      rdB s.toDev (canReg n 0x28) 1 = false → rdB s.toDev (canReg n 0x10) 31 = true → bitOf ((elemWords s.toDev n a.buf a.idx).getD 0 0) 27 = true →
      loopDelay s.toDev n edges = some d → Completes (.canTransmitComplete n edges) s (fun t => rd t (canReg n 0x14) = w32 (min d 127) ∧
        (127 < d → raised s.toDev t 3 Ev.CAN_TDC_SAT n n ∧ rdB t (canReg n 0x18) 14 = true))) ∧
    (∀ edges, (getCan s.toDev n).attempt = none → Completes (.canTransmitComplete n edges) s (fun t => t = s.toDev)) ∧
    Completes .txb2HoldStart s (fun t => (∀ k, k ∈ pcsCtls s.toDev → canPar s.toDev k 0 ≠ 0 → txHeld t k = true) ∧
      (∀ k, k ∉ pcsCtls s.toDev → txHeld t k = txHeld s.toDev k ∧ getCan t k = getCan s.toDev k) ∧ Only [.regs, .can] s.toDev t)) ∧
  (∀ (s : State) (n : Nat) (f : CanFrame) (tsc : U32), Awake s → n < 8 → canOnBus s.toDev n = true → (getCan s.toDev n).attempt = none → (getCan s.toDev n).rx = false →
    (f.fdf = true → f.res = true ∨ canFormat s.toDev n = 0 ∨ canFormat s.toDev n = 3 → Completes (.canFrameReceived n f tsc) s (fun t => (getCan t n).integ = true ∧
      RegsBut [canReg n 4] s.toDev t ∧ Only [.regs, .can] s.toDev t)) ∧
    (f.fdf = false ∨ (f.res = false ∧ (canFormat s.toDev n = 1 ∨ canFormat s.toDev n = 2)) → canObject s.toDev n = false → (getCan s.toDev n).tec ≤ 255 →
      (getCan s.toDev n).rec_ ≤ 127 →
      (∀ k j nm, fltDecide s.toDev n f = some (k, j, nm) →
        let a := canRam n + rxfOff k + rdF s.toDev (rxfReg n k) 24 7 * 80
        (rxfFill s.toDev n k < rxfSize k → Completes (.canFrameReceived n f tsc) s (fun t => rxfFill t n k = rxfFill s.toDev n k + 1 ∧
          ldWords t a 20 = rxWords s.toDev n f j nm tsc ∧ rdB t (canReg n 0x18) (1 + 2 * k) = true ∧
          (canRestricted s.toDev n = false → (getCan t n).rec_ = (getCan s.toDev n).rec_ - 1) ∧ rxfFill t n (1 - k) = rxfFill s.toDev n (1 - k) ∧
          MemBut a 80 s.toDev t ∧ t.host = s.host ∧ t.strs = s.strs)) ∧
        (rxfSize k ≤ rxfFill s.toDev n k → Completes (.canFrameReceived n f tsc) s (fun t => rxfFill t n k = rxfFill s.toDev n k ∧
          rd t (rxfReg n k + 8) = w32 (min (rdN s.toDev (rxfReg n k + 8) + 1) 0xFFFFFFFF) ∧ rdB t (canReg n 0x18) (2 + 2 * k) = true ∧
          raised s.toDev t 3 Ev.CAN_RX_LOST (n + k * 0x100 + rdN t (rxfReg n k + 8) * 2 ^ 32) (n * 2 + k) ∧ t.mem = s.mem ∧ t.strs = s.strs))) ∧
      (fltDecide s.toDev n f = none → Completes (.canFrameReceived n f tsc) s (fun t => rxfFill t n 0 = rxfFill s.toDev n 0 ∧
        rxfFill t n 1 = rxfFill s.toDev n 1 ∧ t.mem = s.mem ∧ t.host = s.host ∧ t.strs = s.strs))))

/-- 15 R458, R474 to R478: error counters, passive, bus-off and recovery; restricted operation after a message-RAM error; a clash; an error that
lies elsewhere than at the secondary sample point is none.
The model's choices in it: Log 11, 12. -/
def Obligations.CanConfinementRows : Prop :=
  ∀ (s : State) (n : Nat), Awake s → n < 8 →
    (∀ e, canOnBus s.toDev n = false ∨ canSees s.toDev n e = false → Completes (.canBusError n e) s (fun t => t = s.toDev)) ∧
    (∀ e, canOnBus s.toDev n = true → canRestricted s.toDev n = true → e.tx = false → canBusy s.toDev n = false → Completes (.canBusError n e) s (fun t => getCan t n = getCan s.toDev n ∧
      rdF t (canReg n 4) 6 3 = e.kind % 8 ∧ rdB t (canReg n 4) 9 = e.data ∧ RegsBut [canReg n 4] s.toDev t ∧ Only [.regs] s.toDev t)) ∧
    (∀ e, canOnBus s.toDev n = true → canRestricted s.toDev n = false → e.tx = false → canBusy s.toDev n = false → (getCan s.toDev n).tec ≤ 255 →
      let r := min ((getCan s.toDev n).rec_ + 1 + 8 * e.extra) 255
      Completes (.canBusError n e) s (fun t => (getCan t n).rec_ = r ∧ (getCan t n).tec = (getCan s.toDev n).tec ∧ (getCan t n).busoff = false ∧
        (getCan t n).attempt = none ∧ rdF t (canReg n 4) 6 3 = e.kind % 8 ∧
        ((getCan s.toDev n).tec < 128 → (getCan s.toDev n).rec_ < 128 → 128 ≤ r →
          raised s.toDev t 3 Ev.CAN_PASSIVE (n + (getCan s.toDev n).tec * 0x100 + r * 0x10000) n) ∧ Only [.regs, .can, .log, .inForce] s.toDev t)) ∧
    (∀ e a, canOnBus s.toDev n = true → e.tx = false → (getCan s.toDev n).attempt = some a → a.buf < 3 → (getCan s.toDev n).initDue = false →
      rdB s.toDev (canReg n 0x28) 1 = false → (getCan s.toDev n).evWait = [] → Completes (.canBusError n e) s (fun t => (getCan t n).attempt = none ∧
        (getCan t n).susp = (getCan s.toDev n).susp ∧ t.mem = s.mem ∧ t.strs = s.strs)) ∧
    (∀ e, canOnBus s.toDev n = true → canSees s.toDev n e = true → canRestricted s.toDev n = false → e.tx = true → canBusy s.toDev n = false →
      let v := (getCan s.toDev n).tec + (if e.exempt then 0 else 8) + 8 * e.extra
      Completes (.canBusError n e) s (fun t => (getCan t n).tec = v ∧ (v ≤ 255 → (getCan t n).busoff = false) ∧ (255 < v → (getCan t n).busoff = true ∧
        rdB t (canReg n 0x18) 12 = true ∧ rdF t (canReg n 4) 14 2 = 2 ∧
        raised s.toDev t 3 Ev.CAN_BUSOFF (n + min ((lastMinute s.toDev (getCan s.toDev n).offAt).length + 1) 255 * 0x100) n) ∧
        Only [.regs, .can, .log, .inForce] s.toDev t)) ∧
    (∀ e a, canOnBus s.toDev n = true → canSees s.toDev n e = true → e.tx = true → (getCan s.toDev n).attempt = some a → a.buf < 3 → (getCan s.toDev n).initDue = false →
      rdB s.toDev (canReg n 0x28) 1 = false → (getCan s.toDev n).evWait = [] → Completes (.canBusError n e) s (fun t => (getCan t n).attempt = none ∧
        (e.won = true → e.preAck = true → e.kind = 1 ∨ e.kind = 2 → 2 ≤ (getHead s.toDev n a.buf a.idx).clash → txbSusp t n a.buf = true ∧
          rdB t (canReg n 0x18) 13 = true) ∧
        (e.won = false → (getHead t n a.buf a.idx).clash = 0 ∧ (getCan t n).susp = (getCan s.toDev n).susp) ∧ t.mem = s.mem)) ∧
    (∀ e a d, canOnBus s.toDev n = true → canSees s.toDev n e = true → e.tx = true → (getCan s.toDev n).attempt = some a → a.buf < 3 → (getCan s.toDev n).initDue = false →
      rdB s.toDev (canReg n 0x28) 1 = false → (getCan s.toDev n).evWait = [] → rdB s.toDev (canReg n 0x10) 31 = true →
      bitOf ((elemWords s.toDev n a.buf a.idx).getD 0 0) 27 = true → loopDelay s.toDev n e.edges = some d → Completes (.canBusError n e) s (fun t =>
        rd t (canReg n 0x14) = w32 (min d 127) ∧ (127 < d → raised s.toDev t 3 Ev.CAN_TDC_SAT n n ∧ rdB t (canReg n 0x18) 14 = true))) ∧
    ((getCan s.toDev n).recov = true → Completes (.canRecoveryComplete n) s (fun t => (getCan t n).busoff = false ∧ (getCan t n).recov = false ∧
      (getCan t n).tec = 0 ∧ (getCan t n).rec_ = 0 ∧ rdB t (canReg n 0x18) 5 = true ∧ posted t 3 Ev.CAN_RECOVERED n ∧
      RegsBut [canReg n 4, canReg n 0x18] s.toDev t ∧ Only [.regs, .can, .log, .inForce] s.toDev t)) ∧
    ((getCan s.toDev n).recov = false → Completes (.canRecoveryComplete n) s (fun t => t = s.toDev)) ∧
    ((getCan s.toDev n).busoff = true → (getCan s.toDev n).recov = false → canSupervised s.toDev n = false ∨ (getCan s.toDev n).recWait = true →
      Completes (.busoffRecoveryStart n) s (fun t =>
        ((lastMinute s.toDev (getCan s.toDev n).recAt).length < 3 → (getCan t n).recov = true ∧ (getCan t n).recWait = false) ∧
        (3 ≤ (lastMinute s.toDev (getCan s.toDev n).recAt).length → (getCan t n).recov = false ∧ (getCan t n).recWait = true) ∧
        (getCan t n).busoff = true ∧ RegsBut [canReg n 4] s.toDev t ∧ Only [.regs, .can] s.toDev t)) ∧
    (canInit s.toDev n = false → (getCan s.toDev n).integ = true → Completes (.canIntegrationComplete n) s (fun t => (getCan t n).integ = false ∧
      RegsBut [canReg n 4] s.toDev t ∧ Only [.regs, .can] s.toDev t)) ∧
    (∀ off, Completes (.canRamUncorrectable n off) s (fun t => canRestricted t n = true ∧ rdB t (canReg n 0x18) 9 = true ∧ rdB t (canReg n 0x18) 15 = true ∧
      raised s.toDev t 3 Ev.CAN_RESTRICTED (n + 0x100) n ∧ posted t 3 Ev.CAN_RAM_ECC (n + off % 2 ^ 32 * 2 ^ 32) ∧
      (canRestricted s.toDev n = false → posted t 3 Ev.MODE_CHANGE (6 + n * 0x10000)) ∧ (pairUp s.toDev 3 = true → (getCan t n).reinit = true) ∧
      t.strs = s.strs ∧ t.tb = s.tb))

/-- 15 R455, R462, R465, R467, R469, R470, R472, R475, R478: the registers of the controllers that P3 writes; another pair's write is a bus
error.
The model's choices in it: Log 85, 119. -/
def Obligations.CanRegisterRows : Prop :=
  ∀ (s : State) (n : Nat), Awake s → n < 8 →
    (∀ p k (v : U32) b, p ≠ 3 → ∀ c, c ∈ [Instr.canTxbPutWrite p n k v.toNat, .canTxCancelWrite p n v b, .canTxResumeWrite p n v, .canTxevAckWrite p n v.toNat,
        .canRxfAckWrite p n k v.toNat, .canFltSwapReq p n, .canCtrlRecover p n, .canObjSend p n k v] →
      Completes c s (fun t => t = busErrorTo s.toDev p)) ∧
    (∀ k v, k < 3 → v < txbSize k →
      let z := txbSize k
      let put := txbPut s.toDev n k
      let get := txbGet s.toDev n k
      ((v + z - put) % z ≤ (get + z - 1 - put + z) % z → Completes (.canTxbPutWrite 3 n k v) s (fun t => txbPut t n k = v ∧ txbGet t n k = get ∧
        (getCan t n).attempt = (getCan s.toDev n).attempt ∧
        RegsBut [canReg n (0x50 + 4 * k), canReg n (0x60 + 4 * k), canReg n 0x74] s.toDev t ∧ Only [.regs, .can] s.toDev t)) ∧
      ((get + z - 1 - put + z) % z < (v + z - put) % z → Completes (.canTxbPutWrite 3 n k v) s (fun t => t = s.toDev))) ∧
    (∀ (v : U32) win, fld v 8 2 < 3 →
      let buf := fld v 8 2
      let k := fld v 0 6
      let e := canRam n + 0x6280 + rdF s.toDev (canReg n 0x78) 24 7 * 16
      (elemQueued s.toDev n buf k = false → Completes (.canTxCancelWrite 3 n v win) s (fun t => t = s.toDev)) ∧
      (elemQueued s.toDev n buf k = true → cancelPending s.toDev n buf k = false → (getCan s.toDev n).attempt = none →
        (getHead s.toDev n buf k).won = false → evFull s.toDev n = false → Completes (.canTxCancelWrite 3 n v win) s (fun t =>
          (getCan t n).evFill = (getCan s.toDev n).evFill + 1 ∧ ld32 t e % 256 = 2 ∧ rdB t (canReg n 0x18) 6 = true ∧
          ((getCan s.toDev n).gone = [] → txbGet s.toDev n buf < txbSize buf → txbPut s.toDev n buf < txbSize buf → elemQueued t n buf k = false) ∧
          MemBut e 16 s.toDev t ∧ t.strs = s.strs)) ∧
      (∀ a, elemQueued s.toDev n buf k = true → cancelPending s.toDev n buf k = false → (getCan s.toDev n).attempt = some a → a.buf = buf → a.idx = k →
        (txbQueued s.toDev n buf).head? = some k → Completes (.canTxCancelWrite 3 n v true) s (fun t =>
          (getHead t n buf k).late = true ∧ (getCan t n).attempt = some a ∧ Only [.can] s.toDev t))) ∧
    (∀ v : U32, Completes (.canTxResumeWrite 3 n v) s (fun t =>
      (∀ k, k < 3 → nbit (getCan t n).susp k = (nbit (getCan s.toDev n).susp k && !bitOf v k)) ∧
      (getCan t n).suspObj = (if bitOf v 3 then 0 else (getCan s.toDev n).suspObj) ∧ Only [.regs, .can, .log, .inForce] s.toDev t)) ∧
    (∀ v, v < 96 → (getCan s.toDev n).evFill ≤ 96 →
      let d := (v + 96 - rdF s.toDev (canReg n 0x78) 16 7) % 96
      (d < (getCan s.toDev n).evFill → (getCan s.toDev n).evWait = [] → s.lim.defer = [] → Completes (.canTxevAckWrite 3 n v) s (fun t =>
        (getCan t n).evFill = (getCan s.toDev n).evFill - (d + 1) ∧ rdF t (canReg n 0x78) 16 7 = (v + 1) % 96 ∧
        RegsBut [canReg n 0x78] s.toDev t ∧ Only [.regs, .can] s.toDev t)) ∧
      ((getCan s.toDev n).evFill ≤ d → Completes (.canTxevAckWrite 3 n v) s (fun t => t = s.toDev))) ∧
    (∀ k v, k < 2 → v < rxfSize k → rxfFill s.toDev n k ≤ rxfSize k →
      let d := (v + rxfSize k - rdF s.toDev (rxfReg n k) 16 7) % rxfSize k
      (d < rxfFill s.toDev n k → Completes (.canRxfAckWrite 3 n k v) s (fun t => rxfFill t n k = rxfFill s.toDev n k - (d + 1) ∧
        rdF t (rxfReg n k) 16 7 = (rdF s.toDev (rxfReg n k) 16 7 + d + 1) % rxfSize k ∧ rxfFill t n (1 - k) = rxfFill s.toDev n (1 - k) ∧
        RegsBut [rxfReg n k] s.toDev t ∧ Only [.regs, .can, .log, .inForce] s.toDev t)) ∧
      (rxfFill s.toDev n k ≤ d → Completes (.canRxfAckWrite 3 n k v) s (fun t => t = s.toDev))) ∧
    (∀ c, (c = .canFltSwapReq 3 n ∨ (c = .canFilterSwap n ∧ rdB s.toDev (canReg n 0x28) 1 = true)) → frameFree s.toDev n = true →
      (fltFault s.toDev n = none → Completes c s (fun t => rdF t (canReg n 0x20) 0 1 = 1 - rdF s.toDev (canReg n 0x20) 0 1 ∧
        rdF t (canReg n 0x28) 16 16 = rdF s.toDev (canReg n 0x20) 16 16 ∧ (getCan t n).fltNow = rd s.toDev (canReg n 0x24) ∧
        rdB t (canReg n 0x28) 1 = false ∧ rdB t (canReg n 0x18) 8 = true ∧ Only [.regs, .can] s.toDev t)) ∧
      (∀ k, fltFault s.toDev n = some k → Completes c s (fun t => rdF t (canReg n 0x20) 0 1 = rdF s.toDev (canReg n 0x20) 0 1 ∧
        rdF t (canReg n 0x28) 7 9 = k ∧ rdB t (canReg n 0x28) 2 = true ∧ rdB t (canReg n 0x28) 1 = false ∧ posted t 3 Ev.CAN_FLT_REJECT (n + k * 0x100) ∧
        rdB t (canReg n 0x18) 7 = true ∧ Only [.regs, .log, .inForce] s.toDev t))) ∧
    (frameFree s.toDev n = false → Completes (.canFltSwapReq 3 n) s (fun t => rdB t (canReg n 0x28) 1 = true ∧ rdF t (canReg n 0x20) 0 1 = rdF s.toDev (canReg n 0x20) 0 1 ∧
      Only [.regs] s.toDev t) ∧ Completes (.canFilterSwap n) s (fun t => t = s.toDev)) ∧
    (canSupervised s.toDev n = true → (getCan s.toDev n).busoff = true → (getCan s.toDev n).recov = false →
      (lastMinute s.toDev (getCan s.toDev n).recAt).length < 3 → Completes (.canCtrlRecover 3 n) s (fun t => (getCan t n).recov = true ∧
        RegsBut [canReg n 4] s.toDev t ∧ Only [.regs, .can] s.toDev t)) ∧
    (canSupervised s.toDev n = false → Completes (.canCtrlRecover 3 n) s (fun t => t = s.toDev)) ∧
    (∀ w (v : U32), w < 2 → Completes (.canObjSend 3 n w v) s (fun t => rd t (canReg n (0x90 + w * 4)) = rd s.toDev (canReg n (0x90 + w * 4)) ||| v ∧
      RegsBut [canReg n (0x90 + w * 4), canReg n 0x74] s.toDev t ∧ Only [.regs, .can] s.toDev t))

/-! ## Counters, captures, bandwidth and the log (spec 16) -/

/-- 16 R489, 11 R335, R336: a read of CNTn_LO latches the other half for the pair that reads, and CNTn_HI returns that latch; the value enters
the pair's input log, and a pair that is in recovery does not read the device. -/
def Obligations.CounterReadLatches : Prop :=
  ∀ (s : State) (p n : Nat), Awake s → p < 4 → n < 2048 → pairUp s.toDev p = true →
    let latched := fun t : Dev => t.readVal = w32 (counterVal s.toDev n) ∧ fld (Tbl.get 0 t.cnt.latch p) 0 16 = counterVal s.toDev n / 2 ^ 32 ∧
      bitOf (Tbl.get 0 t.cnt.latch p) 31 = counterOvf s.toDev n ∧ (∀ q, q ≠ p → Tbl.get 0 t.cnt.latch q = Tbl.get 0 s.cnt.latch q)
    ((getPair s.toDev p).recov = .run → Completes (.cntLoRead p n) s (fun t => latched t ∧
      (∃ idx, idx < 512 ∧ (getPair t p).inLog = ((getPair s.toDev p).inLog ++ [(idx, t.readVal)]).take 1024) ∧
      (∀ q, q < 4 → q ≠ p → getPair t q = getPair s.toDev q) ∧ Only [.exe, .cnt, .freeCtr, .readVal] s.toDev t)) ∧
    ((getPair s.toDev p).recov = .run → ∀ (set : U32) (idx : Nat),
      let logged := fun t : Dev => (getPair t p).inLog = ((getPair s.toDev p).inLog ++ [(idx, t.readVal)]).take 1024 ∧
        (∀ q, q < 4 → q ≠ p → getPair t q = getPair s.toDev q)
      Completes (.readClearRegister p ⟨CNT_VAL + n * 8 + 4, set, idx⟩) s (fun t => t.readVal = Tbl.get 0 s.cnt.latch p ∧ logged t ∧
        Only [.exe, .readVal] s.toDev t) ∧
      Completes (.readClearRegister p ⟨CNT_VAL + n * 8, set, idx⟩) s (fun t => latched t ∧ logged t ∧ Only [.cnt, .exe, .readVal] s.toDev t)) ∧
    ((getPair s.toDev p).recov ≠ .run → Completes (.cntLoRead p n) s (fun t => t = s.toDev) ∧
      ∀ (a : Nat) (set : U32) (idx : Nat), Completes (.readClearRegister p ⟨a, set, idx⟩) s (fun t => t = s.toDev))

/-- 16 R488, R490, R501: both halves of a counter written by P2.
16 R493, R494, R497, R501: a dump record written, a freeze asked for, and the bandwidth windows.
The model's choices in it: Log 84, 119, 139. -/
def Obligations.CounterRows : Prop :=
  (∀ (s : State) (n : Nat), Awake s → n < 2048 →
    (∀ v, Completes (.cntLoWrite 2 n v) s (fun t => Tbl.get none t.cnt.staged 2 = some v ∧ Only [.cnt] s.toDev t)) ∧
    (∀ lo v, Tbl.get none s.cnt.staged 2 = some lo → Completes (.cntHiWrite 2 n v) s (fun t => counterVal t n = lo.toNat + fld v 0 16 * 2 ^ 32 ∧
      counterOvf t n = counterOvf s.toDev n ∧ Tbl.get none t.cnt.staged 2 = none ∧ (∀ m, m ≠ n → counterVal t m = counterVal s.toDev m) ∧
      RegsBut [CNT_VAL + n * 8, CNT_VAL + n * 8 + 4] s.toDev t ∧ Only [.regs, .cnt] s.toDev t)) ∧
    (∀ p v, p ≠ 2 → Completes (.cntLoWrite p n v) s (fun t => t = busErrorTo s.toDev p) ∧
      Completes (.cntHiWrite p n v) s (fun t => t = busErrorTo s.toDev p))) ∧
  (∀ s : State, Awake s →
    (rdB s.toDev CNT_STATUS 0 = true → Completes .dumpRecordWritten s (fun t =>
      ldWords t (0x21580000 + s.cnt.dseq % 96 * 0x1000) s.cnt.dumpBuf.length = s.cnt.dumpBuf ∧ rd t CNT_DUMP_SEQ = w32 s.cnt.dseq ∧
      t.cnt.dseq = (s.cnt.dseq + 1) % 2 ^ 32 ∧ rdB t CNT_STATUS 0 = false ∧
      MemBut (0x21580000 + s.cnt.dseq % 96 * 0x1000) (4 * s.cnt.dumpBuf.length) s.toDev t ∧ RegsBut [CNT_STATUS, CNT_DUMP_SEQ] s.toDev t ∧
      Only [.regs, .mem, .cnt] s.toDev t)) ∧
    (rdB s.toDev CNT_STATUS 0 = false → Completes .dumpRecordWritten s (fun t => t = s.toDev)) ∧
    (s.cnt.vitrine = true → Completes (.vitReqWrite 2) s (fun t => rdB t CNT_CTRL 1 = true ∧ RegsBut [CNT_CTRL] s.toDev t ∧ Only [.regs] s.toDev t)) ∧
    (s.cnt.vitrine = false → Completes (.vitReqWrite 2) s (fun t => t = s.toDev)) ∧
    (∀ p k v, p ≠ 2 → Completes (.vitReqWrite p) s (fun t => t = busErrorTo s.toDev p) ∧
      Completes (.bwCfgWrite p k v) s (fun t => t = busErrorTo s.toDev p)) ∧
    (∀ k, k < 16 →
      let a := BW_CFG + k * 16
      (∀ bytes, rdB s.toDev a 31 = true → Completes (.bwWindowEnd k bytes) s (fun t =>
        let sum := (Tbl.get 0 s.cnt.bw k + bytes) % 2 ^ 32
        rdN t (a + 4) = sum ∧ rdN t (a + 8) = max (rdN s.toDev (a + 8)) sum ∧ rd t (a + 12) = w32 (rdN s.toDev (a + 12) + 1) ∧ Tbl.get 0 t.cnt.bw k = 0 ∧
        (∀ m, m ≠ k → Tbl.get 0 t.cnt.bw m = Tbl.get 0 s.cnt.bw m) ∧ RegsBut [a + 4, a + 8, a + 12] s.toDev t ∧ Only [.regs, .cnt] s.toDev t)) ∧
      (∀ bytes, rdB s.toDev a 31 = false → Completes (.bwWindowEnd k bytes) s (fun t => t = s.toDev)) ∧
      (∀ v : U32, (v &&& 0x80FFFFFF#32 ≠ rd s.toDev a → Completes (.bwCfgWrite 2 k v) s (fun t => rd t a = v &&& 0x80FFFFFF#32 ∧ rd t (a + 4) = 0 ∧
          rd t (a + 12) = 0 ∧ Tbl.get 0 t.cnt.bw k = 0 ∧ RegsBut [a, a + 4, a + 12] s.toDev t ∧ Only [.regs, .cnt] s.toDev t)) ∧
        (v &&& 0x80FFFFFF#32 = rd s.toDev a → Completes (.bwCfgWrite 2 k v) s (fun t => t = s.toDev)))))

/-- 16 R504 to R507: P2 takes every record that waits, P0's first, and gives each the next number and its slot; a second begins.
The model's choices in it: Log 91. -/
def Obligations.LogRows : Prop :=
  ∀ s : State, Awake s →
    (pairUp s.toDev 2 = true → Completes .logIntake s (fun t =>
      (s.log.taken + (waitingPosts s.toDev).length ≤ 4096 → t.log.next = s.log.next + (waitingPosts s.toDev).length ∧
        (∀ k r, (waitingPosts s.toDev)[k]? = some r → Memory.bytes t.mem (logSlot (s.log.next + k)) 32 = logRecord (s.log.next + k) r false)) ∧
      (∀ p r, r ∈ Tbl.get [] t.log.posts p → r.code = Ev.NOTICE_LOST) ∧ MemBut 0x21600000 0x100000 s.toDev t ∧
      Only [.regs, .mem, .exe, .host, .log, .posts] s.toDev t)) ∧
    (pairUp s.toDev 2 = false → Completes .logIntake s (fun t => t = s.toDev) ∧ Completes .logSecondBoundary s (fun t => t = s.toDev)) ∧
    (pairUp s.toDev 2 = true → s.log.supp = 0 → Completes .logSecondBoundary s (fun t => t.log.taken = 0 ∧ t.log.next = s.log.next ∧
      t.log.posts = s.log.posts ∧ Only [.log] s.toDev t)) ∧
    (pairUp s.toDev 2 = true → s.log.supp ≠ 0 → Completes .logSecondBoundary s (fun t => t.log.taken = 0 ∧ t.log.supp = 0 ∧ t.log.next = s.log.next + 1 ∧
      (∃ r : Post, Memory.bytes t.mem (logSlot s.log.next) 32 = logRecord s.log.next r false ∧ r.code = Ev.LOG_SUPPRESSED ∧
        r.arg = s.log.suppFst + s.log.supp % 2 ^ 32 * 2 ^ 32 ∧ r.cyc = s.tb.cyc ∧ r.angle = rdN s.toDev TB_ANGLE ∧ r.pair = 2 ∧ r.sess = 0xF) ∧
      MemBut (logSlot s.log.next) 32 s.toDev t ∧ t.strs = s.strs))

/-! ## Supplies, reset, BOOT, hibernation and the retained store (spec 17), registers (spec 00) -/

/-- 17 R512 to R514, R533, R539: the supplies and RESET_N. These rows act in every state.
The model's choices in it: Log 72, 75. -/
def Obligations.SupplyRows : Prop :=
  ∀ s : State,
    Completes (.resetNChange false) s (fun t => t.dev = .off ∧ t.pwr.resetN = false ∧ t.pwr.marker = false ∧ t.pwr.reason = 1 ∧
      rd t PWR_WAKE_CFG = regReset PWR_WAKE_CFG ∧ Stripped s.toDev t) ∧
    Completes (.vaonPowerOn false) s (fun t => t.dev = .off ∧ t.pwr.vaon = false ∧ t.pwr.marker = false ∧ t.pwr.reason = 0 ∧
      rd t PWR_WAKE_CFG = regReset PWR_WAKE_CFG ∧ Stripped s.toDev t) ∧
    Completes (.resetNChange true) s (fun t => t = { s.toDev with pwr := { s.pwr with resetN := true } }) ∧
    Completes (.vaonPowerOn true) s (fun t => t = { s.toDev with pwr := { s.pwr with vaon := true } }) ∧
    (s.dev ≠ .off → Completes .brownOut s (fun t => t.dev = .off ∧ t.pwr.marker = s.pwr.marker ∧ t.pwr.reason = 2 ∧ Stripped s.toDev t)) ∧
    (s.dev = .off → Completes .brownOut s (fun t => t = s.toDev)) ∧
    (asleep s.toDev = true → Completes .pgoodInFall s (fun t => t = { s.toDev with pwr := { s.pwr with pgood := false } })) ∧
    (asleep s.toDev = false → s.pwr.failing = false → Completes .pgoodInFall s (fun t => t.pwr.pgood = false ∧ t.pwr.failing = true ∧
      rdB t RET_STATUS 2 = true ∧ rdB t SAF_STATUS 0 = true ∧ t.saf.latchEvt = Ev.POWER_FAIL ∧ (pairUp s.toDev 2 = true → t.log.dirty = []) ∧ t.tb = s.tb)) ∧
    (s.pwr.failing = true → s.pwr.txn = none → Completes .powerFailReset s (fun t => t.dev = .off ∧ t.pwr.reason = 3 ∧ Stripped s.toDev t)) ∧
    (s.pwr.failing = false → Completes .powerFailReset s (fun t => t = s.toDev))

/-- 17 R512, R516 to R519, R524, R537 to R540: the starts of the device. A start runs the timebase and counts local time from zero; with
BOOTSEL 0b11 it ends in the recovery service, and PWR_BOOT names its reason.
The model's choices in it: Log 73, 76, 97, 127. -/
def Obligations.StartRows : Prop :=
  ∀ (s : State) (sel failed : Nat),
    let begins := fun (c : Instr) (reason woken : Nat) =>
      Completes c s (fun t => t.tb.running = true ∧ t.uptimeMs = 0) ∧
      (sel % 4 = 3 → Completes c s (fun t => t.dev = .boot ∧ t.pwr.recovery = true ∧ t.pwr.booting = false ∧ t.pwr.selBoot = 3 ∧ t.pwr.marker = false ∧
        rdF t PWR_BOOT 0 4 = reason % 16 ∧ rdF t PWR_BOOT 8 4 = woken ∧ rdB t PWR_BOOT 18 = true ∧ t.strs = [] ∧ t.parCfg = []))
    (s.pwr.resetN = true → s.pwr.vaon = true →
      (s.dev = .off → s.pwr.reason ≠ 4 → begins (.bootStart sel failed) s.pwr.reason 0) ∧
      (s.dev = .hibernate → s.pwr.woken ≠ 0 → begins (.bootStart sel failed) 4 (s.pwr.woken % 16)) ∧
      (asleep s.toDev = false → Completes (.bootStart sel failed) s (fun t => t = { s.toDev with pwr := { s.pwr with pgood := true } }))) ∧
    (s.pwr.resetN = false ∨ s.pwr.vaon = false → Completes (.bootStart sel failed) s (fun t => t = s.toDev)) ∧
    (∀ srcs, s.dev = .hibernate →
      let fired := srcs % 16 &&& rdF s.toDev PWR_WAKE_CFG 0 4
      (fired ||| s.pwr.woken ≠ 0 → s.pwr.pgood = true → begins (.wakeSourceFired srcs sel failed) 4 ((fired ||| s.pwr.woken) % 16)) ∧
      (fired ||| s.pwr.woken ≠ 0 → s.pwr.pgood = false → Completes (.wakeSourceFired srcs sel failed) s (fun t =>
        t = { s.toDev with pwr := { s.pwr with woken := fired ||| s.pwr.woken } })) ∧
      (fired ||| s.pwr.woken = 0 → Completes (.wakeSourceFired srcs sel failed) s (fun t => t = s.toDev))) ∧
    (∀ srcs, s.dev ≠ .hibernate → Completes (.wakeSourceFired srcs sel failed) s (fun t => t = s.toDev)) ∧
    (s.dev = .hibernate → rdB s.toDev CAN_WAKE 0 = true → rdB s.toDev PWR_WAKE_CFG 1 = true → Completes .canWakePattern s (fun t =>
      rdB t CAN_WAKE 1 = true ∧ t.pwr = { s.pwr with woken := s.pwr.woken ||| 2 } ∧ RegsBut [CAN_WAKE] s.toDev t ∧ Only [.regs, .pwr] s.toDev t)) ∧
    (rdB s.toDev CAN_WAKE 0 = false → Completes .canWakePattern s (fun t => t = s.toDev)) ∧
    (Awake s →
      (s.pwr.booting = true → begins (.bootWatchdogExpiry sel failed) 6 0) ∧
      (s.pwr.booting = false → Completes (.bootWatchdogExpiry sel failed) s (fun t => t = s.toDev)) ∧
      (pairUp s.toDev 2 = true → begins (.pwrCtrlRestart 2 sel failed) 5 0) ∧
      (∀ p, p ≠ 2 → Completes (.pwrCtrlRestart p sel failed) s (fun t => t = busErrorTo s.toDev p)) ∧
      (s.pwr.activate.isSome = true → activateReady s.toDev = true → begins (.activationRestart sel failed) 5 0) ∧
      (s.pwr.activate = none ∨ activateReady s.toDev = false → Completes (.activationRestart sel failed) s (fun t => t = s.toDev)) ∧
      (s.pwr.trial = true → s.pwr.trialBad = true → s.dev = .standby ∨ s.dev = .safeHold → pairUp s.toDev 2 = true → s.pwr.txn = none →
        retPending s.toDev = false → (startsNow s.toDev).length < 4 → begins (.trialRollbackRestart sel failed) 5 0) ∧
      (s.pwr.trial = false → Completes (.trialRollbackRestart sel failed) s (fun t => t = s.toDev)))

/-- 13 R427, 17 R524, R535, R536, R540, 18 R550, 19 R575: HIBERNATE is entered or given up; a trial is confirmed; boundary scan.
The model's choices in it: Log 82. -/
def Obligations.HibernateRows : Prop :=
  ∀ s : State, Awake s →
    (pairUp s.toDev 2 = true → s.pwr.txn = none → armWaits s.toDev = false → Completes (.pwrCtrlHibReq 2) s (fun t => t.dev = .hibernate ∧ t.pwr.marker = true ∧ t.pwr.woken = 0 ∧
      (∀ a, a ∈ [PWR_WAKE_CFG, PWR_HIB_TIMER, PWR_CWAKE, CAN_WAKE] → rd t a = rd s.toDev a) ∧ Stripped s.toDev t)) ∧
    (armWaits s.toDev = true → Completes (.pwrCtrlHibReq 2) s (fun t => t = s.toDev)) ∧
    (∀ p, p ≠ 2 → Completes (.pwrCtrlHibReq p) s (fun t => t = busErrorTo s.toDev p)) ∧
    (pairUp s.toDev 2 = true → s.pwr.hibStep ≠ 0 → Completes .hibernateAbortTimeout s (fun t => t.pwr = { s.pwr with hibStep := 0 } ∧
      posted t 2 Ev.HIB_ABORT s.pwr.hibStep ∧ (3 ≤ s.pwr.hibStep → posted t 0 Ev.STATE_CHANGE (1 + 3 * 16)) ∧ Only [.log, .pwr, .inForce] s.toDev t)) ∧
    (s.pwr.hibStep = 0 → Completes .hibernateAbortTimeout s (fun t => t = s.toDev)) ∧
    (s.pwr.trial = true → s.pwr.trialBad = false → s.pwr.booting = false → pairUp s.toDev 2 = true →
      s.pwr.bootEnd + par s.toDev 0xE002 * 1000 ≤ s.uptimeMs → Completes .trialConfirmTimeout s (fun t => t.pwr.trial = false ∧ t.pwr.boot.trial = false ∧
        posted t 2 Ev.FW_CONFIRMED ((fwVer s.toDev).toNat * 2 ^ 32) ∧ t.strs = s.strs ∧ t.tb = s.tb)) ∧
    (s.pwr.trial = false ∨ s.uptimeMs < s.pwr.bootEnd + par s.toDev 0xE002 * 1000 → Completes .trialConfirmTimeout s (fun t => t = s.toDev)) ∧
    (∀ ins, s.exe.debug = .service → (ins = .extest ∨ ins = .clamp) → Completes (.jtagInstructionUpdate ins) s (fun t =>
      t.pwr.scan = true ∧ rdB t SAF_STATUS 0 = true ∧ t.mem = s.mem ∧ t.tb = s.tb)) ∧
    (∀ ins, s.exe.debug ≠ .service ∨ (ins ≠ .extest ∧ ins ≠ .clamp) → Completes (.jtagInstructionUpdate ins) s (fun t =>
      t = { s.toDev with pwr := { s.pwr with scan := false } }))

/-- 17 R527, R528, R532, R540, 01 R22: a transaction of the retained store starts, is refused, and ends; a save falls due, and P2's writes
for it wait in its release buffer.
The model's choices in it: Log 66, 67. -/
def Obligations.RetainedRows : Prop :=
  ∀ s : State, Awake s →
    (∀ p v, p ≠ 2 → Completes (.retGoWrite p v) s (fun t => t = busErrorTo s.toDev p)) ∧
    (∀ v : U32, goRejected s.toDev v = true → Completes (.retGoWrite 2 v) s (fun t => rdB t RET_STATUS 3 = true ∧ t.pwr.txn = s.pwr.txn ∧
      RegsBut [RET_STATUS] s.toDev t ∧ Only [.regs, .pwr] s.toDev t)) ∧
    (∀ v : U32, goRejected s.toDev v = false → Completes (.retGoWrite 2 v) s (fun t => (∃ x, t.pwr.txn = some x ∧ x.tseq = s.pwr.tseq ∧ x.kind = fld v 8 3 ∧
      x.segs = segsOf s.toDev (fld v 0 4) ∧ x.dcrc = crc32 (x.segs.flatMap (fun e => Memory.bytes s.mem e.1 e.2.2)) ∧
      Memory.bytes t.mem (descAddr x.tseq) 128 = descBytes x 1) ∧ rdB t RET_STATUS 0 = true ∧ t.pwr.tseq = (s.pwr.tseq + 1) % 2 ^ 32 ∧
      MemBut (descAddr s.pwr.tseq) 128 s.toDev t ∧ RegsBut [RET_STATUS] s.toDev t ∧ Only [.regs, .mem, .pwr] s.toDev t)) ∧
    (s.pwr.txn = none → Completes .retainedTransactionDone s (fun t => t = s.toDev)) ∧
    (∀ x e, s.pwr.txn = some x → x.segs = [e] → e.2.1 + e.2.2 ≤ 0x10344000 → 0x20000000 ≤ e.1 → s.pwr.txnFor = none → s.pwr.bootDue = false →
      s.pwr.cfgDue = false → s.pwr.loadDue = false → s.exe.healthDue = false → s.pwr.saveDue = false → s.pwr.hibStep = 0 →
      Completes .retainedTransactionDone s (fun t => t.pwr.txn = none ∧ Memory.bytes t.mem e.2.1 e.2.2 = Memory.bytes s.mem e.1 e.2.2 ∧
        ld8 t (descAddr x.tseq + 8) = 2 ∧ rdB t RET_STATUS 0 = false ∧ rdB t RET_STATUS 1 = true ∧ rd t RET_TSEQ = w32 x.tseq ∧ rd t RET_DCRC = x.dcrc ∧
        RegsBut [RET_STATUS, RET_TSEQ, RET_DCRC] s.toDev t ∧ Only [.regs, .mem, .pwr] s.toDev t)) ∧
    (pairUp s.toDev 2 = true → s.pwr.booting = false → s.pwr.recovery = false → engineFree s.toDev = false → Completes .periodicSave s (fun t =>
      t = { s.toDev with pwr := { s.pwr with saveDue := true, saveHold := true } })) ∧
    (pairUp s.toDev 2 = true → s.pwr.booting = false → s.pwr.recovery = false → engineFree s.toDev = true → s.pwr.saveHold = true → s.pwr.bootDue = false →
      s.pwr.cfgDue = false → s.pwr.loadDue = false → s.exe.healthDue = false → Completes .periodicSave s (fun t =>
      t = { s.toDev with pwr := { s.pwr with saveDue := true } })) ∧
    (pairUp s.toDev 2 = true → s.pwr.booting = false → s.pwr.recovery = false → engineFree s.toDev = true → s.pwr.saveHold = false → saveNow s.toDev = true → s.pwr.bootDue = false →
      s.pwr.cfgDue = false → s.pwr.loadDue = false → s.exe.healthDue = false → Completes .periodicSave s (fun t =>
        (∃ r, (getPair t 2).rel = (getPair s.toDev 2).rel ++ [r] ∧ r.eff = .ret 1 .save (rdN s.toDev EST_LAST_SNAP) saveSegs) ∧ t.pwr.saveDue = false ∧
        t.pwr.saveAns = s.pwr.saveAns ++ s.pwr.saveWait ∧ t.pwr.saveWait = [] ∧ t.pwr.txn = none ∧ (∀ q, q ≠ 2 → getPair t q = getPair s.toDev q) ∧
        Only [.mem, .exe, .pwr] s.toDev t)) ∧
    (pairUp s.toDev 2 = false ∨ s.pwr.booting = true ∨ s.pwr.recovery = true → Completes .periodicSave s (fun t => t = s.toDev))

/-- 00 R4, R5, R8, 04 R119, 11 R335, R336, 15 R455: a register without a row of its own is written by its masks, by the pairs it names only,
and keeps the bits that hardware sets in the same clock cycle; an index of the unit map out of range is a bus error, and the map of an active node
stands; a register read enters the pair's input log; a word of CAN message RAM is written by P3.
The model's choices in it: Log 85, 86. -/
def Obligations.RegisterRows : Prop :=
  ∀ (s : State) (p a : Nat) (v set : U32), Awake s →
    (∀ r : RegRow, regRow a = some r →
      (ownBits a ≠ 0xFFFFFFFF#32 → pairUp s.toDev p = true → nbit r.owners p = false → Completes (.registerWrite p a ⟨v, set⟩) s (fun t =>
        t = busErrorTo s.toDev p)) ∧
      (ownBits a ≠ 0xFFFFFFFF#32 → pairUp s.toDev p = true → nbit r.owners p = true → canOff a = none → a ∉ [ACQ_STATUS, EXE_CTRL, EXE_FEED] →
        (a < PISTE_BANK ∨ PISTE_BANK + 0x2000 ≤ a) → (a < SAF_SIN_CFG ∨ SAF_SIN_CFG + 0x80 ≤ a) →
        let new := regMerge r (rd s.toDev a) (v &&& ~~~ownBits a) ||| (set &&& w32 r.w1c)
        (ACQ_UMAP ≤ a → a < ACQ_UMAP + 0xFE00 → umapWordBad (nbit (a - ACQ_UMAP) 2) new = true → Completes (.registerWrite p a ⟨v, set⟩) s (fun t =>
          t = busErrorTo s.toDev p)) ∧
        (ACQ_UMAP ≤ a → a < ACQ_UMAP + 0xFE00 → umapWordBad (nbit (a - ACQ_UMAP) 2) new = false → umapActive s.toDev ((a - ACQ_UMAP) / 8) = true →
          Completes (.registerWrite p a ⟨v, set⟩) s (fun t => t = s.toDev)) ∧
        (a < ACQ_UMAP ∨ ACQ_UMAP + 0xFE00 ≤ a ∨ (umapWordBad (nbit (a - ACQ_UMAP) 2) new = false ∧ umapActive s.toDev ((a - ACQ_UMAP) / 8) = false) →
          (RING_BASE ≤ a → a < 0x40022000 → a % 0x100 = 0 → ringOn s.toDev ((a - RING_BASE) / 0x100) = true → bitOf new 0 = true) → Completes (.registerWrite p a ⟨v, set⟩) s (fun t =>
          rd t a = new ∧ RegsBut [a] s.toDev t ∧ Only [.regs] s.toDev t))) ∧
      (pairUp s.toDev p = false ∨ ownBits a = 0xFFFFFFFF#32 → Completes (.registerWrite p a ⟨v, set⟩) s (fun t => t = s.toDev)) ∧
      (∀ idx, pairUp s.toDev p = true → (getPair s.toDev p).recov = .run → readBarred p a = true → Completes (.readClearRegister p ⟨a, set, idx⟩) s (fun t =>
        t = logInput (busErrorTo s.toDev p) p idx 0)) ∧
      (∀ idx, p < 4 → pairUp s.toDev p = true → (getPair s.toDev p).recov = .run → readBarred p a = false → readActs a = false → a ≠ THM_DIE_PEAK →
        Completes (.readClearRegister p ⟨a, set, idx⟩) s (fun t => t.readVal = regRead s.toDev a ∧ rd t a = (if r.rc then set else rd s.toDev a) ∧
          (getPair t p).inLog = ((getPair s.toDev p).inLog ++ [(idx, regRead s.toDev a)]).take 1024 ∧ (∀ q, q < 4 → q ≠ p → getPair t q = getPair s.toDev q) ∧
          RegsBut [a] s.toDev t ∧ Only [.regs, .exe, .readVal] s.toDev t)) ∧
      (∀ idx, pairUp s.toDev p = false ∨ (getPair s.toDev p).recov ≠ .run → Completes (.readClearRegister p ⟨a, set, idx⟩) s (fun t => t = s.toDev))) ∧
    (∀ n o, n < 8 → o < 0x7C80 → o % 4 = 0 → regRow (0x30000000 + n * 0x10000 + o) = none →
      let b := 0x30000000 + n * 0x10000 + o
      (pairUp s.toDev 3 = true → (0x1000 ≤ o ∨ (o / 0x800 ≠ rdF s.toDev (canReg n 0x20) 0 1 ∧ rdB s.toDev (canReg n 0x20) 1 = false)) →
        Completes (.registerWrite 3 b ⟨v, set⟩) s (fun t => ld32 t b = v.toNat ∧ MemBut b 4 s.toDev t ∧ Only [.mem] s.toDev t)) ∧
      (∀ q, q ≠ 3 → pairUp s.toDev q = true → Completes (.registerWrite q b ⟨v, set⟩) s (fun t => t = busErrorTo s.toDev q) ∧
        ((getPair s.toDev q).recov = .run → ∀ idx, Completes (.readClearRegister q ⟨b, set, idx⟩) s (fun t => t = logInput (busErrorTo s.toDev q) q idx 0))))

/-! ## Commits and loads that fail (spec 02, 11, 17) -/

/-- A commit that P2 judges: its session owns the open transaction, and no other commit is under way or too recent (12 R385). -/
def Obligations.LossBelowLock : Prop :=
  ∀ (s : State) (c : HostCmd) (x : Txn), Awake s → admitted s.toDev OP_CONFIG_COMMIT c → s.host.txn = some x → x.owner = c.sess →
    s.host.commit = none → within s.toDev s.host.commitAt 1000 = false → txnVal s.toDev x 0x1006 ≤ txnVal s.toDev x 0x1007 →
    Completes (.configCommit c) s (fun t => (∃ id, t = replied s.toDev OP_CONFIG_COMMIT c ST_BAD_PARAM [w32 id]) ∧ t.parCfg = s.parCfg ∧ t.parNow = s.parNow)

/-- 11 R361: `exe.policy` is parameter 0x9001. -/
def Obligations.PolicyInStandbyOnly : Prop :=
  ∀ (s : State) (c : HostCmd) (x : Txn), Awake s → admitted s.toDev OP_CONFIG_COMMIT c → s.host.txn = some x → x.owner = c.sess →
    s.host.commit = none → within s.toDev s.host.commitAt 1000 = false → s.dev ≠ .standby → txnVal s.toDev x 0x9001 ≠ parC s.toDev 0x9001 →
    Completes (.configCommit c) s (fun t => (∃ id, t = replied s.toDev OP_CONFIG_COMMIT c ST_BAD_PARAM [w32 id]) ∧ t.parCfg = s.parCfg ∧ t.parNow = s.parNow)

/-- 17 R534: LAST is bit 31 of word 0; the payload is well-formed, and no other load is open. -/
def Obligations.MasterLoadSpacing : Prop :=
  ∀ (s : State) (c : HostCmd), Awake s → admitted s.toDev OP_MASTER_TABLE_LOAD c → 2 ≤ c.payload.length → fld (pw c 0) 3 28 = 0 → pwN c 1 % 4 = 0 →
    pwN c 1 + 4 * (c.payload.length - 2) ≤ 65536 → s.pwr.loadWait = none → (∀ e, s.pwr.load = some e → e = (fld (pw c 0) 0 3, c.sess)) →
    bitOf (pw c 0) 31 = true → s.pwr.masterAt ≠ 0 → s.uptimeMs + 1 < s.pwr.masterAt + 10000 →
    Completes (.masterTableLoad c) s (fun t => t = replied s.toDev OP_MASTER_TABLE_LOAD c ST_BUSY [])

/-! ## The whole block -/

/-- A step runs the command at the front of the queue on the state with the queue's rest.
The model's choices in it: Log 98. -/
def Obligations.StepRunsFrontCommand : Prop :=
  ∀ (c : Instr) (rest : List Instr) (s : State), step { s with pending := c :: rest } = exec c { s with pending := rest }

/-- Every command completes: none faults and none is refused (01 R16: a bus error is an effect on the state). What a command may change
is the list `changes` gives it, and it keeps the canonical form of registers, memory and host window.
The model's choices in it: Log 20. -/
def Obligations.CommandFrame : Prop := ∀ (c : Instr) (s : State), Completes c s (fun t => Only (changes c) s.toDev t)

/-- 17 R512, R535, R536: in OFF and HIBERNATE a device takes no command but the supply, start and wake rows.
11 R349, 13 R392: every host command is P2's to run; with P2 lost or not formed it has no effect.
The model's choices in it: Log 21, 22. -/
def Obligations.InertRows : Prop :=
  (∀ (c : Instr) (s : State), asleep s.toDev = true → c ≠ .canWakePattern → c ≠ .brownOut → c ≠ .pgoodInFall → c ≠ .powerFailReset →
    (∀ h, c ≠ .resetNChange h) → (∀ h, c ≠ .vaonPowerOn h) → (∀ k f, c ≠ .bootStart k f) → (∀ w k f, c ≠ .wakeSourceFired w k f) →
    Completes c s (fun t => t = s.toDev)) ∧
  (∀ (s : State) (c : HostCmd), pairUp s.toDev 2 = false →
    ∀ row : HostCmd → Instr, row ∈ [.identify, .statusGet, .serviceEnter, .serviceLeave, .configBegin, .paramSet, .paramGet, .configCommit, .configAbort, .timebaseGet,
      .timebaseAlign, .pisteRead, .pisteWrite, .ringStatus, .ringEnumerate, .ringLeave, .nodeRead, .unitMapSet, .unitMapGet, .historyRead,
      .stringSampleRead, .directRead, .balClear, .catalogueRead, .stringEstRead, .capacityWrite, .masterTableLoad, .limitsRead, .thermalRead,
      .sensorRead, .stringConnect, .stringDisconnect, .stringLock, .stringUnlock, .stringWeldRelease, .stringRead, .safetyReset, .sinReset,
      .safetyRead, .execRead, .coreUnfence, .debugSet, .sessionOpen, .sessionAuth, .sessionClose, .sessionPing, .cmdCancel, .tagQuery,
      .noticeSubscribe, .keyProvision, .clusterRead, .canTx, .canRxRead, .canStatus, .canRecover, .logRead, .counterRead, .vitrineTake, .dumpRead,
      .fwStageBegin, .fwStageData, .fwStageVerify, .fwActivate, .fwInfo, .hibernate, .retainedSave] →
      Completes (row c) s (fun t => t = s.toDev))

/-- 12 R384, R385, 17 R531: committed parameters change only when a retained transaction ends, and in a start or a loss of power. -/
def Obligations.ParametersChangeByTransaction : Prop :=
  ∀ (c : Instr) (s t : State), exec c s = .next t → t.parCfg ≠ s.parCfg →
    c = .retainedTransactionDone ∨ c = .brownOut ∨ c = .powerFailReset ∨ (∃ h, c = .resetNChange h) ∨ (∃ h, c = .vaonPowerOn h) ∨
    (∃ k f, c = .bootStart k f ∨ c = .bootWatchdogExpiry k f ∨ c = .activationRestart k f ∨ c = .trialRollbackRestart k f) ∨
    (∃ p, c = .pwrCtrlHibReq p) ∨ (∃ p k f, c = .pwrCtrlRestart p k f ∨ c = .wakeSourceFired p k f)

/-- 10 R311, R316, R318, 17 R536, 19 R568: after any command, the pins of a device whose safe-state latch is set, or that is in OFF or
HIBERNATE, hold every SEO off, and FAULT_N is low but in HIBERNATE.
The model's choices in it: Log 83. -/
def Obligations.SafePins : Prop :=
  ∀ (c : Instr) (s t : State), exec c s = .next t →
    (latched t.toDev = true ∨ asleep t.toDev = true → t.pins.seoA = 0 ∧ t.pins.seoB = 0) ∧
    (∀ n, n < 8 → (rdB t.toDev SAF_SEO_HOLD n = true ∨ rdB t.toDev SAF_SEO_HOLD (8 + n) = true ∨ rdB t.toDev SAF_SEO_HOLD (16 + n) = true) →
      nbit t.pins.seoA n = false ∧ nbit t.pins.seoB n = false) ∧
    (t.dev ≠ .hibernate → latched t.toDev = true ∨ t.dev = .off ∨ t.dev = .boot → t.pins.faultN = false) ∧ (t.dev = .hibernate → t.pins.faultN = true)

/-- The invariant of the model: registers, memory and host window in their canonical form, and the pins those of the device.
The model's choices in it: Log 2. -/
def Obligations.CanonInvariant : Prop :=
  ∀ s t : State, Canon s.toDev → s.pins = pinsOf s.toDev → step s = .next t → Canon t.toDev ∧ t.pins = pinsOf t.toDev

/-- The invariant holds at reset; the device is in OFF with no command waiting, its outputs as R568 holds them (17 R512, 19 R568).
The model's choices in it: Log 1, 2. -/
def Obligations.ResetInvariant : Prop :=
  Canon State.reset.toDev ∧ State.reset.pins = pinsOf State.reset.toDev ∧ State.reset.dev = .off ∧ State.reset.pending = [] ∧
    State.reset.pins.seoA = 0 ∧ State.reset.pins.seoB = 0 ∧ State.reset.pins.tpo = 0 ∧ State.reset.pins.faultN = false ∧
    (∀ a, rd State.reset.toDev a = regReset a)
end

