-- ==== Sys2Proof/Laws/Tbl.lean ====
section
/-!
SUPPORT. Sys2Proof/Laws/Tbl.lean: the laws of sparse tables: reading after writing, and the canonical form every operation keeps.
-/
namespace Sys2Proof.Machine

variable {α : Type}

@[simp] theorem Tbl.get_nil (d : α) (k : Nat) : Tbl.get d [] k = d := rfl

theorem Tbl.get_cons (d : α) (p : Nat × α) (t : Tbl α) (k : Nat) :
    Tbl.get d (p :: t) k = if p.1 = k then p.2 else Tbl.get d t k := by
  by_cases h : p.1 = k <;> simp [Tbl.get, h]

theorem Tbl.get_erase_same (d : α) (t : Tbl α) (k : Nat) : Tbl.get d (Tbl.erase t k) k = d := by
  induction t with
  | nil => rfl
  | cons p t ih =>
    by_cases h : p.1 = k
    · simpa [Tbl.erase, h] using ih
    · have : Tbl.erase (p :: t) k = p :: Tbl.erase t k := by simp [Tbl.erase, h]
      rw [this, Tbl.get_cons, if_neg h, ih]

theorem Tbl.get_erase_ne (d : α) (t : Tbl α) {k j : Nat} (hj : j ≠ k) :
    Tbl.get d (Tbl.erase t k) j = Tbl.get d t j := by
  induction t with
  | nil => rfl
  | cons p t ih =>
    by_cases h : p.1 = k
    · have e : Tbl.erase (p :: t) k = Tbl.erase t k := by simp [Tbl.erase, h]
      rw [e, ih, Tbl.get_cons, if_neg (fun hp : p.1 = j => hj (hp.symm.trans h))]
    · have e : Tbl.erase (p :: t) k = p :: Tbl.erase t k := by simp [Tbl.erase, h]
      rw [e, Tbl.get_cons, Tbl.get_cons, ih]

theorem Tbl.get_insert_ne (d : α) (t : Tbl α) {k j : Nat} (v : α) (hj : j ≠ k) :
    Tbl.get d (Tbl.insert k v t) j = Tbl.get d t j := by
  induction t with
  | nil => simp [Tbl.insert, Tbl.get_cons, Ne.symm hj]
  | cons p t ih =>
    unfold Tbl.insert
    split
    · rw [Tbl.get_cons, if_neg (Ne.symm hj)]
    · rw [Tbl.get_cons, Tbl.get_cons, ih]

theorem Tbl.get_insert_same (d : α) (t : Tbl α) (k : Nat) (v : α) (h : ∀ p ∈ t, p.1 ≠ k) :
    Tbl.get d (Tbl.insert k v t) k = v := by
  induction t with
  | nil => simp [Tbl.insert, Tbl.get_cons]
  | cons p t ih =>
    unfold Tbl.insert
    split
    · simp [Tbl.get_cons]
    · rw [Tbl.get_cons, if_neg (h p (by simp)), ih (fun q hq => h q (by simp [hq]))]

/-- Reading a key just written gives what was written. -/
@[simp] theorem Tbl.get_set_same [DecidableEq α] (d : α) (t : Tbl α) (k : Nat) (v : α) :
    Tbl.get d (Tbl.set d t k v) k = v := by
  unfold Tbl.set
  split
  · rename_i h; rw [Tbl.get_erase_same, h]
  · exact Tbl.get_insert_same d _ k v (by intro p hp; simpa [Tbl.erase] using (List.mem_filter.mp hp).2)

/-- Writing a key leaves every other key. -/
theorem Tbl.get_set_ne [DecidableEq α] (d e : α) (t : Tbl α) {k j : Nat} (v : α) (hj : j ≠ k) :
    Tbl.get d (Tbl.set e t k v) j = Tbl.get d t j := by
  unfold Tbl.set
  split
  · exact Tbl.get_erase_ne d t hj
  · rw [Tbl.get_insert_ne d _ v hj, Tbl.get_erase_ne d t hj]

theorem Tbl.wfFrom_mono [DecidableEq α] (d : α) (t : Tbl α) {lo lo' : Nat} (h : lo' ≤ lo)
    (w : Tbl.wfFrom d lo t = true) : Tbl.wfFrom d lo' t = true := by
  cases t with
  | nil => rfl
  | cons p t =>
    simp only [Tbl.wfFrom, Bool.and_eq_true, decide_eq_true_eq] at w ⊢
    exact ⟨⟨by omega, w.1.2⟩, w.2⟩

theorem Tbl.wfFrom_filter [DecidableEq α] (d : α) (f : Nat × α → Bool) (t : Tbl α) (lo : Nat)
    (w : Tbl.wfFrom d lo t = true) : Tbl.wfFrom d lo (t.filter f) = true := by
  induction t generalizing lo with
  | nil => rfl
  | cons p t ih =>
    simp only [Tbl.wfFrom, Bool.and_eq_true, decide_eq_true_eq] at w
    have := ih (p.1 + 1) w.2
    rw [List.filter_cons]
    split
    · simp only [Tbl.wfFrom, Bool.and_eq_true, decide_eq_true_eq]; exact ⟨w.1, this⟩
    · exact Tbl.wfFrom_mono d _ (by omega) this

theorem Tbl.wfFrom_insert [DecidableEq α] (d : α) (t : Tbl α) (k lo : Nat) (v : α) (hv : v ≠ d) (hk : lo ≤ k)
    (h : ∀ p ∈ t, p.1 ≠ k) (w : Tbl.wfFrom d lo t = true) : Tbl.wfFrom d lo (Tbl.insert k v t) = true := by
  induction t generalizing lo with
  | nil => simp [Tbl.insert, Tbl.wfFrom, hk, hv]
  | cons p t ih =>
    simp only [Tbl.wfFrom, Bool.and_eq_true, decide_eq_true_eq] at w
    have hp := h p (by simp)
    unfold Tbl.insert
    split
    · simp only [Tbl.wfFrom, Bool.and_eq_true, decide_eq_true_eq]
      exact ⟨⟨hk, hv⟩, ⟨by omega, w.1.2⟩, w.2⟩
    · simp only [Tbl.wfFrom, Bool.and_eq_true, decide_eq_true_eq]
      exact ⟨w.1, ih (p.1 + 1) (by omega) (fun q hq => h q (by simp [hq])) w.2⟩

/-- Every write keeps the canonical form. -/
theorem Tbl.wf_set [DecidableEq α] (d : α) (t : Tbl α) (k : Nat) (v : α) (w : Tbl.wf d t = true) :
    Tbl.wf d (Tbl.set d t k v) = true := by
  have e := Tbl.wfFrom_filter d (fun p => p.1 != k) t 0 w
  unfold Tbl.set Tbl.wf
  split
  · exact e
  · rename_i h
    exact Tbl.wfFrom_insert d _ k 0 v h (by omega)
      (by intro p hp; simpa [Tbl.erase] using (List.mem_filter.mp hp).2) e

theorem Tbl.wf_upd [DecidableEq α] (d : α) (t : Tbl α) (k : Nat) (f : α → α) (w : Tbl.wf d t = true) :
    Tbl.wf d (Tbl.upd d t k f) = true := Tbl.wf_set d t k _ w

/-- A canonical list whose keys end at or before where another begins, with that other behind it, is canonical. -/
theorem Tbl.wfFrom_append [DecidableEq α] (d : α) (t u : Tbl α) (lo m : Nat) (hlo : lo ≤ m) (ht : ∀ p ∈ t, p.1 < m)
    (wt : Tbl.wfFrom d lo t = true) (wu : Tbl.wfFrom d m u = true) : Tbl.wfFrom d lo (t ++ u) = true := by
  induction t generalizing lo with
  | nil => exact Tbl.wfFrom_mono d u hlo wu
  | cons p t ih =>
    simp only [Tbl.wfFrom, Bool.and_eq_true, decide_eq_true_eq, List.cons_append] at wt ⊢
    have := ht p (by simp)
    exact ⟨wt.1, ih (p.1 + 1) (by omega) (fun q hq => ht q (by simp [hq])) wt.2⟩

/-- Keys of a canonical list from `m` up, when every one of them is at `m` or above. -/
theorem Tbl.wfFrom_raise [DecidableEq α] (d : α) (t : Tbl α) (lo m : Nat) (ht : ∀ p ∈ t, m ≤ p.1)
    (w : Tbl.wfFrom d lo t = true) : Tbl.wfFrom d m t = true := by
  cases t with
  | nil => rfl
  | cons p t =>
    simp only [Tbl.wfFrom, Bool.and_eq_true, decide_eq_true_eq] at w ⊢
    exact ⟨⟨ht p (by simp), w.1.2⟩, w.2⟩

theorem Tbl.get_append (d : α) (t u : Tbl α) (k : Nat) (h : ∀ p ∈ t, p.1 ≠ k) :
    Tbl.get d (t ++ u) k = Tbl.get d u k := by
  induction t with
  | nil => rfl
  | cons p t ih =>
    rw [List.cons_append, Tbl.get_cons, if_neg (h p (by simp)), ih (fun q hq => h q (by simp [hq]))]

theorem Tbl.get_append_left (d : α) (t u : Tbl α) (k : Nat) (h : ∀ p ∈ u, p.1 ≠ k) :
    Tbl.get d (t ++ u) k = Tbl.get d t k := by
  induction t with
  | nil =>
    induction u with
    | nil => rfl
    | cons p u ih =>
      rw [List.nil_append, Tbl.get_cons, if_neg (h p (by simp))]
      exact ih (fun q hq => h q (by simp [hq]))
  | cons p t ih => rw [List.cons_append, Tbl.get_cons, Tbl.get_cons, ih]

theorem Tbl.get_filter (d : α) (f : Nat → Bool) (t : Tbl α) (k : Nat) (hk : f k = true) :
    Tbl.get d (t.filter (fun p => f p.1)) k = Tbl.get d t k := by
  induction t with
  | nil => rfl
  | cons p t ih =>
    rw [List.filter_cons]
    split
    · rw [Tbl.get_cons, Tbl.get_cons, ih]
    · rename_i h
      rw [Tbl.get_cons, if_neg (fun hp : p.1 = k => h (by rw [hp]; exact hk)), ih]

end Sys2Proof.Machine
end

