-- ==== Sys2Proof/Laws/Memory.lean ====
section
/-!
SUPPORT. Sys2Proof/Laws/Memory.lean: every memory operation keeps the canonical form; what a byte reads as after each of them.
-/
namespace Sys2Proof.Machine

theorem Memory.below_lt (m : List Host.Cell) (a : Nat) : ∀ c ∈ Memory.below m a, c.1 < a := by
  intro c hc; simpa [Memory.below] using (List.mem_filter.mp hc).2

theorem Memory.above_le (m : List Host.Cell) (a : Nat) : ∀ c ∈ Memory.above m a, a ≤ c.1 := by
  intro c hc; simpa [Memory.above] using (List.mem_filter.mp hc).2

theorem Memory.cells_range (a : Nat) (l : List U8) : ∀ c ∈ Memory.cells a l, a ≤ c.1 ∧ c.1 < a + l.length := by
  induction l generalizing a with
  | nil => simp [Memory.cells]
  | cons v t ih =>
    intro c hc
    unfold Memory.cells at hc
    split at hc
    · have := ih (a + 1) c hc; simp only [List.length_cons]; omega
    · simp only [List.mem_cons] at hc
      rcases hc with rfl | hc
      · simp
      · have := ih (a + 1) c hc; simp only [List.length_cons]; omega

theorem Memory.cells_wf (a : Nat) (l : List U8) : Tbl.wfFrom (0 : U8) a (Memory.cells a l) = true := by
  induction l generalizing a with
  | nil => rfl
  | cons v t ih =>
    unfold Memory.cells
    split
    · exact Tbl.wfFrom_mono _ _ (by omega) (ih (a + 1))
    · rename_i h
      simp only [Tbl.wfFrom, Bool.and_eq_true, decide_eq_true_eq]
      exact ⟨⟨Nat.le_refl a, h⟩, ih (a + 1)⟩

theorem Memory.wf_parts (m mid : List Host.Cell) (a b : Nat) (hab : a ≤ b) (w : Memory.wf m)
    (hm : ∀ c ∈ mid, a ≤ c.1 ∧ c.1 < b) (wm : Tbl.wfFrom (0 : U8) a mid = true) :
    Memory.wf (Memory.below m a ++ mid ++ Memory.above m b) := by
  have wb := Tbl.wfFrom_filter (0 : U8) (fun c => decide (c.1 < a)) m 0 w
  have wa := Tbl.wfFrom_raise (0 : U8) _ 0 b (Memory.above_le m b)
    (Tbl.wfFrom_filter (0 : U8) (fun c => decide (b ≤ c.1)) m 0 w)
  refine Tbl.wfFrom_append _ _ _ 0 b (by omega) ?_ ?_ wa
  · intro p hp
    rcases List.mem_append.mp hp with h | h
    · have := Memory.below_lt m a p h; omega
    · exact (hm p h).2
  · exact Tbl.wfFrom_append _ _ _ 0 a (by omega) (Memory.below_lt m a) wb wm

theorem Memory.wf_write (m : List Host.Cell) (a : Nat) (v : U8) (w : Memory.wf m) : Memory.wf (Memory.write m a v) :=
  Tbl.wf_set 0 m a v w

theorem Memory.wf_writeBytes (m : List Host.Cell) (a : Nat) (l : List U8) (w : Memory.wf m) :
    Memory.wf (Memory.writeBytes m a l) :=
  Memory.wf_parts m _ a (a + l.length) (by omega) w (Memory.cells_range a l) (Memory.cells_wf a l)

theorem Memory.wf_clear (m : List Host.Cell) (a n : Nat) (w : Memory.wf m) : Memory.wf (Memory.clear m a n) := by
  have := Memory.wf_parts m [] a (a + n) (by omega) w (by simp) rfl
  simpa [Memory.clear] using this

theorem Memory.wf_map (l : List Host.Cell) (src dst lo : Nat) (hl : src ≤ lo) (h : Tbl.wfFrom (0 : U8) lo l = true) :
    Tbl.wfFrom (0 : U8) (lo - src + dst) (l.map (fun c => (c.1 - src + dst, c.2))) = true := by
  induction l generalizing lo with
  | nil => rfl
  | cons c l ih =>
    simp only [Tbl.wfFrom, List.map_cons, Bool.and_eq_true, decide_eq_true_eq] at h ⊢
    refine ⟨⟨by omega, h.1.2⟩, ?_⟩
    have := ih (c.1 + 1) (by omega) h.2
    rwa [show c.1 + 1 - src + dst = c.1 - src + dst + 1 by omega] at this

theorem Memory.wf_copy (m : List Host.Cell) (src dst n : Nat) (w : Memory.wf m) :
    Memory.wf (Memory.copy m src dst n) := by
  refine Memory.wf_parts m _ dst (dst + n) (by omega) w ?_ ?_
  · intro c hc
    obtain ⟨c', hc', rfl⟩ := List.mem_map.mp hc
    have h1 := Memory.below_lt _ _ c' hc'
    have h2 := Memory.above_le m src c' (List.mem_filter.mp hc').1
    simp only; omega
  · have wa := Tbl.wfFrom_raise (0 : U8) _ 0 src (Memory.above_le m src)
      (Tbl.wfFrom_filter (0 : U8) (fun c => decide (src ≤ c.1)) m 0 w)
    have wb := Tbl.wfFrom_filter (0 : U8) (fun c => decide (c.1 < src + n)) _ src wa
    have := Memory.wf_map _ src dst src (Nat.le_refl _) wb
    rwa [show src - src + dst = dst by omega] at this

@[simp] theorem Memory.read_write_same (m : List Host.Cell) (a : Nat) (v : U8) : Memory.read (Memory.write m a v) a = v :=
  Tbl.get_set_same 0 m a v

theorem Memory.read_write_ne (m : List Host.Cell) {a b : Nat} (v : U8) (h : b ≠ a) :
    Memory.read (Memory.write m a v) b = Memory.read m b := Tbl.get_set_ne 0 0 m v h

theorem Memory.read_below (m : List Host.Cell) (a x : Nat) (h : x < a) : Memory.read (Memory.below m a) x = Memory.read m x :=
  Tbl.get_filter 0 (fun k => decide (k < a)) m x (by simpa using h)

theorem Memory.read_above (m : List Host.Cell) (a x : Nat) (h : a ≤ x) : Memory.read (Memory.above m a) x = Memory.read m x :=
  Tbl.get_filter 0 (fun k => decide (a ≤ k)) m x (by simpa using h)

theorem Memory.read_parts (m mid : List Host.Cell) (a b x : Nat) (hab : a ≤ b) (hm : ∀ c ∈ mid, a ≤ c.1 ∧ c.1 < b)
    (hx : x < a ∨ b ≤ x) : Memory.read (Memory.below m a ++ mid ++ Memory.above m b) x = Memory.read m x := by
  unfold Memory.read
  rcases hx with hx | hx
  · rw [Tbl.get_append_left _ _ _ _ (fun p hp => by have := Memory.above_le m b p hp; omega),
      Tbl.get_append_left _ _ _ _ (fun p hp => by have := (hm p hp).1; omega)]
    exact Memory.read_below m a x hx
  · rw [Tbl.get_append]
    · exact Memory.read_above m b x hx
    · intro p hp
      rcases List.mem_append.mp hp with h | h
      · have := Memory.below_lt m a p h; omega
      · have := (hm p h).2; omega

/-- A byte outside the run written reads as before. -/
theorem Memory.read_writeBytes_out (m : List Host.Cell) (a x : Nat) (l : List U8) (h : x < a ∨ a + l.length ≤ x) :
    Memory.read (Memory.writeBytes m a l) x = Memory.read m x :=
  Memory.read_parts m _ a (a + l.length) x (by omega) (Memory.cells_range a l) h

theorem Memory.read_cells (a : Nat) (l : List U8) (j : Nat) (h : j < l.length) :
    Memory.read (Memory.cells a l) (a + j) = l[j] := by
  induction l generalizing a j with
  | nil => simp at h
  | cons v t ih =>
    unfold Memory.cells Memory.read
    cases j with
    | zero =>
      split
      · rename_i hv
        have : ∀ p ∈ Memory.cells (a + 1) t, p.1 ≠ a := fun p hp => by have := (Memory.cells_range _ _ p hp).1; omega
        have := Tbl.get_append_left (0 : U8) [] _ a this
        simpa [hv] using this
      · simp [Tbl.get_cons]
    | succ j =>
      have hj : j < t.length := by simpa using h
      have := ih (a + 1) j hj
      rw [show a + 1 + j = a + (j + 1) by omega] at this
      split
      · simpa [Memory.read] using this
      · rw [Tbl.get_cons, if_neg (by simp)]; simpa [Memory.read] using this

/-- A byte inside the run written reads as written. -/
theorem Memory.read_writeBytes_in (m : List Host.Cell) (a : Nat) (l : List U8) (j : Nat) (h : j < l.length) :
    Memory.read (Memory.writeBytes m a l) (a + j) = l[j] := by
  have e := Memory.read_cells a l j h
  unfold Memory.read Memory.writeBytes at *
  rw [Tbl.get_append_left _ _ _ _ (fun p hp => by have := Memory.above_le m _ p hp; omega),
    Tbl.get_append _ _ _ _ (fun p hp => by have := Memory.below_lt m a p hp; omega), e]

theorem Memory.read_clear_out (m : List Host.Cell) (a n x : Nat) (h : x < a ∨ a + n ≤ x) :
    Memory.read (Memory.clear m a n) x = Memory.read m x := by
  have := Memory.read_parts m [] a (a + n) x (by omega) (by simp) h
  simpa [Memory.clear] using this

theorem Memory.read_copy_out (m : List Host.Cell) (src dst n x : Nat) (h : x < dst ∨ dst + n ≤ x) :
    Memory.read (Memory.copy m src dst n) x = Memory.read m x := by
  refine Memory.read_parts m _ dst (dst + n) x (by omega) ?_ h
  intro c hc
  obtain ⟨c', hc', rfl⟩ := List.mem_map.mp hc
  have h1 := Memory.below_lt _ _ c' hc'
  have h2 := Memory.above_le m src c' (List.mem_filter.mp hc').1
  simp only; omega

@[simp] theorem leBytes_length (n v : Nat) : (leBytes n v).length = n := by
  induction n generalizing v with
  | zero => rfl
  | succ n ih => simp [leBytes, ih]

theorem leNat_leBytes (n v : Nat) : leNat (leBytes n v) = v % 256 ^ n := by
  induction n generalizing v with
  | zero => simp [leBytes, leNat, Nat.mod_one]
  | succ n ih =>
    simp only [leBytes, leNat, ih, BitVec.toNat_ofNat]
    rw [show 256 ^ (n + 1) = 256 * 256 ^ n from Nat.pow_succ', Nat.mod_mul]

/-- What was stored is what is loaded, modulo the width stored. -/
theorem ldN_stN (s : Dev) (a n v : Nat) : ldN (stN s a n v) a n = v % 256 ^ n := by
  rw [← leNat_leBytes n v]
  unfold ldN stN
  congr 1
  apply List.ext_getElem
  · simp [Memory.bytes]
  · intro i h1 h2
    simp only [Memory.bytes, List.getElem_map, List.getElem_range]
    exact Memory.read_writeBytes_in s.mem a _ i h2

/-- Reset memory has the canonical form. -/
theorem reset_memory_wf : Memory.wf State.reset.mem := rfl

end Sys2Proof.Machine
end

