-- ==== Sys2Proof/Laws/State.lean ====
section
/-!
SUPPORT. Sys2Proof/Laws/State.lean: what each shared update leaves of each field of the device, one simp lemma per field for the
plain record updates, one lemma per update for the others; reading a register after a write; the pins and the queue after a command.
-/
namespace Sys2Proof.Machine

@[simp] theorem wr_dev (s : Dev) (a : Nat) (v : U32) : (wr s a v).dev = s.dev := rfl
@[simp] theorem wr_mem (s : Dev) (a : Nat) (v : U32) : (wr s a v).mem = s.mem := rfl
@[simp] theorem wr_win (s : Dev) (a : Nat) (v : U32) : (wr s a v).win = s.win := rfl
@[simp] theorem wr_parCfg (s : Dev) (a : Nat) (v : U32) : (wr s a v).parCfg = s.parCfg := rfl
@[simp] theorem wr_parNow (s : Dev) (a : Nat) (v : U32) : (wr s a v).parNow = s.parNow := rfl
@[simp] theorem wr_tb (s : Dev) (a : Nat) (v : U32) : (wr s a v).tb = s.tb := rfl
@[simp] theorem wr_piste (s : Dev) (a : Nat) (v : U32) : (wr s a v).piste = s.piste := rfl
@[simp] theorem wr_rings (s : Dev) (a : Nat) (v : U32) : (wr s a v).rings = s.rings := rfl
@[simp] theorem wr_acq (s : Dev) (a : Nat) (v : U32) : (wr s a v).acq = s.acq := rfl
@[simp] theorem wr_est (s : Dev) (a : Nat) (v : U32) : (wr s a v).est = s.est := rfl
@[simp] theorem wr_chg (s : Dev) (a : Nat) (v : U32) : (wr s a v).chg = s.chg := rfl
@[simp] theorem wr_lim (s : Dev) (a : Nat) (v : U32) : (wr s a v).lim = s.lim := rfl
@[simp] theorem wr_thm (s : Dev) (a : Nat) (v : U32) : (wr s a v).thm = s.thm := rfl
@[simp] theorem wr_strs (s : Dev) (a : Nat) (v : U32) : (wr s a v).strs = s.strs := rfl
@[simp] theorem wr_bus (s : Dev) (a : Nat) (v : U32) : (wr s a v).bus = s.bus := rfl
@[simp] theorem wr_saf (s : Dev) (a : Nat) (v : U32) : (wr s a v).saf = s.saf := rfl
@[simp] theorem wr_exe (s : Dev) (a : Nat) (v : U32) : (wr s a v).exe = s.exe := rfl
@[simp] theorem wr_host (s : Dev) (a : Nat) (v : U32) : (wr s a v).host = s.host := rfl
@[simp] theorem wr_cl (s : Dev) (a : Nat) (v : U32) : (wr s a v).cl = s.cl := rfl
@[simp] theorem wr_can (s : Dev) (a : Nat) (v : U32) : (wr s a v).can = s.can := rfl
@[simp] theorem wr_cnt (s : Dev) (a : Nat) (v : U32) : (wr s a v).cnt = s.cnt := rfl
@[simp] theorem wr_log (s : Dev) (a : Nat) (v : U32) : (wr s a v).log = s.log := rfl
@[simp] theorem wr_pwr (s : Dev) (a : Nat) (v : U32) : (wr s a v).pwr = s.pwr := rfl
@[simp] theorem wr_inForce (s : Dev) (a : Nat) (v : U32) : (wr s a v).inForce = s.inForce := rfl
@[simp] theorem wr_uptimeMs (s : Dev) (a : Nat) (v : U32) : (wr s a v).uptimeMs = s.uptimeMs := rfl
@[simp] theorem wr_actor (s : Dev) (a : Nat) (v : U32) : (wr s a v).actor = s.actor := rfl
@[simp] theorem wr_freeCtr (s : Dev) (a : Nat) (v : U32) : (wr s a v).freeCtr = s.freeCtr := rfl
@[simp] theorem wr_busErr (s : Dev) (a : Nat) (v : U32) : (wr s a v).busErr = s.busErr := rfl
@[simp] theorem wr_readVal (s : Dev) (a : Nat) (v : U32) : (wr s a v).readVal = s.readVal := rfl

@[simp] theorem stN_dev (s : Dev) (a n v : Nat) : (stN s a n v).dev = s.dev := rfl
@[simp] theorem stN_regs (s : Dev) (a n v : Nat) : (stN s a n v).regs = s.regs := rfl
@[simp] theorem stN_win (s : Dev) (a n v : Nat) : (stN s a n v).win = s.win := rfl
@[simp] theorem stN_parCfg (s : Dev) (a n v : Nat) : (stN s a n v).parCfg = s.parCfg := rfl
@[simp] theorem stN_parNow (s : Dev) (a n v : Nat) : (stN s a n v).parNow = s.parNow := rfl
@[simp] theorem stN_tb (s : Dev) (a n v : Nat) : (stN s a n v).tb = s.tb := rfl
@[simp] theorem stN_piste (s : Dev) (a n v : Nat) : (stN s a n v).piste = s.piste := rfl
@[simp] theorem stN_rings (s : Dev) (a n v : Nat) : (stN s a n v).rings = s.rings := rfl
@[simp] theorem stN_acq (s : Dev) (a n v : Nat) : (stN s a n v).acq = s.acq := rfl
@[simp] theorem stN_est (s : Dev) (a n v : Nat) : (stN s a n v).est = s.est := rfl
@[simp] theorem stN_chg (s : Dev) (a n v : Nat) : (stN s a n v).chg = s.chg := rfl
@[simp] theorem stN_lim (s : Dev) (a n v : Nat) : (stN s a n v).lim = s.lim := rfl
@[simp] theorem stN_thm (s : Dev) (a n v : Nat) : (stN s a n v).thm = s.thm := rfl
@[simp] theorem stN_strs (s : Dev) (a n v : Nat) : (stN s a n v).strs = s.strs := rfl
@[simp] theorem stN_bus (s : Dev) (a n v : Nat) : (stN s a n v).bus = s.bus := rfl
@[simp] theorem stN_saf (s : Dev) (a n v : Nat) : (stN s a n v).saf = s.saf := rfl
@[simp] theorem stN_exe (s : Dev) (a n v : Nat) : (stN s a n v).exe = s.exe := rfl
@[simp] theorem stN_host (s : Dev) (a n v : Nat) : (stN s a n v).host = s.host := rfl
@[simp] theorem stN_cl (s : Dev) (a n v : Nat) : (stN s a n v).cl = s.cl := rfl
@[simp] theorem stN_can (s : Dev) (a n v : Nat) : (stN s a n v).can = s.can := rfl
@[simp] theorem stN_cnt (s : Dev) (a n v : Nat) : (stN s a n v).cnt = s.cnt := rfl
@[simp] theorem stN_log (s : Dev) (a n v : Nat) : (stN s a n v).log = s.log := rfl
@[simp] theorem stN_pwr (s : Dev) (a n v : Nat) : (stN s a n v).pwr = s.pwr := rfl
@[simp] theorem stN_inForce (s : Dev) (a n v : Nat) : (stN s a n v).inForce = s.inForce := rfl
@[simp] theorem stN_uptimeMs (s : Dev) (a n v : Nat) : (stN s a n v).uptimeMs = s.uptimeMs := rfl
@[simp] theorem stN_actor (s : Dev) (a n v : Nat) : (stN s a n v).actor = s.actor := rfl
@[simp] theorem stN_freeCtr (s : Dev) (a n v : Nat) : (stN s a n v).freeCtr = s.freeCtr := rfl
@[simp] theorem stN_busErr (s : Dev) (a n v : Nat) : (stN s a n v).busErr = s.busErr := rfl
@[simp] theorem stN_readVal (s : Dev) (a n v : Nat) : (stN s a n v).readVal = s.readVal := rfl

@[simp] theorem stBytes_dev (s : Dev) (a : Nat) (l : List U8) : (stBytes s a l).dev = s.dev := rfl
@[simp] theorem stBytes_regs (s : Dev) (a : Nat) (l : List U8) : (stBytes s a l).regs = s.regs := rfl
@[simp] theorem stBytes_win (s : Dev) (a : Nat) (l : List U8) : (stBytes s a l).win = s.win := rfl
@[simp] theorem stBytes_parCfg (s : Dev) (a : Nat) (l : List U8) : (stBytes s a l).parCfg = s.parCfg := rfl
@[simp] theorem stBytes_parNow (s : Dev) (a : Nat) (l : List U8) : (stBytes s a l).parNow = s.parNow := rfl
@[simp] theorem stBytes_tb (s : Dev) (a : Nat) (l : List U8) : (stBytes s a l).tb = s.tb := rfl
@[simp] theorem stBytes_piste (s : Dev) (a : Nat) (l : List U8) : (stBytes s a l).piste = s.piste := rfl
@[simp] theorem stBytes_rings (s : Dev) (a : Nat) (l : List U8) : (stBytes s a l).rings = s.rings := rfl
@[simp] theorem stBytes_acq (s : Dev) (a : Nat) (l : List U8) : (stBytes s a l).acq = s.acq := rfl
@[simp] theorem stBytes_est (s : Dev) (a : Nat) (l : List U8) : (stBytes s a l).est = s.est := rfl
@[simp] theorem stBytes_chg (s : Dev) (a : Nat) (l : List U8) : (stBytes s a l).chg = s.chg := rfl
@[simp] theorem stBytes_lim (s : Dev) (a : Nat) (l : List U8) : (stBytes s a l).lim = s.lim := rfl
@[simp] theorem stBytes_thm (s : Dev) (a : Nat) (l : List U8) : (stBytes s a l).thm = s.thm := rfl
@[simp] theorem stBytes_strs (s : Dev) (a : Nat) (l : List U8) : (stBytes s a l).strs = s.strs := rfl
@[simp] theorem stBytes_bus (s : Dev) (a : Nat) (l : List U8) : (stBytes s a l).bus = s.bus := rfl
@[simp] theorem stBytes_saf (s : Dev) (a : Nat) (l : List U8) : (stBytes s a l).saf = s.saf := rfl
@[simp] theorem stBytes_exe (s : Dev) (a : Nat) (l : List U8) : (stBytes s a l).exe = s.exe := rfl
@[simp] theorem stBytes_host (s : Dev) (a : Nat) (l : List U8) : (stBytes s a l).host = s.host := rfl
@[simp] theorem stBytes_cl (s : Dev) (a : Nat) (l : List U8) : (stBytes s a l).cl = s.cl := rfl
@[simp] theorem stBytes_can (s : Dev) (a : Nat) (l : List U8) : (stBytes s a l).can = s.can := rfl
@[simp] theorem stBytes_cnt (s : Dev) (a : Nat) (l : List U8) : (stBytes s a l).cnt = s.cnt := rfl
@[simp] theorem stBytes_log (s : Dev) (a : Nat) (l : List U8) : (stBytes s a l).log = s.log := rfl
@[simp] theorem stBytes_pwr (s : Dev) (a : Nat) (l : List U8) : (stBytes s a l).pwr = s.pwr := rfl
@[simp] theorem stBytes_inForce (s : Dev) (a : Nat) (l : List U8) : (stBytes s a l).inForce = s.inForce := rfl
@[simp] theorem stBytes_uptimeMs (s : Dev) (a : Nat) (l : List U8) : (stBytes s a l).uptimeMs = s.uptimeMs := rfl
@[simp] theorem stBytes_actor (s : Dev) (a : Nat) (l : List U8) : (stBytes s a l).actor = s.actor := rfl
@[simp] theorem stBytes_freeCtr (s : Dev) (a : Nat) (l : List U8) : (stBytes s a l).freeCtr = s.freeCtr := rfl
@[simp] theorem stBytes_busErr (s : Dev) (a : Nat) (l : List U8) : (stBytes s a l).busErr = s.busErr := rfl
@[simp] theorem stBytes_readVal (s : Dev) (a : Nat) (l : List U8) : (stBytes s a l).readVal = s.readVal := rfl

@[simp] theorem clearMem_dev (s : Dev) (a n : Nat) : (clearMem s a n).dev = s.dev := rfl
@[simp] theorem clearMem_regs (s : Dev) (a n : Nat) : (clearMem s a n).regs = s.regs := rfl
@[simp] theorem clearMem_win (s : Dev) (a n : Nat) : (clearMem s a n).win = s.win := rfl
@[simp] theorem clearMem_parCfg (s : Dev) (a n : Nat) : (clearMem s a n).parCfg = s.parCfg := rfl
@[simp] theorem clearMem_parNow (s : Dev) (a n : Nat) : (clearMem s a n).parNow = s.parNow := rfl
@[simp] theorem clearMem_tb (s : Dev) (a n : Nat) : (clearMem s a n).tb = s.tb := rfl
@[simp] theorem clearMem_piste (s : Dev) (a n : Nat) : (clearMem s a n).piste = s.piste := rfl
@[simp] theorem clearMem_rings (s : Dev) (a n : Nat) : (clearMem s a n).rings = s.rings := rfl
@[simp] theorem clearMem_acq (s : Dev) (a n : Nat) : (clearMem s a n).acq = s.acq := rfl
@[simp] theorem clearMem_est (s : Dev) (a n : Nat) : (clearMem s a n).est = s.est := rfl
@[simp] theorem clearMem_chg (s : Dev) (a n : Nat) : (clearMem s a n).chg = s.chg := rfl
@[simp] theorem clearMem_lim (s : Dev) (a n : Nat) : (clearMem s a n).lim = s.lim := rfl
@[simp] theorem clearMem_thm (s : Dev) (a n : Nat) : (clearMem s a n).thm = s.thm := rfl
@[simp] theorem clearMem_strs (s : Dev) (a n : Nat) : (clearMem s a n).strs = s.strs := rfl
@[simp] theorem clearMem_bus (s : Dev) (a n : Nat) : (clearMem s a n).bus = s.bus := rfl
@[simp] theorem clearMem_saf (s : Dev) (a n : Nat) : (clearMem s a n).saf = s.saf := rfl
@[simp] theorem clearMem_exe (s : Dev) (a n : Nat) : (clearMem s a n).exe = s.exe := rfl
@[simp] theorem clearMem_host (s : Dev) (a n : Nat) : (clearMem s a n).host = s.host := rfl
@[simp] theorem clearMem_cl (s : Dev) (a n : Nat) : (clearMem s a n).cl = s.cl := rfl
@[simp] theorem clearMem_can (s : Dev) (a n : Nat) : (clearMem s a n).can = s.can := rfl
@[simp] theorem clearMem_cnt (s : Dev) (a n : Nat) : (clearMem s a n).cnt = s.cnt := rfl
@[simp] theorem clearMem_log (s : Dev) (a n : Nat) : (clearMem s a n).log = s.log := rfl
@[simp] theorem clearMem_pwr (s : Dev) (a n : Nat) : (clearMem s a n).pwr = s.pwr := rfl
@[simp] theorem clearMem_inForce (s : Dev) (a n : Nat) : (clearMem s a n).inForce = s.inForce := rfl
@[simp] theorem clearMem_uptimeMs (s : Dev) (a n : Nat) : (clearMem s a n).uptimeMs = s.uptimeMs := rfl
@[simp] theorem clearMem_actor (s : Dev) (a n : Nat) : (clearMem s a n).actor = s.actor := rfl
@[simp] theorem clearMem_freeCtr (s : Dev) (a n : Nat) : (clearMem s a n).freeCtr = s.freeCtr := rfl
@[simp] theorem clearMem_busErr (s : Dev) (a n : Nat) : (clearMem s a n).busErr = s.busErr := rfl
@[simp] theorem clearMem_readVal (s : Dev) (a n : Nat) : (clearMem s a n).readVal = s.readVal := rfl

@[simp] theorem post_dev (s : Dev) (p code arg : Nat) : (post s p code arg).dev = s.dev := rfl
@[simp] theorem post_regs (s : Dev) (p code arg : Nat) : (post s p code arg).regs = s.regs := rfl
@[simp] theorem post_mem (s : Dev) (p code arg : Nat) : (post s p code arg).mem = s.mem := rfl
@[simp] theorem post_win (s : Dev) (p code arg : Nat) : (post s p code arg).win = s.win := rfl
@[simp] theorem post_parCfg (s : Dev) (p code arg : Nat) : (post s p code arg).parCfg = s.parCfg := rfl
@[simp] theorem post_parNow (s : Dev) (p code arg : Nat) : (post s p code arg).parNow = s.parNow := rfl
@[simp] theorem post_tb (s : Dev) (p code arg : Nat) : (post s p code arg).tb = s.tb := rfl
@[simp] theorem post_piste (s : Dev) (p code arg : Nat) : (post s p code arg).piste = s.piste := rfl
@[simp] theorem post_rings (s : Dev) (p code arg : Nat) : (post s p code arg).rings = s.rings := rfl
@[simp] theorem post_acq (s : Dev) (p code arg : Nat) : (post s p code arg).acq = s.acq := rfl
@[simp] theorem post_est (s : Dev) (p code arg : Nat) : (post s p code arg).est = s.est := rfl
@[simp] theorem post_chg (s : Dev) (p code arg : Nat) : (post s p code arg).chg = s.chg := rfl
@[simp] theorem post_lim (s : Dev) (p code arg : Nat) : (post s p code arg).lim = s.lim := rfl
@[simp] theorem post_thm (s : Dev) (p code arg : Nat) : (post s p code arg).thm = s.thm := rfl
@[simp] theorem post_strs (s : Dev) (p code arg : Nat) : (post s p code arg).strs = s.strs := rfl
@[simp] theorem post_bus (s : Dev) (p code arg : Nat) : (post s p code arg).bus = s.bus := rfl
@[simp] theorem post_saf (s : Dev) (p code arg : Nat) : (post s p code arg).saf = s.saf := rfl
@[simp] theorem post_exe (s : Dev) (p code arg : Nat) : (post s p code arg).exe = s.exe := rfl
@[simp] theorem post_host (s : Dev) (p code arg : Nat) : (post s p code arg).host = s.host := rfl
@[simp] theorem post_cl (s : Dev) (p code arg : Nat) : (post s p code arg).cl = s.cl := rfl
@[simp] theorem post_can (s : Dev) (p code arg : Nat) : (post s p code arg).can = s.can := rfl
@[simp] theorem post_cnt (s : Dev) (p code arg : Nat) : (post s p code arg).cnt = s.cnt := rfl
@[simp] theorem post_pwr (s : Dev) (p code arg : Nat) : (post s p code arg).pwr = s.pwr := rfl
@[simp] theorem post_inForce (s : Dev) (p code arg : Nat) : (post s p code arg).inForce = s.inForce := rfl
@[simp] theorem post_uptimeMs (s : Dev) (p code arg : Nat) : (post s p code arg).uptimeMs = s.uptimeMs := rfl
@[simp] theorem post_actor (s : Dev) (p code arg : Nat) : (post s p code arg).actor = s.actor := rfl
@[simp] theorem post_freeCtr (s : Dev) (p code arg : Nat) : (post s p code arg).freeCtr = s.freeCtr := rfl
@[simp] theorem post_busErr (s : Dev) (p code arg : Nat) : (post s p code arg).busErr = s.busErr := rfl
@[simp] theorem post_readVal (s : Dev) (p code arg : Nat) : (post s p code arg).readVal = s.readVal := rfl

@[simp] theorem unforce_dev (s : Dev) (code scope : Nat) : (unforce s code scope).dev = s.dev := rfl
@[simp] theorem unforce_regs (s : Dev) (code scope : Nat) : (unforce s code scope).regs = s.regs := rfl
@[simp] theorem unforce_mem (s : Dev) (code scope : Nat) : (unforce s code scope).mem = s.mem := rfl
@[simp] theorem unforce_win (s : Dev) (code scope : Nat) : (unforce s code scope).win = s.win := rfl
@[simp] theorem unforce_parCfg (s : Dev) (code scope : Nat) : (unforce s code scope).parCfg = s.parCfg := rfl
@[simp] theorem unforce_parNow (s : Dev) (code scope : Nat) : (unforce s code scope).parNow = s.parNow := rfl
@[simp] theorem unforce_tb (s : Dev) (code scope : Nat) : (unforce s code scope).tb = s.tb := rfl
@[simp] theorem unforce_piste (s : Dev) (code scope : Nat) : (unforce s code scope).piste = s.piste := rfl
@[simp] theorem unforce_rings (s : Dev) (code scope : Nat) : (unforce s code scope).rings = s.rings := rfl
@[simp] theorem unforce_acq (s : Dev) (code scope : Nat) : (unforce s code scope).acq = s.acq := rfl
@[simp] theorem unforce_est (s : Dev) (code scope : Nat) : (unforce s code scope).est = s.est := rfl
@[simp] theorem unforce_chg (s : Dev) (code scope : Nat) : (unforce s code scope).chg = s.chg := rfl
@[simp] theorem unforce_lim (s : Dev) (code scope : Nat) : (unforce s code scope).lim = s.lim := rfl
@[simp] theorem unforce_thm (s : Dev) (code scope : Nat) : (unforce s code scope).thm = s.thm := rfl
@[simp] theorem unforce_strs (s : Dev) (code scope : Nat) : (unforce s code scope).strs = s.strs := rfl
@[simp] theorem unforce_bus (s : Dev) (code scope : Nat) : (unforce s code scope).bus = s.bus := rfl
@[simp] theorem unforce_saf (s : Dev) (code scope : Nat) : (unforce s code scope).saf = s.saf := rfl
@[simp] theorem unforce_exe (s : Dev) (code scope : Nat) : (unforce s code scope).exe = s.exe := rfl
@[simp] theorem unforce_host (s : Dev) (code scope : Nat) : (unforce s code scope).host = s.host := rfl
@[simp] theorem unforce_cl (s : Dev) (code scope : Nat) : (unforce s code scope).cl = s.cl := rfl
@[simp] theorem unforce_can (s : Dev) (code scope : Nat) : (unforce s code scope).can = s.can := rfl
@[simp] theorem unforce_cnt (s : Dev) (code scope : Nat) : (unforce s code scope).cnt = s.cnt := rfl
@[simp] theorem unforce_log (s : Dev) (code scope : Nat) : (unforce s code scope).log = s.log := rfl
@[simp] theorem unforce_pwr (s : Dev) (code scope : Nat) : (unforce s code scope).pwr = s.pwr := rfl
@[simp] theorem unforce_uptimeMs (s : Dev) (code scope : Nat) : (unforce s code scope).uptimeMs = s.uptimeMs := rfl
@[simp] theorem unforce_actor (s : Dev) (code scope : Nat) : (unforce s code scope).actor = s.actor := rfl
@[simp] theorem unforce_freeCtr (s : Dev) (code scope : Nat) : (unforce s code scope).freeCtr = s.freeCtr := rfl
@[simp] theorem unforce_busErr (s : Dev) (code scope : Nat) : (unforce s code scope).busErr = s.busErr := rfl
@[simp] theorem unforce_readVal (s : Dev) (code scope : Nat) : (unforce s code scope).readVal = s.readVal := rfl

@[simp] theorem busError_dev (s : Dev) : (busError s).dev = s.dev := rfl
@[simp] theorem busError_regs (s : Dev) : (busError s).regs = s.regs := rfl
@[simp] theorem busError_mem (s : Dev) : (busError s).mem = s.mem := rfl
@[simp] theorem busError_win (s : Dev) : (busError s).win = s.win := rfl
@[simp] theorem busError_parCfg (s : Dev) : (busError s).parCfg = s.parCfg := rfl
@[simp] theorem busError_parNow (s : Dev) : (busError s).parNow = s.parNow := rfl
@[simp] theorem busError_tb (s : Dev) : (busError s).tb = s.tb := rfl
@[simp] theorem busError_piste (s : Dev) : (busError s).piste = s.piste := rfl
@[simp] theorem busError_rings (s : Dev) : (busError s).rings = s.rings := rfl
@[simp] theorem busError_acq (s : Dev) : (busError s).acq = s.acq := rfl
@[simp] theorem busError_est (s : Dev) : (busError s).est = s.est := rfl
@[simp] theorem busError_chg (s : Dev) : (busError s).chg = s.chg := rfl
@[simp] theorem busError_lim (s : Dev) : (busError s).lim = s.lim := rfl
@[simp] theorem busError_thm (s : Dev) : (busError s).thm = s.thm := rfl
@[simp] theorem busError_strs (s : Dev) : (busError s).strs = s.strs := rfl
@[simp] theorem busError_bus (s : Dev) : (busError s).bus = s.bus := rfl
@[simp] theorem busError_saf (s : Dev) : (busError s).saf = s.saf := rfl
@[simp] theorem busError_exe (s : Dev) : (busError s).exe = s.exe := rfl
@[simp] theorem busError_host (s : Dev) : (busError s).host = s.host := rfl
@[simp] theorem busError_cl (s : Dev) : (busError s).cl = s.cl := rfl
@[simp] theorem busError_can (s : Dev) : (busError s).can = s.can := rfl
@[simp] theorem busError_cnt (s : Dev) : (busError s).cnt = s.cnt := rfl
@[simp] theorem busError_log (s : Dev) : (busError s).log = s.log := rfl
@[simp] theorem busError_pwr (s : Dev) : (busError s).pwr = s.pwr := rfl
@[simp] theorem busError_inForce (s : Dev) : (busError s).inForce = s.inForce := rfl
@[simp] theorem busError_uptimeMs (s : Dev) : (busError s).uptimeMs = s.uptimeMs := rfl
@[simp] theorem busError_actor (s : Dev) : (busError s).actor = s.actor := rfl
@[simp] theorem busError_freeCtr (s : Dev) : (busError s).freeCtr = s.freeCtr := rfl
@[simp] theorem busError_readVal (s : Dev) : (busError s).readVal = s.readVal := rfl

@[simp] theorem setRing_dev (s : Dev) (n : Nat) (x : Ring) : (setRing s n x).dev = s.dev := rfl
@[simp] theorem setRing_regs (s : Dev) (n : Nat) (x : Ring) : (setRing s n x).regs = s.regs := rfl
@[simp] theorem setRing_mem (s : Dev) (n : Nat) (x : Ring) : (setRing s n x).mem = s.mem := rfl
@[simp] theorem setRing_win (s : Dev) (n : Nat) (x : Ring) : (setRing s n x).win = s.win := rfl
@[simp] theorem setRing_parCfg (s : Dev) (n : Nat) (x : Ring) : (setRing s n x).parCfg = s.parCfg := rfl
@[simp] theorem setRing_parNow (s : Dev) (n : Nat) (x : Ring) : (setRing s n x).parNow = s.parNow := rfl
@[simp] theorem setRing_tb (s : Dev) (n : Nat) (x : Ring) : (setRing s n x).tb = s.tb := rfl
@[simp] theorem setRing_piste (s : Dev) (n : Nat) (x : Ring) : (setRing s n x).piste = s.piste := rfl
@[simp] theorem setRing_acq (s : Dev) (n : Nat) (x : Ring) : (setRing s n x).acq = s.acq := rfl
@[simp] theorem setRing_est (s : Dev) (n : Nat) (x : Ring) : (setRing s n x).est = s.est := rfl
@[simp] theorem setRing_chg (s : Dev) (n : Nat) (x : Ring) : (setRing s n x).chg = s.chg := rfl
@[simp] theorem setRing_lim (s : Dev) (n : Nat) (x : Ring) : (setRing s n x).lim = s.lim := rfl
@[simp] theorem setRing_thm (s : Dev) (n : Nat) (x : Ring) : (setRing s n x).thm = s.thm := rfl
@[simp] theorem setRing_strs (s : Dev) (n : Nat) (x : Ring) : (setRing s n x).strs = s.strs := rfl
@[simp] theorem setRing_bus (s : Dev) (n : Nat) (x : Ring) : (setRing s n x).bus = s.bus := rfl
@[simp] theorem setRing_saf (s : Dev) (n : Nat) (x : Ring) : (setRing s n x).saf = s.saf := rfl
@[simp] theorem setRing_exe (s : Dev) (n : Nat) (x : Ring) : (setRing s n x).exe = s.exe := rfl
@[simp] theorem setRing_host (s : Dev) (n : Nat) (x : Ring) : (setRing s n x).host = s.host := rfl
@[simp] theorem setRing_cl (s : Dev) (n : Nat) (x : Ring) : (setRing s n x).cl = s.cl := rfl
@[simp] theorem setRing_can (s : Dev) (n : Nat) (x : Ring) : (setRing s n x).can = s.can := rfl
@[simp] theorem setRing_cnt (s : Dev) (n : Nat) (x : Ring) : (setRing s n x).cnt = s.cnt := rfl
@[simp] theorem setRing_log (s : Dev) (n : Nat) (x : Ring) : (setRing s n x).log = s.log := rfl
@[simp] theorem setRing_pwr (s : Dev) (n : Nat) (x : Ring) : (setRing s n x).pwr = s.pwr := rfl
@[simp] theorem setRing_inForce (s : Dev) (n : Nat) (x : Ring) : (setRing s n x).inForce = s.inForce := rfl
@[simp] theorem setRing_uptimeMs (s : Dev) (n : Nat) (x : Ring) : (setRing s n x).uptimeMs = s.uptimeMs := rfl
@[simp] theorem setRing_actor (s : Dev) (n : Nat) (x : Ring) : (setRing s n x).actor = s.actor := rfl
@[simp] theorem setRing_freeCtr (s : Dev) (n : Nat) (x : Ring) : (setRing s n x).freeCtr = s.freeCtr := rfl
@[simp] theorem setRing_busErr (s : Dev) (n : Nat) (x : Ring) : (setRing s n x).busErr = s.busErr := rfl
@[simp] theorem setRing_readVal (s : Dev) (n : Nat) (x : Ring) : (setRing s n x).readVal = s.readVal := rfl

@[simp] theorem setStr_dev (s : Dev) (n : Nat) (x : Str) : (setStr s n x).dev = s.dev := rfl
@[simp] theorem setStr_regs (s : Dev) (n : Nat) (x : Str) : (setStr s n x).regs = s.regs := rfl
@[simp] theorem setStr_mem (s : Dev) (n : Nat) (x : Str) : (setStr s n x).mem = s.mem := rfl
@[simp] theorem setStr_win (s : Dev) (n : Nat) (x : Str) : (setStr s n x).win = s.win := rfl
@[simp] theorem setStr_parCfg (s : Dev) (n : Nat) (x : Str) : (setStr s n x).parCfg = s.parCfg := rfl
@[simp] theorem setStr_parNow (s : Dev) (n : Nat) (x : Str) : (setStr s n x).parNow = s.parNow := rfl
@[simp] theorem setStr_tb (s : Dev) (n : Nat) (x : Str) : (setStr s n x).tb = s.tb := rfl
@[simp] theorem setStr_piste (s : Dev) (n : Nat) (x : Str) : (setStr s n x).piste = s.piste := rfl
@[simp] theorem setStr_rings (s : Dev) (n : Nat) (x : Str) : (setStr s n x).rings = s.rings := rfl
@[simp] theorem setStr_acq (s : Dev) (n : Nat) (x : Str) : (setStr s n x).acq = s.acq := rfl
@[simp] theorem setStr_est (s : Dev) (n : Nat) (x : Str) : (setStr s n x).est = s.est := rfl
@[simp] theorem setStr_chg (s : Dev) (n : Nat) (x : Str) : (setStr s n x).chg = s.chg := rfl
@[simp] theorem setStr_lim (s : Dev) (n : Nat) (x : Str) : (setStr s n x).lim = s.lim := rfl
@[simp] theorem setStr_thm (s : Dev) (n : Nat) (x : Str) : (setStr s n x).thm = s.thm := rfl
@[simp] theorem setStr_bus (s : Dev) (n : Nat) (x : Str) : (setStr s n x).bus = s.bus := rfl
@[simp] theorem setStr_saf (s : Dev) (n : Nat) (x : Str) : (setStr s n x).saf = s.saf := rfl
@[simp] theorem setStr_exe (s : Dev) (n : Nat) (x : Str) : (setStr s n x).exe = s.exe := rfl
@[simp] theorem setStr_host (s : Dev) (n : Nat) (x : Str) : (setStr s n x).host = s.host := rfl
@[simp] theorem setStr_cl (s : Dev) (n : Nat) (x : Str) : (setStr s n x).cl = s.cl := rfl
@[simp] theorem setStr_can (s : Dev) (n : Nat) (x : Str) : (setStr s n x).can = s.can := rfl
@[simp] theorem setStr_cnt (s : Dev) (n : Nat) (x : Str) : (setStr s n x).cnt = s.cnt := rfl
@[simp] theorem setStr_log (s : Dev) (n : Nat) (x : Str) : (setStr s n x).log = s.log := rfl
@[simp] theorem setStr_pwr (s : Dev) (n : Nat) (x : Str) : (setStr s n x).pwr = s.pwr := rfl
@[simp] theorem setStr_inForce (s : Dev) (n : Nat) (x : Str) : (setStr s n x).inForce = s.inForce := rfl
@[simp] theorem setStr_uptimeMs (s : Dev) (n : Nat) (x : Str) : (setStr s n x).uptimeMs = s.uptimeMs := rfl
@[simp] theorem setStr_actor (s : Dev) (n : Nat) (x : Str) : (setStr s n x).actor = s.actor := rfl
@[simp] theorem setStr_freeCtr (s : Dev) (n : Nat) (x : Str) : (setStr s n x).freeCtr = s.freeCtr := rfl
@[simp] theorem setStr_busErr (s : Dev) (n : Nat) (x : Str) : (setStr s n x).busErr = s.busErr := rfl
@[simp] theorem setStr_readVal (s : Dev) (n : Nat) (x : Str) : (setStr s n x).readVal = s.readVal := rfl

@[simp] theorem setCan_dev (s : Dev) (n : Nat) (x : Can) : (setCan s n x).dev = s.dev := rfl
@[simp] theorem setCan_regs (s : Dev) (n : Nat) (x : Can) : (setCan s n x).regs = s.regs := rfl
@[simp] theorem setCan_mem (s : Dev) (n : Nat) (x : Can) : (setCan s n x).mem = s.mem := rfl
@[simp] theorem setCan_win (s : Dev) (n : Nat) (x : Can) : (setCan s n x).win = s.win := rfl
@[simp] theorem setCan_parCfg (s : Dev) (n : Nat) (x : Can) : (setCan s n x).parCfg = s.parCfg := rfl
@[simp] theorem setCan_parNow (s : Dev) (n : Nat) (x : Can) : (setCan s n x).parNow = s.parNow := rfl
@[simp] theorem setCan_tb (s : Dev) (n : Nat) (x : Can) : (setCan s n x).tb = s.tb := rfl
@[simp] theorem setCan_piste (s : Dev) (n : Nat) (x : Can) : (setCan s n x).piste = s.piste := rfl
@[simp] theorem setCan_rings (s : Dev) (n : Nat) (x : Can) : (setCan s n x).rings = s.rings := rfl
@[simp] theorem setCan_acq (s : Dev) (n : Nat) (x : Can) : (setCan s n x).acq = s.acq := rfl
@[simp] theorem setCan_est (s : Dev) (n : Nat) (x : Can) : (setCan s n x).est = s.est := rfl
@[simp] theorem setCan_chg (s : Dev) (n : Nat) (x : Can) : (setCan s n x).chg = s.chg := rfl
@[simp] theorem setCan_lim (s : Dev) (n : Nat) (x : Can) : (setCan s n x).lim = s.lim := rfl
@[simp] theorem setCan_thm (s : Dev) (n : Nat) (x : Can) : (setCan s n x).thm = s.thm := rfl
@[simp] theorem setCan_strs (s : Dev) (n : Nat) (x : Can) : (setCan s n x).strs = s.strs := rfl
@[simp] theorem setCan_bus (s : Dev) (n : Nat) (x : Can) : (setCan s n x).bus = s.bus := rfl
@[simp] theorem setCan_saf (s : Dev) (n : Nat) (x : Can) : (setCan s n x).saf = s.saf := rfl
@[simp] theorem setCan_exe (s : Dev) (n : Nat) (x : Can) : (setCan s n x).exe = s.exe := rfl
@[simp] theorem setCan_host (s : Dev) (n : Nat) (x : Can) : (setCan s n x).host = s.host := rfl
@[simp] theorem setCan_cl (s : Dev) (n : Nat) (x : Can) : (setCan s n x).cl = s.cl := rfl
@[simp] theorem setCan_cnt (s : Dev) (n : Nat) (x : Can) : (setCan s n x).cnt = s.cnt := rfl
@[simp] theorem setCan_log (s : Dev) (n : Nat) (x : Can) : (setCan s n x).log = s.log := rfl
@[simp] theorem setCan_pwr (s : Dev) (n : Nat) (x : Can) : (setCan s n x).pwr = s.pwr := rfl
@[simp] theorem setCan_inForce (s : Dev) (n : Nat) (x : Can) : (setCan s n x).inForce = s.inForce := rfl
@[simp] theorem setCan_uptimeMs (s : Dev) (n : Nat) (x : Can) : (setCan s n x).uptimeMs = s.uptimeMs := rfl
@[simp] theorem setCan_actor (s : Dev) (n : Nat) (x : Can) : (setCan s n x).actor = s.actor := rfl
@[simp] theorem setCan_freeCtr (s : Dev) (n : Nat) (x : Can) : (setCan s n x).freeCtr = s.freeCtr := rfl
@[simp] theorem setCan_busErr (s : Dev) (n : Nat) (x : Can) : (setCan s n x).busErr = s.busErr := rfl
@[simp] theorem setCan_readVal (s : Dev) (n : Nat) (x : Can) : (setCan s n x).readVal = s.readVal := rfl

@[simp] theorem setMem_dev (s : Dev) (n : Nat) (x : Member) : (setMem s n x).dev = s.dev := rfl
@[simp] theorem setMem_regs (s : Dev) (n : Nat) (x : Member) : (setMem s n x).regs = s.regs := rfl
@[simp] theorem setMem_mem (s : Dev) (n : Nat) (x : Member) : (setMem s n x).mem = s.mem := rfl
@[simp] theorem setMem_win (s : Dev) (n : Nat) (x : Member) : (setMem s n x).win = s.win := rfl
@[simp] theorem setMem_parCfg (s : Dev) (n : Nat) (x : Member) : (setMem s n x).parCfg = s.parCfg := rfl
@[simp] theorem setMem_parNow (s : Dev) (n : Nat) (x : Member) : (setMem s n x).parNow = s.parNow := rfl
@[simp] theorem setMem_tb (s : Dev) (n : Nat) (x : Member) : (setMem s n x).tb = s.tb := rfl
@[simp] theorem setMem_piste (s : Dev) (n : Nat) (x : Member) : (setMem s n x).piste = s.piste := rfl
@[simp] theorem setMem_rings (s : Dev) (n : Nat) (x : Member) : (setMem s n x).rings = s.rings := rfl
@[simp] theorem setMem_acq (s : Dev) (n : Nat) (x : Member) : (setMem s n x).acq = s.acq := rfl
@[simp] theorem setMem_est (s : Dev) (n : Nat) (x : Member) : (setMem s n x).est = s.est := rfl
@[simp] theorem setMem_chg (s : Dev) (n : Nat) (x : Member) : (setMem s n x).chg = s.chg := rfl
@[simp] theorem setMem_lim (s : Dev) (n : Nat) (x : Member) : (setMem s n x).lim = s.lim := rfl
@[simp] theorem setMem_thm (s : Dev) (n : Nat) (x : Member) : (setMem s n x).thm = s.thm := rfl
@[simp] theorem setMem_strs (s : Dev) (n : Nat) (x : Member) : (setMem s n x).strs = s.strs := rfl
@[simp] theorem setMem_bus (s : Dev) (n : Nat) (x : Member) : (setMem s n x).bus = s.bus := rfl
@[simp] theorem setMem_saf (s : Dev) (n : Nat) (x : Member) : (setMem s n x).saf = s.saf := rfl
@[simp] theorem setMem_exe (s : Dev) (n : Nat) (x : Member) : (setMem s n x).exe = s.exe := rfl
@[simp] theorem setMem_host (s : Dev) (n : Nat) (x : Member) : (setMem s n x).host = s.host := rfl
@[simp] theorem setMem_can (s : Dev) (n : Nat) (x : Member) : (setMem s n x).can = s.can := rfl
@[simp] theorem setMem_cnt (s : Dev) (n : Nat) (x : Member) : (setMem s n x).cnt = s.cnt := rfl
@[simp] theorem setMem_log (s : Dev) (n : Nat) (x : Member) : (setMem s n x).log = s.log := rfl
@[simp] theorem setMem_pwr (s : Dev) (n : Nat) (x : Member) : (setMem s n x).pwr = s.pwr := rfl
@[simp] theorem setMem_inForce (s : Dev) (n : Nat) (x : Member) : (setMem s n x).inForce = s.inForce := rfl
@[simp] theorem setMem_uptimeMs (s : Dev) (n : Nat) (x : Member) : (setMem s n x).uptimeMs = s.uptimeMs := rfl
@[simp] theorem setMem_actor (s : Dev) (n : Nat) (x : Member) : (setMem s n x).actor = s.actor := rfl
@[simp] theorem setMem_freeCtr (s : Dev) (n : Nat) (x : Member) : (setMem s n x).freeCtr = s.freeCtr := rfl
@[simp] theorem setMem_busErr (s : Dev) (n : Nat) (x : Member) : (setMem s n x).busErr = s.busErr := rfl
@[simp] theorem setMem_readVal (s : Dev) (n : Nat) (x : Member) : (setMem s n x).readVal = s.readVal := rfl

@[simp] theorem takeBit_dev (s : Dev) : (takeBit s).2.dev = s.dev := rfl
@[simp] theorem takeBit_regs (s : Dev) : (takeBit s).2.regs = s.regs := rfl
@[simp] theorem takeBit_mem (s : Dev) : (takeBit s).2.mem = s.mem := rfl
@[simp] theorem takeBit_win (s : Dev) : (takeBit s).2.win = s.win := rfl
@[simp] theorem takeBit_parCfg (s : Dev) : (takeBit s).2.parCfg = s.parCfg := rfl
@[simp] theorem takeBit_parNow (s : Dev) : (takeBit s).2.parNow = s.parNow := rfl
@[simp] theorem takeBit_tb (s : Dev) : (takeBit s).2.tb = s.tb := rfl
@[simp] theorem takeBit_piste (s : Dev) : (takeBit s).2.piste = s.piste := rfl
@[simp] theorem takeBit_rings (s : Dev) : (takeBit s).2.rings = s.rings := rfl
@[simp] theorem takeBit_acq (s : Dev) : (takeBit s).2.acq = s.acq := rfl
@[simp] theorem takeBit_est (s : Dev) : (takeBit s).2.est = s.est := rfl
@[simp] theorem takeBit_chg (s : Dev) : (takeBit s).2.chg = s.chg := rfl
@[simp] theorem takeBit_lim (s : Dev) : (takeBit s).2.lim = s.lim := rfl
@[simp] theorem takeBit_thm (s : Dev) : (takeBit s).2.thm = s.thm := rfl
@[simp] theorem takeBit_strs (s : Dev) : (takeBit s).2.strs = s.strs := rfl
@[simp] theorem takeBit_bus (s : Dev) : (takeBit s).2.bus = s.bus := rfl
@[simp] theorem takeBit_saf (s : Dev) : (takeBit s).2.saf = s.saf := rfl
@[simp] theorem takeBit_exe (s : Dev) : (takeBit s).2.exe = s.exe := rfl
@[simp] theorem takeBit_host (s : Dev) : (takeBit s).2.host = s.host := rfl
@[simp] theorem takeBit_cl (s : Dev) : (takeBit s).2.cl = s.cl := rfl
@[simp] theorem takeBit_can (s : Dev) : (takeBit s).2.can = s.can := rfl
@[simp] theorem takeBit_cnt (s : Dev) : (takeBit s).2.cnt = s.cnt := rfl
@[simp] theorem takeBit_log (s : Dev) : (takeBit s).2.log = s.log := rfl
@[simp] theorem takeBit_pwr (s : Dev) : (takeBit s).2.pwr = s.pwr := rfl
@[simp] theorem takeBit_inForce (s : Dev) : (takeBit s).2.inForce = s.inForce := rfl
@[simp] theorem takeBit_uptimeMs (s : Dev) : (takeBit s).2.uptimeMs = s.uptimeMs := rfl
@[simp] theorem takeBit_actor (s : Dev) : (takeBit s).2.actor = s.actor := rfl
@[simp] theorem takeBit_busErr (s : Dev) : (takeBit s).2.busErr = s.busErr := rfl
@[simp] theorem takeBit_readVal (s : Dev) : (takeBit s).2.readVal = s.readVal := rfl

@[simp] theorem takeWord_dev (s : Dev) : (takeWord s).2.dev = s.dev := rfl
@[simp] theorem takeWord_regs (s : Dev) : (takeWord s).2.regs = s.regs := rfl
@[simp] theorem takeWord_mem (s : Dev) : (takeWord s).2.mem = s.mem := rfl
@[simp] theorem takeWord_win (s : Dev) : (takeWord s).2.win = s.win := rfl
@[simp] theorem takeWord_parCfg (s : Dev) : (takeWord s).2.parCfg = s.parCfg := rfl
@[simp] theorem takeWord_parNow (s : Dev) : (takeWord s).2.parNow = s.parNow := rfl
@[simp] theorem takeWord_tb (s : Dev) : (takeWord s).2.tb = s.tb := rfl
@[simp] theorem takeWord_piste (s : Dev) : (takeWord s).2.piste = s.piste := rfl
@[simp] theorem takeWord_rings (s : Dev) : (takeWord s).2.rings = s.rings := rfl
@[simp] theorem takeWord_acq (s : Dev) : (takeWord s).2.acq = s.acq := rfl
@[simp] theorem takeWord_est (s : Dev) : (takeWord s).2.est = s.est := rfl
@[simp] theorem takeWord_chg (s : Dev) : (takeWord s).2.chg = s.chg := rfl
@[simp] theorem takeWord_lim (s : Dev) : (takeWord s).2.lim = s.lim := rfl
@[simp] theorem takeWord_thm (s : Dev) : (takeWord s).2.thm = s.thm := rfl
@[simp] theorem takeWord_strs (s : Dev) : (takeWord s).2.strs = s.strs := rfl
@[simp] theorem takeWord_bus (s : Dev) : (takeWord s).2.bus = s.bus := rfl
@[simp] theorem takeWord_saf (s : Dev) : (takeWord s).2.saf = s.saf := rfl
@[simp] theorem takeWord_exe (s : Dev) : (takeWord s).2.exe = s.exe := rfl
@[simp] theorem takeWord_host (s : Dev) : (takeWord s).2.host = s.host := rfl
@[simp] theorem takeWord_cl (s : Dev) : (takeWord s).2.cl = s.cl := rfl
@[simp] theorem takeWord_can (s : Dev) : (takeWord s).2.can = s.can := rfl
@[simp] theorem takeWord_cnt (s : Dev) : (takeWord s).2.cnt = s.cnt := rfl
@[simp] theorem takeWord_log (s : Dev) : (takeWord s).2.log = s.log := rfl
@[simp] theorem takeWord_pwr (s : Dev) : (takeWord s).2.pwr = s.pwr := rfl
@[simp] theorem takeWord_inForce (s : Dev) : (takeWord s).2.inForce = s.inForce := rfl
@[simp] theorem takeWord_uptimeMs (s : Dev) : (takeWord s).2.uptimeMs = s.uptimeMs := rfl
@[simp] theorem takeWord_actor (s : Dev) : (takeWord s).2.actor = s.actor := rfl
@[simp] theorem takeWord_busErr (s : Dev) : (takeWord s).2.busErr = s.busErr := rfl
@[simp] theorem takeWord_readVal (s : Dev) : (takeWord s).2.readVal = s.readVal := rfl

@[simp] theorem takeNat_dev (s : Dev) (n : Nat) : (takeNat s n).2.dev = s.dev := rfl
@[simp] theorem takeNat_regs (s : Dev) (n : Nat) : (takeNat s n).2.regs = s.regs := rfl
@[simp] theorem takeNat_mem (s : Dev) (n : Nat) : (takeNat s n).2.mem = s.mem := rfl
@[simp] theorem takeNat_win (s : Dev) (n : Nat) : (takeNat s n).2.win = s.win := rfl
@[simp] theorem takeNat_parCfg (s : Dev) (n : Nat) : (takeNat s n).2.parCfg = s.parCfg := rfl
@[simp] theorem takeNat_parNow (s : Dev) (n : Nat) : (takeNat s n).2.parNow = s.parNow := rfl
@[simp] theorem takeNat_tb (s : Dev) (n : Nat) : (takeNat s n).2.tb = s.tb := rfl
@[simp] theorem takeNat_piste (s : Dev) (n : Nat) : (takeNat s n).2.piste = s.piste := rfl
@[simp] theorem takeNat_rings (s : Dev) (n : Nat) : (takeNat s n).2.rings = s.rings := rfl
@[simp] theorem takeNat_acq (s : Dev) (n : Nat) : (takeNat s n).2.acq = s.acq := rfl
@[simp] theorem takeNat_est (s : Dev) (n : Nat) : (takeNat s n).2.est = s.est := rfl
@[simp] theorem takeNat_chg (s : Dev) (n : Nat) : (takeNat s n).2.chg = s.chg := rfl
@[simp] theorem takeNat_lim (s : Dev) (n : Nat) : (takeNat s n).2.lim = s.lim := rfl
@[simp] theorem takeNat_thm (s : Dev) (n : Nat) : (takeNat s n).2.thm = s.thm := rfl
@[simp] theorem takeNat_strs (s : Dev) (n : Nat) : (takeNat s n).2.strs = s.strs := rfl
@[simp] theorem takeNat_bus (s : Dev) (n : Nat) : (takeNat s n).2.bus = s.bus := rfl
@[simp] theorem takeNat_saf (s : Dev) (n : Nat) : (takeNat s n).2.saf = s.saf := rfl
@[simp] theorem takeNat_exe (s : Dev) (n : Nat) : (takeNat s n).2.exe = s.exe := rfl
@[simp] theorem takeNat_host (s : Dev) (n : Nat) : (takeNat s n).2.host = s.host := rfl
@[simp] theorem takeNat_cl (s : Dev) (n : Nat) : (takeNat s n).2.cl = s.cl := rfl
@[simp] theorem takeNat_can (s : Dev) (n : Nat) : (takeNat s n).2.can = s.can := rfl
@[simp] theorem takeNat_cnt (s : Dev) (n : Nat) : (takeNat s n).2.cnt = s.cnt := rfl
@[simp] theorem takeNat_log (s : Dev) (n : Nat) : (takeNat s n).2.log = s.log := rfl
@[simp] theorem takeNat_pwr (s : Dev) (n : Nat) : (takeNat s n).2.pwr = s.pwr := rfl
@[simp] theorem takeNat_inForce (s : Dev) (n : Nat) : (takeNat s n).2.inForce = s.inForce := rfl
@[simp] theorem takeNat_uptimeMs (s : Dev) (n : Nat) : (takeNat s n).2.uptimeMs = s.uptimeMs := rfl
@[simp] theorem takeNat_actor (s : Dev) (n : Nat) : (takeNat s n).2.actor = s.actor := rfl
@[simp] theorem takeNat_busErr (s : Dev) (n : Nat) : (takeNat s n).2.busErr = s.busErr := rfl
@[simp] theorem takeNat_readVal (s : Dev) (n : Nat) : (takeNat s n).2.readVal = s.readVal := rfl

@[simp] theorem wrF_frame (s : Dev) (a lo len v : Nat) :
    (wrF s a lo len v).dev = s.dev ∧ (wrF s a lo len v).mem = s.mem ∧ (wrF s a lo len v).win = s.win ∧
    (wrF s a lo len v).parCfg = s.parCfg ∧ (wrF s a lo len v).parNow = s.parNow ∧ (wrF s a lo len v).tb = s.tb ∧
    (wrF s a lo len v).piste = s.piste ∧ (wrF s a lo len v).rings = s.rings ∧ (wrF s a lo len v).acq = s.acq ∧
    (wrF s a lo len v).est = s.est ∧ (wrF s a lo len v).chg = s.chg ∧ (wrF s a lo len v).lim = s.lim ∧
    (wrF s a lo len v).thm = s.thm ∧ (wrF s a lo len v).strs = s.strs ∧ (wrF s a lo len v).bus = s.bus ∧
    (wrF s a lo len v).saf = s.saf ∧ (wrF s a lo len v).exe = s.exe ∧ (wrF s a lo len v).host = s.host ∧
    (wrF s a lo len v).cl = s.cl ∧ (wrF s a lo len v).can = s.can ∧ (wrF s a lo len v).cnt = s.cnt ∧
    (wrF s a lo len v).log = s.log ∧ (wrF s a lo len v).pwr = s.pwr ∧ (wrF s a lo len v).inForce = s.inForce ∧
    (wrF s a lo len v).uptimeMs = s.uptimeMs ∧ (wrF s a lo len v).actor = s.actor ∧
    (wrF s a lo len v).freeCtr = s.freeCtr ∧ (wrF s a lo len v).busErr = s.busErr ∧ (wrF s a lo len v).readVal = s.readVal := by simp [wrF]

@[simp] theorem wrB_frame (s : Dev) (a k : Nat) (b : Bool) :
    (wrB s a k b).dev = s.dev ∧ (wrB s a k b).mem = s.mem ∧ (wrB s a k b).win = s.win ∧ (wrB s a k b).parCfg = s.parCfg ∧
    (wrB s a k b).parNow = s.parNow ∧ (wrB s a k b).tb = s.tb ∧ (wrB s a k b).piste = s.piste ∧
    (wrB s a k b).rings = s.rings ∧ (wrB s a k b).acq = s.acq ∧ (wrB s a k b).est = s.est ∧ (wrB s a k b).chg = s.chg ∧
    (wrB s a k b).lim = s.lim ∧ (wrB s a k b).thm = s.thm ∧ (wrB s a k b).strs = s.strs ∧ (wrB s a k b).bus = s.bus ∧
    (wrB s a k b).saf = s.saf ∧ (wrB s a k b).exe = s.exe ∧ (wrB s a k b).host = s.host ∧ (wrB s a k b).cl = s.cl ∧
    (wrB s a k b).can = s.can ∧ (wrB s a k b).cnt = s.cnt ∧ (wrB s a k b).log = s.log ∧ (wrB s a k b).pwr = s.pwr ∧
    (wrB s a k b).inForce = s.inForce ∧ (wrB s a k b).uptimeMs = s.uptimeMs ∧ (wrB s a k b).actor = s.actor ∧
    (wrB s a k b).freeCtr = s.freeCtr ∧ (wrB s a k b).busErr = s.busErr ∧ (wrB s a k b).readVal = s.readVal := by simp [wrB]

@[simp] theorem wrN_frame (s : Dev) (a v : Nat) :
    (wrN s a v).dev = s.dev ∧ (wrN s a v).mem = s.mem ∧ (wrN s a v).win = s.win ∧ (wrN s a v).parCfg = s.parCfg ∧
    (wrN s a v).parNow = s.parNow ∧ (wrN s a v).tb = s.tb ∧ (wrN s a v).piste = s.piste ∧ (wrN s a v).rings = s.rings ∧
    (wrN s a v).acq = s.acq ∧ (wrN s a v).est = s.est ∧ (wrN s a v).chg = s.chg ∧ (wrN s a v).lim = s.lim ∧
    (wrN s a v).thm = s.thm ∧ (wrN s a v).strs = s.strs ∧ (wrN s a v).bus = s.bus ∧ (wrN s a v).saf = s.saf ∧
    (wrN s a v).exe = s.exe ∧ (wrN s a v).host = s.host ∧ (wrN s a v).cl = s.cl ∧ (wrN s a v).can = s.can ∧
    (wrN s a v).cnt = s.cnt ∧ (wrN s a v).log = s.log ∧ (wrN s a v).pwr = s.pwr ∧ (wrN s a v).inForce = s.inForce ∧
    (wrN s a v).uptimeMs = s.uptimeMs ∧ (wrN s a v).actor = s.actor ∧ (wrN s a v).freeCtr = s.freeCtr ∧
    (wrN s a v).busErr = s.busErr ∧ (wrN s a v).readVal = s.readVal := by simp [wrN]

@[simp] theorem bumpReg_frame (s : Dev) (a n : Nat) :
    (bumpReg s a n).dev = s.dev ∧ (bumpReg s a n).mem = s.mem ∧ (bumpReg s a n).win = s.win ∧
    (bumpReg s a n).parCfg = s.parCfg ∧ (bumpReg s a n).parNow = s.parNow ∧ (bumpReg s a n).tb = s.tb ∧
    (bumpReg s a n).piste = s.piste ∧ (bumpReg s a n).rings = s.rings ∧ (bumpReg s a n).acq = s.acq ∧
    (bumpReg s a n).est = s.est ∧ (bumpReg s a n).chg = s.chg ∧ (bumpReg s a n).lim = s.lim ∧ (bumpReg s a n).thm = s.thm ∧
    (bumpReg s a n).strs = s.strs ∧ (bumpReg s a n).bus = s.bus ∧ (bumpReg s a n).saf = s.saf ∧
    (bumpReg s a n).exe = s.exe ∧ (bumpReg s a n).host = s.host ∧ (bumpReg s a n).cl = s.cl ∧ (bumpReg s a n).can = s.can ∧
    (bumpReg s a n).cnt = s.cnt ∧ (bumpReg s a n).log = s.log ∧ (bumpReg s a n).pwr = s.pwr ∧
    (bumpReg s a n).inForce = s.inForce ∧ (bumpReg s a n).uptimeMs = s.uptimeMs ∧ (bumpReg s a n).actor = s.actor ∧
    (bumpReg s a n).freeCtr = s.freeCtr ∧ (bumpReg s a n).busErr = s.busErr ∧ (bumpReg s a n).readVal = s.readVal := by simp [bumpReg]

@[simp] theorem setCounter_frame (s : Dev) (n v : Nat) :
    (setCounter s n v).dev = s.dev ∧ (setCounter s n v).mem = s.mem ∧ (setCounter s n v).win = s.win ∧
    (setCounter s n v).parCfg = s.parCfg ∧ (setCounter s n v).parNow = s.parNow ∧ (setCounter s n v).tb = s.tb ∧
    (setCounter s n v).piste = s.piste ∧ (setCounter s n v).rings = s.rings ∧ (setCounter s n v).acq = s.acq ∧
    (setCounter s n v).est = s.est ∧ (setCounter s n v).chg = s.chg ∧ (setCounter s n v).lim = s.lim ∧
    (setCounter s n v).thm = s.thm ∧ (setCounter s n v).strs = s.strs ∧ (setCounter s n v).bus = s.bus ∧
    (setCounter s n v).saf = s.saf ∧ (setCounter s n v).exe = s.exe ∧ (setCounter s n v).host = s.host ∧
    (setCounter s n v).cl = s.cl ∧ (setCounter s n v).can = s.can ∧ (setCounter s n v).cnt = s.cnt ∧
    (setCounter s n v).log = s.log ∧ (setCounter s n v).pwr = s.pwr ∧ (setCounter s n v).inForce = s.inForce ∧
    (setCounter s n v).uptimeMs = s.uptimeMs ∧ (setCounter s n v).actor = s.actor ∧
    (setCounter s n v).freeCtr = s.freeCtr ∧ (setCounter s n v).busErr = s.busErr ∧ (setCounter s n v).readVal = s.readVal := by simp [setCounter]

@[simp] theorem bumpCounter_frame (s : Dev) (n k : Nat) :
    (bumpCounter s n k).dev = s.dev ∧ (bumpCounter s n k).mem = s.mem ∧ (bumpCounter s n k).win = s.win ∧
    (bumpCounter s n k).parCfg = s.parCfg ∧ (bumpCounter s n k).parNow = s.parNow ∧ (bumpCounter s n k).tb = s.tb ∧
    (bumpCounter s n k).piste = s.piste ∧ (bumpCounter s n k).rings = s.rings ∧ (bumpCounter s n k).acq = s.acq ∧
    (bumpCounter s n k).est = s.est ∧ (bumpCounter s n k).chg = s.chg ∧ (bumpCounter s n k).lim = s.lim ∧
    (bumpCounter s n k).thm = s.thm ∧ (bumpCounter s n k).strs = s.strs ∧ (bumpCounter s n k).bus = s.bus ∧
    (bumpCounter s n k).saf = s.saf ∧ (bumpCounter s n k).exe = s.exe ∧ (bumpCounter s n k).host = s.host ∧
    (bumpCounter s n k).cl = s.cl ∧ (bumpCounter s n k).can = s.can ∧ (bumpCounter s n k).cnt = s.cnt ∧
    (bumpCounter s n k).log = s.log ∧ (bumpCounter s n k).pwr = s.pwr ∧ (bumpCounter s n k).inForce = s.inForce ∧
    (bumpCounter s n k).uptimeMs = s.uptimeMs ∧ (bumpCounter s n k).actor = s.actor ∧
    (bumpCounter s n k).freeCtr = s.freeCtr ∧ (bumpCounter s n k).busErr = s.busErr ∧
    (bumpCounter s n k).readVal = s.readVal := by by_cases h : counterVal s n + k < 2 ^ 48 <;> simp only [bumpCounter, h, if_true, if_false] <;> simp

@[simp] theorem stWords_frame (s : Dev) (a : Nat) (l : List U32) :
    (stWords s a l).dev = s.dev ∧ (stWords s a l).regs = s.regs ∧ (stWords s a l).win = s.win ∧
    (stWords s a l).parCfg = s.parCfg ∧ (stWords s a l).parNow = s.parNow ∧ (stWords s a l).tb = s.tb ∧
    (stWords s a l).piste = s.piste ∧ (stWords s a l).rings = s.rings ∧ (stWords s a l).acq = s.acq ∧
    (stWords s a l).est = s.est ∧ (stWords s a l).chg = s.chg ∧ (stWords s a l).lim = s.lim ∧ (stWords s a l).thm = s.thm ∧
    (stWords s a l).strs = s.strs ∧ (stWords s a l).bus = s.bus ∧ (stWords s a l).saf = s.saf ∧
    (stWords s a l).exe = s.exe ∧ (stWords s a l).host = s.host ∧ (stWords s a l).cl = s.cl ∧ (stWords s a l).can = s.can ∧
    (stWords s a l).cnt = s.cnt ∧ (stWords s a l).log = s.log ∧ (stWords s a l).pwr = s.pwr ∧
    (stWords s a l).inForce = s.inForce ∧ (stWords s a l).uptimeMs = s.uptimeMs ∧ (stWords s a l).actor = s.actor ∧
    (stWords s a l).freeCtr = s.freeCtr ∧ (stWords s a l).busErr = s.busErr ∧ (stWords s a l).readVal = s.readVal := by simp [stWords]

@[simp] theorem st8_frame (s : Dev) (a v : Nat) :
    (st8 s a v).dev = s.dev ∧ (st8 s a v).regs = s.regs ∧ (st8 s a v).win = s.win ∧ (st8 s a v).parCfg = s.parCfg ∧
    (st8 s a v).parNow = s.parNow ∧ (st8 s a v).tb = s.tb ∧ (st8 s a v).piste = s.piste ∧ (st8 s a v).rings = s.rings ∧
    (st8 s a v).acq = s.acq ∧ (st8 s a v).est = s.est ∧ (st8 s a v).chg = s.chg ∧ (st8 s a v).lim = s.lim ∧
    (st8 s a v).thm = s.thm ∧ (st8 s a v).strs = s.strs ∧ (st8 s a v).bus = s.bus ∧ (st8 s a v).saf = s.saf ∧
    (st8 s a v).exe = s.exe ∧ (st8 s a v).host = s.host ∧ (st8 s a v).cl = s.cl ∧ (st8 s a v).can = s.can ∧
    (st8 s a v).cnt = s.cnt ∧ (st8 s a v).log = s.log ∧ (st8 s a v).pwr = s.pwr ∧ (st8 s a v).inForce = s.inForce ∧
    (st8 s a v).uptimeMs = s.uptimeMs ∧ (st8 s a v).actor = s.actor ∧ (st8 s a v).freeCtr = s.freeCtr ∧
    (st8 s a v).busErr = s.busErr ∧ (st8 s a v).readVal = s.readVal := by simp [st8]

@[simp] theorem st16_frame (s : Dev) (a v : Nat) :
    (st16 s a v).dev = s.dev ∧ (st16 s a v).regs = s.regs ∧ (st16 s a v).win = s.win ∧ (st16 s a v).parCfg = s.parCfg ∧
    (st16 s a v).parNow = s.parNow ∧ (st16 s a v).tb = s.tb ∧ (st16 s a v).piste = s.piste ∧ (st16 s a v).rings = s.rings ∧
    (st16 s a v).acq = s.acq ∧ (st16 s a v).est = s.est ∧ (st16 s a v).chg = s.chg ∧ (st16 s a v).lim = s.lim ∧
    (st16 s a v).thm = s.thm ∧ (st16 s a v).strs = s.strs ∧ (st16 s a v).bus = s.bus ∧ (st16 s a v).saf = s.saf ∧
    (st16 s a v).exe = s.exe ∧ (st16 s a v).host = s.host ∧ (st16 s a v).cl = s.cl ∧ (st16 s a v).can = s.can ∧
    (st16 s a v).cnt = s.cnt ∧ (st16 s a v).log = s.log ∧ (st16 s a v).pwr = s.pwr ∧ (st16 s a v).inForce = s.inForce ∧
    (st16 s a v).uptimeMs = s.uptimeMs ∧ (st16 s a v).actor = s.actor ∧ (st16 s a v).freeCtr = s.freeCtr ∧
    (st16 s a v).busErr = s.busErr ∧ (st16 s a v).readVal = s.readVal := by simp [st16]

@[simp] theorem st32_frame (s : Dev) (a v : Nat) :
    (st32 s a v).dev = s.dev ∧ (st32 s a v).regs = s.regs ∧ (st32 s a v).win = s.win ∧ (st32 s a v).parCfg = s.parCfg ∧
    (st32 s a v).parNow = s.parNow ∧ (st32 s a v).tb = s.tb ∧ (st32 s a v).piste = s.piste ∧ (st32 s a v).rings = s.rings ∧
    (st32 s a v).acq = s.acq ∧ (st32 s a v).est = s.est ∧ (st32 s a v).chg = s.chg ∧ (st32 s a v).lim = s.lim ∧
    (st32 s a v).thm = s.thm ∧ (st32 s a v).strs = s.strs ∧ (st32 s a v).bus = s.bus ∧ (st32 s a v).saf = s.saf ∧
    (st32 s a v).exe = s.exe ∧ (st32 s a v).host = s.host ∧ (st32 s a v).cl = s.cl ∧ (st32 s a v).can = s.can ∧
    (st32 s a v).cnt = s.cnt ∧ (st32 s a v).log = s.log ∧ (st32 s a v).pwr = s.pwr ∧ (st32 s a v).inForce = s.inForce ∧
    (st32 s a v).uptimeMs = s.uptimeMs ∧ (st32 s a v).actor = s.actor ∧ (st32 s a v).freeCtr = s.freeCtr ∧
    (st32 s a v).busErr = s.busErr ∧ (st32 s a v).readVal = s.readVal := by simp [st32]

@[simp] theorem st64_frame (s : Dev) (a v : Nat) :
    (st64 s a v).dev = s.dev ∧ (st64 s a v).regs = s.regs ∧ (st64 s a v).win = s.win ∧ (st64 s a v).parCfg = s.parCfg ∧
    (st64 s a v).parNow = s.parNow ∧ (st64 s a v).tb = s.tb ∧ (st64 s a v).piste = s.piste ∧ (st64 s a v).rings = s.rings ∧
    (st64 s a v).acq = s.acq ∧ (st64 s a v).est = s.est ∧ (st64 s a v).chg = s.chg ∧ (st64 s a v).lim = s.lim ∧
    (st64 s a v).thm = s.thm ∧ (st64 s a v).strs = s.strs ∧ (st64 s a v).bus = s.bus ∧ (st64 s a v).saf = s.saf ∧
    (st64 s a v).exe = s.exe ∧ (st64 s a v).host = s.host ∧ (st64 s a v).cl = s.cl ∧ (st64 s a v).can = s.can ∧
    (st64 s a v).cnt = s.cnt ∧ (st64 s a v).log = s.log ∧ (st64 s a v).pwr = s.pwr ∧ (st64 s a v).inForce = s.inForce ∧
    (st64 s a v).uptimeMs = s.uptimeMs ∧ (st64 s a v).actor = s.actor ∧ (st64 s a v).freeCtr = s.freeCtr ∧
    (st64 s a v).busErr = s.busErr ∧ (st64 s a v).readVal = s.readVal := by simp [st64]

@[simp] theorem modeChange_frame (s : Dev) (p mode value which : Nat) :
    (modeChange s p mode value which).dev = s.dev ∧ (modeChange s p mode value which).regs = s.regs ∧
    (modeChange s p mode value which).mem = s.mem ∧ (modeChange s p mode value which).win = s.win ∧
    (modeChange s p mode value which).parCfg = s.parCfg ∧ (modeChange s p mode value which).parNow = s.parNow ∧
    (modeChange s p mode value which).tb = s.tb ∧ (modeChange s p mode value which).piste = s.piste ∧
    (modeChange s p mode value which).rings = s.rings ∧ (modeChange s p mode value which).acq = s.acq ∧
    (modeChange s p mode value which).est = s.est ∧ (modeChange s p mode value which).chg = s.chg ∧
    (modeChange s p mode value which).lim = s.lim ∧ (modeChange s p mode value which).thm = s.thm ∧
    (modeChange s p mode value which).strs = s.strs ∧ (modeChange s p mode value which).bus = s.bus ∧
    (modeChange s p mode value which).saf = s.saf ∧ (modeChange s p mode value which).exe = s.exe ∧
    (modeChange s p mode value which).host = s.host ∧ (modeChange s p mode value which).cl = s.cl ∧
    (modeChange s p mode value which).can = s.can ∧ (modeChange s p mode value which).cnt = s.cnt ∧
    (modeChange s p mode value which).pwr = s.pwr ∧ (modeChange s p mode value which).inForce = s.inForce ∧
    (modeChange s p mode value which).uptimeMs = s.uptimeMs ∧ (modeChange s p mode value which).actor = s.actor ∧
    (modeChange s p mode value which).freeCtr = s.freeCtr ∧ (modeChange s p mode value which).busErr = s.busErr ∧
    (modeChange s p mode value which).readVal = s.readVal := by simp [modeChange]

@[simp] theorem setPair_frame (s : Dev) (p : Nat) (v : Pair) :
    (setPair s p v).dev = s.dev ∧ (setPair s p v).regs = s.regs ∧ (setPair s p v).mem = s.mem ∧
    (setPair s p v).win = s.win ∧ (setPair s p v).parCfg = s.parCfg ∧ (setPair s p v).parNow = s.parNow ∧
    (setPair s p v).tb = s.tb ∧ (setPair s p v).piste = s.piste ∧ (setPair s p v).rings = s.rings ∧
    (setPair s p v).acq = s.acq ∧ (setPair s p v).est = s.est ∧ (setPair s p v).chg = s.chg ∧ (setPair s p v).lim = s.lim ∧
    (setPair s p v).thm = s.thm ∧ (setPair s p v).strs = s.strs ∧ (setPair s p v).bus = s.bus ∧
    (setPair s p v).saf = s.saf ∧ (setPair s p v).host = s.host ∧ (setPair s p v).cl = s.cl ∧ (setPair s p v).can = s.can ∧
    (setPair s p v).cnt = s.cnt ∧ (setPair s p v).log = s.log ∧ (setPair s p v).pwr = s.pwr ∧
    (setPair s p v).inForce = s.inForce ∧ (setPair s p v).uptimeMs = s.uptimeMs ∧ (setPair s p v).actor = s.actor ∧
    (setPair s p v).freeCtr = s.freeCtr ∧ (setPair s p v).busErr = s.busErr ∧ (setPair s p v).readVal = s.readVal := by unfold setPair; (repeat' split) <;> simp

@[simp] theorem emit_frame (s : Dev) (p : Nat) (e : Effect) :
    (emit s p e).dev = s.dev ∧ (emit s p e).regs = s.regs ∧ (emit s p e).mem = s.mem ∧ (emit s p e).win = s.win ∧
    (emit s p e).parCfg = s.parCfg ∧ (emit s p e).parNow = s.parNow ∧ (emit s p e).tb = s.tb ∧
    (emit s p e).piste = s.piste ∧ (emit s p e).rings = s.rings ∧ (emit s p e).acq = s.acq ∧ (emit s p e).est = s.est ∧
    (emit s p e).chg = s.chg ∧ (emit s p e).lim = s.lim ∧ (emit s p e).thm = s.thm ∧ (emit s p e).strs = s.strs ∧
    (emit s p e).bus = s.bus ∧ (emit s p e).saf = s.saf ∧ (emit s p e).host = s.host ∧ (emit s p e).cl = s.cl ∧
    (emit s p e).can = s.can ∧ (emit s p e).cnt = s.cnt ∧ (emit s p e).log = s.log ∧ (emit s p e).pwr = s.pwr ∧
    (emit s p e).inForce = s.inForce ∧ (emit s p e).uptimeMs = s.uptimeMs ∧ (emit s p e).actor = s.actor ∧
    (emit s p e).freeCtr = s.freeCtr ∧ (emit s p e).busErr = s.busErr ∧ (emit s p e).readVal = s.readVal := by unfold emit; split <;> simp

@[simp] theorem raise_frame (s : Dev) (p code arg scope : Nat) :
    (raise s p code arg scope).dev = s.dev ∧ (raise s p code arg scope).regs = s.regs ∧
    (raise s p code arg scope).mem = s.mem ∧ (raise s p code arg scope).win = s.win ∧
    (raise s p code arg scope).parCfg = s.parCfg ∧ (raise s p code arg scope).parNow = s.parNow ∧
    (raise s p code arg scope).tb = s.tb ∧ (raise s p code arg scope).piste = s.piste ∧
    (raise s p code arg scope).rings = s.rings ∧ (raise s p code arg scope).acq = s.acq ∧
    (raise s p code arg scope).est = s.est ∧ (raise s p code arg scope).chg = s.chg ∧
    (raise s p code arg scope).lim = s.lim ∧ (raise s p code arg scope).thm = s.thm ∧
    (raise s p code arg scope).strs = s.strs ∧ (raise s p code arg scope).bus = s.bus ∧
    (raise s p code arg scope).saf = s.saf ∧ (raise s p code arg scope).exe = s.exe ∧
    (raise s p code arg scope).host = s.host ∧ (raise s p code arg scope).cl = s.cl ∧
    (raise s p code arg scope).can = s.can ∧ (raise s p code arg scope).cnt = s.cnt ∧
    (raise s p code arg scope).pwr = s.pwr ∧ (raise s p code arg scope).uptimeMs = s.uptimeMs ∧
    (raise s p code arg scope).actor = s.actor ∧ (raise s p code arg scope).freeCtr = s.freeCtr ∧
    (raise s p code arg scope).busErr = s.busErr ∧ (raise s p code arg scope).readVal = s.readVal := by unfold raise; (repeat' split) <;> simp

@[simp] theorem note_frame (s : Dev) (p code arg : Nat) :
    (note s p code arg).dev = s.dev ∧ (note s p code arg).regs = s.regs ∧ (note s p code arg).mem = s.mem ∧
    (note s p code arg).win = s.win ∧ (note s p code arg).parCfg = s.parCfg ∧ (note s p code arg).parNow = s.parNow ∧
    (note s p code arg).tb = s.tb ∧ (note s p code arg).piste = s.piste ∧ (note s p code arg).rings = s.rings ∧
    (note s p code arg).acq = s.acq ∧ (note s p code arg).est = s.est ∧ (note s p code arg).chg = s.chg ∧
    (note s p code arg).lim = s.lim ∧ (note s p code arg).thm = s.thm ∧ (note s p code arg).strs = s.strs ∧
    (note s p code arg).bus = s.bus ∧ (note s p code arg).saf = s.saf ∧ (note s p code arg).exe = s.exe ∧
    (note s p code arg).host = s.host ∧ (note s p code arg).cl = s.cl ∧ (note s p code arg).can = s.can ∧
    (note s p code arg).cnt = s.cnt ∧ (note s p code arg).pwr = s.pwr ∧ (note s p code arg).uptimeMs = s.uptimeMs ∧
    (note s p code arg).actor = s.actor ∧ (note s p code arg).freeCtr = s.freeCtr ∧ (note s p code arg).busErr = s.busErr ∧
    (note s p code arg).readVal = s.readVal := by unfold note; simp only; split <;> simp

@[simp] theorem clearCond_frame (s : Dev) (p code scope str : Nat) :
    (clearCond s p code scope str).dev = s.dev ∧ (clearCond s p code scope str).regs = s.regs ∧
    (clearCond s p code scope str).mem = s.mem ∧ (clearCond s p code scope str).win = s.win ∧
    (clearCond s p code scope str).parCfg = s.parCfg ∧ (clearCond s p code scope str).parNow = s.parNow ∧
    (clearCond s p code scope str).tb = s.tb ∧ (clearCond s p code scope str).piste = s.piste ∧
    (clearCond s p code scope str).rings = s.rings ∧ (clearCond s p code scope str).acq = s.acq ∧
    (clearCond s p code scope str).est = s.est ∧ (clearCond s p code scope str).chg = s.chg ∧
    (clearCond s p code scope str).lim = s.lim ∧ (clearCond s p code scope str).thm = s.thm ∧
    (clearCond s p code scope str).strs = s.strs ∧ (clearCond s p code scope str).bus = s.bus ∧
    (clearCond s p code scope str).saf = s.saf ∧ (clearCond s p code scope str).exe = s.exe ∧
    (clearCond s p code scope str).host = s.host ∧ (clearCond s p code scope str).cl = s.cl ∧
    (clearCond s p code scope str).can = s.can ∧ (clearCond s p code scope str).cnt = s.cnt ∧
    (clearCond s p code scope str).pwr = s.pwr ∧ (clearCond s p code scope str).uptimeMs = s.uptimeMs ∧
    (clearCond s p code scope str).actor = s.actor ∧ (clearCond s p code scope str).freeCtr = s.freeCtr ∧
    (clearCond s p code scope str).busErr = s.busErr ∧ (clearCond s p code scope str).readVal = s.readVal := by unfold clearCond; (repeat' split) <;> simp

@[simp] theorem track_frame (s : Dev) (cond : Bool) (p code arg scope str : Nat) :
    (track s cond p code arg scope str).dev = s.dev ∧ (track s cond p code arg scope str).regs = s.regs ∧
    (track s cond p code arg scope str).mem = s.mem ∧ (track s cond p code arg scope str).win = s.win ∧
    (track s cond p code arg scope str).parCfg = s.parCfg ∧ (track s cond p code arg scope str).parNow = s.parNow ∧
    (track s cond p code arg scope str).tb = s.tb ∧ (track s cond p code arg scope str).piste = s.piste ∧
    (track s cond p code arg scope str).rings = s.rings ∧ (track s cond p code arg scope str).acq = s.acq ∧
    (track s cond p code arg scope str).est = s.est ∧ (track s cond p code arg scope str).chg = s.chg ∧
    (track s cond p code arg scope str).lim = s.lim ∧ (track s cond p code arg scope str).thm = s.thm ∧
    (track s cond p code arg scope str).strs = s.strs ∧ (track s cond p code arg scope str).bus = s.bus ∧
    (track s cond p code arg scope str).saf = s.saf ∧ (track s cond p code arg scope str).exe = s.exe ∧
    (track s cond p code arg scope str).host = s.host ∧ (track s cond p code arg scope str).cl = s.cl ∧
    (track s cond p code arg scope str).can = s.can ∧ (track s cond p code arg scope str).cnt = s.cnt ∧
    (track s cond p code arg scope str).pwr = s.pwr ∧ (track s cond p code arg scope str).uptimeMs = s.uptimeMs ∧
    (track s cond p code arg scope str).actor = s.actor ∧ (track s cond p code arg scope str).freeCtr = s.freeCtr ∧
    (track s cond p code arg scope str).busErr = s.busErr ∧ (track s cond p code arg scope str).readVal = s.readVal := by unfold track; split <;> simp

/-! ## Registers -/

@[simp] theorem rd_wr_same (s : Dev) (a : Nat) (v : U32) : rd (wr s a v) a = v := Tbl.get_set_same _ _ _ _

theorem rd_wr_ne (s : Dev) {a b : Nat} (v : U32) (h : b ≠ a) : rd (wr s a v) b = rd s b := Tbl.get_set_ne _ _ _ _ h

/-- A register read depends on the register table only. -/
theorem rd_congr {s t : Dev} (h : s.regs = t.regs) (a : Nat) : rd s a = rd t a := by unfold rd; rw [h]

theorem rd_wr (s : Dev) (a b : Nat) (v : U32) : rd (wr s a v) b = if b = a then v else rd s b := by
  split
  · rename_i h; subst h; exact rd_wr_same s b v
  · rename_i h; exact rd_wr_ne s v h

/-! ## A command on the whole state -/

@[simp] theorem apply_toDev (s : State) (f : Dev → Dev) : (s.apply f).toDev = f s.toDev := rfl
@[simp] theorem apply_pins (s : State) (f : Dev → Dev) : (s.apply f).pins = pinsOf (f s.toDev) := rfl
@[simp] theorem apply_pending (s : State) (f : Dev → Dev) : (s.apply f).pending = s.pending := rfl
@[simp] theorem live_pending (s : State) (f : Dev → Dev) : (s.live f).pending = s.pending := rfl
@[simp] theorem live_pins (s : State) (f : Dev → Dev) : (s.live f).pins = pinsOf (s.live f).toDev := rfl
theorem live_awake (s : State) (f : Dev → Dev) (h : asleep s.toDev = false) : (s.live f).toDev = f s.toDev := by
  simp [State.live, h]
theorem live_asleep (s : State) (f : Dev → Dev) (h : asleep s.toDev = true) : (s.live f).toDev = s.toDev := by
  simp [State.live, h]

/-! ## Folds of state changes -/

/-- What every turn of a fold keeps, the fold keeps. -/
theorem forL_keeps {α : Type} (P : Dev → Prop) (f : Dev → α → Dev) (h : ∀ s x, P s → P (f s x)) (l : List α) (s : Dev)
    (hs : P s) : P (forL s l f) := by
  unfold forL
  induction l generalizing s with
  | nil => exact hs
  | cons x l ih => exact ih (f s x) (h s x hs)

theorem forN_keeps (P : Dev → Prop) (f : Dev → Nat → Dev) (h : ∀ s x, P s → P (f s x)) (n : Nat) (s : Dev)
    (hs : P s) : P (forN s n f) := forL_keeps P f h (List.range n) s hs

/-- A field that no turn of a fold changes, the fold leaves. -/
theorem forL_field {α β : Type} (g : Dev → β) (f : Dev → α → Dev) (h : ∀ s x, g (f s x) = g s) (l : List α) (s : Dev) :
    g (forL s l f) = g s := forL_keeps (fun t => g t = g s) f (fun t x e => (h t x).trans e) l s rfl

theorem forN_field {β : Type} (g : Dev → β) (f : Dev → Nat → Dev) (h : ∀ s x, g (f s x) = g s) (n : Nat) (s : Dev) :
    g (forN s n f) = g s := forL_field g f h (List.range n) s

/-- The setters give back what they set. -/
@[simp] theorem getRing_setRing (s : Dev) (n : Nat) (x : Ring) : getRing (setRing s n x) n = x := Tbl.get_set_same _ _ _ _
@[simp] theorem getStr_setStr (s : Dev) (n : Nat) (x : Str) : getStr (setStr s n x) n = x := Tbl.get_set_same _ _ _ _
@[simp] theorem getCan_setCan (s : Dev) (n : Nat) (x : Can) : getCan (setCan s n x) n = x := Tbl.get_set_same _ _ _ _
@[simp] theorem getMem_setMem (s : Dev) (n : Nat) (x : Member) : getMem (setMem s n x) n = x := Tbl.get_set_same _ _ _ _

/-! ## Registers through updates that do not touch them -/

@[simp] theorem rd_post (s : Dev) (p code arg : Nat) (r : Nat) : rd (post s p code arg) r = rd s r := rd_congr (by simp) r
@[simp] theorem rd_raise (s : Dev) (p code arg scope : Nat) (r : Nat) : rd (raise s p code arg scope) r = rd s r := rd_congr (by simp) r
@[simp] theorem rd_note (s : Dev) (p code arg : Nat) (r : Nat) : rd (note s p code arg) r = rd s r := rd_congr (by simp) r
@[simp] theorem rd_clearCond (s : Dev) (p code scope str : Nat) (r : Nat) : rd (clearCond s p code scope str) r = rd s r := rd_congr (by simp) r
@[simp] theorem rd_track (s : Dev) (cond : Bool) (p code arg scope str : Nat) (r : Nat) : rd (track s cond p code arg scope str) r = rd s r := rd_congr (by simp) r
@[simp] theorem rd_emit (s : Dev) (p : Nat) (e : Effect) (r : Nat) : rd (emit s p e) r = rd s r := rd_congr (by simp) r
@[simp] theorem rd_setPair (s : Dev) (p : Nat) (v : Pair) (r : Nat) : rd (setPair s p v) r = rd s r := rd_congr (by simp) r
@[simp] theorem rd_setRing (s : Dev) (n : Nat) (x : Ring) (r : Nat) : rd (setRing s n x) r = rd s r := rd_congr (by simp) r
@[simp] theorem rd_setStr (s : Dev) (n : Nat) (x : Str) (r : Nat) : rd (setStr s n x) r = rd s r := rd_congr (by simp) r
@[simp] theorem rd_setCan (s : Dev) (n : Nat) (x : Can) (r : Nat) : rd (setCan s n x) r = rd s r := rd_congr (by simp) r
@[simp] theorem rd_stN (s : Dev) (a n v : Nat) (r : Nat) : rd (stN s a n v) r = rd s r := rd_congr (by simp) r
@[simp] theorem rd_stBytes (s : Dev) (a : Nat) (l : List U8) (r : Nat) : rd (stBytes s a l) r = rd s r := rd_congr (by simp) r
@[simp] theorem rd_clearMem (s : Dev) (a n : Nat) (r : Nat) : rd (clearMem s a n) r = rd s r := rd_congr (by simp) r
@[simp] theorem rd_modeChange (s : Dev) (p mode value which : Nat) (r : Nat) : rd (modeChange s p mode value which) r = rd s r := rd_congr (by simp) r
@[simp] theorem rd_busError (s : Dev) (r : Nat) : rd (busError s) r = rd s r := rd_congr (by simp) r
@[simp] theorem rd_unforce (s : Dev) (code scope : Nat) (r : Nat) : rd (unforce s code scope) r = rd s r := rd_congr (by simp) r

/-! ## Completion -/

theorem completes_live {c : Instr} {s : State} {f : Dev → Dev} {P : Dev → Prop} (he : exec c s = .next (s.live f))
    (ha : asleep s.toDev = false) (h : P (f s.toDev)) : Completes c s P :=
  ⟨s.live f, he, rfl, rfl, by rw [live_awake s f ha]; exact h⟩

theorem completes_apply {c : Instr} {s : State} {f : Dev → Dev} {P : Dev → Prop} (he : exec c s = .next (s.apply f))
    (h : P (f s.toDev)) : Completes c s P := ⟨s.apply f, he, rfl, rfl, h⟩

end Sys2Proof.Machine
end

