-- ==== Sys2Proof/Laws/Bits.lean ====
section
/-!
SUPPORT. Sys2Proof/Laws/Bits.lean: reading a bit field of a word after writing one, and the same through a register.
-/
namespace Sys2Proof.Machine

theorem putFld_lt (w : U32) (lo len v : Nat) (h : lo + len ≤ 32) :
    w.toNat % 2 ^ lo + v % 2 ^ len * 2 ^ lo + w.toNat / 2 ^ (lo + len) * 2 ^ (lo + len) < 2 ^ 32 := by
  have hw : w.toNat < 2 ^ 32 := w.isLt
  have h1 : w.toNat % 2 ^ lo < 2 ^ lo := Nat.mod_lt _ (Nat.two_pow_pos _)
  have h2 : v % 2 ^ len < 2 ^ len := Nat.mod_lt _ (Nat.two_pow_pos _)
  have h3 : v % 2 ^ len * 2 ^ lo + 2 ^ lo ≤ 2 ^ (lo + len) := by
    rw [Nat.pow_add, Nat.mul_comm (2 ^ lo)]
    calc v % 2 ^ len * 2 ^ lo + 2 ^ lo = (v % 2 ^ len + 1) * 2 ^ lo := by rw [Nat.add_mul, Nat.one_mul]
      _ ≤ 2 ^ len * 2 ^ lo := Nat.mul_le_mul_right _ h2
  have h4 : w.toNat / 2 ^ (lo + len) < 2 ^ (32 - (lo + len)) := by
    rw [Nat.div_lt_iff_lt_mul (Nat.two_pow_pos _), ← Nat.pow_add, Nat.sub_add_cancel h]; exact hw
  have h5 : w.toNat / 2 ^ (lo + len) * 2 ^ (lo + len) + 2 ^ (lo + len) ≤ 2 ^ 32 := by
    calc w.toNat / 2 ^ (lo + len) * 2 ^ (lo + len) + 2 ^ (lo + len)
        = (w.toNat / 2 ^ (lo + len) + 1) * 2 ^ (lo + len) := by rw [Nat.add_mul, Nat.one_mul]
      _ ≤ 2 ^ (32 - (lo + len)) * 2 ^ (lo + len) := Nat.mul_le_mul_right _ h4
      _ = 2 ^ 32 := by rw [← Nat.pow_add, Nat.sub_add_cancel h]
  omega

theorem putFld_testBit (w : U32) (lo len v i : Nat) (h : lo + len ≤ 32) :
    (putFld w lo len v).toNat.testBit i =
      if i < lo then w.toNat.testBit i else if i < lo + len then v.testBit (i - lo) else w.toNat.testBit i := by
  have hN := putFld_lt w lo len v h
  have e : (putFld w lo len v).toNat =
      2 ^ lo * (2 ^ len * (w.toNat / 2 ^ (lo + len)) + v % 2 ^ len) + w.toNat % 2 ^ lo := by
    unfold putFld
    rw [BitVec.toNat_ofNat, Nat.mod_eq_of_lt hN, Nat.mul_add, ← Nat.mul_assoc, ← Nat.pow_add,
      Nat.mul_comm (2 ^ lo) (v % 2 ^ len), Nat.mul_comm (2 ^ (lo + len))]
    omega
  rw [e, Nat.testBit_two_pow_mul_add _ (Nat.mod_lt _ (Nat.two_pow_pos _)),
    Nat.testBit_two_pow_mul_add _ (Nat.mod_lt _ (Nat.two_pow_pos _)), Nat.testBit_mod_two_pow, Nat.testBit_mod_two_pow,
    Nat.testBit_div_two_pow]
  by_cases h1 : i < lo
  · simp [h1]
  · by_cases h2 : i < lo + len
    · have : i - lo < len := by omega
      simp [h1, h2, this]
    · have h3 : ¬ i - lo < len := by omega
      simp [h1, h2, h3, show i - lo - len + (lo + len) = i by omega]

theorem fld_testBit (w : U32) (lo len j : Nat) : (fld w lo len).testBit j = (decide (j < len) && w.toNat.testBit (lo + j)) := by
  unfold fld
  rw [Nat.testBit_mod_two_pow, Nat.testBit_div_two_pow, Nat.add_comm]

/-- A field reads as written. -/
@[simp] theorem fld_putFld_same (w : U32) (lo len v : Nat) (h : lo + len ≤ 32) : fld (putFld w lo len v) lo len = v % 2 ^ len := by
  apply Nat.eq_of_testBit_eq
  intro j
  rw [fld_testBit, putFld_testBit w lo len v _ h, Nat.testBit_mod_two_pow]
  by_cases hj : j < len
  · simp [hj, show ¬ lo + j < lo by omega]
  · simp [hj]

/-- A field that does not meet the one written reads as before. -/
theorem fld_putFld_ne (w : U32) (lo len v l n : Nat) (h : lo + len ≤ 32) (d : l + n ≤ lo ∨ lo + len ≤ l) :
    fld (putFld w lo len v) l n = fld w l n := by
  apply Nat.eq_of_testBit_eq
  intro j
  rw [fld_testBit, fld_testBit, putFld_testBit w lo len v _ h]
  by_cases hj : j < n
  · rcases d with d | d
    · simp [hj, show l + j < lo by omega]
    · simp [hj, show ¬ l + j < lo by omega, show ¬ l + j < lo + len by omega]
  · simp [hj]

@[simp] theorem bitOf_putBit_same (w : U32) (i : Nat) (b : Bool) (h : i < 32) : bitOf (putBit w i b) i = b := by
  unfold bitOf putBit
  rw [fld_putFld_same w i 1 _ (by omega)]
  cases b <;> rfl

theorem bitOf_putBit_ne (w : U32) (i j : Nat) (b : Bool) (h : i < 32) (d : j ≠ i) : bitOf (putBit w i b) j = bitOf w j := by
  unfold bitOf putBit
  rw [fld_putFld_ne w i 1 _ j 1 (by omega) (by omega)]

@[simp] theorem rdB_wrB_same (s : Dev) (a i : Nat) (b : Bool) (h : i < 32) : rdB (wrB s a i b) a i = b := by
  simp [rdB, wrB, h]

theorem rdB_wrB_bit (s : Dev) (a i j : Nat) (b : Bool) (h : i < 32) (d : j ≠ i) : rdB (wrB s a i b) a j = rdB s a j := by
  simp [rdB, wrB, bitOf_putBit_ne _ _ _ _ h d]

theorem rd_wrB_ne (s : Dev) (a c i : Nat) (b : Bool) (h : c ≠ a) : rd (wrB s a i b) c = rd s c := rd_wr_ne s _ h

theorem rd_wrF_ne (s : Dev) (a c lo len v : Nat) (h : c ≠ a) : rd (wrF s a lo len v) c = rd s c := rd_wr_ne s _ h

theorem rd_wrN_ne (s : Dev) (a c v : Nat) (h : c ≠ a) : rd (wrN s a v) c = rd s c := rd_wr_ne s _ h

@[simp] theorem rdF_wrF_same (s : Dev) (a lo len v : Nat) (h : lo + len ≤ 32) : rdF (wrF s a lo len v) a lo len = v % 2 ^ len := by
  simp [rdF, wrF, h]

theorem rdF_wrF_fld (s : Dev) (a lo len v l n : Nat) (h : lo + len ≤ 32) (d : l + n ≤ lo ∨ lo + len ≤ l) :
    rdF (wrF s a lo len v) a l n = rdF s a l n := by
  simp [rdF, wrF, fld_putFld_ne _ _ _ _ _ _ h d]

theorem rdF_wrB_fld (s : Dev) (a i : Nat) (b : Bool) (l n : Nat) (h : i < 32) (d : l + n ≤ i ∨ i + 1 ≤ l) :
    rdF (wrB s a i b) a l n = rdF s a l n := by
  simp [rdF, wrB, putBit, fld_putFld_ne _ _ _ _ _ _ (show i + 1 ≤ 32 by omega) d]

theorem rdB_wrF_bit (s : Dev) (a lo len v j : Nat) (h : lo + len ≤ 32) (d : j + 1 ≤ lo ∨ lo + len ≤ j) :
    rdB (wrF s a lo len v) a j = rdB s a j := by
  simp [rdB, wrF, bitOf, fld_putFld_ne _ _ _ _ _ _ h d]

/-! ## The register table itself, for goals in which the device stands as a record -/

theorem get_regs_wr (s : Dev) (a c : Nat) (v : U32) (h : c ≠ a) :
    Tbl.get (regReset c) (wr s a v).regs c = Tbl.get (regReset c) s.regs c := rd_wr_ne s v h

theorem get_regs_wrN (s : Dev) (a c v : Nat) (h : c ≠ a) :
    Tbl.get (regReset c) (wrN s a v).regs c = Tbl.get (regReset c) s.regs c := rd_wr_ne s _ h

theorem get_regs_wrB (s : Dev) (a c i : Nat) (b : Bool) (h : c ≠ a) :
    Tbl.get (regReset c) (wrB s a i b).regs c = Tbl.get (regReset c) s.regs c := rd_wr_ne s _ h

theorem get_regs_wrF (s : Dev) (a c lo len v : Nat) (h : c ≠ a) :
    Tbl.get (regReset c) (wrF s a lo len v).regs c = Tbl.get (regReset c) s.regs c := rd_wr_ne s _ h

@[simp] theorem get_regs_wr_same (s : Dev) (a : Nat) (v : U32) : Tbl.get (regReset a) (wr s a v).regs a = v := rd_wr_same s a v

end Sys2Proof.Machine
end

