-- ==== Sys2Proof/Laws/Canon.lean ====
section
/-!
SUPPORT. Sys2Proof/Laws/Canon.lean: the canonical form of the register table, of memory and of the host window: what keeps it.
-/
namespace Sys2Proof.Machine

theorem Regs.wfFrom_mono (t : Tbl U32) {lo lo' : Nat} (h : lo' ≤ lo) (w : Regs.wfFrom lo t = true) : Regs.wfFrom lo' t = true := by
  cases t with
  | nil => rfl
  | cons p t =>
    simp only [Regs.wfFrom, Bool.and_eq_true, decide_eq_true_eq] at w ⊢
    exact ⟨⟨by omega, w.1.2⟩, w.2⟩

theorem Regs.wfFrom_filter (f : Nat × U32 → Bool) (t : Tbl U32) (lo : Nat) (w : Regs.wfFrom lo t = true) :
    Regs.wfFrom lo (t.filter f) = true := by
  induction t generalizing lo with
  | nil => rfl
  | cons p t ih =>
    simp only [Regs.wfFrom, Bool.and_eq_true, decide_eq_true_eq] at w
    have := ih (p.1 + 1) w.2
    rw [List.filter_cons]
    split
    · simp only [Regs.wfFrom, Bool.and_eq_true, decide_eq_true_eq]; exact ⟨w.1, this⟩
    · exact Regs.wfFrom_mono _ (by omega) this

theorem Regs.wfFrom_insert (t : Tbl U32) (k lo : Nat) (v : U32) (hv : v ≠ regReset k) (hk : lo ≤ k) (h : ∀ p ∈ t, p.1 ≠ k)
    (w : Regs.wfFrom lo t = true) : Regs.wfFrom lo (Tbl.insert k v t) = true := by
  induction t generalizing lo with
  | nil => simp [Tbl.insert, Regs.wfFrom, hk, hv]
  | cons p t ih =>
    simp only [Regs.wfFrom, Bool.and_eq_true, decide_eq_true_eq] at w
    have hp := h p (by simp)
    unfold Tbl.insert
    split
    · simp only [Regs.wfFrom, Bool.and_eq_true, decide_eq_true_eq]
      exact ⟨⟨hk, hv⟩, ⟨by omega, w.1.2⟩, w.2⟩
    · simp only [Regs.wfFrom, Bool.and_eq_true, decide_eq_true_eq]
      exact ⟨w.1, ih (p.1 + 1) (by omega) (fun q hq => h q (by simp [hq])) w.2⟩

theorem Regs.wf_set (t : Tbl U32) (k : Nat) (v : U32) (w : Regs.wfFrom 0 t = true) :
    Regs.wfFrom 0 (Tbl.set (regReset k) t k v) = true := by
  have e := Regs.wfFrom_filter (fun p => p.1 != k) t 0 w
  unfold Tbl.set
  split
  · exact e
  · rename_i h
    exact Regs.wfFrom_insert _ k 0 v h (by omega) (by intro p hp; simpa [Tbl.erase] using (List.mem_filter.mp hp).2) e

end Sys2Proof.Machine
end

