-- ==== Sys2Proof/Laws/Only.lean ====
section
/-!
SUPPORT. Sys2Proof/Laws/Only.lean: the laws of `Only`: how the parts that a sequence of updates changes add up.
-/
namespace Sys2Proof.Machine

theorem Only.refl (l : List Part) (s : Dev) : Only l s s := fun p _ => by
  cases p <;> first | rfl | exact fun h => h | exact fun _ _ h => h

theorem Only.trans {l : List Part} {s t u : Dev} (h : Only l s t) (k : Only l t u) : Only l s u := by
  intro p hp
  have a := h p hp
  have b := k p hp
  cases p <;> first | exact Eq.trans b a | exact fun c => b (a c) | exact fun x y c => b x y (a x y c)

theorem Only.mono {l m : List Part} {s t : Dev} (h : Only l s t) (c : covers m l = true) : Only m s t := by
  intro p hp
  refine h p (fun hl => hp ?_)
  have := List.all_eq_true.mp c p hl
  simpa using this

theorem Only.then {l m : List Part} {s t u : Dev} (k : Only l t u) (c : covers m l = true) (h : Only m s t) : Only m s u :=
  Only.trans h (k.mono c)

theorem Only.sub {l m n : List Part} (h : covers l m = true) (k : covers m n = true) : covers l n = true := by
  unfold covers at *
  simp only [List.all_eq_true, List.contains_iff_mem] at *
  exact fun p hp => h p (k p hp)

theorem Only.ite_else {l : List Part} {s t u : Dev} {c : Prop} [Decidable c] (h : Only l s t) (k : Only l t u) :
    Only l s (if c then u else t) := by
  split
  · exact h.trans k
  · exact h

theorem Only.ite_then {l : List Part} {s t u : Dev} {c : Prop} [Decidable c] (h : Only l s t) (k : Only l t u) :
    Only l s (if c then t else u) := by
  split
  · exact h
  · exact h.trans k

theorem Only.forL {α : Type} {l : List Part} {s t : Dev} {xs : List α} {f : Dev → α → Dev} (h : Only l s t)
    (k : ∀ u x, Only l u (f u x)) : Only l s (forL t xs f) := by
  unfold Machine.forL
  induction xs generalizing t with
  | nil => exact h
  | cons x xs ih => exact ih (h.trans (k t x))

theorem Only.foldl {α : Type} {l : List Part} {s t : Dev} {xs : List α} {f : Dev → α → Dev} (h : Only l s t)
    (k : ∀ u x, Only l u (f u x)) : Only l s (xs.foldl f t) := Only.forL h k

theorem Only.forN {l : List Part} {s t : Dev} {n : Nat} {f : Dev → Nat → Dev} (h : Only l s t)
    (k : ∀ u x, Only l u (f u x)) : Only l s (forN t n f) := Only.forL h k

theorem Only.upd_dev {l : List Part} {s t : Dev} {x0 : DevState} (c : covers l [.dev] = true) (h : Only l s t) :
    Only l s { t with dev := x0 } := by
  refine h.trans (fun p hp => ?_)
  cases p
  case dev => exact absurd (List.contains_iff_mem.mp (List.all_eq_true.mp c _ (by simp))) hp
  case posts => exact fun _ _ h => h
  case form => exact fun h => h
  all_goals rfl

theorem Only.upd_regs {l : List Part} {s t : Dev} {x0 : Tbl U32} (c : covers l [.regs] = true) (hr : Regs.wfFrom 0 t.regs = true → Regs.wfFrom 0 x0 = true) (h : Only l s t) :
    Only l s { t with regs := x0 } := by
  refine h.trans (fun p hp => ?_)
  cases p
  case regs => exact absurd (List.contains_iff_mem.mp (List.all_eq_true.mp c _ (by simp))) hp
  case posts => exact fun _ _ h => h
  case form => exact fun h => ⟨hr h.1, h.2⟩
  all_goals rfl

theorem Only.upd_mem {l : List Part} {s t : Dev} {x0 : List Host.Cell} (c : covers l [.mem] = true) (hm : Memory.wf t.mem → Memory.wf x0) (h : Only l s t) :
    Only l s { t with mem := x0 } := by
  refine h.trans (fun p hp => ?_)
  cases p
  case mem => exact absurd (List.contains_iff_mem.mp (List.all_eq_true.mp c _ (by simp))) hp
  case posts => exact fun _ _ h => h
  case form => exact fun h => ⟨h.1, hm h.2.1, h.2.2⟩
  all_goals rfl

theorem Only.upd_win {l : List Part} {s t : Dev} {x0 : List Host.Cell} (c : covers l [.win] = true) (hw : Memory.wf t.win → Memory.wf x0) (h : Only l s t) :
    Only l s { t with win := x0 } := by
  refine h.trans (fun p hp => ?_)
  cases p
  case win => exact absurd (List.contains_iff_mem.mp (List.all_eq_true.mp c _ (by simp))) hp
  case posts => exact fun _ _ h => h
  case form => exact fun h => ⟨h.1, h.2.1, hw h.2.2⟩
  all_goals rfl

theorem Only.upd_parCfg {l : List Part} {s t : Dev} {x0 : Tbl Nat} (c : covers l [.parCfg] = true) (h : Only l s t) :
    Only l s { t with parCfg := x0 } := by
  refine h.trans (fun p hp => ?_)
  cases p
  case parCfg => exact absurd (List.contains_iff_mem.mp (List.all_eq_true.mp c _ (by simp))) hp
  case posts => exact fun _ _ h => h
  case form => exact fun h => h
  all_goals rfl

theorem Only.upd_parNow {l : List Part} {s t : Dev} {x0 : Tbl Nat} (c : covers l [.parNow] = true) (h : Only l s t) :
    Only l s { t with parNow := x0 } := by
  refine h.trans (fun p hp => ?_)
  cases p
  case parNow => exact absurd (List.contains_iff_mem.mp (List.all_eq_true.mp c _ (by simp))) hp
  case posts => exact fun _ _ h => h
  case form => exact fun h => h
  all_goals rfl

theorem Only.upd_tb {l : List Part} {s t : Dev} {x0 : Timebase} (c : covers l [.tb] = true) (h : Only l s t) :
    Only l s { t with tb := x0 } := by
  refine h.trans (fun p hp => ?_)
  cases p
  case tb => exact absurd (List.contains_iff_mem.mp (List.all_eq_true.mp c _ (by simp))) hp
  case posts => exact fun _ _ h => h
  case form => exact fun h => h
  all_goals rfl

theorem Only.upd_piste {l : List Part} {s t : Dev} {x0 : Piste} (c : covers l [.piste] = true) (h : Only l s t) :
    Only l s { t with piste := x0 } := by
  refine h.trans (fun p hp => ?_)
  cases p
  case piste => exact absurd (List.contains_iff_mem.mp (List.all_eq_true.mp c _ (by simp))) hp
  case posts => exact fun _ _ h => h
  case form => exact fun h => h
  all_goals rfl

theorem Only.upd_rings {l : List Part} {s t : Dev} {x0 : Tbl Ring} (c : covers l [.rings] = true) (h : Only l s t) :
    Only l s { t with rings := x0 } := by
  refine h.trans (fun p hp => ?_)
  cases p
  case rings => exact absurd (List.contains_iff_mem.mp (List.all_eq_true.mp c _ (by simp))) hp
  case posts => exact fun _ _ h => h
  case form => exact fun h => h
  all_goals rfl

theorem Only.upd_acq {l : List Part} {s t : Dev} {x0 : Acq} (c : covers l [.acq] = true) (h : Only l s t) :
    Only l s { t with acq := x0 } := by
  refine h.trans (fun p hp => ?_)
  cases p
  case acq => exact absurd (List.contains_iff_mem.mp (List.all_eq_true.mp c _ (by simp))) hp
  case posts => exact fun _ _ h => h
  case form => exact fun h => h
  all_goals rfl

theorem Only.upd_est {l : List Part} {s t : Dev} {x0 : Est} (c : covers l [.est] = true) (h : Only l s t) :
    Only l s { t with est := x0 } := by
  refine h.trans (fun p hp => ?_)
  cases p
  case est => exact absurd (List.contains_iff_mem.mp (List.all_eq_true.mp c _ (by simp))) hp
  case posts => exact fun _ _ h => h
  case form => exact fun h => h
  all_goals rfl

theorem Only.upd_chg {l : List Part} {s t : Dev} {x0 : Tbl ChgStr} (c : covers l [.chg] = true) (h : Only l s t) :
    Only l s { t with chg := x0 } := by
  refine h.trans (fun p hp => ?_)
  cases p
  case chg => exact absurd (List.contains_iff_mem.mp (List.all_eq_true.mp c _ (by simp))) hp
  case posts => exact fun _ _ h => h
  case form => exact fun h => h
  all_goals rfl

theorem Only.upd_lim {l : List Part} {s t : Dev} {x0 : Lim} (c : covers l [.lim] = true) (h : Only l s t) :
    Only l s { t with lim := x0 } := by
  refine h.trans (fun p hp => ?_)
  cases p
  case lim => exact absurd (List.contains_iff_mem.mp (List.all_eq_true.mp c _ (by simp))) hp
  case posts => exact fun _ _ h => h
  case form => exact fun h => h
  all_goals rfl

theorem Only.upd_thm {l : List Part} {s t : Dev} {x0 : Thm} (c : covers l [.thm] = true) (h : Only l s t) :
    Only l s { t with thm := x0 } := by
  refine h.trans (fun p hp => ?_)
  cases p
  case thm => exact absurd (List.contains_iff_mem.mp (List.all_eq_true.mp c _ (by simp))) hp
  case posts => exact fun _ _ h => h
  case form => exact fun h => h
  all_goals rfl

theorem Only.upd_strs {l : List Part} {s t : Dev} {x0 : Tbl Str} (c : covers l [.strs] = true) (h : Only l s t) :
    Only l s { t with strs := x0 } := by
  refine h.trans (fun p hp => ?_)
  cases p
  case strs => exact absurd (List.contains_iff_mem.mp (List.all_eq_true.mp c _ (by simp))) hp
  case posts => exact fun _ _ h => h
  case form => exact fun h => h
  all_goals rfl

theorem Only.upd_bus {l : List Part} {s t : Dev} {x0 : Tbl BusC} (c : covers l [.bus] = true) (h : Only l s t) :
    Only l s { t with bus := x0 } := by
  refine h.trans (fun p hp => ?_)
  cases p
  case bus => exact absurd (List.contains_iff_mem.mp (List.all_eq_true.mp c _ (by simp))) hp
  case posts => exact fun _ _ h => h
  case form => exact fun h => h
  all_goals rfl

theorem Only.upd_saf {l : List Part} {s t : Dev} {x0 : Saf} (c : covers l [.saf] = true) (h : Only l s t) :
    Only l s { t with saf := x0 } := by
  refine h.trans (fun p hp => ?_)
  cases p
  case saf => exact absurd (List.contains_iff_mem.mp (List.all_eq_true.mp c _ (by simp))) hp
  case posts => exact fun _ _ h => h
  case form => exact fun h => h
  all_goals rfl

theorem Only.upd_exe {l : List Part} {s t : Dev} {x0 : Exe} (c : covers l [.exe] = true) (h : Only l s t) :
    Only l s { t with exe := x0 } := by
  refine h.trans (fun p hp => ?_)
  cases p
  case exe => exact absurd (List.contains_iff_mem.mp (List.all_eq_true.mp c _ (by simp))) hp
  case posts => exact fun _ _ h => h
  case form => exact fun h => h
  all_goals rfl

theorem Only.upd_host {l : List Part} {s t : Dev} {x0 : HostT} (c : covers l [.host] = true) (h : Only l s t) :
    Only l s { t with host := x0 } := by
  refine h.trans (fun p hp => ?_)
  cases p
  case host => exact absurd (List.contains_iff_mem.mp (List.all_eq_true.mp c _ (by simp))) hp
  case posts => exact fun _ _ h => h
  case form => exact fun h => h
  all_goals rfl

theorem Only.upd_cl {l : List Part} {s t : Dev} {x0 : Cl} (c : covers l [.cl] = true) (h : Only l s t) :
    Only l s { t with cl := x0 } := by
  refine h.trans (fun p hp => ?_)
  cases p
  case cl => exact absurd (List.contains_iff_mem.mp (List.all_eq_true.mp c _ (by simp))) hp
  case posts => exact fun _ _ h => h
  case form => exact fun h => h
  all_goals rfl

theorem Only.upd_can {l : List Part} {s t : Dev} {x0 : Tbl Can} (c : covers l [.can] = true) (h : Only l s t) :
    Only l s { t with can := x0 } := by
  refine h.trans (fun p hp => ?_)
  cases p
  case can => exact absurd (List.contains_iff_mem.mp (List.all_eq_true.mp c _ (by simp))) hp
  case posts => exact fun _ _ h => h
  case form => exact fun h => h
  all_goals rfl

theorem Only.upd_cnt {l : List Part} {s t : Dev} {x0 : Cnt} (c : covers l [.cnt] = true) (h : Only l s t) :
    Only l s { t with cnt := x0 } := by
  refine h.trans (fun p hp => ?_)
  cases p
  case cnt => exact absurd (List.contains_iff_mem.mp (List.all_eq_true.mp c _ (by simp))) hp
  case posts => exact fun _ _ h => h
  case form => exact fun h => h
  all_goals rfl

theorem Only.upd_log {l : List Part} {s t : Dev} {x0 : Log} (c : covers l [.log] = true) (hl : Part.posts ∈ l ∨ ∀ p r, r ∈ Tbl.get [] t.log.posts p → r ∈ Tbl.get [] x0.posts p) (h : Only l s t) :
    Only l s { t with log := x0 } := by
  refine h.trans (fun p hp => ?_)
  cases p
  case log => exact absurd (List.contains_iff_mem.mp (List.all_eq_true.mp c _ (by simp))) hp
  case posts => exact hl.elim (fun h => absurd h hp) (fun h => h)
  case form => exact fun h => h
  all_goals rfl

theorem Only.upd_pwr {l : List Part} {s t : Dev} {x0 : Pwr} (c : covers l [.pwr] = true) (h : Only l s t) :
    Only l s { t with pwr := x0 } := by
  refine h.trans (fun p hp => ?_)
  cases p
  case pwr => exact absurd (List.contains_iff_mem.mp (List.all_eq_true.mp c _ (by simp))) hp
  case posts => exact fun _ _ h => h
  case form => exact fun h => h
  all_goals rfl

theorem Only.upd_inForce {l : List Part} {s t : Dev} {x0 : List InForce} (c : covers l [.inForce] = true) (h : Only l s t) :
    Only l s { t with inForce := x0 } := by
  refine h.trans (fun p hp => ?_)
  cases p
  case inForce => exact absurd (List.contains_iff_mem.mp (List.all_eq_true.mp c _ (by simp))) hp
  case posts => exact fun _ _ h => h
  case form => exact fun h => h
  all_goals rfl

theorem Only.upd_uptimeMs {l : List Part} {s t : Dev} {x0 : Nat} (c : covers l [.uptimeMs] = true) (h : Only l s t) :
    Only l s { t with uptimeMs := x0 } := by
  refine h.trans (fun p hp => ?_)
  cases p
  case uptimeMs => exact absurd (List.contains_iff_mem.mp (List.all_eq_true.mp c _ (by simp))) hp
  case posts => exact fun _ _ h => h
  case form => exact fun h => h
  all_goals rfl

theorem Only.upd_actor {l : List Part} {s t : Dev} {x0 : Nat} (c : covers l [.actor] = true) (h : Only l s t) :
    Only l s { t with actor := x0 } := by
  refine h.trans (fun p hp => ?_)
  cases p
  case actor => exact absurd (List.contains_iff_mem.mp (List.all_eq_true.mp c _ (by simp))) hp
  case posts => exact fun _ _ h => h
  case form => exact fun h => h
  all_goals rfl

theorem Only.upd_freeCtr {l : List Part} {s t : Dev} {x0 : Nat} (c : covers l [.freeCtr] = true) (h : Only l s t) :
    Only l s { t with freeCtr := x0 } := by
  refine h.trans (fun p hp => ?_)
  cases p
  case freeCtr => exact absurd (List.contains_iff_mem.mp (List.all_eq_true.mp c _ (by simp))) hp
  case posts => exact fun _ _ h => h
  case form => exact fun h => h
  all_goals rfl

theorem Only.upd_busErr {l : List Part} {s t : Dev} {x0 : Bool} (c : covers l [.busErr] = true) (h : Only l s t) :
    Only l s { t with busErr := x0 } := by
  refine h.trans (fun p hp => ?_)
  cases p
  case busErr => exact absurd (List.contains_iff_mem.mp (List.all_eq_true.mp c _ (by simp))) hp
  case posts => exact fun _ _ h => h
  case form => exact fun h => h
  all_goals rfl

theorem Only.upd_readVal {l : List Part} {s t : Dev} {x0 : U32} (c : covers l [.readVal] = true) (h : Only l s t) :
    Only l s { t with readVal := x0 } := by
  refine h.trans (fun p hp => ?_)
  cases p
  case readVal => exact absurd (List.contains_iff_mem.mp (List.all_eq_true.mp c _ (by simp))) hp
  case posts => exact fun _ _ h => h
  case form => exact fun h => h
  all_goals rfl

theorem Only.upd_acq_inForce {l : List Part} {s t : Dev} {x0 : Acq} {x1 : List InForce} (c : covers l [.acq, .inForce] = true) (h : Only l s t) :
    Only l s { t with acq := x0, inForce := x1 } := by
  refine h.trans (fun p hp => ?_)
  cases p
  case acq => exact absurd (List.contains_iff_mem.mp (List.all_eq_true.mp c _ (by simp))) hp
  case inForce => exact absurd (List.contains_iff_mem.mp (List.all_eq_true.mp c _ (by simp))) hp
  case posts => exact fun _ _ h => h
  case form => exact fun h => h
  all_goals rfl

theorem Only.upd_cl_pwr_inForce {l : List Part} {s t : Dev} {x0 : Cl} {x1 : Pwr} {x2 : List InForce} (c : covers l [.cl, .pwr, .inForce] = true) (h : Only l s t) :
    Only l s { t with cl := x0, pwr := x1, inForce := x2 } := by
  refine h.trans (fun p hp => ?_)
  cases p
  case cl => exact absurd (List.contains_iff_mem.mp (List.all_eq_true.mp c _ (by simp))) hp
  case pwr => exact absurd (List.contains_iff_mem.mp (List.all_eq_true.mp c _ (by simp))) hp
  case inForce => exact absurd (List.contains_iff_mem.mp (List.all_eq_true.mp c _ (by simp))) hp
  case posts => exact fun _ _ h => h
  case form => exact fun h => h
  all_goals rfl

theorem Only.upd_cnt_freeCtr {l : List Part} {s t : Dev} {x0 : Cnt} {x1 : Nat} (c : covers l [.cnt, .freeCtr] = true) (h : Only l s t) :
    Only l s { t with cnt := x0, freeCtr := x1 } := by
  refine h.trans (fun p hp => ?_)
  cases p
  case cnt => exact absurd (List.contains_iff_mem.mp (List.all_eq_true.mp c _ (by simp))) hp
  case freeCtr => exact absurd (List.contains_iff_mem.mp (List.all_eq_true.mp c _ (by simp))) hp
  case posts => exact fun _ _ h => h
  case form => exact fun h => h
  all_goals rfl

theorem Only.upd_cnt_readVal {l : List Part} {s t : Dev} {x0 : Cnt} {x1 : U32} (c : covers l [.cnt, .readVal] = true) (h : Only l s t) :
    Only l s { t with cnt := x0, readVal := x1 } := by
  refine h.trans (fun p hp => ?_)
  cases p
  case cnt => exact absurd (List.contains_iff_mem.mp (List.all_eq_true.mp c _ (by simp))) hp
  case readVal => exact absurd (List.contains_iff_mem.mp (List.all_eq_true.mp c _ (by simp))) hp
  case posts => exact fun _ _ h => h
  case form => exact fun h => h
  all_goals rfl

theorem Only.upd_dev_pwr {l : List Part} {s t : Dev} {x0 : DevState} {x1 : Pwr} (c : covers l [.dev, .pwr] = true) (h : Only l s t) :
    Only l s { t with dev := x0, pwr := x1 } := by
  refine h.trans (fun p hp => ?_)
  cases p
  case dev => exact absurd (List.contains_iff_mem.mp (List.all_eq_true.mp c _ (by simp))) hp
  case pwr => exact absurd (List.contains_iff_mem.mp (List.all_eq_true.mp c _ (by simp))) hp
  case posts => exact fun _ _ h => h
  case form => exact fun h => h
  all_goals rfl

theorem Only.upd_est_exe {l : List Part} {s t : Dev} {x0 : Est} {x1 : Exe} (c : covers l [.est, .exe] = true) (h : Only l s t) :
    Only l s { t with est := x0, exe := x1 } := by
  refine h.trans (fun p hp => ?_)
  cases p
  case est => exact absurd (List.contains_iff_mem.mp (List.all_eq_true.mp c _ (by simp))) hp
  case exe => exact absurd (List.contains_iff_mem.mp (List.all_eq_true.mp c _ (by simp))) hp
  case posts => exact fun _ _ h => h
  case form => exact fun h => h
  all_goals rfl

theorem Only.upd_est_pwr {l : List Part} {s t : Dev} {x0 : Est} {x1 : Pwr} (c : covers l [.est, .pwr] = true) (h : Only l s t) :
    Only l s { t with est := x0, pwr := x1 } := by
  refine h.trans (fun p hp => ?_)
  cases p
  case est => exact absurd (List.contains_iff_mem.mp (List.all_eq_true.mp c _ (by simp))) hp
  case pwr => exact absurd (List.contains_iff_mem.mp (List.all_eq_true.mp c _ (by simp))) hp
  case posts => exact fun _ _ h => h
  case form => exact fun h => h
  all_goals rfl

theorem Only.upd_exe_pwr {l : List Part} {s t : Dev} {x0 : Exe} {x1 : Pwr} (c : covers l [.exe, .pwr] = true) (h : Only l s t) :
    Only l s { t with exe := x0, pwr := x1 } := by
  refine h.trans (fun p hp => ?_)
  cases p
  case exe => exact absurd (List.contains_iff_mem.mp (List.all_eq_true.mp c _ (by simp))) hp
  case pwr => exact absurd (List.contains_iff_mem.mp (List.all_eq_true.mp c _ (by simp))) hp
  case posts => exact fun _ _ h => h
  case form => exact fun h => h
  all_goals rfl

theorem Only.upd_freeCtr_readVal {l : List Part} {s t : Dev} {x0 : Nat} {x1 : U32} (c : covers l [.freeCtr, .readVal] = true) (h : Only l s t) :
    Only l s { t with freeCtr := x0, readVal := x1 } := by
  refine h.trans (fun p hp => ?_)
  cases p
  case freeCtr => exact absurd (List.contains_iff_mem.mp (List.all_eq_true.mp c _ (by simp))) hp
  case readVal => exact absurd (List.contains_iff_mem.mp (List.all_eq_true.mp c _ (by simp))) hp
  case posts => exact fun _ _ h => h
  case form => exact fun h => h
  all_goals rfl

theorem Only.upd_host_cl {l : List Part} {s t : Dev} {x0 : HostT} {x1 : Cl} (c : covers l [.host, .cl] = true) (h : Only l s t) :
    Only l s { t with host := x0, cl := x1 } := by
  refine h.trans (fun p hp => ?_)
  cases p
  case host => exact absurd (List.contains_iff_mem.mp (List.all_eq_true.mp c _ (by simp))) hp
  case cl => exact absurd (List.contains_iff_mem.mp (List.all_eq_true.mp c _ (by simp))) hp
  case posts => exact fun _ _ h => h
  case form => exact fun h => h
  all_goals rfl

theorem Only.upd_host_pwr {l : List Part} {s t : Dev} {x0 : HostT} {x1 : Pwr} (c : covers l [.host, .pwr] = true) (h : Only l s t) :
    Only l s { t with host := x0, pwr := x1 } := by
  refine h.trans (fun p hp => ?_)
  cases p
  case host => exact absurd (List.contains_iff_mem.mp (List.all_eq_true.mp c _ (by simp))) hp
  case pwr => exact absurd (List.contains_iff_mem.mp (List.all_eq_true.mp c _ (by simp))) hp
  case posts => exact fun _ _ h => h
  case form => exact fun h => h
  all_goals rfl

theorem Only.upd_lim_pwr {l : List Part} {s t : Dev} {x0 : Lim} {x1 : Pwr} (c : covers l [.lim, .pwr] = true) (h : Only l s t) :
    Only l s { t with lim := x0, pwr := x1 } := by
  refine h.trans (fun p hp => ?_)
  cases p
  case lim => exact absurd (List.contains_iff_mem.mp (List.all_eq_true.mp c _ (by simp))) hp
  case pwr => exact absurd (List.contains_iff_mem.mp (List.all_eq_true.mp c _ (by simp))) hp
  case posts => exact fun _ _ h => h
  case form => exact fun h => h
  all_goals rfl

theorem Only.upd_lim_saf {l : List Part} {s t : Dev} {x0 : Lim} {x1 : Saf} (c : covers l [.lim, .saf] = true) (h : Only l s t) :
    Only l s { t with lim := x0, saf := x1 } := by
  refine h.trans (fun p hp => ?_)
  cases p
  case lim => exact absurd (List.contains_iff_mem.mp (List.all_eq_true.mp c _ (by simp))) hp
  case saf => exact absurd (List.contains_iff_mem.mp (List.all_eq_true.mp c _ (by simp))) hp
  case posts => exact fun _ _ h => h
  case form => exact fun h => h
  all_goals rfl

theorem Only.upd_log_inForce {l : List Part} {s t : Dev} {x0 : Log} {x1 : List InForce} (c : covers l [.log, .inForce] = true) (hl : Part.posts ∈ l ∨ ∀ p r, r ∈ Tbl.get [] t.log.posts p → r ∈ Tbl.get [] x0.posts p) (h : Only l s t) :
    Only l s { t with log := x0, inForce := x1 } := by
  refine h.trans (fun p hp => ?_)
  cases p
  case log => exact absurd (List.contains_iff_mem.mp (List.all_eq_true.mp c _ (by simp))) hp
  case inForce => exact absurd (List.contains_iff_mem.mp (List.all_eq_true.mp c _ (by simp))) hp
  case posts => exact hl.elim (fun h => absurd h hp) (fun h => h)
  case form => exact fun h => h
  all_goals rfl

theorem Only.upd_mem_est_exe {l : List Part} {s t : Dev} {x0 : List Host.Cell} {x1 : Est} {x2 : Exe} (c : covers l [.mem, .est, .exe] = true) (hm : Memory.wf t.mem → Memory.wf x0) (h : Only l s t) :
    Only l s { t with mem := x0, est := x1, exe := x2 } := by
  refine h.trans (fun p hp => ?_)
  cases p
  case mem => exact absurd (List.contains_iff_mem.mp (List.all_eq_true.mp c _ (by simp))) hp
  case est => exact absurd (List.contains_iff_mem.mp (List.all_eq_true.mp c _ (by simp))) hp
  case exe => exact absurd (List.contains_iff_mem.mp (List.all_eq_true.mp c _ (by simp))) hp
  case posts => exact fun _ _ h => h
  case form => exact fun h => ⟨h.1, hm h.2.1, h.2.2⟩
  all_goals rfl

theorem Only.upd_mem_log {l : List Part} {s t : Dev} {x0 : List Host.Cell} {x1 : Log} (c : covers l [.mem, .log] = true) (hm : Memory.wf t.mem → Memory.wf x0) (hl : Part.posts ∈ l ∨ ∀ p r, r ∈ Tbl.get [] t.log.posts p → r ∈ Tbl.get [] x1.posts p) (h : Only l s t) :
    Only l s { t with mem := x0, log := x1 } := by
  refine h.trans (fun p hp => ?_)
  cases p
  case mem => exact absurd (List.contains_iff_mem.mp (List.all_eq_true.mp c _ (by simp))) hp
  case log => exact absurd (List.contains_iff_mem.mp (List.all_eq_true.mp c _ (by simp))) hp
  case posts => exact hl.elim (fun h => absurd h hp) (fun h => h)
  case form => exact fun h => ⟨h.1, hm h.2.1, h.2.2⟩
  all_goals rfl

theorem Only.upd_parCfg_parNow {l : List Part} {s t : Dev} {x0 : Tbl Nat} {x1 : Tbl Nat} (c : covers l [.parCfg, .parNow] = true) (h : Only l s t) :
    Only l s { t with parCfg := x0, parNow := x1 } := by
  refine h.trans (fun p hp => ?_)
  cases p
  case parCfg => exact absurd (List.contains_iff_mem.mp (List.all_eq_true.mp c _ (by simp))) hp
  case parNow => exact absurd (List.contains_iff_mem.mp (List.all_eq_true.mp c _ (by simp))) hp
  case posts => exact fun _ _ h => h
  case form => exact fun h => h
  all_goals rfl

theorem Only.upd_parCfg_parNow_host {l : List Part} {s t : Dev} {x0 : Tbl Nat} {x1 : Tbl Nat} {x2 : HostT} (c : covers l [.parCfg, .parNow, .host] = true) (h : Only l s t) :
    Only l s { t with parCfg := x0, parNow := x1, host := x2 } := by
  refine h.trans (fun p hp => ?_)
  cases p
  case parCfg => exact absurd (List.contains_iff_mem.mp (List.all_eq_true.mp c _ (by simp))) hp
  case parNow => exact absurd (List.contains_iff_mem.mp (List.all_eq_true.mp c _ (by simp))) hp
  case host => exact absurd (List.contains_iff_mem.mp (List.all_eq_true.mp c _ (by simp))) hp
  case posts => exact fun _ _ h => h
  case form => exact fun h => h
  all_goals rfl

theorem Only.upd_saf_inForce {l : List Part} {s t : Dev} {x0 : Saf} {x1 : List InForce} (c : covers l [.saf, .inForce] = true) (h : Only l s t) :
    Only l s { t with saf := x0, inForce := x1 } := by
  refine h.trans (fun p hp => ?_)
  cases p
  case saf => exact absurd (List.contains_iff_mem.mp (List.all_eq_true.mp c _ (by simp))) hp
  case inForce => exact absurd (List.contains_iff_mem.mp (List.all_eq_true.mp c _ (by simp))) hp
  case posts => exact fun _ _ h => h
  case form => exact fun h => h
  all_goals rfl

theorem Only.upd_tb_cl {l : List Part} {s t : Dev} {x0 : Timebase} {x1 : Cl} (c : covers l [.tb, .cl] = true) (h : Only l s t) :
    Only l s { t with tb := x0, cl := x1 } := by
  refine h.trans (fun p hp => ?_)
  cases p
  case tb => exact absurd (List.contains_iff_mem.mp (List.all_eq_true.mp c _ (by simp))) hp
  case cl => exact absurd (List.contains_iff_mem.mp (List.all_eq_true.mp c _ (by simp))) hp
  case posts => exact fun _ _ h => h
  case form => exact fun h => h
  all_goals rfl

theorem Only.upd_tb_host {l : List Part} {s t : Dev} {x0 : Timebase} {x1 : HostT} (c : covers l [.tb, .host] = true) (h : Only l s t) :
    Only l s { t with tb := x0, host := x1 } := by
  refine h.trans (fun p hp => ?_)
  cases p
  case tb => exact absurd (List.contains_iff_mem.mp (List.all_eq_true.mp c _ (by simp))) hp
  case host => exact absurd (List.contains_iff_mem.mp (List.all_eq_true.mp c _ (by simp))) hp
  case posts => exact fun _ _ h => h
  case form => exact fun h => h
  all_goals rfl

theorem Only.upd_thm_readVal {l : List Part} {s t : Dev} {x0 : Thm} {x1 : U32} (c : covers l [.thm, .readVal] = true) (h : Only l s t) :
    Only l s { t with thm := x0, readVal := x1 } := by
  refine h.trans (fun p hp => ?_)
  cases p
  case thm => exact absurd (List.contains_iff_mem.mp (List.all_eq_true.mp c _ (by simp))) hp
  case readVal => exact absurd (List.contains_iff_mem.mp (List.all_eq_true.mp c _ (by simp))) hp
  case posts => exact fun _ _ h => h
  case form => exact fun h => h
  all_goals rfl

theorem Only.ite {l : List Part} {s t u : Dev} {c : Prop} [Decidable c] (h : Only l s t) (k : Only l s u) :
    Only l s (if c then t else u) := by
  split
  · exact h
  · exact k

/-- The two branches continue from one state. -/
theorem Only.via {l : List Part} {s v t u : Dev} {c : Prop} [Decidable c] (h : Only l v t) (k : Only l v u) (g : Only l s v) :
    Only l s (if c then t else u) := g.trans (Only.ite h k)

/-- `Only` with the later device first: `split` then takes the outermost match of the later device. -/
def Later (l : List Part) (t s : Dev) : Prop := Only l s t

theorem Only.later {l : List Part} {s t : Dev} (h : Later l t s) : Only l s t := h

theorem Later.only {l : List Part} {s t : Dev} (h : Only l s t) : Later l t s := h

theorem Only.ite_snd {α : Type} {l : List Part} {s : Dev} {t u : α × Dev} {c : Prop} [Decidable c] (h : Only l s t.2) (k : Only l s u.2) :
    Only l s (if c then t else u).2 := by
  split
  · exact h
  · exact k

theorem Only.ite_snd2 {α β : Type} {l : List Part} {s : Dev} {t u : α × β × Dev} {c : Prop} [Decidable c] (h : Only l s t.2.2)
    (k : Only l s u.2.2) : Only l s (if c then t else u).2.2 := by
  split
  · exact h
  · exact k

theorem Only.ite_fst {α : Type} {l : List Part} {s : Dev} {t u : Dev × α} {c : Prop} [Decidable c] (h : Only l s t.1) (k : Only l s u.1) :
    Only l s (if c then t else u).1 := by
  split
  · exact h
  · exact k

theorem Only.foldl_snd {α β : Type} {l : List Part} {s : Dev} {p : β × Dev} {xs : List α} {f : β × Dev → α → β × Dev} (h : Only l s p.2)
    (k : ∀ q x, Only l q.2 (f q x).2) : Only l s (xs.foldl f p).2 := by
  induction xs generalizing p with
  | nil => exact h
  | cons x xs ih => exact ih (h.trans (k p x))

theorem Only.foldl_fst {α β : Type} {l : List Part} {s : Dev} {p : Dev × β} {xs : List α} {f : Dev × β → α → Dev × β} (h : Only l s p.1)
    (k : ∀ q x, Only l q.1 (f q x).1) : Only l s (xs.foldl f p).1 := by
  induction xs generalizing p with
  | nil => exact h
  | cons x xs ih => exact ih (h.trans (k p x))

theorem Only.of_snd {α : Type} {l : List Part} {s t : Dev} {a : α} {p : α × Dev} (h : p = (a, t)) (k : Only l s p.2) : Only l s t := by
  subst h; exact k

theorem Only.of_fst {α : Type} {l : List Part} {s t : Dev} {a : α} {p : Dev × α} (h : p = (t, a)) (k : Only l s p.1) : Only l s t := by
  subst h; exact k

theorem Only.of_snd2 {α β : Type} {l : List Part} {s t : Dev} {a : α} {b : β} {p : α × β × Dev} (h : p = (a, b, t)) (k : Only l s p.2.2) :
    Only l s t := by
  subst h; exact k

end Sys2Proof.Machine
end

