-- ==== Sys2Proof/Laws/Frames.lean ====
section
/-!
SUPPORT. Sys2Proof/Laws/Frames.lean: for each operation of the device, the parts it changes at most.
-/
namespace Sys2Proof.Machine

theorem post_only (s : Dev) (x1 x2 x3 : Nat) :
    Only [.log] s (post s x1 x2 x3) := Only.upd_log rfl (Or.inr fun q r h => by
    by_cases e : q = x1
    · subst e; rw [Tbl.get_set_same]; exact List.mem_append_left _ h
    · rw [Tbl.get_set_ne _ _ _ _ e]; exact h) (Only.refl _ _)

theorem abortTxn_only (s : Dev) (x1 x2 : Nat) :
    Only [.host, .log] s (abortTxn s x1 x2) := by
  unfold abortTxn
  try dsimp only
  split
  · exact Only.refl _ _
  · refine Only.then (post_only _ _ _ _) rfl ?_
    refine Only.upd_host rfl ?_
    exact Only.refl _ _

theorem setSess_only (s : Dev) (x1 : Nat) (x2 : Session) :
    Only [.host] s (setSess s x1 x2) := by
  unfold setSess
  try dsimp only
  refine Only.upd_host rfl ?_
  exact Only.refl _ _

theorem setPlaces_only (s : Dev) (x1 : Nat) (x2 : List Place) :
    Only [.host] s (setPlaces s x1 x2) := by
  unfold setPlaces
  try dsimp only
  refine Only.upd_host rfl ?_
  exact Only.refl _ _

theorem acceptCmd_only (s : Dev) (x1 : Nat) (x2 : HostCmd) (x3 : Option Nat) :
    Only [.host] s (acceptCmd s x1 x2 x3) := by
  unfold acceptCmd
  try dsimp only
  refine Only.ite_then ?_ ?_
  · refine Only.upd_host rfl ?_
    refine Only.ite_then ?_ ?_
    · exact Only.refl _ _
    · refine Only.upd_host rfl ?_
      refine Only.then (setSess_only _ _ _) rfl ?_
      exact Only.refl _ _
  · refine Only.then (setPlaces_only _ _ _) rfl ?_
    exact Only.refl _ _

theorem modeChange_only (s : Dev) (x1 x2 x3 x4 : Nat) :
    Only [.log] s (modeChange s x1 x2 x3 x4) := by
  unfold modeChange
  try dsimp only
  refine Only.then (post_only _ _ _ _) rfl ?_
  exact Only.refl _ _

theorem setPair_only (s : Dev) (x1 : Nat) (x2 : Pair) :
    Only [.exe] s (setPair s x1 x2) := by
  unfold setPair
  try dsimp only
  refine Only.ite ?_ ?_
  · refine Only.upd_exe rfl ?_
    exact Only.refl _ _
  · refine Only.ite ?_ ?_
    · refine Only.upd_exe rfl ?_
      exact Only.refl _ _
    · refine Only.ite ?_ ?_
      · refine Only.upd_exe rfl ?_
        exact Only.refl _ _
      · refine Only.upd_exe rfl ?_
        exact Only.refl _ _

theorem emit_only (s : Dev) (x1 : Nat) (x2 : Effect) :
    Only [.exe] s (emit s x1 x2) := by
  unfold emit
  try dsimp only
  refine Only.ite_else ?_ ?_
  · exact Only.refl _ _
  · refine Only.then (setPair_only _ _ _) rfl ?_
    exact Only.refl _ _

theorem balCancel_only (s : Dev) :
    Only [.acq, .exe] s (balCancel s) := by
  unfold balCancel
  try dsimp only
  refine Only.forL ?_ ?_
  · refine Only.upd_acq rfl ?_
    exact Only.refl _ _
  · intro u x
    try dsimp only
    refine Only.then (emit_only _ _ _) rfl ?_
    exact Only.refl _ _

theorem acqEnter_only (s : Dev) (x1 : Bool) :
    Only [.acq, .exe, .log] s (acqEnter s x1) := by
  unfold acqEnter
  try dsimp only
  refine Only.ite_else ?_ ?_
  · refine Only.then (modeChange_only _ _ _ _ _) rfl ?_
    refine Only.upd_acq rfl ?_
    exact Only.refl _ _
  · refine Only.then (balCancel_only _) rfl ?_
    exact Only.refl _ _

theorem wr_only (s : Dev) (x1 : Nat) (x2 : U32) :
    Only [.regs] s (wr s x1 x2) := fun p hp => (Only.upd_regs (l := [.regs]) rfl (Regs.wf_set _ _ _) (Only.refl _ _)) p hp

theorem wrN_only (s : Dev) (x1 x2 : Nat) :
    Only [.regs] s (wrN s x1 x2) := by
  unfold wrN
  try dsimp only
  refine Only.then (wr_only _ _ _) rfl ?_
  exact Only.refl _ _

theorem setCounter_only (s : Dev) (x1 x2 : Nat) :
    Only [.regs] s (setCounter s x1 x2) := by
  unfold setCounter
  try dsimp only
  refine Only.then (wrN_only _ _ _) rfl ?_
  refine Only.then (wrN_only _ _ _) rfl ?_
  exact Only.refl _ _

theorem wrB_only (s : Dev) (x1 x2 : Nat) (x3 : Bool) :
    Only [.regs] s (wrB s x1 x2 x3) := by
  unfold wrB
  try dsimp only
  refine Only.then (wr_only _ _ _) rfl ?_
  exact Only.refl _ _

theorem bumpCounter_only (s : Dev) (x1 x2 : Nat) :
    Only [.regs] s (bumpCounter s x1 x2) := by
  unfold bumpCounter
  try dsimp only
  refine Only.ite_then ?_ ?_
  · refine Only.then (setCounter_only _ _ _) rfl ?_
    exact Only.refl _ _
  · refine Only.then (wrB_only _ _ _ _) rfl ?_
    exact Only.refl _ _

theorem countEv_only (s : Dev) (x1 x2 x3 : Nat) :
    Only [.regs] s (countEv s x1 x2 x3) := by
  unfold countEv
  try dsimp only
  refine Only.foldl ?_ ?_
  · exact Only.refl _ _
  · intro u x
    try dsimp only
    refine Only.then (bumpCounter_only _ _ _) rfl ?_
    exact Only.refl _ _

theorem busError_only (s : Dev) :
    Only [.busErr] s (busError s) := by
  unfold busError
  try dsimp only
  refine Only.upd_busErr rfl ?_
  exact Only.refl _ _

theorem busErrorTo_only (s : Dev) (x1 : Nat) :
    Only [.regs, .busErr] s (busErrorTo s x1) := by
  unfold busErrorTo
  try dsimp only
  refine Only.then (countEv_only _ _ _ _) rfl ?_
  refine Only.then (busError_only _) rfl ?_
  exact Only.refl _ _

theorem note_only (s : Dev) (x1 x2 x3 : Nat) :
    Only [.log, .inForce] s (note s x1 x2 x3) := by
  unfold note
  try dsimp only
  refine Only.ite_then ?_ ?_
  · refine Only.then (post_only _ _ _ _) rfl ?_
    exact Only.refl _ _
  · refine Only.upd_inForce rfl ?_
    exact Only.refl _ _

theorem scrApply_only (s : Dev) (x1 : Nat) (x2 : Bool) :
    Only [.regs, .acq, .log, .inForce] s (scrApply s x1 x2) := by
  unfold scrApply
  try dsimp only
  refine Only.ite ?_ ?_
  · refine Only.then (wrB_only _ _ _ _) rfl ?_
    refine Only.upd_acq rfl ?_
    refine Only.then (wr_only _ _ _) rfl ?_
    exact Only.refl _ _
  · refine Only.then (note_only _ _ _ _) rfl ?_
    refine Only.then (wrB_only _ _ _ _) rfl ?_
    exact Only.refl _ _

theorem acqScrApply_only (x0 : Nat) (x1 : U32) (s : Dev) :
    Only [.regs, .acq, .log, .inForce, .busErr] s (acqScrApply x0 x1 s) := by
  unfold acqScrApply
  try dsimp only
  refine Only.ite ?_ ?_
  · refine Only.then (busErrorTo_only _ _) rfl ?_
    exact Only.refl _ _
  · refine Only.then (scrApply_only _ _ _) rfl ?_
    exact Only.refl _ _

theorem takeNat_only (s : Dev) (x1 : Nat) :
    Only [.freeCtr] s (takeNat s x1).2 := by
  unfold takeNat
  try dsimp only
  refine Only.upd_freeCtr rfl ?_
  exact Only.refl _ _

theorem logInput_only (s : Dev) (x1 x2 : Nat) (x3 : U32) :
    Only [.exe] s (logInput s x1 x2 x3) := by
  unfold logInput
  try dsimp only
  refine Only.then (setPair_only _ _ _) rfl ?_
  exact Only.refl _ _

theorem logFree_only (s : Dev) (x1 : Nat) (x2 : U32) :
    Only [.exe, .freeCtr] s (logFree s x1 x2) := by
  unfold logFree
  try dsimp only [takeBit, takeWord, takeNat]
  refine Only.ite_else ?_ ?_
  · exact Only.refl _ _
  · refine Only.then (logInput_only _ _ _ _) rfl ?_
    refine Only.upd_freeCtr rfl ?_
    exact Only.refl _ _

theorem backupAll_only (s : Dev) :
    Only [.saf] s (backupAll s) := by
  unfold backupAll
  try dsimp only
  refine Only.ite_else ?_ ?_
  · exact Only.refl _ _
  · refine Only.upd_saf rfl ?_
    exact Only.refl _ _

theorem setStr_only (s : Dev) (x1 : Nat) (x2 : Str) :
    Only [.strs] s (setStr s x1 x2) := by
  unfold setStr
  try dsimp only
  refine Only.upd_strs rfl ?_
  exact Only.refl _ _

theorem setReact_only (s : Dev) (x1 x2 x3 : Nat) (x4 : Bool) :
    Only [.strs] s (setReact s x1 x2 x3 x4) := by
  unfold setReact
  try dsimp only
  refine Only.ite_then ?_ ?_
  · exact Only.refl _ _
  · refine Only.ite_then ?_ ?_
    · exact Only.refl _ _
    · refine Only.then (setStr_only _ _ _) rfl ?_
      exact Only.refl _ _

theorem suExchange_only (s : Dev) (x1 x2 : Nat) (x3 : List Nat) :
    Only [.exe] s (suExchange s x1 x2 x3) := by
  unfold suExchange
  try dsimp only
  split
  · exact Only.refl _ _
  · refine Only.then (emit_only _ _ _) rfl ?_
    exact Only.refl _ _

theorem issueCoils_only (s : Dev) (x1 x2 : Nat) :
    Only [.strs, .exe] s (issueCoils s x1 x2) := by
  unfold issueCoils
  try dsimp only
  split
  · refine Only.then (setStr_only _ _ _) rfl ?_
    exact Only.refl _ _
  · refine Only.then (suExchange_only _ _ _ _) rfl ?_
    refine Only.then (setStr_only _ _ _) rfl ?_
    exact Only.refl _ _

theorem openSeq_only (s : Dev) (x1 : Nat) (x2 : Bool) :
    Only [.strs, .exe] s (openSeq s x1 x2) := by
  unfold openSeq
  try dsimp only
  refine Only.then (issueCoils_only _ _ _) rfl ?_
  refine Only.then (setStr_only _ _ _) rfl ?_
  exact Only.refl _ _

theorem saveSoon_only (s : Dev) :
    Only [.pwr] s (saveSoon s) := by
  unfold saveSoon
  try dsimp only
  refine Only.upd_pwr rfl ?_
  exact Only.refl _ _

theorem raise_only (s : Dev) (x1 x2 x3 x4 : Nat) :
    Only [.log, .inForce] s (raise s x1 x2 x3 x4) := by
  unfold raise
  try dsimp only
  refine Only.ite_then ?_ ?_
  · exact Only.refl _ _
  · refine Only.ite_then ?_ ?_
    · refine Only.then (post_only _ _ _ _) rfl ?_
      exact Only.refl _ _
    · refine Only.upd_inForce rfl ?_
      exact Only.refl _ _

theorem lockStr_only (s : Dev) (x1 x2 : Nat) :
    Only [.strs, .log, .pwr, .inForce] s (lockStr s x1 x2) := by
  unfold lockStr
  try dsimp only
  refine Only.then (saveSoon_only _) rfl ?_
  refine Only.then (raise_only _ _ _ _ _) rfl ?_
  refine Only.then (setStr_only _ _ _) rfl ?_
  exact Only.refl _ _

theorem setDev_only (s : Dev) (x1 : Nat) (x2 : DevState) (x3 : Nat) :
    Only [.dev, .log] s (setDev s x1 x2 x3) := by
  unfold setDev
  try dsimp only
  refine Only.ite_then ?_ ?_
  · exact Only.refl _ _
  · refine Only.then (post_only _ _ _ _) rfl ?_
    refine Only.upd_dev rfl ?_
    exact Only.refl _ _

theorem deriveState_only (s : Dev) (x1 : Nat) :
    Only [.dev, .saf, .log] s (deriveState s x1) := by
  unfold deriveState
  try dsimp only
  refine Only.ite_then ?_ ?_
  · exact Only.refl _ _
  · refine Only.then (setDev_only _ _ _ _) rfl ?_
    refine Only.ite_else ?_ ?_
    · exact Only.refl _ _
    · refine Only.upd_saf rfl ?_
      exact Only.refl _ _

theorem react4_only (s : Dev) (x1 : Nat) (x2 : List Nat) (x3 : Nat → Bool) (x4 : Bool) :
    Only [.dev, .strs, .saf, .exe, .log, .pwr, .inForce] s (react4 s x1 x2 x3 x4) := by
  unfold react4
  try dsimp only
  refine Only.ite_then ?_ ?_
  · exact Only.refl _ _
  · refine Only.then (deriveState_only _ _) rfl ?_
    refine Only.forL ?_ ?_
    · refine Only.forL ?_ ?_
      · refine Only.ite_else ?_ ?_
        · exact Only.refl _ _
        · refine Only.upd_saf rfl ?_
          exact Only.refl _ _
      · intro u x
        try dsimp only
        refine Only.ite_else ?_ ?_
        · refine Only.upd_saf rfl ?_
          refine Only.then (setReact_only _ _ _ _ _) rfl ?_
          exact Only.refl _ _
        · refine Only.then (openSeq_only _ _ _) rfl ?_
          exact Only.refl _ _
    · intro u x
      try dsimp only
      refine Only.then (lockStr_only _ _ _) rfl ?_
      exact Only.refl _ _

theorem noteAt_only (s : Dev) (x1 x2 x3 x4 : Nat) :
    Only [.log, .inForce] s (noteAt s x1 x2 x3 x4) := by
  unfold noteAt
  try dsimp only
  refine Only.upd_inForce rfl ?_
  refine Only.then (post_only _ _ _ _) rfl ?_
  exact Only.refl _ _

theorem fault4_only (s : Dev) (x1 x2 x3 x4 : Nat) (x5 : List Nat) (x6 : Nat → Bool) (x7 : Bool) :
    Only [.dev, .strs, .saf, .exe, .log, .pwr, .inForce] s (fault4 s x1 x2 x3 x4 x5 x6 x7) := by
  unfold fault4
  try dsimp only
  refine Only.ite_then ?_ ?_
  · exact Only.refl _ _
  · refine Only.then (react4_only _ _ _ _ _) rfl ?_
    refine Only.ite ?_ ?_
    · refine Only.then (raise_only _ _ _ _ _) rfl ?_
      exact Only.refl _ _
    · refine Only.then (noteAt_only _ _ _ _ _) rfl ?_
      exact Only.refl _ _

theorem scrOvf_only (s : Dev) :
    Only [.dev, .acq, .strs, .saf, .exe, .log, .pwr, .inForce] s (scrOvf s) := by
  unfold scrOvf
  try dsimp only
  refine Only.ite_else ?_ ?_
  · exact Only.refl _ _
  · refine Only.then (backupAll_only _) rfl ?_
    apply Only.via
    · apply Only.then (react4_only _ _ _ _ _) rfl
      apply Only.then (post_only _ _ _ _) rfl
      exact Only.refl _ _
    · refine Only.then (fault4_only _ _ _ _ _ _ _ _) rfl ?_
      exact Only.refl _ _
    · refine Only.upd_acq rfl ?_
      exact Only.refl _ _

theorem wrF_only (s : Dev) (x1 x2 x3 x4 : Nat) :
    Only [.regs] s (wrF s x1 x2 x3 x4) := by
  unfold wrF
  try dsimp only
  refine Only.then (wr_only _ _ _) rfl ?_
  exact Only.refl _ _

theorem fifoSync_only (s : Dev) :
    Only [.regs] s (fifoSync s) := by
  unfold fifoSync
  try dsimp only
  refine Only.then (wr_only _ _ _) rfl ?_
  refine Only.then (wr_only _ _ _) rfl ?_
  refine Only.then (wr_only _ _ _) rfl ?_
  refine Only.then (wr_only _ _ _) rfl ?_
  refine Only.then (wrF_only _ _ _ _ _) rfl ?_
  exact Only.refl _ _

theorem backupStr_only (s : Dev) (x1 : Nat) :
    Only [.saf] s (backupStr s x1) := by
  unfold backupStr
  try dsimp only
  refine Only.ite_else ?_ ?_
  · exact Only.refl _ _
  · refine Only.upd_saf rfl ?_
    exact Only.refl _ _

theorem tripStr_only (s : Dev) (x1 x2 x3 x4 : Nat) :
    Only [.dev, .strs, .saf, .exe, .log, .pwr, .inForce] s (tripStr s x1 x2 x3 x4) := by
  unfold tripStr
  try dsimp only
  refine Only.ite_then ?_ ?_
  · exact Only.refl _ _
  · refine Only.ite_else ?_ ?_
    · refine Only.then (fault4_only _ _ _ _ _ _ _ _) rfl ?_
      exact Only.refl _ _
    · refine Only.then (backupStr_only _ _) rfl ?_
      exact Only.refl _ _

theorem setCan_only (s : Dev) (x1 : Nat) (x2 : Can) :
    Only [.can] s (setCan s x1 x2) := by
  unfold setCan
  try dsimp only
  refine Only.upd_can rfl ?_
  exact Only.refl _ _

theorem canAsk_only (s : Dev) (x1 : Nat) (x2 : CanOp) :
    Only [.exe] s (canAsk s x1 x2) := by
  unfold canAsk
  try dsimp only
  split
  · refine Only.ite_else ?_ ?_
    · exact Only.refl _ _
    · refine Only.then (emit_only _ _ _) rfl ?_
      exact Only.refl _ _
  · refine Only.then (emit_only _ _ _) rfl ?_
    exact Only.refl _ _

theorem profileTo_only (s : Dev) (x1 x2 : Nat) (x3 : Bool) (x4 : List U32) :
    Only [.exe] s (profileTo s x1 x2 x3 x4) := by
  unfold profileTo
  try dsimp only
  refine Only.ite_then ?_ ?_
  · exact Only.refl _ _
  · refine Only.then (emit_only _ _ _) rfl ?_
    exact Only.refl _ _

theorem sendProfile_only (s : Dev) (x1 : Nat) (x2 : Bool) (x3 : List U32) :
    Only [.exe] s (sendProfile s x1 x2 x3) := by
  unfold sendProfile
  try dsimp only
  refine Only.ite_then ?_ ?_
  · exact Only.refl _ _
  · refine Only.forL ?_ ?_
    · exact Only.refl _ _
    · intro u x
      try dsimp only
      refine Only.then (profileTo_only _ _ _ _ _) rfl ?_
      exact Only.refl _ _

theorem flushProfile_only (s : Dev) :
    Only [.lim, .exe] s (flushProfile s) := by
  unfold flushProfile
  try dsimp only
  refine Only.ite_then ?_ ?_
  · exact Only.refl _ _
  · refine Only.forL ?_ ?_
    · refine Only.upd_lim rfl ?_
      exact Only.refl _ _
    · intro u x
      try dsimp only
      refine Only.then (sendProfile_only _ _ _ _) rfl ?_
      exact Only.refl _ _

theorem sendFrames_only (s : Dev) (x1 : Bool) (x2 : List (Nat × List U32)) :
    Only [.lim, .exe] s (sendFrames s x1 x2) := by
  unfold sendFrames
  try dsimp only
  refine Only.then (flushProfile_only _) rfl ?_
  refine Only.upd_lim rfl ?_
  exact Only.refl _ _

theorem urgentRamp_only (s : Dev) :
    Only [.lim, .exe, .can] s (urgentRamp s) := by
  unfold urgentRamp
  try dsimp only
  refine Only.ite_then ?_ ?_
  · exact Only.refl _ _
  · refine Only.ite_else ?_ ?_
    · refine Only.forL ?_ ?_
      · exact Only.refl _ _
      · intro u x
        try dsimp only
        refine Only.ite ?_ ?_
        · refine Only.ite_else ?_ ?_
          · refine Only.then (setCan_only _ _ _) rfl ?_
            exact Only.refl _ _
          · refine Only.then (canAsk_only _ _ _) rfl ?_
            exact Only.refl _ _
        · refine Only.forL ?_ ?_
          · exact Only.refl _ _
          · intro u x
            try dsimp only
            refine Only.then (canAsk_only _ _ _) rfl ?_
            exact Only.refl _ _
    · refine Only.then (sendFrames_only _ _ _) rfl ?_
      exact Only.refl _ _

theorem routeStart_only (s : Dev) :
    Only [.strs, .saf, .exe] s (routeStart s) := by
  unfold routeStart
  try dsimp only
  refine Only.forL ?_ ?_
  · refine Only.upd_saf rfl ?_
    exact Only.refl _ _
  · intro u x
    try dsimp only
    refine Only.ite_else ?_ ?_
    · exact Only.refl _ _
    · refine Only.then (openSeq_only _ _ _) rfl ?_
      exact Only.refl _ _

theorem routeCheck_only (s : Dev) :
    Only [.strs, .saf, .exe] s (routeCheck s) := by
  unfold routeCheck
  try dsimp only
  refine Only.ite_else ?_ ?_
  · exact Only.refl _ _
  · refine Only.then (routeStart_only _) rfl ?_
    exact Only.refl _ _

theorem routeBegin_only (s : Dev) (x1 : List Nat) (x2 x3 : Nat) :
    Only [.lim, .strs, .saf, .exe, .can] s (routeBegin s x1 x2 x3) := by
  unfold routeBegin
  try dsimp only
  refine Only.ite_then ?_ ?_
  · exact Only.refl _ _
  · refine Only.then (routeCheck_only _) rfl ?_
    refine Only.ite_then ?_ ?_
    · refine Only.forL ?_ ?_
      · refine Only.upd_lim_saf rfl ?_
        exact Only.refl _ _
      · intro u x
        try dsimp only
        refine Only.then (setStr_only _ _ _) rfl ?_
        exact Only.refl _ _
    · refine Only.then (urgentRamp_only _) rfl ?_
      exact Only.refl _ _

theorem react3_only (s : Dev) (x1 : Nat) (x2 : List Nat) (x3 : Bool) :
    Only [.dev, .lim, .strs, .saf, .exe, .can, .log] s (react3 s x1 x2 x3) := by
  unfold react3
  try dsimp only
  refine Only.ite_then ?_ ?_
  · exact Only.refl _ _
  · refine Only.then (deriveState_only _ _) rfl ?_
    refine Only.then (routeBegin_only _ _ _ _) rfl ?_
    refine Only.ite_else ?_ ?_
    · refine Only.forL ?_ ?_
      · refine Only.forL ?_ ?_
        · refine Only.ite_else ?_ ?_
          · exact Only.refl _ _
          · refine Only.upd_saf rfl ?_
            exact Only.refl _ _
        · intro u x
          try dsimp only
          refine Only.ite_else ?_ ?_
          · exact Only.refl _ _
          · refine Only.then (setReact_only _ _ _ _ _) rfl ?_
            exact Only.refl _ _
      · intro u x
        try dsimp only
        refine Only.then (openSeq_only _ _ _) rfl ?_
        exact Only.refl _ _
    · refine Only.then (urgentRamp_only _) rfl ?_
      refine Only.upd_lim rfl ?_
      exact Only.refl _ _

theorem fault3_only (s : Dev) (x1 x2 x3 x4 : Nat) (x5 : Bool) (x6 : List Nat) (x7 : Bool) :
    Only [.dev, .lim, .strs, .saf, .exe, .can, .log, .inForce] s (fault3 s x1 x2 x3 x4 x5 x6 x7) := by
  unfold fault3
  try dsimp only
  refine Only.ite_then ?_ ?_
  · exact Only.refl _ _
  · refine Only.then (react3_only _ _ _ _) rfl ?_
    refine Only.ite ?_ ?_
    · refine Only.then (noteAt_only _ _ _ _ _) rfl ?_
      exact Only.refl _ _
    · refine Only.then (raise_only _ _ _ _ _) rfl ?_
      exact Only.refl _ _

theorem scrReact_only (s : Dev) (x1 : U32) :
    Only [.dev, .lim, .strs, .saf, .exe, .can, .log, .pwr, .inForce] s (scrReact s x1) := by
  unfold scrReact
  try dsimp only
  refine Only.ite_then ?_ ?_
  · refine Only.then (tripStr_only _ _ _ _ _) rfl ?_
    exact Only.refl _ _
  · refine Only.then (fault3_only _ _ _ _ _ _ _ _) rfl ?_
    exact Only.refl _ _

theorem scrEvtTake_only (s : Dev) :
    Only [.dev, .regs, .acq, .lim, .strs, .saf, .exe, .can, .log, .pwr, .inForce, .readVal] s (scrEvtTake s) := by
  unfold scrEvtTake
  try dsimp only
  split
  · refine Only.then (scrOvf_only _) rfl ?_
    refine Only.upd_readVal rfl ?_
    exact Only.refl _ _
  · refine Only.ite_else ?_ ?_
    · refine Only.ite_else ?_ ?_
      · refine Only.then (fifoSync_only _) rfl ?_
        refine Only.upd_acq rfl ?_
        refine Only.then (scrOvf_only _) rfl ?_
        refine Only.upd_readVal rfl ?_
        exact Only.refl _ _
      · refine Only.then (scrReact_only _ _) rfl ?_
        exact Only.refl _ _
    · refine Only.upd_acq rfl ?_
      refine Only.then (wrB_only _ _ _ _) rfl ?_
      exact Only.refl _ _

theorem acqScrEvt3Read_only (s : Dev) :
    Only [.dev, .regs, .acq, .lim, .strs, .saf, .exe, .can, .log, .pwr, .inForce, .freeCtr, .readVal] s (acqScrEvt3Read s) := by
  unfold acqScrEvt3Read
  try dsimp only
  refine Only.ite_then ?_ ?_
  · exact Only.refl _ _
  · refine Only.then (logFree_only _ _ _) rfl ?_
    refine Only.then (scrEvtTake_only _) rfl ?_
    exact Only.refl _ _

theorem stN_only (s : Dev) (x1 x2 x3 : Nat) :
    Only [.mem] s (stN s x1 x2 x3) := Only.upd_mem rfl (Memory.wf_writeBytes _ _ _) (Only.refl _ _)

theorem st8_only (s : Dev) (x1 x2 : Nat) :
    Only [.mem] s (st8 s x1 x2) := by
  unfold st8
  try dsimp only
  refine Only.then (stN_only _ _ _ _) rfl ?_
  exact Only.refl _ _

theorem txnEnd_only (s : Dev) (x1 : RetTxn) :
    Only [.regs, .mem, .pwr] s (txnEnd s x1) := by
  unfold txnEnd
  try dsimp only
  refine Only.then (wr_only _ _ _) rfl ?_
  refine Only.then (wrN_only _ _ _) rfl ?_
  refine Only.then (wrB_only _ _ _ _) rfl ?_
  refine Only.then (wrB_only _ _ _ _) rfl ?_
  refine Only.upd_pwr rfl ?_
  refine Only.then (st8_only _ _ _) rfl ?_
  refine Only.forL ?_ ?_
  · exact Only.refl _ _
  · intro u x
    try dsimp only
    refine Only.upd_mem rfl (Memory.wf_copy _ _ _ _) ?_
    exact Only.refl _ _

theorem endNow_only (s : Dev) :
    Only [.regs, .mem, .pwr] s (endNow s) := by
  unfold endNow
  try dsimp only
  split
  · refine Only.then (txnEnd_only _ _) rfl ?_
    exact Only.refl _ _
  · exact Only.refl _ _

theorem syncStarts_only (s : Dev) :
    Only [.regs, .pwr] s (syncStarts s) := by
  unfold syncStarts
  try dsimp only
  refine Only.then (wrF_only _ _ _ _ _) rfl ?_
  refine Only.upd_pwr rfl ?_
  exact Only.refl _ _

theorem stBytes_only (s : Dev) (x1 : Nat) (x2 : List U8) :
    Only [.mem] s (stBytes s x1 x2) := Only.upd_mem rfl (Memory.wf_writeBytes _ _ _) (Only.refl _ _)

theorem retGo_only (s : Dev) (x1 : U32) :
    Only [.regs, .mem, .pwr] s (retGo s x1) := by
  unfold retGo
  try dsimp only
  apply Only.via
  · apply Only.then (wrB_only _ _ _ _) rfl
    exact Only.refl _ _
  · refine Only.then (syncStarts_only _) rfl ?_
    refine Only.then (wrB_only _ _ _ _) rfl ?_
    refine Only.upd_pwr rfl ?_
    refine Only.then (stBytes_only _ _ _) rfl ?_
    exact Only.refl _ _
  · refine Only.then (syncStarts_only _) rfl ?_
    exact Only.refl _ _

theorem p2Go_only (s : Dev) (x1 : Nat) (x2 : RetFor) (x3 : Nat) (x4 : List (Nat × Nat × Nat)) :
    Only [.regs, .mem, .pwr] s (p2Go s x1 x2 x3 x4) := by
  unfold p2Go
  try dsimp only
  refine Only.ite_then ?_ ?_
  · refine Only.then (retGo_only _ _) rfl ?_
    refine Only.then (wrN_only _ _ _) rfl ?_
    refine Only.forL ?_ ?_
    · exact Only.refl _ _
    · intro u x
      try dsimp only
      refine Only.then (wrN_only _ _ _) rfl ?_
      refine Only.then (wrN_only _ _ _) rfl ?_
      refine Only.then (wrN_only _ _ _) rfl ?_
      exact Only.refl _ _
  · refine Only.upd_pwr rfl ?_
    exact Only.refl _ _

theorem retDeliver_only (s : Dev) (x1 : Nat) (x2 : RetFor) (x3 : Nat) (x4 : List (Nat × Nat × Nat)) :
    Only [.regs, .mem, .exe, .pwr] s (retDeliver s x1 x2 x3 x4) := by
  unfold retDeliver
  try dsimp only
  split
  · apply Only.via
    · apply Only.upd_pwr rfl
      exact Only.refl _ _
    · refine Only.upd_pwr rfl ?_
      exact Only.refl _ _
    · refine Only.then (p2Go_only _ _ _ _ _) rfl ?_
      exact Only.refl _ _
  · apply Only.via
    · apply Only.upd_pwr rfl
      exact Only.refl _ _
    · refine Only.upd_pwr rfl ?_
      exact Only.refl _ _
    · refine Only.then (p2Go_only _ _ _ _ _) rfl ?_
      exact Only.refl _ _
  · refine Only.ite_then ?_ ?_
    · refine Only.then (p2Go_only _ _ _ _ _) rfl ?_
      exact Only.refl _ _
    · refine Only.upd_pwr rfl ?_
      exact Only.refl _ _
  · apply Only.via
    · apply Only.upd_pwr rfl
      exact Only.refl _ _
    · refine Only.upd_pwr rfl ?_
      exact Only.refl _ _
    · refine Only.then (p2Go_only _ _ _ _ _) rfl ?_
      exact Only.refl _ _
  · refine Only.ite_then ?_ ?_
    · refine Only.then (p2Go_only _ _ _ _ _) rfl ?_
      exact Only.refl _ _
    · refine Only.upd_exe rfl ?_
      exact Only.refl _ _

theorem st16_only (s : Dev) (x1 x2 : Nat) :
    Only [.mem] s (st16 s x1 x2) := by
  unfold st16
  try dsimp only
  refine Only.then (stN_only _ _ _ _) rfl ?_
  exact Only.refl _ _

theorem confSave_only (s : Dev) :
    Only [.mem] s (confSave s) := by
  unfold confSave
  try dsimp only
  refine Only.forN ?_ ?_
  · exact Only.refl _ _
  · intro u x
    try dsimp only
    refine Only.then (st16_only _ _ _) rfl ?_
    exact Only.refl _ _

theorem stWords_only (s : Dev) (x1 : Nat) (x2 : List U32) :
    Only [.mem] s (stWords s x1 x2) := by
  unfold stWords
  try dsimp only
  refine Only.then (stBytes_only _ _ _) rfl ?_
  exact Only.refl _ _

theorem stageSave_only (s : Dev) :
    Only [.mem] s (stageSave s) := by
  unfold stageSave
  try dsimp only
  refine Only.then (stBytes_only _ _ _) rfl ?_
  refine Only.then (stWords_only _ _ _) rfl ?_
  refine Only.then (stBytes_only _ _ _) rfl ?_
  refine Only.then (stBytes_only _ _ _) rfl ?_
  refine Only.then (confSave_only _) rfl ?_
  exact Only.refl _ _

theorem flushLog_only (s : Dev) :
    Only [.mem, .log] s (flushLog s) := by
  unfold flushLog
  try dsimp only
  refine Only.upd_log rfl (Or.inr fun _ _ h => h) ?_
  refine Only.forL ?_ ?_
  · exact Only.refl _ _
  · intro u x
    try dsimp only
    refine Only.then (stBytes_only _ _ _) rfl ?_
    exact Only.refl _ _

theorem endNoticeLoss_only (s : Dev) (x1 : Nat) :
    Only [.host, .log, .inForce] s (endNoticeLoss s x1) := by
  unfold endNoticeLoss
  try dsimp only
  refine Only.ite_then ?_ ?_
  · exact Only.refl _ _
  · refine Only.then (note_only _ _ _ _) rfl ?_
    refine Only.then (setSess_only _ _ _) rfl ?_
    exact Only.refl _ _

theorem sendPkt_only (s : Dev) (x1 : OutPkt) :
    Only [.exe, .host] s (sendPkt s x1) := by
  unfold sendPkt
  try dsimp only
  refine Only.ite ?_ ?_
  · refine Only.then (emit_only _ _ _) rfl ?_
    refine Only.then (setSess_only _ _ _) rfl ?_
    exact Only.refl _ _
  · refine Only.then (emit_only _ _ _) rfl ?_
    exact Only.refl _ _

theorem sendNotices_only (s : Dev) :
    Only [.exe, .host, .log, .inForce] s (sendNotices s) := by
  unfold sendNotices
  try dsimp only
  refine Only.forN ?_ ?_
  · exact Only.refl _ _
  · intro u x
    try dsimp only
    refine Only.ite_else ?_ ?_
    · exact Only.refl _ _
    · refine Only.then (sendPkt_only _ _) rfl ?_
      refine Only.then (endNoticeLoss_only _ _) rfl ?_
      refine Only.then (setSess_only _ _ _) rfl ?_
      exact Only.refl _ _

theorem queueNotice_only (s : Dev) (x1 x2 : Nat) :
    Only [.host] s (queueNotice s x1 x2) := by
  unfold queueNotice
  try dsimp only
  refine Only.forN ?_ ?_
  · exact Only.refl _ _
  · intro u x
    try dsimp only
    refine Only.ite_else ?_ ?_
    · exact Only.refl _ _
    · refine Only.ite ?_ ?_
      · refine Only.then (setSess_only _ _ _) rfl ?_
        exact Only.refl _ _
      · refine Only.then (setSess_only _ _ _) rfl ?_
        exact Only.refl _ _

theorem assignRecord_only (s : Dev) (x1 : Post) :
    Only [.regs, .mem, .host, .log] s (assignRecord s x1) := by
  unfold assignRecord
  try dsimp only
  refine Only.then (queueNotice_only _ _ _) rfl ?_
  refine Only.then (countEv_only _ _ _ _) rfl ?_
  refine Only.upd_log rfl (Or.inr fun _ _ h => h) ?_
  refine Only.then (stBytes_only _ _ _) rfl ?_
  exact Only.refl _ _

theorem takePost_only (s : Dev) (x1 : Post) :
    Only [.regs, .mem, .host, .log, .posts] s (takePost s x1) := by
  unfold takePost
  try dsimp only
  refine Only.ite ?_ ?_
  · refine Only.then (assignRecord_only _ _) rfl ?_
    exact Only.refl _ _
  · refine Only.ite ?_ ?_
    · refine Only.then (countEv_only _ _ _ _) rfl ?_
      refine Only.upd_log rfl (Or.inl (by decide)) ?_
      exact Only.refl _ _
    · refine Only.then (assignRecord_only _ _) rfl ?_
      refine Only.upd_log rfl (Or.inl (by decide)) ?_
      exact Only.refl _ _

theorem logIntake_only (s : Dev) :
    Only [.regs, .mem, .exe, .host, .log, .inForce, .posts] s (logIntake s) := by
  unfold logIntake
  try dsimp only
  refine Only.ite_then ?_ ?_
  · exact Only.refl _ _
  · refine Only.then (sendNotices_only _) rfl ?_
    refine Only.forL ?_ ?_
    · refine Only.upd_log rfl (Or.inl (by decide)) ?_
      exact Only.refl _ _
    · intro u x
      try dsimp only
      refine Only.then (takePost_only _ _) rfl ?_
      exact Only.refl _ _

theorem logClose_only (s : Dev) (x1 : Nat) :
    Only [.regs, .mem, .exe, .host, .log, .inForce, .posts] s (logClose s x1) := by
  unfold logClose
  try dsimp only
  refine Only.then (flushLog_only _) rfl ?_
  refine Only.then (logIntake_only _) rfl ?_
  refine Only.then (post_only _ _ _ _) rfl ?_
  exact Only.refl _ _

theorem stageBoot_only (s : Dev) :
    Only [.mem, .pwr] s (stageBoot s) := by
  unfold stageBoot
  try dsimp only
  refine Only.upd_pwr rfl ?_
  refine Only.then (stBytes_only _ _ _) rfl ?_
  exact Only.refl _ _

theorem bootNow_only (s : Dev) :
    Only [.regs, .mem, .exe, .pwr] s (bootNow s) := by
  unfold bootNow
  try dsimp only
  refine Only.then (endNow_only _) rfl ?_
  refine Only.then (retDeliver_only _ _ _ _ _) rfl ?_
  refine Only.then (stageBoot_only _) rfl ?_
  exact Only.refl _ _

theorem resetDev_only (s : Dev) :
    Only [.dev, .regs, .mem, .win, .parCfg, .parNow, .tb, .piste, .rings, .acq, .est, .chg, .lim, .thm, .strs, .bus, .saf, .exe, .host, .cl, .can, .cnt, .log, .pwr, .inForce, .uptimeMs, .actor, .busErr, .readVal, .posts] s (resetDev s) := by
  intro p hp
  cases p
  case form =>
    intro c
    unfold resetDev
    dsimp only
    refine ⟨rfl, ?_, rfl⟩
    exact Tbl.wfFrom_filter (0 : U8) (fun x => decide (x.1 < 0x10400000)) s.mem 0 c.2.1
  all_goals first | exact absurd (by decide) hp | rfl

theorem unforce_only (s : Dev) (x1 x2 : Nat) :
    Only [.inForce] s (unforce s x1 x2) := by
  unfold unforce
  try dsimp only
  refine Only.upd_inForce rfl ?_
  exact Only.refl _ _

theorem clearCond_only (s : Dev) (x1 x2 x3 x4 : Nat) :
    Only [.log, .inForce] s (clearCond s x1 x2 x3 x4) := by
  unfold clearCond
  try dsimp only
  refine Only.ite_else ?_ ?_
  · exact Only.refl _ _
  · refine Only.ite_else ?_ ?_
    · refine Only.then (unforce_only _ _ _) rfl ?_
      exact Only.refl _ _
    · refine Only.then (post_only _ _ _ _) rfl ?_
      exact Only.refl _ _

theorem setTb_only (s : Dev) (x1 : Nat) (x2 : Bool) :
    Only [.regs, .log, .inForce] s (setTb s x1 x2) := by
  unfold setTb
  try dsimp only
  refine Only.ite_then ?_ ?_
  · refine Only.then (wrB_only _ _ _ _) rfl ?_
    refine Only.then (wrB_only _ _ _ _) rfl ?_
    refine Only.then (wrF_only _ _ _ _ _) rfl ?_
    exact Only.refl _ _
  · refine Only.then (clearCond_only _ _ _ _ _) rfl ?_
    refine Only.then (clearCond_only _ _ _ _ _) rfl ?_
    exact Only.refl _ _

theorem tbReenter_only (s : Dev) :
    Only [.regs, .tb, .log, .inForce] s (tbReenter s) := by
  unfold tbReenter
  try dsimp only
  refine Only.then (setTb_only _ _ _) rfl ?_
  refine Only.then (wrN_only _ _ _) rfl ?_
  refine Only.then (wrB_only _ _ _ _) rfl ?_
  refine Only.then (wrB_only _ _ _ _) rfl ?_
  refine Only.upd_tb rfl ?_
  exact Only.refl _ _

theorem ringScan_only (s : Dev) :
    Only [.mem, .pwr] s (ringScan s) := by
  unfold ringScan
  try dsimp only
  refine Only.forL ?_ ?_
  · refine Only.upd_pwr rfl ?_
    exact Only.refl _ _
  · intro u x
    try dsimp only
    refine Only.then (st8_only _ _ _) rfl ?_
    exact Only.refl _ _

theorem formPairs_only (s : Dev) (x1 : Health) (x2 : Nat) :
    Only [.exe] s (formPairs s x1 x2) := by
  unfold formPairs
  dsimp only
  refine Only.upd_exe rfl (Only.foldl_fst ?_ (fun q x => ?_))
  · exact Only.forN (Only.refl _ _) (fun u x => Only.then (setPair_only _ _ _) rfl (Only.refl _ _))
  · obtain ⟨u, cores, four⟩ := q
    unfold formPair
    dsimp only
    split
    · refine Only.ite_fst ?_ (Only.ite_fst ?_ (Only.refl _ _))
      · dsimp only; exact Only.then (setPair_only _ _ _) rfl (Only.refl _ _)
      · dsimp only; exact Only.then (setPair_only _ _ _) rfl (Only.refl _ _)
    · exact Only.refl _ _

theorem logResume_only (s : Dev) :
    Only [.mem, .log, .posts] s (logResume s) := by
  unfold logResume
  try dsimp only
  refine Only.then (post_only _ _ _ _) rfl ?_
  refine Only.upd_mem_log rfl (Memory.wf_copy _ _ _ _) (Or.inl (by decide)) ?_
  exact Only.refl _ _

theorem bootLog_only (s : Dev) :
    Only [.dev, .regs, .mem, .exe, .host, .log, .inForce, .posts] s (bootLog s) := by
  unfold bootLog
  try dsimp only
  refine Only.ite ?_ ?_
  · refine Only.then (logIntake_only _) rfl ?_
    refine Only.then (setDev_only _ _ _ _) rfl ?_
    refine Only.then (post_only _ _ _ _) rfl ?_
    refine Only.then (logResume_only _) rfl ?_
    exact Only.refl _ _
  · refine Only.upd_dev rfl ?_
    exact Only.refl _ _

theorem tornEvents_only (s : Dev) (x1 : List (Nat × Nat)) :
    Only [.log, .inForce] s (tornEvents s x1) := by
  unfold tornEvents
  try dsimp only
  refine Only.forL ?_ ?_
  · exact Only.refl _ _
  · intro u x
    try dsimp only
    refine Only.then (note_only _ _ _ _) rfl ?_
    exact Only.refl _ _

theorem setHealth_only (s : Dev) (x1 : Health) :
    Only [.exe] s (setHealth s x1) := by
  unfold setHealth
  try dsimp only
  refine Only.upd_exe rfl ?_
  exact Only.refl _ _

theorem coreEvents_only (s : Dev) (x1 : Health) (x2 : Nat) :
    Only [.exe, .log, .inForce] s (coreEvents s x1 x2) := by
  unfold coreEvents
  try dsimp only
  refine Only.ite_then ?_ ?_
  · refine Only.forN ?_ ?_
    · refine Only.forN ?_ ?_
      · refine Only.forN ?_ ?_
        · exact Only.refl _ _
        · intro u x
          try dsimp only
          refine Only.ite_else ?_ ?_
          · exact Only.refl _ _
          · refine Only.upd_inForce rfl ?_
            exact Only.refl _ _
      · intro u x
        try dsimp only
        refine Only.ite_else ?_ ?_
        · exact Only.refl _ _
        · refine Only.upd_inForce rfl ?_
          exact Only.refl _ _
    · intro u x
      try dsimp only
      refine Only.ite_else ?_ ?_
      · exact Only.refl _ _
      · refine Only.then (raise_only _ _ _ _ _) rfl ?_
        refine Only.then (setHealth_only _ _) rfl ?_
        exact Only.refl _ _
  · refine Only.then (raise_only _ _ _ _ _) rfl ?_
    exact Only.refl _ _

theorem syncHp_only (s : Dev) :
    Only [.regs] s (syncHp s) := by
  unfold syncHp
  try dsimp only
  refine Only.then (wrB_only _ _ _ _) rfl ?_
  refine Only.then (wrB_only _ _ _ _) rfl ?_
  refine Only.then (wrF_only _ _ _ _ _) rfl ?_
  exact Only.refl _ _

theorem hostReady_only (s : Dev) :
    Only [.regs, .host] s (hostReady s) := by
  unfold hostReady
  try dsimp only
  refine Only.then (syncHp_only _) rfl ?_
  refine Only.then (wrB_only _ _ _ _) rfl ?_
  refine Only.forL ?_ ?_
  · refine Only.upd_host rfl ?_
    exact Only.refl _ _
  · intro u x
    try dsimp only
    refine Only.then (wrN_only _ _ _) rfl ?_
    exact Only.refl _ _

theorem enterRecovery_only (s : Dev) (x1 : Nat) :
    Only [.regs, .host, .log, .pwr, .inForce] s (enterRecovery s x1) := by
  unfold enterRecovery
  try dsimp only
  refine Only.ite_else ?_ ?_
  · refine Only.upd_pwr rfl ?_
    exact Only.refl _ _
  · refine Only.then (hostReady_only _) rfl ?_
    refine Only.then (note_only _ _ _ _) rfl ?_
    exact Only.refl _ _

theorem commitPistes_only (s : Dev) (x1 : List (Nat × Nat × U32)) :
    Only [.piste] s (commitPistes s x1) := by
  unfold commitPistes
  try dsimp only
  refine Only.forL ?_ ?_
  · exact Only.refl _ _
  · intro u x
    try dsimp only
    refine Only.ite ?_ ?_
    · refine Only.upd_piste rfl ?_
      exact Only.refl _ _
    · refine Only.upd_piste rfl ?_
      exact Only.refl _ _

theorem copyApply_only (s : Dev) (x1 : Bool) (x2 : ConfCopy) (x3 : Bool) :
    Only [.parCfg, .parNow, .piste, .host, .log] s (copyApply s x1 x2 x3) := by
  unfold copyApply
  try dsimp only
  refine Only.then (post_only _ _ _ _) rfl ?_
  refine Only.ite_then ?_ ?_
  · refine Only.then (commitPistes_only _ _) rfl ?_
    refine Only.upd_parCfg_parNow_host rfl ?_
    exact Only.refl _ _
  · refine Only.then (post_only _ _ _ _) rfl ?_
    exact Only.refl _ _

theorem restoreConfig_only (s : Dev) :
    Only [.parCfg, .parNow, .piste, .host, .log, .inForce] s (restoreConfig s).1 := by
  unfold restoreConfig
  try dsimp only
  split
  · dsimp only
    refine Only.then (copyApply_only _ _ _ _) rfl ?_
    exact Only.refl _ _
  · split
    · dsimp only
      refine Only.then (copyApply_only _ _ _ _) rfl ?_
      exact Only.refl _ _
    · dsimp only
      refine Only.then (note_only _ _ _ _) rfl ?_
      exact Only.refl _ _

theorem st32_only (s : Dev) (x1 x2 : Nat) :
    Only [.mem] s (st32 s x1 x2) := by
  unfold st32
  try dsimp only
  refine Only.then (stN_only _ _ _ _) rfl ?_
  exact Only.refl _ _

theorem setInState_only (s : Dev) (x1 x2 : Nat) :
    Only [.mem] s (setInState s x1 x2) := by
  unfold setInState
  try dsimp only
  refine Only.then (st8_only _ _ _) rfl ?_
  exact Only.refl _ _

theorem setIn_only (s : Dev) (x1 : Nat) (x2 : ThmIn) :
    Only [.thm] s (setIn s x1 x2) := by
  unfold setIn
  try dsimp only
  refine Only.upd_thm rfl ?_
  exact Only.refl _ _

theorem mapWrite_only (s : Dev) (x1 : List (Nat × List U32)) :
    Only [.regs, .mem, .acq, .thm] s (mapWrite s x1) := by
  unfold mapWrite
  try dsimp only
  refine Only.ite_else ?_ ?_
  · refine Only.forL ?_ ?_
    · refine Only.forL ?_ ?_
      · refine Only.forL ?_ ?_
        · exact Only.refl _ _
        · intro u x
          try dsimp only
          refine Only.then (st32_only _ _ _) rfl ?_
          exact Only.refl _ _
      · intro u x
        try dsimp only
        refine Only.upd_acq rfl ?_
        refine Only.then (wr_only _ _ _) rfl ?_
        refine Only.then (wr_only _ _ _) rfl ?_
        exact Only.refl _ _
    · intro u x
      try dsimp only
      refine Only.forL ?_ ?_
      · exact Only.refl _ _
      · intro u x
        try dsimp only
        refine Only.then (st32_only _ _ _) rfl ?_
        exact Only.refl _ _
  · refine Only.forL ?_ ?_
    · refine Only.forL ?_ ?_
      · exact Only.refl _ _
      · intro u x
        try dsimp only
        refine Only.then (setInState_only _ _ _) rfl ?_
        exact Only.refl _ _
    · intro u x
      try dsimp only
      refine Only.then (setIn_only _ _ _) rfl ?_
      refine Only.then (setInState_only _ _ _) rfl ?_
      exact Only.refl _ _

theorem tableFaults_only (s : Dev) :
    Only [.dev, .lim, .strs, .saf, .exe, .can, .log, .inForce] s (tableFaults s) := by
  unfold tableFaults
  try dsimp only
  refine Only.forL ?_ ?_
  · exact Only.refl _ _
  · intro u x
    try dsimp only
    refine Only.ite ?_ ?_
    · refine Only.then (fault3_only _ _ _ _ _ _ _ _) rfl ?_
      exact Only.refl _ _
    · refine Only.then (clearCond_only _ _ _ _ _) rfl ?_
      exact Only.refl _ _

theorem copySet_only (s : Dev) (x1 : Nat) :
    Only [.mem, .est, .exe] s (copySet s x1) := by
  unfold copySet
  try dsimp only
  refine Only.upd_mem_est_exe rfl (Memory.wf_copy _ _ _ _) ?_
  exact Only.refl _ _

theorem setChg_only (s : Dev) (x1 : Nat) (x2 : ChgStr) :
    Only [.chg] s (setChg s x1 x2) := by
  unfold setChg
  try dsimp only
  refine Only.upd_chg rfl ?_
  exact Only.refl _ _

theorem setLflag_only (s : Dev) (x1 x2 : Nat) (x3 : Bool) :
    Only [.mem] s (setLflag s x1 x2 x3) := by
  unfold setLflag
  try dsimp only
  refine Only.then (st8_only _ _ _) rfl ?_
  exact Only.refl _ _

theorem setLstate_only (s : Dev) (x1 x2 : Nat) :
    Only [.mem] s (setLstate s x1 x2) := by
  unfold setLstate
  try dsimp only
  refine Only.then (st8_only _ _ _) rfl ?_
  exact Only.refl _ _

theorem setRecF_only (s : Dev) (x1 x2 : Nat) (x3 : F32) :
    Only [.mem] s (setRecF s x1 x2 x3) := by
  unfold setRecF
  try dsimp only
  refine Only.then (st32_only _ _ _) rfl ?_
  exact Only.refl _ _

theorem cellHealth_only (s : Dev) (x1 x2 : Nat) :
    Only [.mem] s (cellHealth s x1 x2) := by
  unfold cellHealth
  try dsimp only
  refine Only.then (st16_only _ _ _) rfl ?_
  refine Only.then (st16_only _ _ _) rfl ?_
  refine Only.then (st16_only _ _ _) rfl ?_
  exact Only.refl _ _

theorem restoreCell_only (s : Dev) (x1 x2 : Nat) (x3 : Bool) :
    Only [.mem, .est] s (restoreCell s x1 x2 x3) := by
  unfold restoreCell
  try dsimp only
  refine Only.then (cellHealth_only _ _ _) rfl ?_
  refine Only.upd_est rfl ?_
  refine Only.then (st16_only _ _ _) rfl ?_
  refine Only.then (setRecF_only _ _ _ _) rfl ?_
  refine Only.then (setRecF_only _ _ _ _) rfl ?_
  refine Only.then (setRecF_only _ _ _ _) rfl ?_
  refine Only.then (stBytes_only _ _ _) rfl ?_
  exact Only.refl _ _

theorem setConf_only (s : Dev) (x1 : Nat) (x2 : StrConf) :
    Only [.est] s (setConf s x1 x2) := by
  unfold setConf
  try dsimp only
  refine Only.upd_est rfl ?_
  exact Only.refl _ _

theorem estWrite_only (s : Dev) (x1 : List (Nat × U32 × U32)) :
    Only [.exe] s (estWrite s x1) := by
  unfold estWrite
  try dsimp only
  refine Only.ite_then ?_ ?_
  · exact Only.refl _ _
  · refine Only.then (emit_only _ _ _) rfl ?_
    exact Only.refl _ _

theorem st64_only (s : Dev) (x1 x2 : Nat) :
    Only [.mem] s (st64 s x1 x2) := by
  unfold st64
  try dsimp only
  refine Only.then (stN_only _ _ _ _) rfl ?_
  exact Only.refl _ _

theorem reAnchor_only (s : Dev) (x1 : Nat) :
    Only [.mem, .chg, .exe, .log, .inForce] s (reAnchor s x1) := by
  unfold reAnchor
  try dsimp only
  refine Only.then (clearCond_only _ _ _ _ _) rfl ?_
  refine Only.then (st8_only _ _ _) rfl ?_
  refine Only.forL ?_ ?_
  · refine Only.upd_chg rfl ?_
    refine Only.then (st64_only _ _ _) rfl ?_
    refine Only.then (estWrite_only _ _) rfl ?_
    exact Only.refl _ _
  · intro u x
    try dsimp only
    refine Only.then (st16_only _ _ _) rfl ?_
    exact Only.refl _ _

theorem confRef_only (s : Dev) (x1 x2 x3 : Nat) :
    Only [.est] s (confRef s x1 x2 x3) := by
  unfold confRef
  try dsimp only
  refine Only.ite_else ?_ ?_
  · refine Only.then (setConf_only _ _ _) rfl ?_
    exact Only.refl _ _
  · refine Only.then (setConf_only _ _ _) rfl ?_
    exact Only.refl _ _

theorem strHealth_only (s : Dev) (x1 : Nat) :
    Only [.mem, .log, .inForce] s (strHealth s x1) := by
  unfold strHealth
  try dsimp only
  apply Only.via
  · apply Only.then (raise_only _ _ _ _ _) rfl
    exact Only.refl _ _
  · refine Only.ite_else ?_ ?_
    · exact Only.refl _ _
    · refine Only.then (clearCond_only _ _ _ _ _) rfl ?_
      exact Only.refl _ _
  · refine Only.then (st16_only _ _ _) rfl ?_
    refine Only.then (st16_only _ _ _) rfl ?_
    exact Only.refl _ _

theorem restoreStr_only (s : Dev) (x1 x2 : Bool) (x3 : Nat) :
    Only [.mem, .est, .chg, .exe, .log, .inForce] s (restoreStr s x1 x2 x3) := by
  unfold restoreStr
  try dsimp only
  refine Only.then (strHealth_only _ _) rfl ?_
  refine Only.ite_else ?_ ?_
  · refine Only.ite_then ?_ ?_
    · refine Only.then (setConf_only _ _ _) rfl ?_
      refine Only.forL ?_ ?_
      · refine Only.then (setLflag_only _ _ _ _) rfl ?_
        refine Only.then (setLstate_only _ _ _) rfl ?_
        refine Only.then (setChg_only _ _ _) rfl ?_
        refine Only.ite_else ?_ ?_
        · refine Only.ite ?_ ?_
          · refine Only.upd_mem rfl (Memory.wf_copy _ _ _ _) ?_
            exact Only.refl _ _
          · refine Only.then (stN_only _ _ _ _) rfl ?_
            exact Only.refl _ _
        · refine Only.then (st32_only _ _ _) rfl ?_
          exact Only.refl _ _
      · intro u x
        try dsimp only
        refine Only.then (restoreCell_only _ _ _ _) rfl ?_
        exact Only.refl _ _
    · refine Only.then (note_only _ _ _ _) rfl ?_
      exact Only.refl _ _
  · refine Only.then (reAnchor_only _ _) rfl ?_
    refine Only.then (confRef_only _ _ _ _) rfl ?_
    exact Only.refl _ _

theorem restoreRecords_only (s : Dev) (x1 x2 : Bool) :
    Only [.mem, .est, .chg, .exe, .log, .inForce] s (restoreRecords s x1 x2) := by
  unfold restoreRecords
  try dsimp only
  refine Only.forL ?_ ?_
  · exact Only.refl _ _
  · intro u x
    try dsimp only
    refine Only.then (restoreStr_only _ _ _ _) rfl ?_
    exact Only.refl _ _

theorem scrTake_only (s : Dev) (x1 : List (Nat × U32 × Bool)) :
    Only [.regs, .acq, .log, .inForce] s (scrTake s x1) := by
  unfold scrTake
  try dsimp only
  refine Only.forL ?_ ?_
  · exact Only.refl _ _
  · intro u x
    try dsimp only
    refine Only.ite ?_ ?_
    · refine Only.then (scrApply_only _ _ _) rfl ?_
      refine Only.then (wr_only _ _ _) rfl ?_
      refine Only.then (wr_only _ _ _) rfl ?_
      exact Only.refl _ _
    · refine Only.then (wrB_only _ _ _ _) rfl ?_
      exact Only.refl _ _

theorem setLim_only (s : Dev) (x1 : Nat) (x2 : LimStr) :
    Only [.lim] s (setLim s x1 x2) := by
  unfold setLim
  try dsimp only
  refine Only.upd_lim rfl ?_
  exact Only.refl _ _

theorem limBoot_only (s : Dev) :
    Only [.lim] s (limBoot s) := by
  unfold limBoot
  try dsimp only
  refine Only.forN ?_ ?_
  · exact Only.refl _ _
  · intro u x
    try dsimp only
    refine Only.then (setLim_only _ _ _) rfl ?_
    exact Only.refl _ _

theorem clearMem_only (s : Dev) (x1 x2 : Nat) :
    Only [.mem] s (clearMem s x1 x2) := Only.upd_mem rfl (Memory.wf_clear _ _ _) (Only.refl _ _)

theorem coefWrite_only (s : Dev) (x1 : Bool) (x2 : Nat) :
    Only [.mem] s (coefWrite s x1 x2) := by
  unfold coefWrite
  try dsimp only
  refine Only.ite ?_ ?_
  · refine Only.then (clearMem_only _ _ _) rfl ?_
    exact Only.refl _ _
  · refine Only.then (stBytes_only _ _ _) rfl ?_
    exact Only.refl _ _

theorem coefAll_only (s : Dev) (x1 : Bool) :
    Only [.mem] s (coefAll s x1) := by
  unfold coefAll
  try dsimp only
  refine Only.forL ?_ ?_
  · exact Only.refl _ _
  · intro u x
    try dsimp only
    refine Only.then (coefWrite_only _ _ _) rfl ?_
    exact Only.refl _ _

theorem setRing_only (s : Dev) (x1 : Nat) (x2 : Ring) :
    Only [.rings] s (setRing s x1 x2) := by
  unfold setRing
  try dsimp only
  refine Only.upd_rings rfl ?_
  exact Only.refl _ _

theorem setSeo_only (s : Dev) (x1 : Nat) (x2 : Seo) :
    Only [.saf] s (setSeo s x1 x2) := by
  unfold setSeo
  try dsimp only
  refine Only.upd_saf rfl ?_
  exact Only.refl _ _

theorem seoBackOff_only (s : Dev) (x1 : Nat) :
    Only [.saf, .exe] s (seoBackOff s x1) := by
  unfold seoBackOff
  try dsimp only
  refine Only.ite_else ?_ ?_
  · refine Only.then (setSeo_only _ _ _) rfl ?_
    exact Only.refl _ _
  · refine Only.then (emit_only _ _ _) rfl ?_
    exact Only.refl _ _

theorem contactorFailed_only (s : Dev) (x1 : Nat) (x2 : Bool) :
    Only [.dev, .strs, .saf, .exe, .log, .pwr, .inForce] s (contactorFailed s x1 x2) := by
  unfold contactorFailed
  try dsimp only
  refine Only.then (fault4_only _ _ _ _ _ _ _ _) rfl ?_
  refine Only.then (seoBackOff_only _ _) rfl ?_
  refine Only.then (setStr_only _ _ _) rfl ?_
  exact Only.refl _ _

theorem recordOutcome_only (s : Dev) (x1 : Nat) (x2 : HostCmd) (x3 x4 : Nat) (x5 : Bool) :
    Only [.host] s (recordOutcome s x1 x2 x3 x4 x5) := by
  unfold recordOutcome
  try dsimp only
  refine Only.upd_host rfl ?_
  exact Only.refl _ _

theorem dropFlight_only (s : Dev) (x1 : HostCmd) :
    Only [.host] s (dropFlight s x1) := by
  unfold dropFlight
  try dsimp only
  refine Only.upd_host rfl ?_
  exact Only.refl _ _

theorem releaseReply_only (s : Dev) (x1 : OutPkt) :
    Only [.exe, .host] s (releaseReply s x1) := by
  unfold releaseReply
  try dsimp only
  refine Only.ite_then ?_ ?_
  · exact Only.refl _ _
  · refine Only.ite ?_ ?_
    · refine Only.then (setSess_only _ _ _) rfl ?_
      exact Only.refl _ _
    · refine Only.then (sendPkt_only _ _) rfl ?_
      exact Only.refl _ _

theorem flushFrom_only (s : Dev) (x1 : Nat) (x2 : List Place) :
    Only [.exe, .host] s (flushFrom s x1 x2) := by
  induction x2 generalizing s with
  | nil => exact Only.then (setPlaces_only _ _ _) rfl (Only.refl _ _)
  | cons p t ih =>
    unfold flushFrom
    split
    · exact Only.trans (Only.then (releaseReply_only _ _) rfl (Only.refl _ _)) (ih _)
    · exact Only.then (setPlaces_only _ _ _) rfl (Only.refl _ _)

theorem flushQueue_only (s : Dev) (x1 : Nat) :
    Only [.exe, .host] s (flushQueue s x1) := by
  unfold flushQueue
  try dsimp only
  refine Only.then (flushFrom_only _ _ _) rfl ?_
  exact Only.refl _ _

theorem deliverReply_only (s : Dev) (x1 : HostCmd) (x2 : List U32) :
    Only [.exe, .host] s (deliverReply s x1 x2) := by
  unfold deliverReply
  try dsimp only
  refine Only.ite ?_ ?_
  · refine Only.then (releaseReply_only _ _) rfl ?_
    exact Only.refl _ _
  · refine Only.then (flushQueue_only _ _) rfl ?_
    refine Only.then (setPlaces_only _ _ _) rfl ?_
    exact Only.refl _ _

theorem finish_only (s : Dev) (x1 : Nat) (x2 : HostCmd) (x3 : Nat) (x4 : List U32) :
    Only [.exe, .host] s (finish s x1 x2 x3 x4) := by
  unfold finish
  try dsimp only
  refine Only.ite_then ?_ ?_
  · refine Only.then (recordOutcome_only _ _ _ _ _ _) rfl ?_
    refine Only.then (dropFlight_only _ _) rfl ?_
    exact Only.refl _ _
  · refine Only.ite ?_ ?_
    · refine Only.then (deliverReply_only _ _ _) rfl ?_
      exact Only.refl _ _
    · refine Only.then (deliverReply_only _ _ _) rfl ?_
      exact Only.refl _ _

theorem exchFail_only (s : Dev) (x1 : Nat) (x2 : Exch) (x3 : Nat) :
    Only [.dev, .rings, .strs, .saf, .exe, .host, .log, .pwr, .inForce] s (exchFail s x1 x2 x3) := by
  unfold exchFail
  try dsimp only
  split
  · refine Only.then (contactorFailed_only _ _ _) rfl ?_
    refine Only.then (setRing_only _ _ _) rfl ?_
    exact Only.refl _ _
  · split
    · apply Only.via
      · apply Only.then (finish_only _ _ _ _ _) rfl
        exact Only.refl _ _
      · refine Only.then (finish_only _ _ _ _ _) rfl ?_
        exact Only.refl _ _
      · refine Only.then (setRing_only _ _ _) rfl ?_
        exact Only.refl _ _
    · refine Only.then (setRing_only _ _ _) rfl ?_
      exact Only.refl _ _
  · refine Only.ite_else ?_ ?_
    · refine Only.then (setRing_only _ _ _) rfl ?_
      exact Only.refl _ _
    · refine Only.then (setRing_only _ _ _) rfl ?_
      exact Only.refl _ _

theorem exchDrop_only (s : Dev) (x1 : Nat) (x2 : Ring) :
    Only [.dev, .rings, .strs, .saf, .exe, .host, .log, .pwr, .inForce] s (exchDrop s x1 x2) := by
  unfold exchDrop
  try dsimp only
  refine Only.forL ?_ ?_
  · exact Only.refl _ _
  · intro u x
    try dsimp only
    refine Only.then (exchFail_only _ _ _ _) rfl ?_
    exact Only.refl _ _

theorem sendEnum_only (s : Dev) (x1 : Nat) (x2 : Bool) (x3 : Nat) (x4 : List Nat) :
    Only [.exe] s (sendEnum s x1 x2 x3 x4) := by
  unfold sendEnum
  try dsimp only
  refine Only.then (emit_only _ _ _) rfl ?_
  exact Only.refl _ _

theorem enumOffer_only (s : Dev) (x1 : Nat) (x2 : EnumProg) (x3 : Nat) :
    Only [.rings, .exe] s (enumOffer s x1 x2 x3) := by
  unfold enumOffer
  try dsimp only
  refine Only.then (sendEnum_only _ _ _ _ _) rfl ?_
  refine Only.then (setRing_only _ _ _) rfl ?_
  exact Only.refl _ _

theorem setMode_only (s : Dev) (x1 x2 : Nat) :
    Only [.regs] s (setMode s x1 x2) := by
  unfold setMode
  try dsimp only
  refine Only.then (wrF_only _ _ _ _ _) rfl ?_
  exact Only.refl _ _

theorem enumAnswers_only (s : Dev) :
    Only [.exe, .host] s (enumAnswers s) := by
  unfold enumAnswers
  try dsimp only
  refine Only.forL ?_ ?_
  · refine Only.upd_host rfl ?_
    exact Only.refl _ _
  · intro u x
    try dsimp only
    refine Only.then (finish_only _ _ _ _ _) rfl ?_
    exact Only.refl _ _

theorem ringCounts_only (s : Dev) (x1 : Nat) :
    Only [.regs] s (ringCounts s x1) := by
  unfold ringCounts
  try dsimp only
  refine Only.then (wrN_only _ _ _) rfl ?_
  refine Only.then (wrN_only _ _ _) rfl ?_
  exact Only.refl _ _

theorem sendConfig_only (s : Dev) (x1 x2 x3 x4 x5 : Nat) :
    Only [.exe] s (sendConfig s x1 x2 x3 x4 x5) := by
  unfold sendConfig
  try dsimp only
  refine Only.then (emit_only _ _ _) rfl ?_
  exact Only.refl _ _

theorem programRing_only (s : Dev) (x1 : Nat) (x2 : Bool) :
    Only [.rings, .exe] s (programRing s x1 x2) := by
  unfold programRing
  try dsimp only
  refine Only.forL ?_ ?_
  · refine Only.then (setRing_only _ _ _) rfl ?_
    exact Only.refl _ _
  · intro u x
    try dsimp only
    refine Only.forL ?_ ?_
    · exact Only.refl _ _
    · intro u x
      try dsimp only
      refine Only.then (sendConfig_only _ _ _ _ _ _) rfl ?_
      exact Only.refl _ _

theorem enumEnd_only (s : Dev) (x1 x2 : Nat) :
    Only [.regs, .rings, .exe, .host] s (enumEnd s x1 x2) := by
  unfold enumEnd
  try dsimp only
  refine Only.then (enumAnswers_only _) rfl ?_
  refine Only.then (ringCounts_only _ _) rfl ?_
  refine Only.then (programRing_only _ _ _) rfl ?_
  refine Only.then (wrB_only _ _ _ _) rfl ?_
  refine Only.then (setMode_only _ _ _) rfl ?_
  refine Only.then (setRing_only _ _ _) rfl ?_
  exact Only.refl _ _

theorem enumBroken_only (s : Dev) (x1 : Nat) (x2 : EnumProg) :
    Only [.regs, .rings, .exe, .host, .log, .inForce] s (enumBroken s x1 x2) := by
  unfold enumBroken
  try dsimp only
  refine Only.then (enumEnd_only _ _ _) rfl ?_
  refine Only.ite_else ?_ ?_
  · refine Only.then (raise_only _ _ _ _ _) rfl ?_
    refine Only.then (wrB_only _ _ _ _) rfl ?_
    refine Only.then (wrF_only _ _ _ _ _) rfl ?_
    refine Only.then (wrF_only _ _ _ _ _) rfl ?_
    exact Only.refl _ _
  · refine Only.then (raise_only _ _ _ _ _) rfl ?_
    refine Only.then (wrB_only _ _ _ _) rfl ?_
    exact Only.refl _ _

theorem enumFull_only (s : Dev) (x1 : Nat) (x2 : EnumProg) :
    Only [.log, .inForce] s (enumFull s x1 x2) := by
  unfold enumFull
  try dsimp only
  refine Only.ite_then ?_ ?_
  · exact Only.refl _ _
  · refine Only.then (raise_only _ _ _ _ _) rfl ?_
    exact Only.refl _ _

theorem enumNextB_only (s : Dev) (x1 : Nat) (x2 : EnumProg) :
    Only [.regs, .rings, .exe, .host, .log, .inForce] s (enumNextB s x1 x2) := by
  unfold enumNextB
  try dsimp only
  split
  · refine Only.then (enumOffer_only _ _ _ _) rfl ?_
    exact Only.refl _ _
  · refine Only.then (enumBroken_only _ _ _) rfl ?_
    refine Only.then (enumFull_only _ _ _) rfl ?_
    exact Only.refl _ _

theorem enumNext_only (s : Dev) (x1 : Nat) (x2 : EnumProg) :
    Only [.regs, .rings, .exe, .host, .log, .inForce] s (enumNext s x1 x2) := by
  unfold enumNext
  try dsimp only
  refine Only.ite ?_ ?_
  · refine Only.then (enumNextB_only _ _ _) rfl ?_
    exact Only.refl _ _
  · split
    · refine Only.then (enumOffer_only _ _ _ _) rfl ?_
      exact Only.refl _ _
    · refine Only.then (enumNextB_only _ _ _) rfl ?_
      refine Only.then (enumFull_only _ _ _) rfl ?_
      exact Only.refl _ _

theorem enumStart_only (s : Dev) (x1 : Nat) :
    Only [.dev, .regs, .rings, .strs, .saf, .exe, .host, .log, .pwr, .inForce] s (enumStart s x1) := by
  unfold enumStart
  try dsimp only
  refine Only.ite_then ?_ ?_
  · exact Only.refl _ _
  · refine Only.then (enumNext_only _ _ _) rfl ?_
    refine Only.then (sendEnum_only _ _ _ _ _) rfl ?_
    refine Only.then (sendEnum_only _ _ _ _ _) rfl ?_
    refine Only.then (wrN_only _ _ _) rfl ?_
    refine Only.then (clearCond_only _ _ _ _ _) rfl ?_
    refine Only.then (clearCond_only _ _ _ _ _) rfl ?_
    refine Only.then (clearCond_only _ _ _ _ _) rfl ?_
    refine Only.then (exchDrop_only _ _ _) rfl ?_
    refine Only.then (setRing_only _ _ _) rfl ?_
    exact Only.refl _ _

theorem bootRecords_only (s : Dev) (x1 x2 x3 : Bool) :
    Only [.dev, .regs, .mem, .rings, .acq, .est, .chg, .lim, .strs, .saf, .exe, .host, .can, .log, .pwr, .inForce] s (bootRecords s x1 x2 x3) := by
  unfold bootRecords
  try dsimp only
  refine Only.ite_else ?_ ?_
  · refine Only.ite_else ?_ ?_
    · refine Only.ite_else ?_ ?_
      · refine Only.ite_else ?_ ?_
        · exact Only.refl _ _
        · refine Only.then (wrB_only _ _ _ _) rfl ?_
          refine Only.ite_else ?_ ?_
          · refine Only.then (restoreRecords_only _ _ _) rfl ?_
            refine Only.then (tableFaults_only _) rfl ?_
            refine Only.forN ?_ ?_
            · exact Only.refl _ _
            · intro u x
              try dsimp only
              refine Only.then (copySet_only _ _) rfl ?_
              exact Only.refl _ _
          · refine Only.forL ?_ ?_
            · exact Only.refl _ _
            · intro u x
              try dsimp only
              refine Only.then (setConf_only _ _ _) rfl ?_
              exact Only.refl _ _
      · refine Only.then (scrTake_only _ _) rfl ?_
        exact Only.refl _ _
    · refine Only.then (limBoot_only _) rfl ?_
      refine Only.then (coefAll_only _ _) rfl ?_
      exact Only.refl _ _
  · refine Only.forN ?_ ?_
    · exact Only.refl _ _
    · intro u x
      try dsimp only
      refine Only.ite_else ?_ ?_
      · exact Only.refl _ _
      · refine Only.then (enumStart_only _ _) rfl ?_
        refine Only.then (wrB_only _ _ _ _) rfl ?_
        exact Only.refl _ _

theorem feedWrite_only (s : Dev) (x1 : U32) :
    Only [.regs] s (feedWrite s x1) := by
  unfold feedWrite
  try dsimp only
  refine Only.then (wrN_only _ _ _) rfl ?_
  exact Only.refl _ _

theorem exeCtrlWrite_only (s : Dev) (x1 : U32) :
    Only [.regs, .exe, .log] s (exeCtrlWrite s x1) := by
  unfold exeCtrlWrite
  try dsimp only
  refine Only.ite_else ?_ ?_
  · refine Only.upd_exe rfl ?_
    refine Only.then (wr_only _ _ _) rfl ?_
    exact Only.refl _ _
  · refine Only.then (modeChange_only _ _ _ _ _) rfl ?_
    exact Only.refl _ _

theorem bwRestart_only (s : Dev) (x1 : Nat) :
    Only [.regs, .cnt] s (bwRestart s x1) := by
  unfold bwRestart
  try dsimp only
  refine Only.then (wrN_only _ _ _) rfl ?_
  refine Only.then (wrN_only _ _ _) rfl ?_
  refine Only.upd_cnt rfl ?_
  exact Only.refl _ _

theorem cfgTake_only (s : Dev) (x1 : List (Nat × U32 × U32)) :
    Only [.regs, .exe, .cnt, .log] s (cfgTake s x1) := by
  unfold cfgTake
  try dsimp only
  refine Only.forL ?_ ?_
  · exact Only.refl _ _
  · intro u x
    try dsimp only
    refine Only.ite ?_ ?_
    · refine Only.then (feedWrite_only _ _) rfl ?_
      exact Only.refl _ _
    · refine Only.ite ?_ ?_
      · refine Only.then (exeCtrlWrite_only _ _) rfl ?_
        exact Only.refl _ _
      · refine Only.ite_else ?_ ?_
        · refine Only.then (wr_only _ _ _) rfl ?_
          exact Only.refl _ _
        · refine Only.then (bwRestart_only _ _) rfl ?_
          exact Only.refl _ _

theorem setBus_only (s : Dev) (x1 : Nat) (x2 : BusC) :
    Only [.bus] s (setBus s x1 x2) := by
  unfold setBus
  try dsimp only
  refine Only.upd_bus rfl ?_
  exact Only.refl _ _

theorem restoreWear_only (s : Dev) :
    Only [.strs, .bus, .inForce] s (restoreWear s) := by
  unfold restoreWear
  try dsimp only
  refine Only.forN ?_ ?_
  · refine Only.forN ?_ ?_
    · exact Only.refl _ _
    · intro u x
      try dsimp only
      refine Only.upd_inForce rfl ?_
      refine Only.then (setStr_only _ _ _) rfl ?_
      exact Only.refl _ _
  · intro u x
    try dsimp only
    refine Only.then (setBus_only _ _ _) rfl ?_
    exact Only.refl _ _

theorem pisteStage_only (s : Dev) (x1 : Bool) :
    Only [.regs] s (pisteStage s x1) := by
  unfold pisteStage
  try dsimp only
  refine Only.then (wrB_only _ _ _ _) rfl ?_
  refine Only.then (wrF_only _ _ _ _ _) rfl ?_
  refine Only.forN ?_ ?_
  · exact Only.refl _ _
  · intro u x
    try dsimp only
    refine Only.then (wr_only _ _ _) rfl ?_
    exact Only.refl _ _

theorem canIr_only (s : Dev) (x1 x2 : Nat) :
    Only [.regs] s (canIr s x1 x2) := by
  unfold canIr
  try dsimp only
  refine Only.then (wrB_only _ _ _ _) rfl ?_
  exact Only.refl _ _

theorem canRestrict_only (s : Dev) (x1 : Nat) :
    Only [.regs, .can, .log, .inForce] s (canRestrict s x1) := by
  unfold canRestrict
  try dsimp only
  refine Only.ite_else ?_ ?_
  · refine Only.ite_else ?_ ?_
    · refine Only.ite_else ?_ ?_
      · refine Only.then (wrB_only _ _ _ _) rfl ?_
        refine Only.then (setCan_only _ _ _) rfl ?_
        exact Only.refl _ _
      · refine Only.then (modeChange_only _ _ _ _ _) rfl ?_
        exact Only.refl _ _
    · refine Only.then (raise_only _ _ _ _ _) rfl ?_
      refine Only.then (canIr_only _ _ _) rfl ?_
      exact Only.refl _ _
  · refine Only.then (clearCond_only _ _ _ _ _) rfl ?_
    exact Only.refl _ _

theorem holdCheck_only (s : Dev) (x1 : Nat) :
    Only [.regs, .can] s (holdCheck s x1) := by
  unfold holdCheck
  try dsimp only
  refine Only.ite ?_ ?_
  · refine Only.then (wrB_only _ _ _ _) rfl ?_
    exact Only.refl _ _
  · refine Only.ite_else ?_ ?_
    · exact Only.refl _ _
    · refine Only.then (setCan_only _ _ _) rfl ?_
      exact Only.refl _ _

theorem pushTxEvent_only (s : Dev) (x1 : Nat) (x2 : List U32) :
    Only [.regs, .mem, .can] s (pushTxEvent s x1 x2) := by
  unfold pushTxEvent
  try dsimp only
  refine Only.then (canIr_only _ _ _) rfl ?_
  refine Only.then (wrN_only _ _ _) rfl ?_
  refine Only.then (setCan_only _ _ _) rfl ?_
  refine Only.then (stWords_only _ _ _) rfl ?_
  exact Only.refl _ _

theorem noteAlive_only (s : Dev) (x1 : Nat) (x2 : List U32) (x3 : Nat) :
    Only [.lim] s (noteAlive s x1 x2 x3) := by
  unfold noteAlive
  try dsimp only
  refine Only.ite_else ?_ ?_
  · exact Only.refl _ _
  · refine Only.ite_else ?_ ?_
    · exact Only.refl _ _
    · refine Only.upd_lim rfl ?_
      exact Only.refl _ _

theorem setHead_only (s : Dev) (x1 x2 x3 : Nat) (x4 : HeadRec) :
    Only [.can] s (setHead s x1 x2 x3 x4) := by
  unfold setHead
  try dsimp only
  refine Only.then (setCan_only _ _ _) rfl ?_
  exact Only.refl _ _

theorem objLoad_only (s : Dev) (x1 x2 : Nat) (x3 : List U32) :
    Only [.regs, .mem] s (objLoad s x1 x2 x3) := by
  unfold objLoad
  try dsimp only
  refine Only.then (wrB_only _ _ _ _) rfl ?_
  refine Only.then (stWords_only _ _ _) rfl ?_
  refine Only.then (st32_only _ _ _) rfl ?_
  refine Only.then (st32_only _ _ _) rfl ?_
  exact Only.refl _ _

theorem cycNext_only (s : Dev) (x1 : Nat) :
    Only [.regs, .mem, .can] s (cycNext s x1) := by
  unfold cycNext
  try dsimp only
  split
  · exact Only.refl _ _
  · refine Only.then (objLoad_only _ _ _ _) rfl ?_
    refine Only.then (setCan_only _ _ _) rfl ?_
    exact Only.refl _ _

theorem txbSync_only (s : Dev) (x1 x2 x3 x4 : Nat) :
    Only [.regs] s (txbSync s x1 x2 x3 x4) := by
  unfold txbSync
  try dsimp only
  refine Only.then (wrN_only _ _ _) rfl ?_
  refine Only.then (wrN_only _ _ _) rfl ?_
  exact Only.refl _ _

theorem txbAdvance_only (s : Dev) (x1 x2 x3 : Nat) :
    Only [.regs, .can] s (txbAdvance s x1 x2 x3) := by
  induction x3 generalizing s with
  | zero => exact Only.refl _ _
  | succ k ih =>
    unfold txbAdvance
    dsimp only
    refine Only.ite (Only.trans ?_ (ih _)) (Only.refl _ _)
    refine Only.then (txbSync_only _ _ _ _ _) rfl ?_
    exact Only.then (setCan_only _ _ _) rfl (Only.refl _ _)

theorem answer_only (s : Dev) (x1 : Nat) (x2 : HostCmd) (x3 : Nat) :
    Only [.exe, .host] s (answer s x1 x2 x3) := by
  unfold answer
  try dsimp only
  refine Only.then (finish_only _ _ _ _ _) rfl ?_
  exact Only.refl _ _

theorem answerCanWait_only (s : Dev) (x1 x2 x3 x4 : Nat) (x5 : U32) :
    Only [.exe, .host, .can] s (answerCanWait s x1 x2 x3 x4 x5) := by
  unfold answerCanWait
  try dsimp only
  split
  · exact Only.refl _ _
  · apply Only.via
    · apply Only.then (finish_only _ _ _ _ _) rfl
      exact Only.refl _ _
    · refine Only.ite ?_ ?_
      · refine Only.then (answer_only _ _ _ _) rfl ?_
        exact Only.refl _ _
      · refine Only.then (answer_only _ _ _ _) rfl ?_
        exact Only.refl _ _
    · refine Only.then (setCan_only _ _ _) rfl ?_
      exact Only.refl _ _

theorem leaveElem_only (s : Dev) (x1 x2 x3 x4 : Nat) (x5 : U32) :
    Only [.regs, .mem, .lim, .exe, .host, .can] s (leaveElem s x1 x2 x3 x4 x5) := by
  unfold leaveElem
  try dsimp only
  refine Only.then (answerCanWait_only _ _ _ _ _ _) rfl ?_
  apply Only.via
  · apply Only.ite_else
    · apply Only.then (wrB_only _ _ _ _) rfl
      apply Only.then (setHead_only _ _ _ _ _) rfl
      exact Only.refl _ _
    · apply Only.then (cycNext_only _ _) rfl
      exact Only.refl _ _
  · refine Only.then (txbAdvance_only _ _ _ _) rfl ?_
    refine Only.then (setCan_only _ _ _) rfl ?_
    exact Only.refl _ _
  · refine Only.ite_else ?_ ?_
    · refine Only.then (pushTxEvent_only _ _ _) rfl ?_
      exact Only.refl _ _
    · refine Only.then (noteAlive_only _ _ _ _) rfl ?_
      exact Only.refl _ _

theorem leaveNoFrame_only (s : Dev) (x1 x2 x3 x4 : Nat) :
    Only [.regs, .mem, .lim, .exe, .host, .can] s (leaveNoFrame s x1 x2 x3 x4) := by
  unfold leaveNoFrame
  try dsimp only
  refine Only.ite ?_ ?_
  · refine Only.then (setCan_only _ _ _) rfl ?_
    exact Only.refl _ _
  · refine Only.then (holdCheck_only _ _) rfl ?_
    refine Only.then (leaveElem_only _ _ _ _ _ _) rfl ?_
    exact Only.refl _ _

theorem flushAll_only (s : Dev) (x1 : Nat) :
    Only [.regs, .mem, .lim, .exe, .host, .can] s (flushAll s x1) := by
  unfold flushAll
  try dsimp only
  refine Only.forL ?_ ?_
  · refine Only.forN ?_ ?_
    · refine Only.then (setCan_only _ _ _) rfl ?_
      exact Only.refl _ _
    · intro u x
      try dsimp only
      refine Only.forL ?_ ?_
      · exact Only.refl _ _
      · intro u x
        try dsimp only
        refine Only.then (leaveNoFrame_only _ _ _ _ _) rfl ?_
        exact Only.refl _ _
  · intro u x
    try dsimp only
    refine Only.then (leaveNoFrame_only _ _ _ _ _) rfl ?_
    exact Only.refl _ _

theorem objSetup_only (s : Dev) (x1 : Nat) :
    Only [.mem] s (objSetup s x1) := by
  unfold objSetup
  try dsimp only
  refine Only.ite_else ?_ ?_
  · exact Only.refl _ _
  · refine Only.forL ?_ ?_
    · exact Only.refl _ _
    · intro u x
      try dsimp only
      refine Only.then (st32_only _ _ _) rfl ?_
      refine Only.then (st32_only _ _ _) rfl ?_
      refine Only.then (st32_only _ _ _) rfl ?_
      exact Only.refl _ _

theorem canStat_only (s : Dev) (x1 x2 : Nat) :
    Only [.regs] s (canStat s x1 x2) := by
  unfold canStat
  try dsimp only
  refine Only.then (wrN_only _ _ _) rfl ?_
  exact Only.refl _ _

theorem canSync_only (s : Dev) (x1 : Nat) :
    Only [.regs] s (canSync s x1) := by
  unfold canSync
  try dsimp only
  refine Only.then (canStat_only _ _ _) rfl ?_
  exact Only.refl _ _

theorem canApply_only (s : Dev) (x1 : Nat) :
    Only [.regs, .mem, .lim, .exe, .host, .can, .log] s (canApply s x1) := by
  unfold canApply
  try dsimp only
  refine Only.then (canSync_only _ _) rfl ?_
  refine Only.then (setCan_only _ _ _) rfl ?_
  refine Only.then (wrB_only _ _ _ _) rfl ?_
  refine Only.then (objSetup_only _ _) rfl ?_
  refine Only.ite_else ?_ ?_
  · refine Only.ite_else ?_ ?_
    · refine Only.then (wrF_only _ _ _ _ _) rfl ?_
      refine Only.then (wrB_only _ _ _ _) rfl ?_
      refine Only.then (wrB_only _ _ _ _) rfl ?_
      refine Only.then (wrN_only _ _ _) rfl ?_
      refine Only.then (wrN_only _ _ _) rfl ?_
      refine Only.then (wrN_only _ _ _) rfl ?_
      refine Only.ite_else ?_ ?_
      · refine Only.then (wrB_only _ _ _ _) rfl ?_
        exact Only.refl _ _
      · refine Only.then (flushAll_only _ _) rfl ?_
        exact Only.refl _ _
    · refine Only.then (modeChange_only _ _ _ _ _) rfl ?_
      exact Only.refl _ _
  · refine Only.then (modeChange_only _ _ _ _ _) rfl ?_
    exact Only.refl _ _

theorem fltSwap_only (s : Dev) (x1 : Nat) :
    Only [.regs, .can, .log, .inForce] s (fltSwap s x1) := by
  unfold fltSwap
  try dsimp only
  split
  · refine Only.then (canIr_only _ _ _) rfl ?_
    refine Only.then (setCan_only _ _ _) rfl ?_
    refine Only.then (wrF_only _ _ _ _ _) rfl ?_
    refine Only.then (wrF_only _ _ _ _ _) rfl ?_
    refine Only.then (wrB_only _ _ _ _) rfl ?_
    refine Only.then (wrB_only _ _ _ _) rfl ?_
    exact Only.refl _ _
  · refine Only.then (note_only _ _ _ _) rfl ?_
    refine Only.then (canIr_only _ _ _) rfl ?_
    refine Only.then (wrB_only _ _ _ _) rfl ?_
    refine Only.then (wrF_only _ _ _ _ _) rfl ?_
    refine Only.then (wrB_only _ _ _ _) rfl ?_
    refine Only.then (wrB_only _ _ _ _) rfl ?_
    exact Only.refl _ _

theorem fltRequest_only (s : Dev) (x1 : Nat) :
    Only [.regs, .can, .log, .inForce] s (fltRequest s x1) := by
  unfold fltRequest
  try dsimp only
  refine Only.ite_else ?_ ?_
  · refine Only.then (wrB_only _ _ _ _) rfl ?_
    refine Only.then (wrB_only _ _ _ _) rfl ?_
    exact Only.refl _ _
  · refine Only.then (fltSwap_only _ _) rfl ?_
    exact Only.refl _ _

theorem fltBuild_only (s : Dev) (x1 : Nat) :
    Only [.regs, .mem, .can, .log, .inForce] s (fltBuild s x1) := by
  unfold fltBuild
  try dsimp only
  refine Only.ite ?_ ?_
  · refine Only.then (setCan_only _ _ _) rfl ?_
    exact Only.refl _ _
  · refine Only.then (fltRequest_only _ _) rfl ?_
    refine Only.then (wrF_only _ _ _ _ _) rfl ?_
    refine Only.then (wrN_only _ _ _) rfl ?_
    refine Only.then (stWords_only _ _ _) rfl ?_
    exact Only.refl _ _

theorem thmFlags_only (s : Dev) (x1 : Nat) (x2 : List Nat) :
    Only [.mem] s (thmFlags s x1 x2) := by
  unfold thmFlags
  try dsimp only
  refine Only.then (st32_only _ _ _) rfl ?_
  refine Only.then (st16_only _ _ _) rfl ?_
  refine Only.then (st16_only _ _ _) rfl ?_
  refine Only.then (st16_only _ _ _) rfl ?_
  refine Only.then (st16_only _ _ _) rfl ?_
  refine Only.then (st16_only _ _ _) rfl ?_
  refine Only.then (st16_only _ _ _) rfl ?_
  refine Only.then (st16_only _ _ _) rfl ?_
  exact Only.refl _ _

theorem thmBoot_only (s : Dev) :
    Only [.mem, .thm] s (thmBoot s) := by
  unfold thmBoot
  try dsimp only
  refine Only.forN ?_ ?_
  · refine Only.forL ?_ ?_
    · refine Only.then (stBytes_only _ _ _) rfl ?_
      refine Only.upd_thm rfl ?_
      exact Only.refl _ _
    · intro u x
      try dsimp only
      refine Only.then (setInState_only _ _ _) rfl ?_
      exact Only.refl _ _
  · intro u x
    try dsimp only
    refine Only.ite_else ?_ ?_
    · exact Only.refl _ _
    · refine Only.then (thmFlags_only _ _ _) rfl ?_
      exact Only.refl _ _

theorem bootSettings_only (s : Dev) :
    Only [.regs, .mem, .acq, .lim, .thm, .strs, .bus, .exe, .host, .can, .cnt, .log, .inForce] s (bootSettings s) := by
  unfold bootSettings
  try dsimp only
  refine Only.then (syncHp_only _) rfl ?_
  refine Only.ite_then ?_ ?_
  · refine Only.ite_else ?_ ?_
    · refine Only.ite_else ?_ ?_
      · refine Only.ite_else ?_ ?_
        · refine Only.forN ?_ ?_
          · refine Only.upd_exe rfl ?_
            refine Only.then (wrB_only _ _ _ _) rfl ?_
            refine Only.then (feedWrite_only _ _) rfl ?_
            exact Only.refl _ _
          · intro u x
            try dsimp only
            refine Only.then (setPair_only _ _ _) rfl ?_
            exact Only.refl _ _
        · refine Only.then (wrF_only _ _ _ _ _) rfl ?_
          refine Only.then (wrB_only _ _ _ _) rfl ?_
          refine Only.then (wrF_only _ _ _ _ _) rfl ?_
          refine Only.then (pisteStage_only _ _) rfl ?_
          refine Only.upd_acq rfl ?_
          refine Only.then (cfgTake_only _ _) rfl ?_
          refine Only.then (restoreWear_only _) rfl ?_
          exact Only.refl _ _
      · refine Only.then (thmBoot_only _) rfl ?_
        refine Only.then (cfgTake_only _ _) rfl ?_
        refine Only.forN ?_ ?_
        · exact Only.refl _ _
        · intro u x
          try dsimp only
          refine Only.then (canRestrict_only _ _) rfl ?_
          refine Only.then (canApply_only _ _) rfl ?_
          refine Only.then (fltBuild_only _ _) rfl ?_
          exact Only.refl _ _
    · refine Only.then (cfgTake_only _ _) rfl ?_
      exact Only.refl _ _
  · refine Only.then (note_only _ _ _ _) rfl ?_
    refine Only.then (wrB_only _ _ _ _) rfl ?_
    exact Only.refl _ _

theorem bootRun_only (s : Dev) (x1 x2 x3 : Nat) :
    Only [.dev, .regs, .mem, .win, .parCfg, .parNow, .tb, .piste, .rings, .acq, .est, .chg, .lim, .thm, .strs, .bus, .saf, .exe, .host, .cl, .can, .cnt, .log, .pwr, .inForce, .uptimeMs, .actor, .busErr, .readVal, .posts] s (bootRun s x1 x2 x3) := by
  unfold bootRun
  try dsimp only
  refine Only.ite ?_ ?_
  · refine Only.then (enterRecovery_only _ _) rfl ?_
    refine Only.then (tornEvents_only _ _) rfl ?_
    refine Only.then (coreEvents_only _ _ _) rfl ?_
    refine Only.forL ?_ ?_
    · refine Only.then (bootLog_only _) rfl ?_
      refine Only.ite_else ?_ ?_
      · refine Only.upd_pwr rfl ?_
        refine Only.then (wrN_only _ _ _) rfl ?_
        refine Only.upd_pwr rfl ?_
        refine Only.then (ringScan_only _) rfl ?_
        refine Only.then (formPairs_only _ _ _) rfl ?_
        refine Only.then (tbReenter_only _) rfl ?_
        refine Only.upd_tb rfl ?_
        refine Only.ite_else ?_ ?_
        · refine Only.upd_dev_pwr rfl ?_
          refine Only.then (resetDev_only _) rfl ?_
          exact Only.refl _ _
        · refine Only.then (wr_only _ _ _) rfl ?_
          exact Only.refl _ _
      · refine Only.then (bootNow_only _) rfl ?_
        exact Only.refl _ _
    · intro u x
      try dsimp only
      refine Only.then (note_only _ _ _ _) rfl ?_
      exact Only.refl _ _
  · refine Only.then (bootRecords_only _ _ _ _) rfl ?_
    refine Only.then (bootSettings_only _) rfl ?_
    refine Only.ite_else ?_ ?_
    · refine Only.ite_fst ?_ ?_
      · refine Only.then (restoreConfig_only _) rfl ?_
        refine Only.then (tornEvents_only _ _) rfl ?_
        refine Only.then (coreEvents_only _ _ _) rfl ?_
        refine Only.forL ?_ ?_
        · refine Only.then (bootLog_only _) rfl ?_
          refine Only.ite_else ?_ ?_
          · refine Only.upd_pwr rfl ?_
            refine Only.then (wrN_only _ _ _) rfl ?_
            refine Only.upd_pwr rfl ?_
            refine Only.then (ringScan_only _) rfl ?_
            refine Only.then (formPairs_only _ _ _) rfl ?_
            refine Only.then (tbReenter_only _) rfl ?_
            refine Only.upd_tb rfl ?_
            refine Only.ite_else ?_ ?_
            · refine Only.upd_dev_pwr rfl ?_
              refine Only.then (resetDev_only _) rfl ?_
              exact Only.refl _ _
            · refine Only.then (wr_only _ _ _) rfl ?_
              exact Only.refl _ _
          · refine Only.then (bootNow_only _) rfl ?_
            exact Only.refl _ _
        · intro u x
          try dsimp only
          refine Only.then (note_only _ _ _ _) rfl ?_
          exact Only.refl _ _
      · dsimp only
        refine Only.then (tornEvents_only _ _) rfl ?_
        refine Only.then (coreEvents_only _ _ _) rfl ?_
        refine Only.forL ?_ ?_
        · refine Only.then (bootLog_only _) rfl ?_
          refine Only.ite_else ?_ ?_
          · refine Only.upd_pwr rfl ?_
            refine Only.then (wrN_only _ _ _) rfl ?_
            refine Only.upd_pwr rfl ?_
            refine Only.then (ringScan_only _) rfl ?_
            refine Only.then (formPairs_only _ _ _) rfl ?_
            refine Only.then (tbReenter_only _) rfl ?_
            refine Only.upd_tb rfl ?_
            refine Only.ite_else ?_ ?_
            · refine Only.upd_dev_pwr rfl ?_
              refine Only.then (resetDev_only _) rfl ?_
              exact Only.refl _ _
            · refine Only.then (wr_only _ _ _) rfl ?_
              exact Only.refl _ _
          · refine Only.then (bootNow_only _) rfl ?_
            exact Only.refl _ _
        · intro u x
          try dsimp only
          refine Only.then (note_only _ _ _ _) rfl ?_
          exact Only.refl _ _
    · refine Only.then (mapWrite_only _ _) rfl ?_
      exact Only.refl _ _

theorem activationRestart_only (x0 x1 : Nat) (s : Dev) :
    Only [.dev, .regs, .mem, .win, .parCfg, .parNow, .tb, .piste, .rings, .acq, .est, .chg, .lim, .thm, .strs, .bus, .saf, .exe, .host, .cl, .can, .cnt, .log, .pwr, .inForce, .uptimeMs, .actor, .busErr, .readVal, .posts] s (activationRestart x0 x1 s) := by
  unfold activationRestart
  try dsimp only
  split
  · exact Only.refl _ _
  · refine Only.ite_then ?_ ?_
    · exact Only.refl _ _
    · refine Only.then (bootRun_only _ _ _ _) rfl ?_
      apply Only.via
      · apply Only.upd_pwr rfl
        exact Only.refl _ _
      · refine Only.then (bootNow_only _) rfl ?_
        refine Only.upd_pwr rfl ?_
        exact Only.refl _ _
      · refine Only.then (logClose_only _ _) rfl ?_
        refine Only.upd_pwr rfl ?_
        refine Only.ite_then ?_ ?_
        · exact Only.refl _ _
        · refine Only.then (endNow_only _) rfl ?_
          refine Only.then (retDeliver_only _ _ _ _ _) rfl ?_
          refine Only.then (stageSave_only _) rfl ?_
          exact Only.refl _ _

theorem activeWrite_only (s : Dev) (x1 : Nat × Nat) (x2 : Bool) :
    Only [.exe] s (activeWrite s x1 x2) := by
  unfold activeWrite
  try dsimp only
  refine Only.ite_else ?_ ?_
  · exact Only.refl _ _
  · refine Only.then (sendConfig_only _ _ _ _ _ _) rfl ?_
    exact Only.refl _ _

theorem setWin_only (s : Dev) (x1 : Bool) (x2 : Window220) :
    Only [.lim] s (setWin s x1 x2) := by
  unfold setWin
  try dsimp only
  refine Only.ite ?_ ?_
  · refine Only.upd_lim rfl ?_
    exact Only.refl _ _
  · refine Only.upd_lim rfl ?_
    exact Only.refl _ _

theorem advanceSteps_only (s : Dev) (x1 x2 : Bool) :
    Only [.lim] s (advanceSteps s x1 x2) := by
  unfold advanceSteps
  try dsimp only
  split
  · exact Only.refl _ _
  · refine Only.then (setWin_only _ _ _) rfl ?_
    exact Only.refl _ _

theorem latchCycle_only (s : Dev) :
    Only [.regs] s (latchCycle s) := by
  unfold latchCycle
  try dsimp only
  refine Only.then (wrN_only _ _ _) rfl ?_
  refine Only.then (wrN_only _ _ _) rfl ?_
  exact Only.refl _ _

theorem angleTake_only (x0 : U32) (s : Dev) :
    Only [.regs, .readVal] s (angleTake x0 s) := by
  unfold angleTake
  try dsimp only
  refine Only.upd_readVal rfl ?_
  refine Only.then (latchCycle_only _) rfl ?_
  refine Only.then (wr_only _ _ _) rfl ?_
  exact Only.refl _ _

theorem applyUmap_only (s : Dev) (x1 : List (Nat × List U32)) :
    Only [.regs, .mem, .acq, .est, .chg, .thm, .exe, .log, .inForce] s (applyUmap s x1) := by
  unfold applyUmap
  try dsimp only
  refine Only.forL ?_ ?_
  · refine Only.forL ?_ ?_
    · refine Only.then (mapWrite_only _ _) rfl ?_
      exact Only.refl _ _
    · intro u x
      try dsimp only
      refine Only.forL ?_ ?_
      · exact Only.refl _ _
      · intro u x
        try dsimp only
        refine Only.then (restoreCell_only _ _ _ _) rfl ?_
        exact Only.refl _ _
  · intro u x
    try dsimp only
    refine Only.then (restoreStr_only _ _ _ _) rfl ?_
    exact Only.refl _ _

theorem scrLoad_only (s : Dev) :
    Only [.exe] s (scrLoad s) := by
  unfold scrLoad
  try dsimp only
  refine Only.then (emit_only _ _ _) rfl ?_
  exact Only.refl _ _

theorem umapTry_only (s : Dev) :
    Only [.dev, .regs, .mem, .acq, .est, .chg, .lim, .thm, .strs, .saf, .exe, .can, .log, .inForce] s (umapTry s) := by
  unfold umapTry
  try dsimp only
  refine Only.ite_then ?_ ?_
  · exact Only.refl _ _
  · refine Only.forL ?_ ?_
    · refine Only.ite_else ?_ ?_
      · refine Only.ite_then ?_ ?_
        · refine Only.then (applyUmap_only _ _) rfl ?_
          refine Only.upd_acq rfl ?_
          exact Only.refl _ _
        · refine Only.then (tableFaults_only _) rfl ?_
          exact Only.refl _ _
      · refine Only.then (scrLoad_only _) rfl ?_
        exact Only.refl _ _
    · intro u x
      try dsimp only
      refine Only.then (activeWrite_only _ _ _) rfl ?_
      exact Only.refl _ _

theorem ringOff_only (s : Dev) (x1 : Nat) :
    Only [.dev, .regs, .rings, .strs, .saf, .exe, .host, .log, .pwr, .inForce] s (ringOff s x1) := by
  unfold ringOff
  try dsimp only
  refine Only.then (enumAnswers_only _) rfl ?_
  refine Only.then (exchDrop_only _ _ _) rfl ?_
  refine Only.then (setRing_only _ _ _) rfl ?_
  refine Only.then (setMode_only _ _ _) rfl ?_
  refine Only.then (wrF_only _ _ _ _ _) rfl ?_
  exact Only.refl _ _

theorem linklossPush_only (s : Dev) :
    Only [.rings, .exe] s (linklossPush s) := by
  unfold linklossPush
  try dsimp only
  refine Only.forL ?_ ?_
  · exact Only.refl _ _
  · intro u x
    try dsimp only
    refine Only.ite_else ?_ ?_
    · exact Only.refl _ _
    · refine Only.then (programRing_only _ _ _) rfl ?_
      exact Only.refl _ _

theorem cfgWrite_only (s : Dev) (x1 : Nat) (x2 : List (Nat × U32 × U32)) :
    Only [.exe] s (cfgWrite s x1 x2) := by
  unfold cfgWrite
  try dsimp only
  refine Only.ite_then ?_ ?_
  · exact Only.refl _ _
  · refine Only.then (emit_only _ _ _) rfl ?_
    exact Only.refl _ _

theorem cycleRegs_only (s : Dev) (x1 : Bool) :
    Only [.dev, .regs, .tb, .rings, .strs, .saf, .exe, .host, .log, .pwr, .inForce] s (cycleRegs s x1) := by
  unfold cycleRegs
  try dsimp only
  refine Only.then (cfgWrite_only _ _ _) rfl ?_
  refine Only.then (estWrite_only _ _) rfl ?_
  refine Only.then (linklossPush_only _) rfl ?_
  refine Only.forN ?_ ?_
  · refine Only.ite_then ?_ ?_
    · exact Only.refl _ _
    · refine Only.then (wrN_only _ _ _) rfl ?_
      refine Only.upd_tb rfl ?_
      exact Only.refl _ _
  · intro u x
    try dsimp only
    refine Only.ite ?_ ?_
    · refine Only.then (ringOff_only _ _) rfl ?_
      exact Only.refl _ _
    · refine Only.then (wrB_only _ _ _ _) rfl ?_
      exact Only.refl _ _

theorem hibLog_only (s : Dev) :
    Only [.regs, .mem, .exe, .host, .log, .inForce, .posts] s (hibLog s) := by
  unfold hibLog
  try dsimp only
  refine Only.then (logClose_only _ _) rfl ?_
  refine Only.then (post_only _ _ _ _) rfl ?_
  exact Only.refl _ _

theorem hibArm_only (s : Dev) :
    Only [.exe] s (hibArm s) := by
  unfold hibArm
  try dsimp only
  refine Only.then (cfgWrite_only _ _ _) rfl ?_
  refine Only.then (cfgWrite_only _ _ _) rfl ?_
  exact Only.refl _ _

theorem hibAdvance_only (s : Dev) :
    Only [.regs, .mem, .exe, .host, .log, .pwr, .inForce, .posts] s (hibAdvance s) := by
  unfold hibAdvance
  try dsimp only
  refine Only.ite_else ?_ ?_
  · refine Only.ite_else ?_ ?_
    · exact Only.refl _ _
    · refine Only.upd_pwr rfl ?_
      refine Only.then (hibLog_only _) rfl ?_
      exact Only.refl _ _
  · refine Only.upd_pwr rfl ?_
    refine Only.then (hibArm_only _) rfl ?_
    exact Only.refl _ _

theorem retireGates_only (s : Dev) :
    Only [.piste, .log, .inForce] s (retireGates s) := by
  unfold retireGates
  try dsimp only
  refine Only.forL ?_ ?_
  · refine Only.upd_piste rfl ?_
    exact Only.refl _ _
  · intro u x
    try dsimp only
    refine Only.then (clearCond_only _ _ _ _ _) rfl ?_
    refine Only.then (clearCond_only _ _ _ _ _) rfl ?_
    exact Only.refl _ _

theorem pisteSwap_only (s : Dev) :
    Only [.regs, .piste, .log, .inForce] s (pisteSwap s).2 := by
  unfold pisteSwap
  try dsimp only
  split
  · dsimp only
    refine Only.then (post_only _ _ _ _) rfl ?_
    refine Only.then (wrF_only _ _ _ _ _) rfl ?_
    refine Only.then (wrF_only _ _ _ _ _) rfl ?_
    refine Only.then (retireGates_only _) rfl ?_
    refine Only.then (wrB_only _ _ _ _) rfl ?_
    exact Only.refl _ _
  · dsimp only
    refine Only.then (note_only _ _ _ _) rfl ?_
    refine Only.then (wrB_only _ _ _ _) rfl ?_
    refine Only.then (wrF_only _ _ _ _ _) rfl ?_
    refine Only.then (wrB_only _ _ _ _) rfl ?_
    exact Only.refl _ _

theorem pisteAtZero_only (s : Dev) :
    Only [.regs, .piste, .acq, .exe, .log, .inForce] s (pisteAtZero s) := by
  unfold pisteAtZero
  try dsimp only
  refine Only.ite ?_ ?_
  · refine Only.ite_else ?_ ?_
    · refine Only.then (pisteSwap_only _) rfl ?_
      refine Only.then (pisteStage_only _ _) rfl ?_
      exact Only.refl _ _
    · refine Only.then (acqEnter_only _ _) rfl ?_
      exact Only.refl _ _
  · refine Only.ite ?_ ?_
    · refine Only.then (pisteSwap_only _) rfl ?_
      exact Only.refl _ _
    · exact Only.refl _ _

theorem regsAtZero_only (s : Dev) :
    Only [.dev, .regs, .mem, .tb, .piste, .rings, .acq, .est, .chg, .lim, .thm, .strs, .saf, .exe, .host, .can, .log, .pwr, .inForce, .posts] s (regsAtZero s) := by
  unfold regsAtZero
  try dsimp only
  refine Only.ite_then ?_ ?_
  · refine Only.ite_else ?_ ?_
    · refine Only.then (pisteAtZero_only _) rfl ?_
      refine Only.ite_else ?_ ?_
      · refine Only.then (umapTry_only _) rfl ?_
        refine Only.then (cycleRegs_only _ _) rfl ?_
        exact Only.refl _ _
      · refine Only.then (hibAdvance_only _) rfl ?_
        refine Only.upd_pwr rfl ?_
        exact Only.refl _ _
    · refine Only.then (wrN_only _ _ _) rfl ?_
      exact Only.refl _ _
  · refine Only.ite_then ?_ ?_
    · refine Only.then (tbReenter_only _) rfl ?_
      exact Only.refl _ _
    · refine Only.then (modeChange_only _ _ _ _ _) rfl ?_
      exact Only.refl _ _

theorem promote_only (s : Dev) (x1 : Params.Takes) :
    Only [.parNow] s (promote s x1) := by
  unfold promote
  try dsimp only
  refine Only.upd_parNow rfl ?_
  exact Only.refl _ _

theorem healthAll_only (s : Dev) :
    Only [.mem, .log, .inForce] s (healthAll s) := by
  unfold healthAll
  try dsimp only
  refine Only.forL ?_ ?_
  · exact Only.refl _ _
  · intro u x
    try dsimp only
    refine Only.then (strHealth_only _ _) rfl ?_
    refine Only.forL ?_ ?_
    · exact Only.refl _ _
    · intro u x
      try dsimp only
      refine Only.then (cellHealth_only _ _ _) rfl ?_
      exact Only.refl _ _

theorem promoteAll_only (s : Dev) (x1 : Params.Takes) :
    Only [.mem, .parNow, .log, .inForce] s (promoteAll s x1) := by
  unfold promoteAll
  try dsimp only
  refine Only.ite_else ?_ ?_
  · refine Only.then (promote_only _ _) rfl ?_
    exact Only.refl _ _
  · refine Only.then (healthAll_only _) rfl ?_
    exact Only.refl _ _

theorem balCycle_only (s : Dev) :
    Only [.acq] s (balCycle s) := by
  unfold balCycle
  try dsimp only
  refine Only.upd_acq rfl ?_
  exact Only.refl _ _

theorem clearCycleMarks_only (s : Dev) :
    Only [.rings, .acq, .cl, .pwr, .inForce] s (clearCycleMarks s) := by
  unfold clearCycleMarks
  try dsimp only
  refine Only.forL ?_ ?_
  · refine Only.upd_cl_pwr_inForce rfl ?_
    refine Only.then (balCycle_only _) rfl ?_
    exact Only.refl _ _
  · intro u x
    try dsimp only
    refine Only.then (setRing_only _ _ _) rfl ?_
    exact Only.refl _ _

theorem tbWrap_only (s : Dev) (x1 : U32) :
    Only [.regs, .tb] s (tbWrap s x1) := by
  unfold tbWrap
  try dsimp only
  refine Only.ite_else ?_ ?_
  · refine Only.then (wrN_only _ _ _) rfl ?_
    refine Only.then (wr_only _ _ _) rfl ?_
    refine Only.then (wr_only _ _ _) rfl ?_
    refine Only.then (wr_only _ _ _) rfl ?_
    refine Only.then (wrN_only _ _ _) rfl ?_
    refine Only.ite_else ?_ ?_
    · refine Only.upd_tb rfl ?_
      exact Only.refl _ _
    · refine Only.then (wrB_only _ _ _ _) rfl ?_
      exact Only.refl _ _
  · refine Only.then (wrN_only _ _ _) rfl ?_
    refine Only.upd_tb rfl ?_
    exact Only.refl _ _

theorem vitrineFreeze_only (s : Dev) :
    Only [.regs, .exe, .host, .cnt] s (vitrineFreeze s) := by
  unfold vitrineFreeze
  try dsimp only
  refine Only.ite_else ?_ ?_
  · exact Only.refl _ _
  · refine Only.forL ?_ ?_
    · refine Only.upd_cnt rfl ?_
      refine Only.then (wrB_only _ _ _ _) rfl ?_
      refine Only.then (wrB_only _ _ _ _) rfl ?_
      refine Only.then (wrN_only _ _ _) rfl ?_
      refine Only.then (wrN_only _ _ _) rfl ?_
      refine Only.forN ?_ ?_
      · exact Only.refl _ _
      · intro u x
        try dsimp only
        refine Only.then (wrN_only _ _ _) rfl ?_
        refine Only.then (wrN_only _ _ _) rfl ?_
        exact Only.refl _ _
    · intro u x
      try dsimp only
      refine Only.then (finish_only _ _ _ _ _) rfl ?_
      exact Only.refl _ _

theorem captureMode_only (s : Dev) :
    Only [.regs, .cnt, .log] s (captureMode s) := by
  unfold captureMode
  try dsimp only
  refine Only.ite_then ?_ ?_
  · exact Only.refl _ _
  · refine Only.then (modeChange_only _ _ _ _ _) rfl ?_
    refine Only.upd_cnt rfl ?_
    refine Only.then (wrB_only _ _ _ _) rfl ?_
    refine Only.then (wrB_only _ _ _ _) rfl ?_
    exact Only.refl _ _

theorem cycleStep_only (s : Dev) (x1 : Int) :
    Only [.regs, .tb, .log] s (cycleStep s x1) := by
  unfold cycleStep
  try dsimp only
  refine Only.then (post_only _ _ _ _) rfl ?_
  refine Only.ite_else ?_ ?_
  · refine Only.then (wrB_only _ _ _ _) rfl ?_
    refine Only.upd_tb rfl ?_
    exact Only.refl _ _
  · refine Only.then (wrB_only _ _ _ _) rfl ?_
    exact Only.refl _ _

theorem stepsDue_only (s : Dev) :
    Only [.regs, .tb, .exe, .host, .log] s (stepsDue s) := by
  unfold stepsDue
  try dsimp only
  split
  · split
    · refine Only.then (cycleStep_only _ _) rfl ?_
      refine Only.upd_tb rfl ?_
      exact Only.refl _ _
    · exact Only.refl _ _
  · split
    · refine Only.then (finish_only _ _ _ _ _) rfl ?_
      refine Only.upd_host rfl ?_
      refine Only.then (cycleStep_only _ _) rfl ?_
      refine Only.upd_tb rfl ?_
      split
      · refine Only.then (cycleStep_only _ _) rfl ?_
        refine Only.upd_tb rfl ?_
        exact Only.refl _ _
      · exact Only.refl _ _
    · refine Only.then (cycleStep_only _ _) rfl ?_
      refine Only.upd_tb rfl ?_
      split
      · refine Only.then (cycleStep_only _ _) rfl ?_
        refine Only.upd_tb rfl ?_
        exact Only.refl _ _
      · exact Only.refl _ _

theorem dumpCapture_only (s : Dev) :
    Only [.regs, .cnt, .log] s (dumpCapture s) := by
  unfold dumpCapture
  try dsimp only
  refine Only.ite_then ?_ ?_
  · exact Only.refl _ _
  · refine Only.ite ?_ ?_
    · refine Only.ite_then ?_ ?_
      · refine Only.upd_cnt rfl ?_
        refine Only.then (wrB_only _ _ _ _) rfl ?_
        exact Only.refl _ _
      · refine Only.then (post_only _ _ _ _) rfl ?_
        exact Only.refl _ _
    · refine Only.upd_cnt rfl ?_
      refine Only.then (wrB_only _ _ _ _) rfl ?_
      exact Only.refl _ _

theorem angleZero_only (x0 : U32) (s : Dev) :
    Only [.dev, .regs, .mem, .parNow, .tb, .piste, .rings, .acq, .est, .chg, .lim, .thm, .strs, .saf, .exe, .host, .cl, .can, .cnt, .log, .pwr, .inForce, .posts] s (angleZero x0 s) := by
  unfold angleZero
  try dsimp only
  refine Only.ite_then ?_ ?_
  · exact Only.refl _ _
  · refine Only.then (stepsDue_only _) rfl ?_
    refine Only.then (dumpCapture_only _) rfl ?_
    refine Only.ite_then ?_ ?_
    · refine Only.then (vitrineFreeze_only _) rfl ?_
      refine Only.then (regsAtZero_only _) rfl ?_
      refine Only.then (promoteAll_only _ _) rfl ?_
      refine Only.then (clearCycleMarks_only _) rfl ?_
      refine Only.then (tbWrap_only _ _) rfl ?_
      exact Only.refl _ _
    · refine Only.then (captureMode_only _) rfl ?_
      exact Only.refl _ _

theorem answerBare_only (s : Dev) (x1 : Nat) (x2 : HostCmd) (x3 : Nat) :
    Only [.exe, .host] s (answerBare s x1 x2 x3) := by
  unfold answerBare
  try dsimp only
  refine Only.then (releaseReply_only _ _) rfl ?_
  refine Only.then (recordOutcome_only _ _ _ _ _ _) rfl ?_
  refine Only.then (dropFlight_only _ _) rfl ?_
  exact Only.refl _ _

theorem setStrBit_only (s : Dev) (x1 x2 : Nat) (x3 : Bool) :
    Only [.regs] s (setStrBit s x1 x2 x3) := by
  unfold setStrBit
  try dsimp only
  refine Only.then (wrB_only _ _ _ _) rfl ?_
  exact Only.refl _ _

theorem applySwaps_only (s : Dev) :
    Only [.regs, .est] s (applySwaps s) := by
  unfold applySwaps
  try dsimp only
  refine Only.upd_est rfl ?_
  refine Only.forN ?_ ?_
  · exact Only.refl _ _
  · intro u x
    try dsimp only
    refine Only.ite_else ?_ ?_
    · exact Only.refl _ _
    · refine Only.then (setStrBit_only _ _ _ _) rfl ?_
      refine Only.then (setStrBit_only _ _ _ _) rfl ?_
      exact Only.refl _ _

theorem arbLost_only (s : Dev) (x1 : Nat) (x2 : Attempt) :
    Only [.regs, .can] s (arbLost s x1 x2) := by
  unfold arbLost
  try dsimp only
  refine Only.then (countEv_only _ _ _ _) rfl ?_
  refine Only.then (setHead_only _ _ _ _ _) rfl ?_
  exact Only.refl _ _

theorem askedNote_only (s : Dev) (x1 x2 x3 : Nat) :
    Only [.strs, .log, .inForce, .actor] s (askedNote s x1 x2 x3) := by
  unfold askedNote
  dsimp only
  refine Only.then (setStr_only _ _ _) rfl (Only.upd_actor rfl ?_)
  exact Only.then (note_only _ _ _ _) rfl (Only.upd_actor rfl (Only.refl _ _))

theorem refuseNodes_only (s : Dev) (x1 : Nat) (x2 : Nat → Bool) :
    Only [.rings, .log, .inForce] s (refuseNodes s x1 x2) := by
  unfold refuseNodes
  try dsimp only
  split
  · refine Only.then (raise_only _ _ _ _ _) rfl ?_
    refine Only.then (setRing_only _ _ _) rfl ?_
    exact Only.refl _ _
  · refine Only.then (setRing_only _ _ _) rfl ?_
    exact Only.refl _ _

theorem refuseFar_only (s : Dev) (x1 : Nat) :
    Only [.rings, .log, .inForce] s (refuseFar s x1) := by
  unfold refuseFar
  try dsimp only
  refine Only.then (refuseNodes_only _ _ _) rfl ?_
  exact Only.refl _ _

theorem latFromTotal_only (s : Dev) (x1 x2 x3 : Nat) :
    Only [.regs, .rings] s (latFromTotal s x1 x2 x3) := by
  unfold latFromTotal
  try dsimp only
  refine Only.then (setRing_only _ _ _) rfl ?_
  refine Only.then (wrN_only _ _ _) rfl ?_
  exact Only.refl _ _

theorem assignAckTimeout_only (x0 : Nat) (x1 : Bool) (x2 : Nat) (s : Dev) :
    Only [.regs, .rings, .exe, .host, .log, .inForce] s (assignAckTimeout x0 x1 x2 s) := by
  unfold assignAckTimeout
  try dsimp only
  split
  · exact Only.refl _ _
  · refine Only.ite_then ?_ ?_
    · exact Only.refl _ _
    · refine Only.ite ?_ ?_
      · refine Only.then (setRing_only _ _ _) rfl ?_
        exact Only.refl _ _
      · refine Only.ite ?_ ?_
        · refine Only.then (enumBroken_only _ _ _) rfl ?_
          exact Only.refl _ _
        · refine Only.ite ?_ ?_
          · refine Only.then (enumEnd_only _ _ _) rfl ?_
            refine Only.then (sendEnum_only _ _ _ _ _) rfl ?_
            refine Only.then (refuseFar_only _ _) rfl ?_
            refine Only.then (latFromTotal_only _ _ _ _) rfl ?_
            exact Only.refl _ _
          · refine Only.then (enumNext_only _ _ _) rfl ?_
            exact Only.refl _ _

theorem attemptFrom_only (x0 : Nat) (x1 : U32) (x2 : Nat) (s : Dev) :
    Only [.regs, .mem, .lim, .exe, .host, .can] s (attemptFrom x0 x1 x2 s) := by
  induction x2 generalizing s with
  | zero => exact Only.refl _ _
  | succ k ih =>
    unfold attemptFrom
    refine Only.ite (Only.refl _ _) ?_
    split
    · exact Only.refl _ _
    · dsimp only
      refine Only.ite (Only.trans ?_ (ih _)) ?_
      · exact Only.then (holdCheck_only _ _) rfl (Only.then (leaveElem_only _ _ _ _ _ _) rfl (Only.refl _ _))
      · refine Only.then (canSync_only _ _) rfl (Only.then (setCan_only _ _ _) rfl ?_)
        exact Only.then (setHead_only _ _ _ _ _) rfl (Only.refl _ _)

theorem auditCopy_only (s : Dev) (x1 : Pass) (x2 : List Nat) :
    Only [.mem] s (auditCopy s x1 x2) := by
  unfold auditCopy
  try dsimp only
  refine Only.forL ?_ ?_
  · refine Only.forL ?_ ?_
    · refine Only.then (stWords_only _ _ _) rfl ?_
      refine Only.then (stWords_only _ _ _) rfl ?_
      refine Only.then (st32_only _ _ _) rfl ?_
      refine Only.then (st32_only _ _ _) rfl ?_
      refine Only.then (st16_only _ _ _) rfl ?_
      refine Only.then (st32_only _ _ _) rfl ?_
      refine Only.then (st32_only _ _ _) rfl ?_
      refine Only.then (clearMem_only _ _ _) rfl ?_
      exact Only.refl _ _
    · intro u x
      try dsimp only
      refine Only.upd_mem rfl (Memory.wf_copy _ _ _ _) ?_
      exact Only.refl _ _
  · intro u x
    try dsimp only
    refine Only.upd_mem rfl (Memory.wf_copy _ _ _ _) ?_
    exact Only.refl _ _

theorem setCopies_only (s : Dev) :
    Only [.dev, .mem, .est, .lim, .strs, .saf, .exe, .can, .log, .inForce] s (setCopies s) := by
  unfold setCopies
  try dsimp only
  refine Only.ite_then ?_ ?_
  · exact Only.refl _ _
  · refine Only.then (tableFaults_only _) rfl ?_
    refine Only.upd_est rfl ?_
    refine Only.forL ?_ ?_
    · exact Only.refl _ _
    · intro u x
      try dsimp only
      refine Only.then (copySet_only _ _) rfl ?_
      exact Only.refl _ _

theorem catalogueReply_only (s : Dev) (x1 : HostCmd) :
    Only [.exe, .host] s (catalogueReply s x1) := by
  unfold catalogueReply
  try dsimp only
  refine Only.then (finish_only _ _ _ _ _) rfl ?_
  exact Only.refl _ _

theorem catalogueWaiting_only (s : Dev) :
    Only [.exe, .host] s (catalogueWaiting s) := by
  unfold catalogueWaiting
  try dsimp only
  refine Only.forL ?_ ?_
  · refine Only.upd_host rfl ?_
    exact Only.refl _ _
  · intro u x
    try dsimp only
    refine Only.then (catalogueReply_only _ _) rfl ?_
    exact Only.refl _ _

theorem startBoot_only (s : Dev) :
    Only [.mem, .exe, .pwr] s (startBoot s) := by
  unfold startBoot
  try dsimp only
  refine Only.then (emit_only _ _ _) rfl ?_
  refine Only.then (stageBoot_only _) rfl ?_
  exact Only.refl _ _

theorem trySave_only (s : Dev) :
    Only [.mem, .exe, .pwr] s (trySave s) := by
  unfold trySave
  try dsimp only
  refine Only.ite_else ?_ ?_
  · exact Only.refl _ _
  · refine Only.then (emit_only _ _ _) rfl ?_
    refine Only.upd_pwr rfl ?_
    refine Only.then (stageSave_only _) rfl ?_
    exact Only.refl _ _

theorem pumpTxns_only (s : Dev) :
    Only [.mem, .exe, .pwr] s (pumpTxns s) := by
  unfold pumpTxns
  try dsimp only
  refine Only.ite ?_ ?_
  · exact Only.refl _ _
  · refine Only.ite ?_ ?_
    · refine Only.upd_pwr rfl ?_
      exact Only.refl _ _
    · refine Only.ite ?_ ?_
      · refine Only.then (startBoot_only _) rfl ?_
        exact Only.refl _ _
      · refine Only.ite ?_ ?_
        · split
          · refine Only.then (emit_only _ _ _) rfl ?_
            refine Only.upd_pwr rfl ?_
            exact Only.refl _ _
          · refine Only.upd_pwr rfl ?_
            exact Only.refl _ _
        · refine Only.ite ?_ ?_
          · split
            · refine Only.then (emit_only _ _ _) rfl ?_
              refine Only.upd_pwr rfl ?_
              exact Only.refl _ _
            · refine Only.upd_pwr rfl ?_
              exact Only.refl _ _
          · refine Only.ite ?_ ?_
            · refine Only.then (emit_only _ _ _) rfl ?_
              refine Only.upd_exe rfl ?_
              refine Only.then (stBytes_only _ _ _) rfl ?_
              exact Only.refl _ _
            · refine Only.then (trySave_only _) rfl ?_
              exact Only.refl _ _

theorem auditDone_only (s : Dev) :
    Only [.dev, .mem, .est, .lim, .strs, .saf, .exe, .host, .can, .log, .pwr, .inForce] s (auditDone s) := by
  unfold auditDone
  try dsimp only
  refine Only.ite_then ?_ ?_
  · exact Only.refl _ _
  · refine Only.then (catalogueWaiting_only _) rfl ?_
    refine Only.then (pumpTxns_only _) rfl ?_
    refine Only.upd_pwr rfl ?_
    refine Only.ite_else ?_ ?_
    · refine Only.then (setCopies_only _) rfl ?_
      exact Only.refl _ _
    · refine Only.then (healthAll_only _) rfl ?_
      exact Only.refl _ _

theorem setHflag_only (s : Dev) (x1 x2 : Nat) (x3 : Bool) :
    Only [.mem] s (setHflag s x1 x2 x3) := by
  unfold setHflag
  try dsimp only
  refine Only.then (st16_only _ _ _) rfl ?_
  exact Only.refl _ _

theorem learnAbort_only (s : Dev) (x1 x2 : Nat) :
    Only [.mem, .log] s (learnAbort s x1 x2) := by
  unfold learnAbort
  try dsimp only
  refine Only.ite_then ?_ ?_
  · exact Only.refl _ _
  · refine Only.then (post_only _ _ _ _) rfl ?_
    refine Only.then (setLstate_only _ _ _) rfl ?_
    exact Only.refl _ _

theorem disagreeCheck_only (s : Dev) (x1 : Nat) :
    Only [.mem, .log, .inForce] s (disagreeCheck s x1) := by
  unfold disagreeCheck
  try dsimp only
  refine Only.forL ?_ ?_
  · exact Only.refl _ _
  · intro u x
    try dsimp only
    split
    · exact Only.refl _ _
    · refine Only.ite_then ?_ ?_
      · refine Only.then (setHflag_only _ _ _ _) rfl ?_
        exact Only.refl _ _
      · refine Only.then (learnAbort_only _ _ _) rfl ?_
        refine Only.then (raise_only _ _ _ _ _) rfl ?_
        refine Only.then (setLflag_only _ _ _ _) rfl ?_
        exact Only.refl _ _

theorem learnFinish_only (s : Dev) (x1 : Nat) :
    Only [.mem, .chg, .log, .pwr, .inForce] s (learnFinish s x1) := by
  unfold learnFinish
  try dsimp only
  refine Only.ite_else ?_ ?_
  · refine Only.ite_then ?_ ?_
    · refine Only.then (saveSoon_only _) rfl ?_
      refine Only.then (strHealth_only _ _) rfl ?_
      refine Only.then (setLstate_only _ _ _) rfl ?_
      refine Only.then (st32_only _ _ _) rfl ?_
      refine Only.then (st32_only _ _ _) rfl ?_
      refine Only.foldl_fst ?_ ?_
      · dsimp only
        exact Only.refl _ _
      · intro u x
        try dsimp only
        refine Only.ite_fst ?_ ?_
        · dsimp only
          refine Only.then (setHflag_only _ _ _ _) rfl ?_
          exact Only.refl _ _
        · refine Only.ite_fst ?_ ?_
          · dsimp only
            refine Only.then (setRecF_only _ _ _ _) rfl ?_
            refine Only.then (setRecF_only _ _ _ _) rfl ?_
            refine Only.then (setHflag_only _ _ _ _) rfl ?_
            exact Only.refl _ _
          · dsimp only
            refine Only.then (cellHealth_only _ _ _) rfl ?_
            refine Only.then (setHflag_only _ _ _ _) rfl ?_
            refine Only.then (setRecF_only _ _ _ _) rfl ?_
            refine Only.then (setRecF_only _ _ _ _) rfl ?_
            refine Only.then (setHflag_only _ _ _ _) rfl ?_
            exact Only.refl _ _
    · refine Only.then (post_only _ _ _ _) rfl ?_
      refine Only.then (setChg_only _ _ _) rfl ?_
      refine Only.then (setLflag_only _ _ _ _) rfl ?_
      exact Only.refl _ _
  · refine Only.then (note_only _ _ _ _) rfl ?_
    exact Only.refl _ _

theorem emptyCheck_only (s : Dev) (x1 : Nat) :
    Only [.mem, .chg, .log, .pwr, .inForce] s (emptyCheck s x1) := by
  unfold emptyCheck
  try dsimp only
  refine Only.ite_then ?_ ?_
  · exact Only.refl _ _
  · refine Only.ite ?_ ?_
    · refine Only.ite ?_ ?_
      · refine Only.then (learnFinish_only _ _) rfl ?_
        refine Only.then (setChg_only _ _ _) rfl ?_
        exact Only.refl _ _
      · refine Only.then (setChg_only _ _ _) rfl ?_
        exact Only.refl _ _
    · refine Only.then (setChg_only _ _ _) rfl ?_
      exact Only.refl _ _

theorem r25Step_only (s : Dev) (x1 x2 : Nat) :
    Only [.mem] s (r25Step s x1 x2) := by
  unfold r25Step
  try dsimp only
  refine Only.ite_then ?_ ?_
  · exact Only.refl _ _
  · refine Only.then (cellHealth_only _ _ _) rfl ?_
    refine Only.then (setRecF_only _ _ _ _) rfl ?_
    exact Only.refl _ _

theorem chgAfterPass_only (s : Dev) :
    Only [.mem, .chg, .log, .pwr, .inForce] s (chgAfterPass s) := by
  unfold chgAfterPass
  try dsimp only
  refine Only.forL ?_ ?_
  · refine Only.forL ?_ ?_
    · refine Only.forL ?_ ?_
      · refine Only.forL ?_ ?_
        · exact Only.refl _ _
        · intro u x
          try dsimp only
          refine Only.then (disagreeCheck_only _ _) rfl ?_
          exact Only.refl _ _
      · intro u x
        try dsimp only
        refine Only.then (emptyCheck_only _ _) rfl ?_
        exact Only.refl _ _
    · intro u x
      try dsimp only
      refine Only.forL ?_ ?_
      · exact Only.refl _ _
      · intro u x
        try dsimp only
        refine Only.then (r25Step_only _ _ _) rfl ?_
        exact Only.refl _ _
  · intro u x
    try dsimp only
    refine Only.then (strHealth_only _ _) rfl ?_
    exact Only.refl _ _

theorem reducerAudit_only (s : Dev) :
    Only [.log, .inForce] s (reducerAudit s) := by
  unfold reducerAudit
  try dsimp only
  split
  · exact Only.refl _ _
  · refine Only.forL ?_ ?_
    · exact Only.refl _ _
    · intro u x
      try dsimp only
      refine Only.ite_then ?_ ?_
      · exact Only.refl _ _
      · refine Only.ite_else ?_ ?_
        · exact Only.refl _ _
        · refine Only.then (raise_only _ _ _ _ _) rfl ?_
          exact Only.refl _ _

theorem innovCheck_only (s : Dev) :
    Only [.est, .log, .inForce] s (innovCheck s) := by
  unfold innovCheck
  try dsimp only
  refine Only.forL ?_ ?_
  · exact Only.refl _ _
  · intro u x
    try dsimp only
    refine Only.ite_then ?_ ?_
    · exact Only.refl _ _
    · refine Only.ite ?_ ?_
      · refine Only.ite_else ?_ ?_
        · refine Only.upd_est rfl ?_
          exact Only.refl _ _
        · refine Only.then (raise_only _ _ _ _ _) rfl ?_
          exact Only.refl _ _
      · refine Only.then (clearCond_only _ _ _ _ _) rfl ?_
        refine Only.upd_est rfl ?_
        exact Only.refl _ _

theorem engineFault_only (s : Dev) :
    Only [.dev, .lim, .strs, .saf, .exe, .can, .log, .inForce] s (engineFault s) := by
  unfold engineFault
  try dsimp only
  refine Only.then (fault3_only _ _ _ _ _ _ _ _) rfl ?_
  refine Only.then (estWrite_only _ _) rfl ?_
  exact Only.refl _ _

theorem fenceLane_only (s : Dev) (x1 : Nat) :
    Only [.dev, .lim, .strs, .saf, .exe, .can, .log, .inForce] s (fenceLane s x1) := by
  unfold fenceLane
  try dsimp only
  refine Only.ite_then ?_ ?_
  · exact Only.refl _ _
  · refine Only.ite ?_ ?_
    · refine Only.then (engineFault_only _) rfl ?_
      exact Only.refl _ _
    · refine Only.then (note_only _ _ _ _) rfl ?_
      refine Only.then (estWrite_only _ _) rfl ?_
      exact Only.refl _ _

theorem auditMiss_only (s : Dev) (x1 x2 : Nat) (x3 : CellRec) :
    Only [.dev, .mem, .est, .lim, .strs, .saf, .exe, .can, .log, .inForce] s (auditMiss s x1 x2 x3) := by
  unfold auditMiss
  try dsimp only
  refine Only.ite_else ?_ ?_
  · refine Only.ite_else ?_ ?_
    · refine Only.ite_then ?_ ?_
      · refine Only.upd_est rfl ?_
        refine Only.then (stBytes_only _ _ _) rfl ?_
        refine Only.then (note_only _ _ _ _) rfl ?_
        exact Only.refl _ _
      · refine Only.then (estWrite_only _ _) rfl ?_
        exact Only.refl _ _
    · refine Only.then (fenceLane_only _ _) rfl ?_
      exact Only.refl _ _
  · refine Only.then (engineFault_only _) rfl ?_
    exact Only.refl _ _

theorem auditRun_only (s : Dev) :
    Only [.dev, .regs, .mem, .est, .lim, .strs, .saf, .exe, .can, .log, .inForce] s (auditRun s) := by
  unfold auditRun
  try dsimp only
  split
  · exact Only.refl _ _
  · refine Only.forL ?_ ?_
    · exact Only.refl _ _
    · intro u x
      try dsimp only
      refine Only.ite_then ?_ ?_
      · exact Only.refl _ _
      · refine Only.ite_then ?_ ?_
        · exact Only.refl _ _
        · refine Only.then (auditMiss_only _ _ _ _) rfl ?_
          exact Only.refl _ _

theorem track_only (s : Dev) (x1 : Bool) (x2 x3 x4 x5 x6 : Nat) :
    Only [.log, .inForce] s (track s x1 x2 x3 x4 x5 x6) := by
  unfold track
  try dsimp only
  refine Only.ite ?_ ?_
  · refine Only.then (raise_only _ _ _ _ _) rfl ?_
    exact Only.refl _ _
  · refine Only.then (clearCond_only _ _ _ _ _) rfl ?_
    exact Only.refl _ _

theorem confCycle_only (s : Dev) (x1 : Nat) :
    Only [.mem, .est, .log, .inForce] s (confCycle s x1) := by
  unfold confCycle
  try dsimp only
  refine Only.then (stN_only _ _ _ _) rfl ?_
  refine Only.ite_else ?_ ?_
  · refine Only.then (track_only _ _ _ _ _ _ _) rfl ?_
    refine Only.then (setConf_only _ _ _) rfl ?_
    exact Only.refl _ _
  · refine Only.then (note_only _ _ _ _) rfl ?_
    refine Only.then (setConf_only _ _ _) rfl ?_
    exact Only.refl _ _

theorem auditGate_only (s : Dev) :
    Only [.dev, .regs, .mem, .est, .chg, .lim, .strs, .saf, .exe, .can, .log, .pwr, .inForce] s (auditGate s) := by
  unfold auditGate
  try dsimp only
  refine Only.forL ?_ ?_
  · refine Only.ite_then ?_ ?_
    · exact Only.refl _ _
    · refine Only.upd_est rfl ?_
      refine Only.then (chgAfterPass_only _) rfl ?_
      refine Only.then (reducerAudit_only _) rfl ?_
      refine Only.then (innovCheck_only _) rfl ?_
      refine Only.then (auditRun_only _) rfl ?_
      exact Only.refl _ _
  · intro u x
    try dsimp only
    refine Only.then (confCycle_only _ _) rfl ?_
    exact Only.refl _ _

theorem endStages_only (s : Dev) (x1 : Nat) :
    Only [.pwr] s (endStages s x1) := by
  unfold endStages
  try dsimp only
  split
  · refine Only.ite_else ?_ ?_
    · split
      · refine Only.ite_else ?_ ?_
        · exact Only.refl _ _
        · refine Only.upd_pwr rfl ?_
          exact Only.refl _ _
      · exact Only.refl _ _
    · refine Only.upd_pwr rfl ?_
      exact Only.refl _ _
  · split
    · refine Only.ite_else ?_ ?_
      · exact Only.refl _ _
      · refine Only.upd_pwr rfl ?_
        exact Only.refl _ _
    · exact Only.refl _ _

theorem dropSession_only (s : Dev) (x1 : Nat) :
    Only [.regs, .exe, .host, .log, .pwr, .inForce] s (dropSession s x1) := by
  unfold dropSession
  try dsimp only
  refine Only.then (syncHp_only _) rfl ?_
  refine Only.forN ?_ ?_
  · refine Only.then (setSess_only _ _ _) rfl ?_
    refine Only.then (endStages_only _ _) rfl ?_
    split
    · refine Only.ite_else ?_ ?_
      · refine Only.forN ?_ ?_
        · refine Only.upd_host rfl ?_
          refine Only.then (endNoticeLoss_only _ _) rfl ?_
          exact Only.refl _ _
        · intro u x
          try dsimp only
          refine Only.then (setPlaces_only _ _ _) rfl ?_
          exact Only.refl _ _
      · refine Only.then (abortTxn_only _ _ _) rfl ?_
        exact Only.refl _ _
    · refine Only.forN ?_ ?_
      · refine Only.upd_host rfl ?_
        refine Only.then (endNoticeLoss_only _ _) rfl ?_
        exact Only.refl _ _
      · intro u x
        try dsimp only
        refine Only.then (setPlaces_only _ _ _) rfl ?_
        exact Only.refl _ _
  · intro u x
    try dsimp only
    refine Only.then (flushQueue_only _ _) rfl ?_
    exact Only.refl _ _

theorem authDeadlineExpiry_only (x0 : Nat) (s : Dev) :
    Only [.regs, .exe, .host, .log, .pwr, .inForce] s (authDeadlineExpiry x0 s) := by
  unfold authDeadlineExpiry
  try dsimp only
  refine Only.ite_then ?_ ?_
  · exact Only.refl _ _
  · refine Only.ite ?_ ?_
    · refine Only.then (dropSession_only _ _) rfl ?_
      exact Only.refl _ _
    · refine Only.ite_else ?_ ?_
      · exact Only.refl _ _
      · refine Only.then (setSess_only _ _ _) rfl ?_
        exact Only.refl _ _

theorem authFail_only (s : Dev) (x1 x2 x3 : Nat) :
    Only [.host, .log, .inForce] s (authFail s x1 x2 x3) := by
  unfold authFail
  try dsimp only
  apply Only.via
  · apply Only.upd_host rfl
    exact Only.refl _ _
  · refine Only.upd_host rfl ?_
    exact Only.refl _ _
  · refine Only.then (note_only _ _ _ _) rfl ?_
    exact Only.refl _ _

theorem authLockoutExpiry_only (x0 : Nat) (s : Dev) :
    Only [.host] s (authLockoutExpiry x0 s) := by
  unfold authLockoutExpiry
  try dsimp only
  refine Only.upd_host rfl ?_
  exact Only.refl _ _

theorem backupTick_only (s : Dev) :
    Only [.saf, .exe] s (backupTick s) := by
  unfold backupTick
  try dsimp only
  refine Only.forL ?_ ?_
  · refine Only.forL ?_ ?_
    · refine Only.upd_saf rfl ?_
      exact Only.refl _ _
    · intro u x
      try dsimp only
      refine Only.then (seoBackOff_only _ _) rfl ?_
      exact Only.refl _ _
  · intro u x
    try dsimp only
    refine Only.then (seoBackOff_only _ _) rfl ?_
    exact Only.refl _ _

theorem balCheck_only (s : Dev) (x1 : Nat) :
    Only [.acq, .log, .inForce] s (balCheck s x1) := by
  unfold balCheck
  try dsimp only
  refine Only.forL ?_ ?_
  · exact Only.refl _ _
  · intro u x
    try dsimp only
    refine Only.ite_then ?_ ?_
    · exact Only.refl _ _
    · refine Only.forN ?_ ?_
      · exact Only.refl _ _
      · intro u x
        try dsimp only
        refine Only.ite_else ?_ ?_
        · apply Only.via
          · apply Only.then (raise_only _ _ _ _ _) rfl
            exact Only.refl _ _
          · refine Only.ite_else ?_ ?_
            · exact Only.refl _ _
            · refine Only.then (clearCond_only _ _ _ _ _) rfl ?_
              exact Only.refl _ _
          · refine Only.upd_acq rfl ?_
            exact Only.refl _ _
        · refine Only.then (raise_only _ _ _ _ _) rfl ?_
          refine Only.upd_acq rfl ?_
          exact Only.refl _ _

theorem beginCmd_only (s : Dev) (x1 : Nat) (x2 : HostCmd) :
    Only [.host] s (beginCmd s x1 x2) := by
  unfold beginCmd
  try dsimp only
  split
  · refine Only.upd_host rfl ?_
    exact Only.refl _ _
  · refine Only.ite_then ?_ ?_
    · refine Only.upd_host rfl ?_
      exact Only.refl _ _
    · refine Only.then (setPlaces_only _ _ _) rfl ?_
      exact Only.refl _ _

theorem serve_only {l : List Part} {s : Dev} {op : Nat} {c : HostCmd} {body : Dev → Dev} (h : covers l [.exe, .host, .actor] = true)
    (k : ∀ t, Only l t (body t)) : Only l s (serve s op c body) := by
  unfold serve
  dsimp only
  refine Only.ite (Only.refl _ _) ?_
  split
  · exact Only.refl _ _
  · refine Only.upd_actor (Only.sub h rfl) ?_
    refine Only.later ?_
    split
    · refine Later.only ?_
      refine Only.then (answer_only _ _ _ _) (Only.sub h rfl) ?_
      refine Only.then (beginCmd_only _ _ _) (Only.sub h rfl) ?_
      exact Only.upd_actor (Only.sub h rfl) (Only.refl _ _)
    · refine Later.only (Only.trans ?_ (k _))
      refine Only.then (beginCmd_only _ _ _) (Only.sub h rfl) ?_
      exact Only.upd_actor (Only.sub h rfl) (Only.refl _ _)

theorem balClearBody_only (x0 : HostCmd) (s : Dev) :
    Only [.acq, .exe, .host, .log, .inForce] s (balClearBody x0 s) := by
  unfold balClearBody
  try dsimp only
  refine Only.ite ?_ ?_
  · refine Only.then (answer_only _ _ _ _) rfl ?_
    exact Only.refl _ _
  · refine Only.ite ?_ ?_
    · refine Only.then (answer_only _ _ _ _) rfl ?_
      exact Only.refl _ _
    · refine Only.then (answer_only _ _ _ _) rfl ?_
      refine Only.forL ?_ ?_
      · refine Only.upd_acq rfl ?_
        exact Only.refl _ _
      · intro u x
        try dsimp only
        refine Only.then (clearCond_only _ _ _ _ _) rfl ?_
        exact Only.refl _ _

theorem balClear_only (x0 : HostCmd) (s : Dev) :
    Only [.acq, .exe, .host, .log, .inForce, .actor] s (balClear x0 s) := by
  unfold balClear
  try dsimp only
  refine serve_only rfl ?_
  intro u
  refine Only.then (balClearBody_only _ _) rfl ?_
  exact Only.refl _ _

theorem balEnd_only (s : Dev) :
    Only [.acq, .exe] s (balEnd s) := by
  unfold balEnd
  try dsimp only
  refine Only.ite_else ?_ ?_
  · refine Only.upd_acq rfl ?_
    exact Only.refl _ _
  · refine Only.then (balCancel_only _) rfl ?_
    exact Only.refl _ _

theorem balLearn_only (s : Dev) (x1 x2 : Nat) :
    Only [.mem] s (balLearn s x1 x2) := by
  unfold balLearn
  try dsimp only
  refine Only.ite_then ?_ ?_
  · exact Only.refl _ _
  · refine Only.forL ?_ ?_
    · exact Only.refl _ _
    · intro u x
      try dsimp only
      refine Only.ite_else ?_ ?_
      · exact Only.refl _ _
      · refine Only.then (setRecF_only _ _ _ _) rfl ?_
        exact Only.refl _ _

theorem balRun_only (s : Dev) :
    Only [.acq, .exe] s (balRun s) := by
  unfold balRun
  try dsimp only
  refine Only.ite ?_ ?_
  · refine Only.then (balEnd_only _) rfl ?_
    refine Only.upd_acq rfl ?_
    exact Only.refl _ _
  · split
    · refine Only.upd_acq rfl ?_
      exact Only.refl _ _
    · refine Only.forL ?_ ?_
      · refine Only.upd_acq rfl ?_
        exact Only.refl _ _
      · intro u x
        try dsimp only
        refine Only.then (emit_only _ _ _) rfl ?_
        exact Only.refl _ _

theorem barredStore_only (s : Dev) (x1 x2 : Nat) :
    Only [.regs, .busErr] s (barredStore s x1 x2) := by
  unfold barredStore
  try dsimp only
  refine Only.ite ?_ ?_
  · refine Only.then (busErrorTo_only _ _) rfl ?_
    refine Only.then (wrB_only _ _ _ _) rfl ?_
    exact Only.refl _ _
  · refine Only.ite_else ?_ ?_
    · exact Only.refl _ _
    · refine Only.then (busErrorTo_only _ _) rfl ?_
      refine Only.then (wrB_only _ _ _ _) rfl ?_
      exact Only.refl _ _

theorem setThm_only (s : Dev) (x1 : Nat) (x2 : ThmStr) :
    Only [.thm] s (setThm s x1 x2) := by
  unfold setThm
  try dsimp only
  refine Only.upd_thm rfl ?_
  exact Only.refl _ _

theorem blindStep_only (s : Dev) (x1 : Nat) :
    Only [.thm, .log, .inForce] s (blindStep s x1) := by
  unfold blindStep
  try dsimp only
  split
  · refine Only.then (raise_only _ _ _ _ _) rfl ?_
    refine Only.then (setThm_only _ _ _) rfl ?_
    refine Only.then (setThm_only _ _ _) rfl ?_
    exact Only.refl _ _
  · refine Only.ite_then ?_ ?_
    · refine Only.then (setThm_only _ _ _) rfl ?_
      exact Only.refl _ _
    · refine Only.then (clearCond_only _ _ _ _ _) rfl ?_
      refine Only.then (setThm_only _ _ _) rfl ?_
      exact Only.refl _ _

theorem setSin_only (s : Dev) (x1 : Nat) (x2 : Sin) :
    Only [.saf] s (setSin s x1 x2) := by
  unfold setSin
  try dsimp only
  refine Only.upd_saf rfl ?_
  exact Only.refl _ _

theorem seoDropStr_only (s : Dev) (x1 : Nat) :
    Only [.strs, .saf, .exe] s (seoDropStr s x1) := by
  unfold seoDropStr
  try dsimp only
  refine Only.then (issueCoils_only _ _ _) rfl ?_
  refine Only.upd_saf rfl ?_
  refine Only.then (setStr_only _ _ _) rfl ?_
  exact Only.refl _ _

theorem seoSwitch_only (s : Dev) (x1 : Nat) (x2 : Bool) :
    Only [.regs, .strs, .bus, .saf, .exe, .log] s (seoSwitch s x1 x2) := by
  unfold seoSwitch
  try dsimp only
  refine Only.ite_then ?_ ?_
  · refine Only.forL ?_ ?_
    · refine Only.ite_then ?_ ?_
      · split
        · refine Only.ite_then ?_ ?_
          · refine Only.then (wrB_only _ _ _ _) rfl ?_
            refine Only.then (wrB_only _ _ _ _) rfl ?_
            refine Only.then (wrB_only _ _ _ _) rfl ?_
            refine Only.then (setSeo_only _ _ _) rfl ?_
            exact Only.refl _ _
          · refine Only.then (post_only _ _ _ _) rfl ?_
            refine Only.then (wrB_only _ _ _ _) rfl ?_
            exact Only.refl _ _
        · refine Only.then (wrB_only _ _ _ _) rfl ?_
          refine Only.then (wrB_only _ _ _ _) rfl ?_
          refine Only.then (wrB_only _ _ _ _) rfl ?_
          refine Only.then (setSeo_only _ _ _) rfl ?_
          exact Only.refl _ _
      · refine Only.then (setSeo_only _ _ _) rfl ?_
        exact Only.refl _ _
    · intro u x
      try dsimp only
      refine Only.then (setBus_only _ _ _) rfl ?_
      exact Only.refl _ _
  · refine Only.forL ?_ ?_
    · exact Only.refl _ _
    · intro u x
      try dsimp only
      refine Only.then (seoDropStr_only _ _) rfl ?_
      exact Only.refl _ _

theorem seoFollow_only (s : Dev) (x1 : Nat) :
    Only [.regs, .strs, .bus, .saf, .exe, .log] s (seoFollow s x1) := by
  unfold seoFollow
  try dsimp only
  refine Only.ite_then ?_ ?_
  · refine Only.ite_then ?_ ?_
    · exact Only.refl _ _
    · refine Only.then (wrB_only _ _ _ _) rfl ?_
      exact Only.refl _ _
  · refine Only.ite ?_ ?_
    · refine Only.then (setSeo_only _ _ _) rfl ?_
      exact Only.refl _ _
    · refine Only.then (seoSwitch_only _ _ _) rfl ?_
      exact Only.refl _ _

theorem seoFollowAll_only (s : Dev) :
    Only [.regs, .strs, .bus, .saf, .exe, .log] s (seoFollowAll s) := by
  unfold seoFollowAll
  try dsimp only
  refine Only.forN ?_ ?_
  · exact Only.refl _ _
  · intro u x
    try dsimp only
    refine Only.then (seoFollow_only _ _) rfl ?_
    exact Only.refl _ _

theorem f4Holds_only (s : Dev) :
    Only [.regs, .strs, .bus, .saf, .exe, .log] s (f4Holds s) := by
  unfold f4Holds
  try dsimp only
  refine Only.then (seoFollowAll_only _) rfl ?_
  refine Only.then (wrF_only _ _ _ _ _) rfl ?_
  exact Only.refl _ _

theorem setLatch_only (s : Dev) (x1 : Nat) :
    Only [.dev, .regs, .strs, .bus, .saf, .exe, .log, .pwr, .inForce] s (setLatch s x1) := by
  unfold setLatch
  try dsimp only
  refine Only.ite_then ?_ ?_
  · refine Only.then (seoFollowAll_only _) rfl ?_
    refine Only.ite_else ?_ ?_
    · refine Only.upd_saf rfl ?_
      refine Only.then (wrB_only _ _ _ _) rfl ?_
      exact Only.refl _ _
    · refine Only.forL ?_ ?_
      · exact Only.refl _ _
      · intro u x
        try dsimp only
        refine Only.then (setStr_only _ _ _) rfl ?_
        exact Only.refl _ _
  · refine Only.ite_then ?_ ?_
    · refine Only.forL ?_ ?_
      · refine Only.forL ?_ ?_
        · refine Only.ite_then ?_ ?_
          · exact Only.refl _ _
          · refine Only.forL ?_ ?_
            · exact Only.refl _ _
            · intro u x
              try dsimp only
              refine Only.then (issueCoils_only _ _ _) rfl ?_
              exact Only.refl _ _
        · intro u x
          try dsimp only
          refine Only.ite_then ?_ ?_
          · exact Only.refl _ _
          · refine Only.then (seoDropStr_only _ _) rfl ?_
            exact Only.refl _ _
      · intro u x
        try dsimp only
        refine Only.ite_else ?_ ?_
        · exact Only.refl _ _
        · refine Only.then (lockStr_only _ _ _) rfl ?_
          exact Only.refl _ _
    · refine Only.then (setDev_only _ _ _ _) rfl ?_
      exact Only.refl _ _

theorem fault5_only (s : Dev) (x1 x2 x3 : Nat) :
    Only [.dev, .regs, .strs, .bus, .saf, .exe, .log, .pwr, .inForce] s (fault5 s x1 x2 x3) := by
  unfold fault5
  try dsimp only
  refine Only.then (setLatch_only _ _) rfl ?_
  refine Only.then (raise_only _ _ _ _ _) rfl ?_
  exact Only.refl _ _

theorem directionSync_only (s : Dev) (x1 : Nat) :
    Only [.strs] s (directionSync s x1) := by
  unfold directionSync
  try dsimp only
  refine Only.then (setStr_only _ _ _) rfl ?_
  exact Only.refl _ _

theorem demandBegin_only (s : Dev) (x1 : Nat) (x2 : Bool) :
    Only [.dev, .regs, .lim, .strs, .bus, .saf, .exe, .can, .log, .pwr, .inForce] s (demandBegin s x1 x2) := by
  unfold demandBegin
  try dsimp only
  refine Only.ite_then ?_ ?_
  · exact Only.refl _ _
  · apply Only.via
    · apply Only.then (fault3_only _ _ _ _ _ _ _ _) rfl
      exact Only.refl _ _
    · refine Only.ite ?_ ?_
      · refine Only.then (react4_only _ _ _ _ _) rfl ?_
        refine Only.then (f4Holds_only _) rfl ?_
        refine Only.ite_else ?_ ?_
        · refine Only.then (raise_only _ _ _ _ _) rfl ?_
          exact Only.refl _ _
        · refine Only.forL ?_ ?_
          · exact Only.refl _ _
          · intro u x
            try dsimp only
            refine Only.then (setReact_only _ _ _ _ _) rfl ?_
            exact Only.refl _ _
      · refine Only.ite ?_ ?_
        · refine Only.then (fault5_only _ _ _ _) rfl ?_
          exact Only.refl _ _
        · refine Only.ite_else ?_ ?_
          · refine Only.then (raise_only _ _ _ _ _) rfl ?_
            exact Only.refl _ _
          · refine Only.forL ?_ ?_
            · exact Only.refl _ _
            · intro u x
              try dsimp only
              refine Only.then (directionSync_only _ _) rfl ?_
              exact Only.refl _ _
    · refine Only.ite_else ?_ ?_
      · refine Only.then (setSin_only _ _ _) rfl ?_
        refine Only.then (wrB_only _ _ _ _) rfl ?_
        exact Only.refl _ _
      · refine Only.then (wrB_only _ _ _ _) rfl ?_
        exact Only.refl _ _

theorem sinJudge_only (s : Dev) (x1 : Nat) :
    Only [.dev, .regs, .lim, .strs, .bus, .saf, .exe, .can, .log, .pwr, .inForce] s (sinJudge s x1) := by
  unfold sinJudge
  try dsimp only
  refine Only.ite_then ?_ ?_
  · exact Only.refl _ _
  · refine Only.ite ?_ ?_
    · refine Only.then (demandBegin_only _ _ _) rfl ?_
      exact Only.refl _ _
    · refine Only.ite_else ?_ ?_
      · exact Only.refl _ _
      · refine Only.then (demandBegin_only _ _ _) rfl ?_
        exact Only.refl _ _

theorem busWeld_only (s : Dev) (x1 : Nat) :
    Only [.bus, .log, .inForce] s (busWeld s x1) := by
  unfold busWeld
  try dsimp only
  refine Only.ite_then ?_ ?_
  · exact Only.refl _ _
  · refine Only.then (raise_only _ _ _ _ _) rfl ?_
    refine Only.then (setBus_only _ _ _) rfl ?_
    exact Only.refl _ _

theorem busDerive_only (s : Dev) (x1 : Nat) :
    Only [.bus, .log, .inForce] s (busDerive s x1) := by
  unfold busDerive
  try dsimp only
  refine Only.ite_then ?_ ?_
  · exact Only.refl _ _
  · refine Only.ite_else ?_ ?_
    · refine Only.then (setBus_only _ _ _) rfl ?_
      exact Only.refl _ _
    · refine Only.then (busWeld_only _ _) rfl ?_
      exact Only.refl _ _

theorem bootEnd_only (s : Dev) :
    Only [.dev, .regs, .lim, .strs, .bus, .saf, .exe, .host, .can, .log, .pwr, .inForce] s (bootEnd s) := by
  unfold bootEnd
  try dsimp only
  refine Only.ite_else ?_ ?_
  · refine Only.then (setDev_only _ _ _ _) rfl ?_
    refine Only.ite_then ?_ ?_
    · refine Only.upd_lim_pwr rfl ?_
      refine Only.ite_else ?_ ?_
      · refine Only.ite_else ?_ ?_
        · exact Only.refl _ _
        · refine Only.forN ?_ ?_
          · refine Only.forN ?_ ?_
            · exact Only.refl _ _
            · intro u x
              try dsimp only
              refine Only.then (sinJudge_only _ _) rfl ?_
              exact Only.refl _ _
          · intro u x
            try dsimp only
            refine Only.then (busDerive_only _ _) rfl ?_
            exact Only.refl _ _
      · refine Only.then (setLatch_only _ _) rfl ?_
        exact Only.refl _ _
    · refine Only.then (wrB_only _ _ _ _) rfl ?_
      exact Only.refl _ _
  · refine Only.then (wrB_only _ _ _ _) rfl ?_
    refine Only.then (hostReady_only _) rfl ?_
    exact Only.refl _ _

theorem bootStart_only (x0 x1 : Nat) (s : Dev) :
    Only [.dev, .regs, .mem, .win, .parCfg, .parNow, .tb, .piste, .rings, .acq, .est, .chg, .lim, .thm, .strs, .bus, .saf, .exe, .host, .cl, .can, .cnt, .log, .pwr, .inForce, .uptimeMs, .actor, .busErr, .readVal, .posts] s (bootStart x0 x1 s) := by
  unfold bootStart
  try dsimp only
  refine Only.ite_then ?_ ?_
  · exact Only.refl _ _
  · apply Only.via
    · apply Only.then (bootRun_only _ _ _ _) rfl
      exact Only.refl _ _
    · refine Only.ite_else ?_ ?_
      · exact Only.refl _ _
      · refine Only.then (bootRun_only _ _ _ _) rfl ?_
        exact Only.refl _ _
    · refine Only.upd_pwr rfl ?_
      exact Only.refl _ _

theorem bootWatchdogExpiry_only (x0 x1 : Nat) (s : Dev) :
    Only [.dev, .regs, .mem, .win, .parCfg, .parNow, .tb, .piste, .rings, .acq, .est, .chg, .lim, .thm, .strs, .bus, .saf, .exe, .host, .cl, .can, .cnt, .log, .pwr, .inForce, .uptimeMs, .actor, .busErr, .readVal, .posts] s (bootWatchdogExpiry x0 x1 s) := by
  unfold bootWatchdogExpiry
  try dsimp only
  refine Only.ite_else ?_ ?_
  · exact Only.refl _ _
  · refine Only.then (bootRun_only _ _ _ _) rfl ?_
    refine Only.then (endNow_only _) rfl ?_
    exact Only.refl _ _

theorem enterOff_only (s : Dev) (x1 : Nat) :
    Only [.dev, .regs, .mem, .win, .parCfg, .parNow, .tb, .piste, .rings, .acq, .est, .chg, .lim, .thm, .strs, .bus, .saf, .exe, .host, .cl, .can, .cnt, .log, .pwr, .inForce, .uptimeMs, .actor, .busErr, .readVal, .posts] s (enterOff s x1) := by
  unfold enterOff
  try dsimp only
  refine Only.then (resetDev_only _) rfl ?_
  refine Only.upd_pwr rfl ?_
  exact Only.refl _ _

theorem copyPart_only (s : Dev) (x1 : Nat) (x2 : List (Nat × Nat × Nat)) :
    Only [.mem] s (copyPart s x1 x2) := by
  induction x2 generalizing s x1 with
  | nil => exact Only.refl _ _
  | cons e t ih => exact Only.trans (Only.upd_mem rfl (Memory.wf_copy _ _ _ _) (Only.refl _ _)) (ih _ _)

theorem tearTxn_only (s : Dev) :
    Only [.mem, .freeCtr] s (tearTxn s) := by
  unfold tearTxn
  try dsimp only [takeBit, takeWord, takeNat]
  split
  · exact Only.refl _ _
  · refine Only.then (copyPart_only _ _ _) rfl ?_
    refine Only.upd_freeCtr rfl ?_
    exact Only.refl _ _

theorem brownOut_only (s : Dev) :
    Only [.dev, .regs, .mem, .win, .parCfg, .parNow, .tb, .piste, .rings, .acq, .est, .chg, .lim, .thm, .strs, .bus, .saf, .exe, .host, .cl, .can, .cnt, .log, .pwr, .inForce, .uptimeMs, .actor, .freeCtr, .busErr, .readVal, .posts] s (brownOut s) := by
  unfold brownOut
  try dsimp only
  refine Only.ite_then ?_ ?_
  · exact Only.refl _ _
  · refine Only.then (enterOff_only _ _) rfl ?_
    refine Only.then (tearTxn_only _) rfl ?_
    exact Only.refl _ _

theorem budgetRefuse_only (s : Dev) (x1 : Nat) :
    Only [.strs, .log, .inForce] s (budgetRefuse s x1).2 := by
  unfold budgetRefuse
  try dsimp only
  refine Only.then (note_only _ _ _ _) rfl ?_
  refine Only.then (setStr_only _ _ _) rfl ?_
  exact Only.refl _ _

theorem bumpReg_only (s : Dev) (x1 x2 : Nat) :
    Only [.regs] s (bumpReg s x1 x2) := by
  unfold bumpReg
  try dsimp only
  refine Only.then (wrN_only _ _ _) rfl ?_
  exact Only.refl _ _

theorem busWaitFail_only (s : Dev) (x1 : Nat) :
    Only [.strs] s (busWaitFail s x1) := by
  unfold busWaitFail
  try dsimp only
  refine Only.forL ?_ ?_
  · exact Only.refl _ _
  · intro u x
    try dsimp only
    refine Only.then (setStr_only _ _ _) rfl ?_
    exact Only.refl _ _

theorem busContactorFbTimeout_only (x0 : Nat) (s : Dev) :
    Only [.strs, .bus, .log, .inForce] s (busContactorFbTimeout x0 s) := by
  unfold busContactorFbTimeout
  try dsimp only
  refine Only.ite_then ?_ ?_
  · exact Only.refl _ _
  · apply Only.via
    · apply Only.then (busWaitFail_only _ _) rfl
      apply Only.then (note_only _ _ _ _) rfl
      exact Only.refl _ _
    · refine Only.then (busWeld_only _ _) rfl ?_
      exact Only.refl _ _
    · refine Only.then (setBus_only _ _ _) rfl ?_
      exact Only.refl _ _

theorem busErrorOf_only (s : Dev) (x1 : Nat) :
    Only [.regs, .exe, .freeCtr, .busErr] s (busErrorOf s x1) := by
  unfold busErrorOf
  try dsimp only [takeBit, takeWord, takeNat]
  refine Only.ite ?_ ?_
  · refine Only.then (logFree_only _ _ _) rfl ?_
    refine Only.then (busErrorTo_only _ _) rfl ?_
    exact Only.refl _ _
  · apply Only.via
    · apply Only.then (countEv_only _ _ _ _) rfl
      exact Only.refl _ _
    · refine Only.then (countEv_only _ _ _ _) rfl ?_
      refine Only.upd_freeCtr rfl ?_
      exact Only.refl _ _
    · refine Only.then (busError_only _) rfl ?_
      exact Only.refl _ _

theorem leaveOpen_only (s : Dev) (x1 : Nat) :
    Only [.strs, .exe, .log, .inForce] s (leaveOpen s x1) := by
  unfold leaveOpen
  try dsimp only
  refine Only.ite ?_ ?_
  · refine Only.then (budgetRefuse_only _ _) rfl ?_
    exact Only.refl _ _
  · refine Only.ite ?_ ?_
    · refine Only.then (issueCoils_only _ _ _) rfl ?_
      refine Only.then (setStr_only _ _ _) rfl ?_
      exact Only.refl _ _
    · refine Only.then (setStr_only _ _ _) rfl ?_
      exact Only.refl _ _

theorem busProgress_only (s : Dev) :
    Only [.dev, .strs, .saf, .exe, .log, .inForce] s (busProgress s) := by
  unfold busProgress
  try dsimp only
  refine Only.ite_then ?_ ?_
  · exact Only.refl _ _
  · refine Only.forL ?_ ?_
    · exact Only.refl _ _
    · intro u x
      try dsimp only
      refine Only.ite_else ?_ ?_
      · exact Only.refl _ _
      · refine Only.then (deriveState_only _ _) rfl ?_
        refine Only.then (leaveOpen_only _ _) rfl ?_
        exact Only.refl _ _

theorem busTransactionTimeout_only (s : Dev) :
    Only [.regs, .exe, .freeCtr, .busErr] s (busTransactionTimeout s) := by
  unfold busTransactionTimeout
  try dsimp only [takeBit, takeWord, takeNat]
  refine Only.then (busErrorOf_only _ _) rfl ?_
  refine Only.upd_freeCtr rfl ?_
  exact Only.refl _ _

theorem recoveryTry_only (s : Dev) (x1 : Nat) :
    Only [.regs, .can] s (recoveryTry s x1) := by
  unfold recoveryTry
  try dsimp only
  refine Only.ite_then ?_ ?_
  · exact Only.refl _ _
  · refine Only.ite ?_ ?_
    · refine Only.then (canSync_only _ _) rfl ?_
      refine Only.then (setCan_only _ _ _) rfl ?_
      exact Only.refl _ _
    · refine Only.then (setCan_only _ _ _) rfl ?_
      exact Only.refl _ _

theorem busoffRecoveryStart_only (x0 : Nat) (s : Dev) :
    Only [.regs, .can] s (busoffRecoveryStart x0 s) := by
  unfold busoffRecoveryStart
  try dsimp only
  refine Only.ite_else ?_ ?_
  · exact Only.refl _ _
  · refine Only.then (recoveryTry_only _ _) rfl ?_
    exact Only.refl _ _

theorem bwCfgWrite_only (x0 x1 : Nat) (x2 : U32) (s : Dev) :
    Only [.regs, .cnt, .busErr] s (bwCfgWrite x0 x1 x2 s) := by
  unfold bwCfgWrite
  try dsimp only
  refine Only.ite ?_ ?_
  · refine Only.then (busErrorTo_only _ _) rfl ?_
    exact Only.refl _ _
  · refine Only.ite_then ?_ ?_
    · exact Only.refl _ _
    · refine Only.then (bwRestart_only _ _) rfl ?_
      refine Only.then (wr_only _ _ _) rfl ?_
      exact Only.refl _ _

theorem bwWindowEnd_only (x0 x1 : Nat) (s : Dev) :
    Only [.regs, .cnt] s (bwWindowEnd x0 x1 s) := by
  unfold bwWindowEnd
  try dsimp only
  refine Only.ite_then ?_ ?_
  · exact Only.refl _ _
  · refine Only.then (wrN_only _ _ _) rfl ?_
    refine Only.ite_else ?_ ?_
    · refine Only.then (wrN_only _ _ _) rfl ?_
      refine Only.upd_cnt rfl ?_
      exact Only.refl _ _
    · refine Only.then (wrN_only _ _ _) rfl ?_
      exact Only.refl _ _

theorem endAttempt_only (s : Dev) (x1 : Nat) :
    Only [.regs, .mem, .lim, .exe, .host, .can, .log, .inForce] s (endAttempt s x1) := by
  unfold endAttempt
  try dsimp only
  refine Only.ite_else ?_ ?_
  · refine Only.ite_else ?_ ?_
    · refine Only.then (canSync_only _ _) rfl ?_
      refine Only.then (setCan_only _ _ _) rfl ?_
      exact Only.refl _ _
    · refine Only.then (fltSwap_only _ _) rfl ?_
      exact Only.refl _ _
  · refine Only.then (canApply_only _ _) rfl ?_
    exact Only.refl _ _

theorem canAttemptStart_only (x0 : Nat) (x1 : U32) (s : Dev) :
    Only [.regs, .mem, .lim, .exe, .host, .can, .log, .inForce] s (canAttemptStart x0 x1 s) := by
  unfold canAttemptStart
  try dsimp only
  refine Only.ite_then ?_ ?_
  · exact Only.refl _ _
  · refine Only.ite_then ?_ ?_
    · refine Only.ite_else ?_ ?_
      · exact Only.refl _ _
      · refine Only.then (endAttempt_only _ _) rfl ?_
        exact Only.refl _ _
    · refine Only.then (attemptFrom_only _ _ _ _) rfl ?_
      exact Only.refl _ _

theorem clashCount_only (s : Dev) (x1 : Nat) (x2 : Attempt) (x3 : CanError) :
    Only [.regs, .can, .log, .inForce] s (clashCount s x1 x2 x3) := by
  unfold clashCount
  try dsimp only
  apply Only.via
  · apply Only.ite_then
    · apply Only.then (setHead_only _ _ _ _ _) rfl
      exact Only.refl _ _
    · apply Only.then (raise_only _ _ _ _ _) rfl
      apply Only.then (wrN_only _ _ _) rfl
      apply Only.then (canIr_only _ _ _) rfl
      apply Only.ite
      · apply Only.then (setCan_only _ _ _) rfl
        exact Only.refl _ _
      · apply Only.then (txbSync_only _ _ _ _ _) rfl
        apply Only.then (setCan_only _ _ _) rfl
        exact Only.refl _ _
  · refine Only.then (setHead_only _ _ _ _ _) rfl ?_
    exact Only.refl _ _
  · refine Only.then (setHead_only _ _ _ _ _) rfl ?_
    exact Only.refl _ _

theorem tdcMeasure_only (s : Dev) (x1 : Nat) (x2 : Attempt) (x3 : List Nat) :
    Only [.regs, .log, .inForce] s (tdcMeasure s x1 x2 x3) := by
  unfold tdcMeasure
  try dsimp only
  split
  · exact Only.refl _ _
  · apply Only.via
    · apply Only.then (raise_only _ _ _ _ _) rfl
      apply Only.then (canIr_only _ _ _) rfl
      exact Only.refl _ _
    · refine Only.then (clearCond_only _ _ _ _ _) rfl ?_
      exact Only.refl _ _
    · refine Only.then (wrN_only _ _ _) rfl ?_
      exact Only.refl _ _

theorem setErr_only (s : Dev) (x1 x2 x3 : Nat) :
    Only [.regs, .can, .log, .inForce] s (setErr s x1 x2 x3) := by
  unfold setErr
  try dsimp only
  apply Only.via
  · apply Only.ite_then
    · apply Only.then (canSync_only _ _) rfl
      apply Only.then (raise_only _ _ _ _ _) rfl
      apply Only.then (canIr_only _ _ _) rfl
      apply Only.then (setCan_only _ _ _) rfl
      exact Only.refl _ _
    · apply Only.then (recoveryTry_only _ _) rfl
      exact Only.refl _ _
  · refine Only.then (canSync_only _ _) rfl ?_
    exact Only.refl _ _
  · refine Only.ite_else ?_ ?_
    · refine Only.ite_else ?_ ?_
      · refine Only.ite_else ?_ ?_
        · refine Only.then (setCan_only _ _ _) rfl ?_
          exact Only.refl _ _
        · refine Only.then (canIr_only _ _ _) rfl ?_
          exact Only.refl _ _
      · refine Only.then (raise_only _ _ _ _ _) rfl ?_
        refine Only.then (canIr_only _ _ _) rfl ?_
        exact Only.refl _ _
    · refine Only.then (clearCond_only _ _ _ _ _) rfl ?_
      exact Only.refl _ _

theorem drainCancels_only (x0 x1 : Nat) (s : Dev) :
    Only [.regs, .mem, .lim, .exe, .host, .can] s (drainCancels x0 x1 s) := by
  induction x1 generalizing s with
  | zero => exact Only.refl _ _
  | succ k ih =>
    unfold drainCancels
    split
    · exact Only.refl _ _
    · refine Only.ite (Only.refl _ _) (Only.trans ?_ (ih _))
      refine Only.then (holdCheck_only _ _) rfl (Only.then (leaveElem_only _ _ _ _ _ _) rfl ?_)
      exact Only.then (setCan_only _ _ _) rfl (Only.refl _ _)

theorem canBusError_only (x0 : Nat) (x1 : CanError) (s : Dev) :
    Only [.regs, .mem, .lim, .exe, .host, .can, .log, .inForce] s (canBusError x0 x1 s) := by
  unfold canBusError
  try dsimp only
  refine Only.ite ?_ ?_
  · exact Only.refl _ _
  · refine Only.ite_else ?_ ?_
    · refine Only.ite_then ?_ ?_
      · split
        · apply Only.via
          · apply Only.then (clashCount_only _ _ _ _) rfl
            apply Only.then (tdcMeasure_only _ _ _ _) rfl
            exact Only.refl _ _
          · refine Only.then (arbLost_only _ _ _) rfl ?_
            exact Only.refl _ _
          · refine Only.then (wrF_only _ _ _ _ _) rfl ?_
            refine Only.then (wrB_only _ _ _ _) rfl ?_
            exact Only.refl _ _
        · refine Only.then (wrF_only _ _ _ _ _) rfl ?_
          refine Only.then (wrB_only _ _ _ _) rfl ?_
          exact Only.refl _ _
      · apply Only.via
        · apply Only.then (setErr_only _ _ _ _) rfl
          exact Only.refl _ _
        · refine Only.then (setErr_only _ _ _ _) rfl ?_
          exact Only.refl _ _
        · refine Only.then (countEv_only _ _ _ _) rfl ?_
          exact Only.refl _ _
    · refine Only.then (drainCancels_only _ _ _) rfl ?_
      refine Only.then (endAttempt_only _ _) rfl ?_
      exact Only.refl _ _

theorem noteNoFrame_only (s : Dev) :
    Only [.host] s (noteNoFrame s) := by
  unfold noteNoFrame
  try dsimp only
  split
  · exact Only.refl _ _
  · refine Only.upd_host rfl ?_
    exact Only.refl _ _

theorem cancelElem_only (s : Dev) (x1 x2 x3 : Nat) (x4 : Bool) :
    Only [.regs, .mem, .lim, .exe, .host, .can] s (cancelElem s x1 x2 x3 x4) := by
  unfold cancelElem
  try dsimp only
  refine Only.ite_then ?_ ?_
  · exact Only.refl _ _
  · refine Only.ite ?_ ?_
    · refine Only.then (setHead_only _ _ _ _ _) rfl ?_
      exact Only.refl _ _
    · refine Only.ite ?_ ?_
      · refine Only.then (leaveNoFrame_only _ _ _ _ _) rfl ?_
        refine Only.then (canSync_only _ _) rfl ?_
        refine Only.then (setCan_only _ _ _) rfl ?_
        exact Only.refl _ _
      · refine Only.then (leaveNoFrame_only _ _ _ _ _) rfl ?_
        exact Only.refl _ _

theorem canWithdraw_only (s : Dev) (x1 : HostCmd) (x2 : Nat) (x3 : Bool) :
    Only [.regs, .mem, .lim, .exe, .host, .can, .freeCtr] s (canWithdraw s x1 x2 x3).2 := by
  unfold canWithdraw
  try dsimp only [takeBit, takeWord, takeNat]
  split
  · dsimp only
    refine Only.ite ?_ ?_
    · refine Only.then (emit_only _ _ _) rfl ?_
      exact Only.refl _ _
    · refine Only.then (noteNoFrame_only _) rfl ?_
      refine Only.then (answer_only _ _ _ _) rfl ?_
      exact Only.refl _ _
  · refine Only.ite_snd ?_ ?_
    · dsimp only
      refine Only.then (setHead_only _ _ _ _ _) rfl ?_
      refine Only.ite_snd ?_ ?_
      · dsimp only
        refine Only.upd_freeCtr rfl ?_
        exact Only.refl _ _
      · dsimp only
        exact Only.refl _ _
    · dsimp only
      refine Only.then (noteNoFrame_only _) rfl ?_
      refine Only.then (answer_only _ _ _ _) rfl ?_
      refine Only.then (cancelElem_only _ _ _ _ _) rfl ?_
      refine Only.then (setCan_only _ _ _) rfl ?_
      refine Only.ite_snd ?_ ?_
      · dsimp only
        refine Only.upd_freeCtr rfl ?_
        exact Only.refl _ _
      · dsimp only
        exact Only.refl _ _

theorem updFlight_only (s : Dev) (x1 x2 : Nat) (x3 : InFlight → InFlight) :
    Only [.host] s (updFlight s x1 x2 x3) := by
  unfold updFlight
  try dsimp only
  refine Only.upd_host rfl ?_
  exact Only.refl _ _

theorem timeoutRuns_only (s : Dev) (x1 : InFlight) :
    Only [.exe, .host] s (timeoutRuns s x1) := by
  unfold timeoutRuns
  try dsimp only
  refine Only.then (updFlight_only _ _ _ _) rfl ?_
  refine Only.then (deliverReply_only _ _ _) rfl ?_
  refine Only.then (recordOutcome_only _ _ _ _ _ _) rfl ?_
  exact Only.refl _ _

theorem canCancelled_only (s : Dev) (x1 : HostCmd) (x2 : Nat) (x3 : Option HostCmd) :
    Only [.regs, .mem, .lim, .exe, .host, .can, .freeCtr] s (canCancelled s x1 x2 x3) := by
  unfold canCancelled
  try dsimp only
  split
  · split
    · refine Only.then (answer_only _ _ _ _) rfl ?_
      exact Only.refl _ _
    · exact Only.refl _ _
  · split
    · refine Only.then (answer_only _ _ _ _) rfl ?_
      refine Only.then (canWithdraw_only _ _ _ _) rfl ?_
      exact Only.refl _ _
    · refine Only.ite_then ?_ ?_
      · refine Only.then (canWithdraw_only _ _ _ _) rfl ?_
        exact Only.refl _ _
      · refine Only.then (timeoutRuns_only _ _) rfl ?_
        exact Only.refl _ _

theorem canCtrlRecover_only (x0 x1 : Nat) (s : Dev) :
    Only [.regs, .can, .busErr] s (canCtrlRecover x0 x1 s) := by
  unfold canCtrlRecover
  try dsimp only
  refine Only.ite ?_ ?_
  · refine Only.then (busErrorTo_only _ _) rfl ?_
    exact Only.refl _ _
  · refine Only.ite_else ?_ ?_
    · exact Only.refl _ _
    · refine Only.then (recoveryTry_only _ _) rfl ?_
      exact Only.refl _ _

theorem canCtrlWrite_only (s : Dev) (x1 : Nat) (x2 : U32) :
    Only [.regs, .mem, .lim, .exe, .host, .can, .log, .inForce] s (canCtrlWrite s x1 x2) := by
  unfold canCtrlWrite
  try dsimp only
  refine Only.then (canSync_only _ _) rfl ?_
  refine Only.ite_else ?_ ?_
  · refine Only.ite_else ?_ ?_
    · refine Only.ite_else ?_ ?_
      · refine Only.ite_else ?_ ?_
        · refine Only.ite_else ?_ ?_
          · refine Only.ite_else ?_ ?_
            · refine Only.then (wr_only _ _ _) rfl ?_
              refine Only.ite_else ?_ ?_
              · exact Only.refl _ _
              · refine Only.then (flushAll_only _ _) rfl ?_
                exact Only.refl _ _
            · refine Only.then (modeChange_only _ _ _ _ _) rfl ?_
              exact Only.refl _ _
          · refine Only.then (modeChange_only _ _ _ _ _) rfl ?_
            exact Only.refl _ _
        · refine Only.then (modeChange_only _ _ _ _ _) rfl ?_
          exact Only.refl _ _
      · refine Only.then (raise_only _ _ _ _ _) rfl ?_
        refine Only.then (canIr_only _ _ _) rfl ?_
        exact Only.refl _ _
    · refine Only.then (clearCond_only _ _ _ _ _) rfl ?_
      exact Only.refl _ _
  · refine Only.then (setCan_only _ _ _) rfl ?_
    exact Only.refl _ _

theorem canEnqueue_only (s : Dev) (x1 x2 : Nat) (x3 : List U32) (x4 : Option HostCmd) :
    Only [.regs, .mem, .exe, .host, .can] s (canEnqueue s x1 x2 x3 x4) := by
  unfold canEnqueue
  try dsimp only
  refine Only.ite ?_ ?_
  · refine Only.ite ?_ ?_
    · split
      · refine Only.then (answer_only _ _ _ _) rfl ?_
        exact Only.refl _ _
      · exact Only.refl _ _
    · refine Only.then (holdCheck_only _ _) rfl ?_
      split
      · refine Only.then (setCan_only _ _ _) rfl ?_
        refine Only.then (txbSync_only _ _ _ _ _) rfl ?_
        refine Only.then (stWords_only _ _ _) rfl ?_
        exact Only.refl _ _
      · refine Only.then (txbSync_only _ _ _ _ _) rfl ?_
        refine Only.then (stWords_only _ _ _) rfl ?_
        exact Only.refl _ _
  · refine Only.ite ?_ ?_
    · refine Only.ite ?_ ?_
      · refine Only.then (setCan_only _ _ _) rfl ?_
        exact Only.refl _ _
      · split
        · refine Only.then (answer_only _ _ _ _) rfl ?_
          exact Only.refl _ _
        · exact Only.refl _ _
    · refine Only.then (holdCheck_only _ _) rfl ?_
      refine Only.then (objLoad_only _ _ _ _) rfl ?_
      split
      · refine Only.then (setCan_only _ _ _) rfl ?_
        exact Only.refl _ _
      · exact Only.refl _ _

theorem canFilterSwap_only (x0 : Nat) (s : Dev) :
    Only [.regs, .can, .log, .inForce] s (canFilterSwap x0 s) := by
  unfold canFilterSwap
  try dsimp only
  refine Only.ite_else ?_ ?_
  · exact Only.refl _ _
  · refine Only.then (fltSwap_only _ _) rfl ?_
    exact Only.refl _ _

theorem canFltSwapReq_only (x0 x1 : Nat) (s : Dev) :
    Only [.regs, .can, .log, .inForce, .busErr] s (canFltSwapReq x0 x1 s) := by
  unfold canFltSwapReq
  try dsimp only
  refine Only.ite ?_ ?_
  · refine Only.then (busErrorTo_only _ _) rfl ?_
    exact Only.refl _ _
  · refine Only.then (fltRequest_only _ _) rfl ?_
    exact Only.refl _ _

theorem recAfterRx_only (s : Dev) (x1 : Nat) :
    Only [.freeCtr] s (recAfterRx s x1).2 := by
  unfold recAfterRx
  try dsimp only [takeBit, takeWord, takeNat]
  refine Only.ite_snd ?_ ?_
  · dsimp only
    refine Only.upd_freeCtr rfl ?_
    exact Only.refl _ _
  · dsimp only
    exact Only.refl _ _

theorem countBytes_only (s : Dev) (x1 x2 : Nat) :
    Only [.regs, .cnt] s (countBytes s x1 x2) := by
  unfold countBytes
  try dsimp only
  refine Only.upd_cnt rfl ?_
  refine Only.then (countEv_only _ _ _ _) rfl ?_
  exact Only.refl _ _

theorem objStore_only (s : Dev) (x1 x2 : Nat) (x3 : CanFrame) (x4 : U32) :
    Only [.regs, .mem, .cnt] s (objStore s x1 x2 x3 x4) := by
  unfold objStore
  try dsimp only
  refine Only.then (countBytes_only _ _ _) rfl ?_
  refine Only.then (countEv_only _ _ _ _) rfl ?_
  refine Only.then (canIr_only _ _ _) rfl ?_
  refine Only.then (wrN_only _ _ _) rfl ?_
  refine Only.then (wrB_only _ _ _ _) rfl ?_
  refine Only.ite_else ?_ ?_
  · refine Only.then (stBytes_only _ _ _) rfl ?_
    refine Only.then (st32_only _ _ _) rfl ?_
    refine Only.then (st32_only _ _ _) rfl ?_
    exact Only.refl _ _
  · refine Only.then (wrB_only _ _ _ _) rfl ?_
    exact Only.refl _ _

theorem setFill_only (s : Dev) (x1 x2 x3 : Nat) :
    Only [.can] s (setFill s x1 x2 x3) := by
  unfold setFill
  try dsimp only
  refine Only.then (setCan_only _ _ _) rfl ?_
  exact Only.refl _ _

theorem rxStore_only (s : Dev) (x1 x2 : Nat) (x3 : List U32) :
    Only [.regs, .mem, .can, .cnt, .log, .inForce] s (rxStore s x1 x2 x3) := by
  unfold rxStore
  try dsimp only
  refine Only.ite ?_ ?_
  · refine Only.then (raise_only _ _ _ _ _) rfl ?_
    refine Only.then (canIr_only _ _ _) rfl ?_
    refine Only.then (bumpReg_only _ _ _) rfl ?_
    refine Only.ite_else ?_ ?_
    · exact Only.refl _ _
    · refine Only.then (setCan_only _ _ _) rfl ?_
      exact Only.refl _ _
  · refine Only.then (countBytes_only _ _ _) rfl ?_
    refine Only.then (countEv_only _ _ _ _) rfl ?_
    refine Only.then (canIr_only _ _ _) rfl ?_
    refine Only.then (wrN_only _ _ _) rfl ?_
    refine Only.then (wrN_only _ _ _) rfl ?_
    refine Only.then (setFill_only _ _ _ _) rfl ?_
    refine Only.then (stWords_only _ _ _) rfl ?_
    exact Only.refl _ _

theorem canTakeFrame_only (x0 : Nat) (x1 : CanFrame) (x2 : U32) (s : Dev) :
    Only [.regs, .mem, .can, .cnt, .log, .inForce, .freeCtr] s (canTakeFrame x0 x1 x2 s) := by
  unfold canTakeFrame
  try dsimp only
  refine Only.ite ?_ ?_
  · split
    · refine Only.then (objStore_only _ _ _ _ _) rfl ?_
      refine Only.ite ?_ ?_
      · exact Only.refl _ _
      · refine Only.then (setErr_only _ _ _ _) rfl ?_
        refine Only.then (recAfterRx_only _ _) rfl ?_
        exact Only.refl _ _
    · refine Only.ite ?_ ?_
      · exact Only.refl _ _
      · refine Only.then (setErr_only _ _ _ _) rfl ?_
        refine Only.then (recAfterRx_only _ _) rfl ?_
        exact Only.refl _ _
  · split
    · refine Only.then (rxStore_only _ _ _ _) rfl ?_
      refine Only.ite ?_ ?_
      · exact Only.refl _ _
      · refine Only.then (setErr_only _ _ _ _) rfl ?_
        refine Only.then (recAfterRx_only _ _) rfl ?_
        exact Only.refl _ _
    · refine Only.ite ?_ ?_
      · exact Only.refl _ _
      · refine Only.then (setErr_only _ _ _ _) rfl ?_
        refine Only.then (recAfterRx_only _ _) rfl ?_
        exact Only.refl _ _

theorem canFrameReceived_only (x0 : Nat) (x1 : CanFrame) (x2 : U32) (s : Dev) :
    Only [.regs, .mem, .lim, .exe, .host, .can, .cnt, .log, .inForce, .freeCtr] s (canFrameReceived x0 x1 x2 s) := by
  unfold canFrameReceived
  try dsimp only
  refine Only.ite ?_ ?_
  · exact Only.refl _ _
  · refine Only.ite_else ?_ ?_
    · refine Only.ite_else ?_ ?_
      · apply Only.via
        · apply Only.then (setCan_only _ _ _) rfl
          exact Only.refl _ _
        · refine Only.then (canTakeFrame_only _ _ _ _) rfl ?_
          exact Only.refl _ _
        · split
          · refine Only.then (arbLost_only _ _ _) rfl ?_
            exact Only.refl _ _
          · exact Only.refl _ _
      · refine Only.then (drainCancels_only _ _ _) rfl ?_
        refine Only.then (endAttempt_only _ _) rfl ?_
        exact Only.refl _ _
    · refine Only.then (canStat_only _ _ _) rfl ?_
      exact Only.refl _ _

theorem canIntegrationComplete_only (x0 : Nat) (s : Dev) :
    Only [.regs, .can] s (canIntegrationComplete x0 s) := by
  unfold canIntegrationComplete
  try dsimp only
  refine Only.ite_then ?_ ?_
  · exact Only.refl _ _
  · refine Only.then (canSync_only _ _) rfl ?_
    refine Only.then (setCan_only _ _ _) rfl ?_
    exact Only.refl _ _

theorem canObjSend_only (x0 x1 x2 : Nat) (x3 : U32) (s : Dev) :
    Only [.regs, .can, .busErr] s (canObjSend x0 x1 x2 x3 s) := by
  unfold canObjSend
  try dsimp only
  refine Only.ite ?_ ?_
  · refine Only.then (busErrorTo_only _ _) rfl ?_
    exact Only.refl _ _
  · refine Only.then (holdCheck_only _ _) rfl ?_
    refine Only.then (wr_only _ _ _) rfl ?_
    exact Only.refl _ _

theorem canReconfigure_only (s : Dev) (x1 : Nat) :
    Only [.regs, .mem, .lim, .exe, .host, .can, .log, .inForce] s (canReconfigure s x1) := by
  unfold canReconfigure
  try dsimp only
  refine Only.ite_then ?_ ?_
  · refine Only.then (wrN_only _ _ _) rfl ?_
    refine Only.then (canRestrict_only _ _) rfl ?_
    exact Only.refl _ _
  · refine Only.ite ?_ ?_
    · refine Only.then (setCan_only _ _ _) rfl ?_
      exact Only.refl _ _
    · refine Only.then (canApply_only _ _) rfl ?_
      exact Only.refl _ _

theorem cancelOpen_only (s : Dev) (x1 x2 x3 : Nat) :
    Only [.regs, .mem, .lim, .exe, .host, .can, .freeCtr] s (cancelOpen s x1 x2 x3) := by
  unfold cancelOpen
  try dsimp only [takeBit, takeWord, takeNat]
  refine Only.ite ?_ ?_
  · refine Only.then (cancelElem_only _ _ _ _ _) rfl ?_
    refine Only.upd_freeCtr rfl ?_
    exact Only.refl _ _
  · refine Only.then (cancelElem_only _ _ _ _ _) rfl ?_
    exact Only.refl _ _

theorem resumeBuf_only (s : Dev) (x1 x2 : Nat) :
    Only [.regs, .can, .log, .inForce] s (resumeBuf s x1 x2) := by
  unfold resumeBuf
  try dsimp only
  refine Only.ite_then ?_ ?_
  · exact Only.refl _ _
  · refine Only.then (clearCond_only _ _ _ _ _) rfl ?_
    refine Only.then (txbSync_only _ _ _ _ _) rfl ?_
    refine Only.then (setCan_only _ _ _) rfl ?_
    exact Only.refl _ _

theorem resumeObjs_only (s : Dev) (x1 : Nat) :
    Only [.can, .log, .inForce] s (resumeObjs s x1) := by
  unfold resumeObjs
  try dsimp only
  refine Only.ite_then ?_ ?_
  · exact Only.refl _ _
  · refine Only.then (clearCond_only _ _ _ _ _) rfl ?_
    refine Only.then (setCan_only _ _ _) rfl ?_
    exact Only.refl _ _

theorem canResume_only (s : Dev) (x1 : Nat) (x2 : U32) :
    Only [.regs, .can, .log, .inForce] s (canResume s x1 x2) := by
  unfold canResume
  try dsimp only
  refine Only.ite_else ?_ ?_
  · refine Only.ite_else ?_ ?_
    · refine Only.ite_else ?_ ?_
      · refine Only.ite_else ?_ ?_
        · exact Only.refl _ _
        · refine Only.then (resumeBuf_only _ _ _) rfl ?_
          exact Only.refl _ _
      · refine Only.then (resumeBuf_only _ _ _) rfl ?_
        exact Only.refl _ _
    · refine Only.then (resumeBuf_only _ _ _) rfl ?_
      exact Only.refl _ _
  · refine Only.then (resumeObjs_only _ _) rfl ?_
    exact Only.refl _ _

theorem canOpTake_only (s : Dev) (x1 : Nat) (x2 : CanOp) :
    Only [.regs, .mem, .lim, .exe, .host, .can, .log, .inForce, .freeCtr] s (canOpTake s x1 x2) := by
  unfold canOpTake
  try dsimp only
  split
  · refine Only.then (fltBuild_only _ _) rfl ?_
    exact Only.refl _ _
  · refine Only.then (canReconfigure_only _ _) rfl ?_
    exact Only.refl _ _
  · refine Only.then (flushProfile_only _) rfl ?_
    refine Only.then (cancelOpen_only _ _ _ _) rfl ?_
    exact Only.refl _ _
  · refine Only.then (canResume_only _ _ _) rfl ?_
    exact Only.refl _ _
  · refine Only.then (recoveryTry_only _ _) rfl ?_
    exact Only.refl _ _

theorem cancelProfile_only (s : Dev) (x1 : Nat) (x2 : Bool) :
    Only [.exe, .can] s (cancelProfile s x1 x2) := by
  unfold cancelProfile
  try dsimp only
  refine Only.ite ?_ ?_
  · refine Only.ite_else ?_ ?_
    · refine Only.then (canAsk_only _ _ _) rfl ?_
      refine Only.then (setCan_only _ _ _) rfl ?_
      exact Only.refl _ _
    · refine Only.then (canAsk_only _ _ _) rfl ?_
      exact Only.refl _ _
  · refine Only.ite_else ?_ ?_
    · refine Only.forL ?_ ?_
      · exact Only.refl _ _
      · intro u x
        try dsimp only
        refine Only.then (canAsk_only _ _ _) rfl ?_
        exact Only.refl _ _
    · refine Only.forL ?_ ?_
      · exact Only.refl _ _
      · intro u x
        try dsimp only
        refine Only.then (canAsk_only _ _ _) rfl ?_
        exact Only.refl _ _

theorem canRamUncorrectable_only (x0 x1 : Nat) (s : Dev) :
    Only [.regs, .exe, .can, .log, .inForce] s (canRamUncorrectable x0 x1 s) := by
  unfold canRamUncorrectable
  try dsimp only
  refine Only.ite_then ?_ ?_
  · refine Only.then (note_only _ _ _ _) rfl ?_
    refine Only.then (raise_only _ _ _ _ _) rfl ?_
    refine Only.ite_then ?_ ?_
    · refine Only.then (canIr_only _ _ _) rfl ?_
      refine Only.then (canIr_only _ _ _) rfl ?_
      refine Only.then (wrB_only _ _ _ _) rfl ?_
      exact Only.refl _ _
    · refine Only.then (modeChange_only _ _ _ _ _) rfl ?_
      exact Only.refl _ _
  · refine Only.then (setCan_only _ _ _) rfl ?_
    refine Only.ite_else ?_ ?_
    · exact Only.refl _ _
    · refine Only.then (cancelProfile_only _ _ _) rfl ?_
      exact Only.refl _ _

theorem canRamWrite_only (s : Dev) (x1 x2 : Nat) (x3 : U32) :
    Only [.regs, .mem] s (canRamWrite s x1 x2 x3) := by
  unfold canRamWrite
  try dsimp only
  refine Only.ite_then ?_ ?_
  · exact Only.refl _ _
  · refine Only.ite ?_ ?_
    · refine Only.then (wrB_only _ _ _ _) rfl ?_
      exact Only.refl _ _
    · refine Only.then (st32_only _ _ _) rfl ?_
      exact Only.refl _ _

theorem canRecoverBody_only (x0 : HostCmd) (s : Dev) :
    Only [.exe, .host] s (canRecoverBody x0 s) := by
  unfold canRecoverBody
  try dsimp only
  refine Only.ite ?_ ?_
  · refine Only.then (answer_only _ _ _ _) rfl ?_
    exact Only.refl _ _
  · refine Only.ite ?_ ?_
    · refine Only.then (answer_only _ _ _ _) rfl ?_
      exact Only.refl _ _
    · refine Only.ite ?_ ?_
      · refine Only.then (answer_only _ _ _ _) rfl ?_
        exact Only.refl _ _
      · refine Only.then (answer_only _ _ _ _) rfl ?_
        refine Only.ite_else ?_ ?_
        · refine Only.ite_else ?_ ?_
          · exact Only.refl _ _
          · refine Only.then (canAsk_only _ _ _) rfl ?_
            exact Only.refl _ _
        · refine Only.then (canAsk_only _ _ _) rfl ?_
          exact Only.refl _ _

theorem canRecover_only (x0 : HostCmd) (s : Dev) :
    Only [.exe, .host, .actor] s (canRecover x0 s) := by
  unfold canRecover
  try dsimp only
  refine serve_only rfl ?_
  intro u
  refine Only.then (canRecoverBody_only _ _) rfl ?_
  exact Only.refl _ _

theorem canRecoveryComplete_only (x0 : Nat) (s : Dev) :
    Only [.regs, .can, .log, .inForce] s (canRecoveryComplete x0 s) := by
  unfold canRecoveryComplete
  try dsimp only
  refine Only.ite_then ?_ ?_
  · exact Only.refl _ _
  · refine Only.then (note_only _ _ _ _) rfl ?_
    refine Only.then (clearCond_only _ _ _ _ _) rfl ?_
    refine Only.then (clearCond_only _ _ _ _ _) rfl ?_
    refine Only.then (canSync_only _ _) rfl ?_
    refine Only.then (canIr_only _ _ _) rfl ?_
    refine Only.then (setCan_only _ _ _) rfl ?_
    exact Only.refl _ _

theorem canRegWrite_only (s : Dev) (x1 x2 : Nat) (x3 : U32) :
    Only [.regs, .mem, .lim, .exe, .host, .can, .log, .inForce] s (canRegWrite s x1 x2 x3) := by
  unfold canRegWrite
  try dsimp only
  refine Only.ite ?_ ?_
  · refine Only.then (canCtrlWrite_only _ _ _) rfl ?_
    exact Only.refl _ _
  · refine Only.ite_then ?_ ?_
    · exact Only.refl _ _
    · refine Only.ite ?_ ?_
      · refine Only.then (wrB_only _ _ _ _) rfl ?_
        exact Only.refl _ _
      · refine Only.then (wr_only _ _ _) rfl ?_
        exact Only.refl _ _

theorem canReinit_only (s : Dev) (x1 : Nat) :
    Only [.regs, .mem, .lim, .exe, .host, .can, .log, .inForce] s (canReinit s x1) := by
  unfold canReinit
  try dsimp only
  refine Only.ite_then ?_ ?_
  · refine Only.ite_else ?_ ?_
    · refine Only.ite_else ?_ ?_
      · refine Only.then (wrB_only _ _ _ _) rfl ?_
        exact Only.refl _ _
      · refine Only.then (fltSwap_only _ _) rfl ?_
        exact Only.refl _ _
    · refine Only.then (flushAll_only _ _) rfl ?_
      exact Only.refl _ _
  · refine Only.then (canSync_only _ _) rfl ?_
    refine Only.then (setCan_only _ _ _) rfl ?_
    refine Only.ite_then ?_ ?_
    · refine Only.then (wrB_only _ _ _ _) rfl ?_
      refine Only.then (wrB_only _ _ _ _) rfl ?_
      refine Only.then (fltBuild_only _ _) rfl ?_
      refine Only.then (wrN_only _ _ _) rfl ?_
      refine Only.then (wrN_only _ _ _) rfl ?_
      refine Only.then (clearCond_only _ _ _ _ _) rfl ?_
      refine Only.then (clearCond_only _ _ _ _ _) rfl ?_
      refine Only.then (setCan_only _ _ _) rfl ?_
      refine Only.then (objSetup_only _ _) rfl ?_
      refine Only.then (clearMem_only _ _ _) rfl ?_
      refine Only.then (clearMem_only _ _ _) rfl ?_
      exact Only.refl _ _
    · refine Only.then (modeChange_only _ _ _ _ _) rfl ?_
      refine Only.then (clearCond_only _ _ _ _ _) rfl ?_
      exact Only.refl _ _

theorem rxRelease_only (s : Dev) (x1 x2 x3 : Nat) :
    Only [.regs, .can, .log, .inForce] s (rxRelease s x1 x2 x3) := by
  unfold rxRelease
  try dsimp only
  refine Only.ite_then ?_ ?_
  · exact Only.refl _ _
  · refine Only.then (clearCond_only _ _ _ _ _) rfl ?_
    refine Only.then (wrN_only _ _ _) rfl ?_
    refine Only.then (setFill_only _ _ _ _) rfl ?_
    exact Only.refl _ _

theorem canRxReadBody_only (x0 : HostCmd) (s : Dev) :
    Only [.regs, .exe, .host, .can, .log, .inForce] s (canRxReadBody x0 s) := by
  unfold canRxReadBody
  try dsimp only
  refine Only.ite ?_ ?_
  · refine Only.then (answer_only _ _ _ _) rfl ?_
    exact Only.refl _ _
  · refine Only.ite ?_ ?_
    · refine Only.then (answer_only _ _ _ _) rfl ?_
      exact Only.refl _ _
    · refine Only.ite ?_ ?_
      · refine Only.then (answer_only _ _ _ _) rfl ?_
        exact Only.refl _ _
      · refine Only.ite ?_ ?_
        · refine Only.then (answer_only _ _ _ _) rfl ?_
          exact Only.refl _ _
        · refine Only.ite ?_ ?_
          · refine Only.then (finish_only _ _ _ _ _) rfl ?_
            refine Only.forL ?_ ?_
            · exact Only.refl _ _
            · intro u x
              try dsimp only
              refine Only.then (wrB_only _ _ _ _) rfl ?_
              refine Only.then (wrB_only _ _ _ _) rfl ?_
              exact Only.refl _ _
          · refine Only.then (finish_only _ _ _ _ _) rfl ?_
            refine Only.then (rxRelease_only _ _ _ _) rfl ?_
            refine Only.then (setCan_only _ _ _) rfl ?_
            exact Only.refl _ _

theorem canRxRead_only (x0 : HostCmd) (s : Dev) :
    Only [.regs, .exe, .host, .can, .log, .inForce, .actor] s (canRxRead x0 s) := by
  unfold canRxRead
  try dsimp only
  refine serve_only rfl ?_
  intro u
  refine Only.then (canRxReadBody_only _ _) rfl ?_
  exact Only.refl _ _

theorem canRxfAckWrite_only (x0 x1 x2 x3 : Nat) (s : Dev) :
    Only [.regs, .can, .log, .inForce, .busErr] s (canRxfAckWrite x0 x1 x2 x3 s) := by
  unfold canRxfAckWrite
  try dsimp only
  refine Only.ite ?_ ?_
  · refine Only.then (busErrorTo_only _ _) rfl ?_
    exact Only.refl _ _
  · refine Only.ite_then ?_ ?_
    · exact Only.refl _ _
    · refine Only.then (rxRelease_only _ _ _ _) rfl ?_
      exact Only.refl _ _

theorem canStatusBody_only (x0 : HostCmd) (s : Dev) :
    Only [.exe, .host] s (canStatusBody x0 s) := by
  unfold canStatusBody
  try dsimp only
  refine Only.ite ?_ ?_
  · refine Only.then (answer_only _ _ _ _) rfl ?_
    exact Only.refl _ _
  · refine Only.ite ?_ ?_
    · refine Only.then (answer_only _ _ _ _) rfl ?_
      exact Only.refl _ _
    · refine Only.then (finish_only _ _ _ _ _) rfl ?_
      exact Only.refl _ _

theorem canStatus_only (x0 : HostCmd) (s : Dev) :
    Only [.exe, .host, .actor] s (canStatus x0 s) := by
  unfold canStatus
  try dsimp only
  refine serve_only rfl ?_
  intro u
  refine Only.then (canStatusBody_only _ _) rfl ?_
  exact Only.refl _ _

theorem requeue_only (s : Dev) (x1 : Nat) :
    Only [.exe] s (requeue s x1) := by
  unfold requeue
  try dsimp only
  refine Only.ite_else ?_ ?_
  · exact Only.refl _ _
  · refine Only.forL ?_ ?_
    · exact Only.refl _ _
    · intro u x
      try dsimp only
      refine Only.then (profileTo_only _ _ _ _ _) rfl ?_
      exact Only.refl _ _

theorem canTick_only (s : Dev) :
    Only [.regs, .mem, .lim, .exe, .host, .can, .log, .inForce] s (canTick s) := by
  unfold canTick
  try dsimp only
  refine Only.ite_then ?_ ?_
  · exact Only.refl _ _
  · refine Only.forN ?_ ?_
    · exact Only.refl _ _
    · intro u x
      try dsimp only
      refine Only.ite ?_ ?_
      · refine Only.ite_then ?_ ?_
        · refine Only.then (canReinit_only _ _) rfl ?_
          exact Only.refl _ _
        · refine Only.then (flushProfile_only _) rfl ?_
          refine Only.then (requeue_only _ _) rfl ?_
          exact Only.refl _ _
      · refine Only.ite ?_ ?_
        · refine Only.then (wrB_only _ _ _ _) rfl ?_
          exact Only.refl _ _
        · refine Only.ite_else ?_ ?_
          · exact Only.refl _ _
          · refine Only.then (canAsk_only _ _ _) rfl ?_
            refine Only.then (setCan_only _ _ _) rfl ?_
            exact Only.refl _ _

theorem canTransmitComplete_only (x0 : Nat) (x1 : List Nat) (s : Dev) :
    Only [.regs, .mem, .lim, .exe, .host, .can, .cnt, .log, .inForce] s (canTransmitComplete x0 x1 s) := by
  unfold canTransmitComplete
  try dsimp only
  split
  · exact Only.refl _ _
  · refine Only.then (flushProfile_only _) rfl ?_
    refine Only.then (holdCheck_only _ _) rfl ?_
    refine Only.then (endAttempt_only _ _) rfl ?_
    refine Only.ite_then ?_ ?_
    · refine Only.then (countBytes_only _ _ _) rfl ?_
      refine Only.then (countEv_only _ _ _ _) rfl ?_
      refine Only.then (wrN_only _ _ _) rfl ?_
      refine Only.ite_else ?_ ?_
      · refine Only.then (leaveElem_only _ _ _ _ _ _) rfl ?_
        refine Only.then (setCan_only _ _ _) rfl ?_
        refine Only.then (tdcMeasure_only _ _ _ _) rfl ?_
        exact Only.refl _ _
      · refine Only.then (st32_only _ _ _) rfl ?_
        exact Only.refl _ _
    · refine Only.then (setErr_only _ _ _ _) rfl ?_
      exact Only.refl _ _

theorem canTxBody_only (x0 : HostCmd) (s : Dev) :
    Only [.exe, .host] s (canTxBody x0 s) := by
  unfold canTxBody
  try dsimp only
  refine Only.ite ?_ ?_
  · refine Only.then (answer_only _ _ _ _) rfl ?_
    exact Only.refl _ _
  · refine Only.ite ?_ ?_
    · refine Only.then (answer_only _ _ _ _) rfl ?_
      exact Only.refl _ _
    · refine Only.ite ?_ ?_
      · refine Only.then (answer_only _ _ _ _) rfl ?_
        exact Only.refl _ _
      · refine Only.ite ?_ ?_
        · refine Only.then (answer_only _ _ _ _) rfl ?_
          exact Only.refl _ _
        · refine Only.then (emit_only _ _ _) rfl ?_
          exact Only.refl _ _

theorem canTx_only (x0 : HostCmd) (s : Dev) :
    Only [.exe, .host, .actor] s (canTx x0 s) := by
  unfold canTx
  try dsimp only
  refine serve_only rfl ?_
  intro u
  refine Only.then (canTxBody_only _ _) rfl ?_
  exact Only.refl _ _

theorem canTxCancelWrite_only (x0 x1 : Nat) (x2 : U32) (x3 : Bool) (s : Dev) :
    Only [.regs, .mem, .lim, .exe, .host, .can, .busErr] s (canTxCancelWrite x0 x1 x2 x3 s) := by
  unfold canTxCancelWrite
  try dsimp only
  refine Only.ite ?_ ?_
  · refine Only.then (busErrorTo_only _ _) rfl ?_
    exact Only.refl _ _
  · refine Only.then (cancelElem_only _ _ _ _ _) rfl ?_
    exact Only.refl _ _

theorem canTxResumeWrite_only (x0 x1 : Nat) (x2 : U32) (s : Dev) :
    Only [.regs, .can, .log, .inForce, .busErr] s (canTxResumeWrite x0 x1 x2 s) := by
  unfold canTxResumeWrite
  try dsimp only
  refine Only.ite ?_ ?_
  · refine Only.then (busErrorTo_only _ _) rfl ?_
    exact Only.refl _ _
  · refine Only.then (canResume_only _ _ _) rfl ?_
    exact Only.refl _ _

theorem canTxbPutWrite_only (x0 x1 x2 x3 : Nat) (s : Dev) :
    Only [.regs, .can, .busErr] s (canTxbPutWrite x0 x1 x2 x3 s) := by
  unfold canTxbPutWrite
  try dsimp only
  refine Only.ite ?_ ?_
  · refine Only.then (busErrorTo_only _ _) rfl ?_
    exact Only.refl _ _
  · refine Only.ite_then ?_ ?_
    · exact Only.refl _ _
    · refine Only.then (holdCheck_only _ _) rfl ?_
      refine Only.then (txbSync_only _ _ _ _ _) rfl ?_
      exact Only.refl _ _

theorem canTxevAckWrite_only (x0 x1 x2 : Nat) (s : Dev) :
    Only [.regs, .mem, .lim, .exe, .host, .can, .busErr] s (canTxevAckWrite x0 x1 x2 s) := by
  unfold canTxevAckWrite
  try dsimp only
  refine Only.ite ?_ ?_
  · refine Only.then (busErrorTo_only _ _) rfl ?_
    exact Only.refl _ _
  · refine Only.ite_then ?_ ?_
    · exact Only.refl _ _
    · refine Only.then (flushProfile_only _) rfl ?_
      refine Only.then (drainCancels_only _ _ _) rfl ?_
      refine Only.then (wrN_only _ _ _) rfl ?_
      refine Only.then (setCan_only _ _ _) rfl ?_
      exact Only.refl _ _

theorem canWakePattern_only (s : Dev) :
    Only [.regs, .pwr] s (canWakePattern s) := by
  unfold canWakePattern
  try dsimp only
  refine Only.ite_else ?_ ?_
  · exact Only.refl _ _
  · refine Only.upd_pwr rfl ?_
    refine Only.then (wrB_only _ _ _ _) rfl ?_
    exact Only.refl _ _

theorem capLearnArmTimeout_only (x0 : Nat) (s : Dev) :
    Only [.mem] s (capLearnArmTimeout x0 s) := by
  unfold capLearnArmTimeout
  try dsimp only
  refine Only.ite_else ?_ ?_
  · exact Only.refl _ _
  · refine Only.then (setLstate_only _ _ _) rfl ?_
    exact Only.refl _ _

theorem capWrite_only (s : Dev) (x1 : Nat) (x2 : F32) :
    Only [.mem, .est] s (capWrite s x1 x2) := by
  unfold capWrite
  try dsimp only
  refine Only.ite ?_ ?_
  · refine Only.upd_est rfl ?_
    exact Only.refl _ _
  · refine Only.then (st32_only _ _ _) rfl ?_
    exact Only.refl _ _

theorem capTake_only (s : Dev) :
    Only [.mem, .est, .log, .inForce] s (capTake s) := by
  unfold capTake
  try dsimp only
  refine Only.ite_then ?_ ?_
  · exact Only.refl _ _
  · refine Only.forL ?_ ?_
    · refine Only.upd_est rfl ?_
      exact Only.refl _ _
    · intro u x
      try dsimp only
      refine Only.then (strHealth_only _ _) rfl ?_
      refine Only.then (cellHealth_only _ _ _) rfl ?_
      refine Only.then (capWrite_only _ _ _) rfl ?_
      exact Only.refl _ _

theorem hostCapS_only (s : Dev) (x1 x2 : Nat) :
    Only [.mem, .chg, .log, .pwr, .inForce] s (hostCapS s x1 x2) := by
  unfold hostCapS
  try dsimp only
  refine Only.then (saveSoon_only _) rfl ?_
  refine Only.then (strHealth_only _ _) rfl ?_
  refine Only.then (setChg_only _ _ _) rfl ?_
  refine Only.then (setLflag_only _ _ _ _) rfl ?_
  refine Only.then (st32_only _ _ _) rfl ?_
  refine Only.then (st32_only _ _ _) rfl ?_
  refine Only.then (learnAbort_only _ _ _) rfl ?_
  exact Only.refl _ _

theorem hostCap_only (s : Dev) (x1 x2 : Nat) :
    Only [.mem, .est, .log, .pwr, .inForce] s (hostCap s x1 x2) := by
  unfold hostCap
  try dsimp only
  refine Only.then (saveSoon_only _) rfl ?_
  refine Only.then (strHealth_only _ _) rfl ?_
  refine Only.then (cellHealth_only _ _ _) rfl ?_
  refine Only.then (setHflag_only _ _ _ _) rfl ?_
  refine Only.then (setRecF_only _ _ _ _) rfl ?_
  refine Only.then (capWrite_only _ _ _) rfl ?_
  refine Only.then (learnAbort_only _ _ _) rfl ?_
  exact Only.refl _ _

theorem capacityWriteBody_only (x0 : HostCmd) (s : Dev) :
    Only [.mem, .est, .chg, .exe, .host, .log, .pwr, .inForce] s (capacityWriteBody x0 s) := by
  unfold capacityWriteBody
  try dsimp only
  refine Only.ite ?_ ?_
  · refine Only.then (answer_only _ _ _ _) rfl ?_
    exact Only.refl _ _
  · refine Only.ite ?_ ?_
    · refine Only.then (answer_only _ _ _ _) rfl ?_
      exact Only.refl _ _
    · refine Only.ite ?_ ?_
      · refine Only.then (answer_only _ _ _ _) rfl ?_
        exact Only.refl _ _
      · refine Only.ite ?_ ?_
        · refine Only.then (answer_only _ _ _ _) rfl ?_
          exact Only.refl _ _
        · refine Only.ite ?_ ?_
          · refine Only.then (answer_only _ _ _ _) rfl ?_
            refine Only.then (hostCapS_only _ _ _) rfl ?_
            exact Only.refl _ _
          · refine Only.ite ?_ ?_
            · refine Only.then (answer_only _ _ _ _) rfl ?_
              refine Only.forL ?_ ?_
              · exact Only.refl _ _
              · intro u x
                try dsimp only
                refine Only.then (hostCap_only _ _ _) rfl ?_
                exact Only.refl _ _
            · refine Only.then (answer_only _ _ _ _) rfl ?_
              exact Only.refl _ _

theorem capacityWrite_only (x0 : HostCmd) (s : Dev) :
    Only [.mem, .est, .chg, .exe, .host, .log, .pwr, .inForce, .actor] s (capacityWrite x0 s) := by
  unfold capacityWrite
  try dsimp only
  refine serve_only rfl ?_
  intro u
  refine Only.then (capacityWriteBody_only _ _) rfl ?_
  exact Only.refl _ _

theorem catalogueReadBody_only (x0 : HostCmd) (s : Dev) :
    Only [.exe, .host] s (catalogueReadBody x0 s) := by
  unfold catalogueReadBody
  try dsimp only
  refine Only.ite ?_ ?_
  · refine Only.then (answer_only _ _ _ _) rfl ?_
    exact Only.refl _ _
  · split
    · refine Only.then (answer_only _ _ _ _) rfl ?_
      exact Only.refl _ _
    · refine Only.ite ?_ ?_
      · refine Only.then (catalogueReply_only _ _) rfl ?_
        exact Only.refl _ _
      · refine Only.upd_host rfl ?_
        exact Only.refl _ _

theorem catalogueRead_only (x0 : HostCmd) (s : Dev) :
    Only [.exe, .host, .actor] s (catalogueRead x0 s) := by
  unfold catalogueRead
  try dsimp only
  refine serve_only rfl ?_
  intro u
  refine Only.then (catalogueReadBody_only _ _) rfl ?_
  exact Only.refl _ _

theorem cfgDeliver_only (s : Dev) (x1 : List (Nat × U32 × U32)) :
    Only [.dev, .regs, .lim, .strs, .bus, .saf, .exe, .can, .cnt, .log, .pwr, .inForce] s (cfgDeliver s x1) := by
  unfold cfgDeliver
  try dsimp only
  refine Only.forN ?_ ?_
  · refine Only.then (cfgTake_only _ _) rfl ?_
    exact Only.refl _ _
  · intro u x
    try dsimp only
    refine Only.ite_else ?_ ?_
    · exact Only.refl _ _
    · refine Only.then (sinJudge_only _ _) rfl ?_
      exact Only.refl _ _

theorem fullReference_only (s : Dev) (x1 : Nat) :
    Only [.mem, .est, .chg, .exe, .log, .inForce] s (fullReference s x1) := by
  unfold fullReference
  try dsimp only
  apply Only.via
  · apply Only.then (setLstate_only _ _ _) rfl
    exact Only.refl _ _
  · refine Only.then (post_only _ _ _ _) rfl ?_
    refine Only.then (setLstate_only _ _ _) rfl ?_
    refine Only.forL ?_ ?_
    · refine Only.then (st32_only _ _ _) rfl ?_
      refine Only.then (stN_only _ _ _ _) rfl ?_
      refine Only.then (st64_only _ _ _) rfl ?_
      exact Only.refl _ _
    · intro u x
      try dsimp only
      refine Only.then (setRecF_only _ _ _ _) rfl ?_
      refine Only.then (setRecF_only _ _ _ _) rfl ?_
      exact Only.refl _ _
  · refine Only.then (setChg_only _ _ _) rfl ?_
    refine Only.then (setLflag_only _ _ _ _) rfl ?_
    refine Only.then (reAnchor_only _ _) rfl ?_
    refine Only.then (confRef_only _ _ _ _) rfl ?_
    refine Only.then (post_only _ _ _ _) rfl ?_
    exact Only.refl _ _

theorem fullSnapshot_only (s : Dev) (x1 x2 : Nat) :
    Only [.mem, .est, .chg, .exe, .log, .inForce] s (fullSnapshot s x1 x2) := by
  unfold fullSnapshot
  try dsimp only
  refine Only.ite ?_ ?_
  · refine Only.then (setChg_only _ _ _) rfl ?_
    exact Only.refl _ _
  · refine Only.ite_else ?_ ?_
    · refine Only.then (setChg_only _ _ _) rfl ?_
      exact Only.refl _ _
    · refine Only.then (fullReference_only _ _) rfl ?_
      exact Only.refl _ _

theorem learnSnapshot_only (s : Dev) (x1 x2 : Nat) :
    Only [.mem, .chg, .log] s (learnSnapshot s x1 x2) := by
  unfold learnSnapshot
  try dsimp only
  refine Only.ite ?_ ?_
  · exact Only.refl _ _
  · refine Only.ite ?_ ?_
    · split
      · refine Only.ite_else ?_ ?_
        · refine Only.ite_else ?_ ?_
          · refine Only.ite_then ?_ ?_
            · refine Only.then (setChg_only _ _ _) rfl ?_
              refine Only.then (st16_only _ _ _) rfl ?_
              exact Only.refl _ _
            · refine Only.then (st16_only _ _ _) rfl ?_
              refine Only.then (st16_only _ _ _) rfl ?_
              exact Only.refl _ _
          · refine Only.then (learnAbort_only _ _ _) rfl ?_
            exact Only.refl _ _
        · refine Only.then (setLstate_only _ _ _) rfl ?_
          exact Only.refl _ _
      · refine Only.ite_else ?_ ?_
        · refine Only.ite_then ?_ ?_
          · refine Only.then (setChg_only _ _ _) rfl ?_
            refine Only.then (st16_only _ _ _) rfl ?_
            exact Only.refl _ _
          · refine Only.then (st16_only _ _ _) rfl ?_
            refine Only.then (st16_only _ _ _) rfl ?_
            exact Only.refl _ _
        · refine Only.then (learnAbort_only _ _ _) rfl ?_
          exact Only.refl _ _
    · refine Only.ite_else ?_ ?_
      · refine Only.ite_then ?_ ?_
        · refine Only.then (setChg_only _ _ _) rfl ?_
          refine Only.then (st16_only _ _ _) rfl ?_
          exact Only.refl _ _
        · refine Only.then (st16_only _ _ _) rfl ?_
          refine Only.then (st16_only _ _ _) rfl ?_
          exact Only.refl _ _
      · refine Only.then (learnAbort_only _ _ _) rfl ?_
        exact Only.refl _ _

theorem st64i_only (s : Dev) (x1 : Nat) (x2 : Int) :
    Only [.mem] s (st64i s x1 x2) := by
  unfold st64i
  try dsimp only
  refine Only.then (st64_only _ _ _) rfl ?_
  exact Only.refl _ _

theorem countSnapshot_only (s : Dev) (x1 x2 : Nat) :
    Only [.mem, .chg] s (countSnapshot s x1 x2) := by
  unfold countSnapshot
  try dsimp only
  split
  · refine Only.then (setChg_only _ _ _) rfl ?_
    exact Only.refl _ _
  · refine Only.ite_then ?_ ?_
    · apply Only.via
      · apply Only.then (st64i_only _ _ _) rfl
        exact Only.refl _ _
      · refine Only.then (st64i_only _ _ _) rfl ?_
        exact Only.refl _ _
      · refine Only.then (st64i_only _ _ _) rfl ?_
        refine Only.then (setChg_only _ _ _) rfl ?_
        exact Only.refl _ _
    · refine Only.then (st32_only _ _ _) rfl ?_
      refine Only.then (st64i_only _ _ _) rfl ?_
      exact Only.refl _ _

theorem chgSnapshot_only (s : Dev) (x1 : Nat) :
    Only [.mem, .est, .chg, .exe, .log, .inForce] s (chgSnapshot s x1) := by
  unfold chgSnapshot
  try dsimp only
  refine Only.forL ?_ ?_
  · exact Only.refl _ _
  · intro u x
    try dsimp only
    refine Only.then (fullSnapshot_only _ _ _) rfl ?_
    refine Only.then (learnSnapshot_only _ _ _) rfl ?_
    refine Only.then (balLearn_only _ _ _) rfl ?_
    refine Only.then (countSnapshot_only _ _ _) rfl ?_
    exact Only.refl _ _

theorem clFrameErr_only (s : Dev) (x1 : Nat) :
    Only [.regs, .cl, .log] s (clFrameErr s x1) := by
  unfold clFrameErr
  try dsimp only
  refine Only.ite_then ?_ ?_
  · refine Only.then (wrB_only _ _ _ _) rfl ?_
    refine Only.then (bumpReg_only _ _ _) rfl ?_
    exact Only.refl _ _
  · refine Only.then (post_only _ _ _ _) rfl ?_
    refine Only.upd_cl rfl ?_
    exact Only.refl _ _

theorem pcsIdle_only (s : Dev) :
    Only [.lim, .log, .inForce] s (pcsIdle s) := by
  unfold pcsIdle
  try dsimp only
  refine Only.ite_then ?_ ?_
  · exact Only.refl _ _
  · refine Only.forN ?_ ?_
    · refine Only.forN ?_ ?_
      · refine Only.foldl ?_ ?_
        · refine Only.upd_lim rfl ?_
          exact Only.refl _ _
        · intro u x
          try dsimp only
          refine Only.then (clearCond_only _ _ _ _ _) rfl ?_
          exact Only.refl _ _
      · intro u x
        try dsimp only
        refine Only.then (clearCond_only _ _ _ _ _) rfl ?_
        exact Only.refl _ _
    · intro u x
      try dsimp only
      refine Only.then (clearCond_only _ _ _ _ _) rfl ?_
      refine Only.then (clearCond_only _ _ _ _ _) rfl ?_
      exact Only.refl _ _

theorem newHead_only (s : Dev) (x1 : Option Nat) :
    Only [.regs, .lim, .cl, .log, .inForce] s (newHead s x1) := by
  unfold newHead
  try dsimp only
  refine Only.ite_then ?_ ?_
  · exact Only.refl _ _
  · apply Only.via
    · apply Only.upd_lim rfl
      apply Only.then (clearCond_only _ _ _ _ _) rfl
      exact Only.refl _ _
    · refine Only.then (pcsIdle_only _) rfl ?_
      exact Only.refl _ _
    · refine Only.then (post_only _ _ _ _) rfl ?_
      refine Only.then (wrN_only _ _ _) rfl ?_
      refine Only.then (wrB_only _ _ _ _) rfl ?_
      refine Only.then (wrF_only _ _ _ _ _) rfl ?_
      refine Only.upd_cl rfl ?_
      exact Only.refl _ _

theorem clLeave_only (s : Dev) :
    Only [.regs, .lim, .cl, .log, .inForce] s (clLeave s) := by
  unfold clLeave
  try dsimp only
  refine Only.then (wrN_only _ _ _) rfl ?_
  refine Only.then (wrN_only _ _ _) rfl ?_
  refine Only.then (wrN_only _ _ _) rfl ?_
  refine Only.upd_cl rfl ?_
  refine Only.then (wrB_only _ _ _ _) rfl ?_
  refine Only.then (clearCond_only _ _ _ _ _) rfl ?_
  refine Only.forL ?_ ?_
  · refine Only.then (newHead_only _ _) rfl ?_
    exact Only.refl _ _
  · intro u x
    try dsimp only
    refine Only.forL ?_ ?_
    · exact Only.refl _ _
    · intro u x
      try dsimp only
      refine Only.then (clearCond_only _ _ _ _ _) rfl ?_
      exact Only.refl _ _

theorem takeWord_only (s : Dev) :
    Only [.freeCtr] s (takeWord s).2 := by
  unfold takeWord
  try dsimp only
  refine Only.upd_freeCtr rfl ?_
  exact Only.refl _ _

theorem clNotice_only (s : Dev) (x1 : List U32) (x2 : Bool) :
    Only [.freeCtr] s (clNotice s x1 x2).2 := by
  unfold clNotice
  try dsimp only [takeBit, takeWord, takeNat]
  refine Only.upd_freeCtr rfl ?_
  exact Only.refl _ _

theorem claimSync_only (s : Dev) :
    Only [.regs, .saf, .log, .inForce] s (claimSync s) := by
  unfold claimSync
  try dsimp only
  apply Only.via
  · apply Only.then (clearCond_only _ _ _ _ _) rfl
    exact Only.refl _ _
  · refine Only.ite_else ?_ ?_
    · exact Only.refl _ _
    · refine Only.then (raise_only _ _ _ _ _) rfl ?_
      exact Only.refl _ _
  · refine Only.then (wrB_only _ _ _ _) rfl ?_
    refine Only.upd_saf rfl ?_
    exact Only.refl _ _

theorem clampDir_only (s : Dev) (x1 : Bool) :
    Only [.lim] s (clampDir s x1) := by
  unfold clampDir
  try dsimp only
  refine Only.ite ?_ ?_
  · refine Only.then (setWin_only _ _ _) rfl ?_
    exact Only.refl _ _
  · refine Only.then (setWin_only _ _ _) rfl ?_
    exact Only.refl _ _

theorem clampRun_only (s : Dev) :
    Only [.lim, .log, .inForce] s (clampRun s) := by
  unfold clampRun
  try dsimp only
  refine Only.ite_then ?_ ?_
  · refine Only.then (clampDir_only _ _) rfl ?_
    refine Only.then (clampDir_only _ _) rfl ?_
    refine Only.then (pcsIdle_only _) rfl ?_
    exact Only.refl _ _
  · refine Only.upd_lim rfl ?_
    exact Only.refl _ _

theorem demandEnd_only (s : Dev) (x1 : Nat) :
    Only [.regs, .strs, .bus, .saf, .exe, .log, .inForce] s (demandEnd s x1) := by
  unfold demandEnd
  try dsimp only
  refine Only.ite_else ?_ ?_
  · exact Only.refl _ _
  · refine Only.ite_else ?_ ?_
    · refine Only.then (f4Holds_only _) rfl ?_
      refine Only.then (unforce_only _ _ _) rfl ?_
      refine Only.then (clearCond_only _ _ _ _ _) rfl ?_
      refine Only.then (clearCond_only _ _ _ _ _) rfl ?_
      refine Only.then (post_only _ _ _ _) rfl ?_
      refine Only.then (setSin_only _ _ _) rfl ?_
      refine Only.then (wrB_only _ _ _ _) rfl ?_
      exact Only.refl _ _
    · refine Only.forL ?_ ?_
      · exact Only.refl _ _
      · intro u x
        try dsimp only
        refine Only.then (directionSync_only _ _) rfl ?_
        exact Only.refl _ _

theorem clearFaults_only (s : Dev) (x1 : Nat) :
    Only [.regs, .strs, .bus, .saf, .exe, .log, .inForce] s (clearFaults s x1) := by
  unfold clearFaults
  try dsimp only
  refine Only.forN ?_ ?_
  · exact Only.refl _ _
  · intro u x
    try dsimp only
    refine Only.ite_else ?_ ?_
    · exact Only.refl _ _
    · refine Only.then (demandEnd_only _ _) rfl ?_
      refine Only.then (clearCond_only _ _ _ _ _) rfl ?_
      refine Only.then (clearCond_only _ _ _ _ _) rfl ?_
      refine Only.then (clearCond_only _ _ _ _ _) rfl ?_
      refine Only.then (wrB_only _ _ _ _) rfl ?_
      exact Only.refl _ _

theorem clearLocks_only (s : Dev) (x1 : Nat) :
    Only [.regs, .inForce] s (clearLocks s x1) := by
  unfold clearLocks
  try dsimp only
  refine Only.forN ?_ ?_
  · exact Only.refl _ _
  · intro u x
    try dsimp only
    refine Only.ite_else ?_ ?_
    · exact Only.refl _ _
    · refine Only.forL ?_ ?_
      · refine Only.then (wrB_only _ _ _ _) rfl ?_
        exact Only.refl _ _
      · intro u x
        try dsimp only
        refine Only.then (unforce_only _ _ _) rfl ?_
        refine Only.then (unforce_only _ _ _) rfl ?_
        exact Only.refl _ _

theorem restartInputs_only (s : Dev) (x1 : Nat) :
    Only [.regs, .strs, .bus, .saf, .exe, .log, .inForce] s (restartInputs s x1).2 := by
  unfold restartInputs
  try dsimp only
  refine Only.foldl_snd ?_ ?_
  · dsimp only
    exact Only.refl _ _
  · intro u x
    try dsimp only
    refine Only.ite_snd ?_ ?_
    · dsimp only
      refine Only.then (demandEnd_only _ _) rfl ?_
      refine Only.then (wrB_only _ _ _ _) rfl ?_
      exact Only.refl _ _
    · exact Only.refl _ _

theorem safResetTake_only (s : Dev) (x1 : U32) :
    Only [.regs, .strs, .bus, .saf, .exe, .log, .inForce] s (safResetTake s x1) := by
  unfold safResetTake
  try dsimp only
  refine Only.ite_then ?_ ?_
  · exact Only.refl _ _
  · refine Only.then (clearLocks_only _ _) rfl ?_
    refine Only.ite_else ?_ ?_
    · refine Only.then (clearFaults_only _ _) rfl ?_
      exact Only.refl _ _
    · refine Only.then (wrB_only _ _ _ _) rfl ?_
      exact Only.refl _ _

theorem clearTaken_only (s : Dev) (x1 : Nat) (x2 : Bool) (x3 : U32) :
    Only [.regs, .strs, .bus, .saf, .exe, .log, .inForce, .actor] s (clearTaken s x1 x2 x3) := by
  unfold clearTaken
  try dsimp only
  refine Only.upd_actor rfl ?_
  refine Only.ite ?_ ?_
  · refine Only.then (restartInputs_only _ _) rfl ?_
    refine Only.upd_actor rfl ?_
    exact Only.refl _ _
  · refine Only.then (safResetTake_only _ _) rfl ?_
    refine Only.upd_actor rfl ?_
    exact Only.refl _ _

theorem closeMN_only (s : Dev) (x1 : Nat) (x2 : ConnPhase) :
    Only [.strs, .exe] s (closeMN s x1 x2) := by
  unfold closeMN
  try dsimp only
  refine Only.then (issueCoils_only _ _ _) rfl ?_
  refine Only.then (setStr_only _ _ _) rfl ?_
  exact Only.refl _ _

theorem closeMP_only (s : Dev) (x1 : Nat) :
    Only [.strs, .exe] s (closeMP s x1) := by
  unfold closeMP
  try dsimp only
  refine Only.then (issueCoils_only _ _ _) rfl ?_
  refine Only.then (setStr_only _ _ _) rfl ?_
  exact Only.refl _ _

theorem ringGot_only (s : Dev) (x1 : Nat) :
    Only [.regs] s (ringGot s x1) := by
  unfold ringGot
  try dsimp only
  refine Only.ite_else ?_ ?_
  · exact Only.refl _ _
  · refine Only.then (countEv_only _ _ _ _) rfl ?_
    exact Only.refl _ _

theorem ringBytes_only (s : Dev) (x1 x2 : Nat) :
    Only [.regs, .cnt] s (ringBytes s x1 x2) := by
  unfold ringBytes
  try dsimp only
  refine Only.ite_else ?_ ?_
  · exact Only.refl _ _
  · refine Only.then (countBytes_only _ _ _) rfl ?_
    exact Only.refl _ _

theorem closeProbeArrived_only (x0 x1 : Nat) (s : Dev) :
    Only [.regs, .rings, .exe, .cnt, .log, .inForce] s (closeProbeArrived x0 x1 s) := by
  unfold closeProbeArrived
  try dsimp only
  refine Only.ite_then ?_ ?_
  · refine Only.then (ringGot_only _ _) rfl ?_
    refine Only.then (ringBytes_only _ _ _) rfl ?_
    exact Only.refl _ _
  · refine Only.then (post_only _ _ _ _) rfl ?_
    refine Only.then (ringCounts_only _ _) rfl ?_
    refine Only.then (clearCond_only _ _ _ _ _) rfl ?_
    refine Only.then (clearCond_only _ _ _ _ _) rfl ?_
    refine Only.then (programRing_only _ _ _) rfl ?_
    refine Only.then (wrN_only _ _ _) rfl ?_
    refine Only.then (sendEnum_only _ _ _ _ _) rfl ?_
    refine Only.then (refuseFar_only _ _) rfl ?_
    refine Only.then (latFromTotal_only _ _ _ _) rfl ?_
    refine Only.then (setRing_only _ _ _) rfl ?_
    exact Only.refl _ _

theorem closeSession_only (s : Dev) (x1 x2 : Nat) :
    Only [.regs, .exe, .host, .log, .pwr, .inForce] s (closeSession s x1 x2) := by
  unfold closeSession
  try dsimp only
  refine Only.then (dropSession_only _ _) rfl ?_
  refine Only.then (post_only _ _ _ _) rfl ?_
  exact Only.refl _ _

theorem closedStr_only (s : Dev) (x1 : Nat) :
    Only [.dev, .strs, .saf, .log, .inForce, .actor] s (closedStr s x1) := by
  unfold closedStr
  try dsimp only
  refine Only.then (deriveState_only _ _) rfl ?_
  refine Only.then (askedNote_only _ _ _ _) rfl ?_
  refine Only.then (setStr_only _ _ _) rfl ?_
  exact Only.refl _ _

theorem shiftUp_only (s : Dev) (x1 : Nat) :
    Only [.regs, .rings, .exe] s (shiftUp s x1) := by
  unfold shiftUp
  try dsimp only
  refine Only.ite_then ?_ ?_
  · exact Only.refl _ _
  · refine Only.then (wrF_only _ _ _ _ _) rfl ?_
    refine Only.then (sendEnum_only _ _ _ _ _) rfl ?_
    refine Only.then (sendEnum_only _ _ _ _ _) rfl ?_
    refine Only.then (setRing_only _ _ _) rfl ?_
    exact Only.refl _ _

theorem joinStart_only (s : Dev) (x1 : Nat) :
    Only [.regs, .rings, .exe, .log, .inForce] s (joinStart s x1) := by
  unfold joinStart
  try dsimp only
  split
  · refine Only.then (raise_only _ _ _ _ _) rfl ?_
    refine Only.ite_else ?_ ?_
    · exact Only.refl _ _
    · refine Only.then (shiftUp_only _ _) rfl ?_
      exact Only.refl _ _
  · refine Only.then (sendEnum_only _ _ _ _ _) rfl ?_
    refine Only.then (setRing_only _ _ _) rfl ?_
    refine Only.ite_else ?_ ?_
    · exact Only.refl _ _
    · refine Only.then (shiftUp_only _ _) rfl ?_
      exact Only.refl _ _

theorem closureProbeTimer_only (s : Dev) :
    Only [.regs, .rings, .exe, .log, .inForce] s (closureProbeTimer s) := by
  unfold closureProbeTimer
  try dsimp only
  refine Only.forL ?_ ?_
  · exact Only.refl _ _
  · intro u x
    try dsimp only
    refine Only.ite_then ?_ ?_
    · exact Only.refl _ _
    · refine Only.then (sendEnum_only _ _ _ _ _) rfl ?_
      refine Only.then (setRing_only _ _ _) rfl ?_
      refine Only.ite_else ?_ ?_
      · exact Only.refl _ _
      · refine Only.then (joinStart_only _ _) rfl ?_
        exact Only.refl _ _

theorem rejectAt_only (s : Dev) (x1 x2 : Nat) (x3 : U32) (x4 x5 : Nat) (x6 x7 : Bool) :
    Only [.exe, .host] s (rejectAt s x1 x2 x3 x4 x5 x6 x7) := by
  unfold rejectAt
  try dsimp only
  refine Only.ite ?_ ?_
  · refine Only.then (releaseReply_only _ _) rfl ?_
    exact Only.refl _ _
  · refine Only.then (flushQueue_only _ _) rfl ?_
    refine Only.then (setPlaces_only _ _ _) rfl ?_
    exact Only.refl _ _

theorem intake_only (s : Dev) (x1 x2 : Nat) (x3 : List U8) :
    Only [.regs, .exe, .host, .cl, .log, .inForce] s (intake s x1 x2 x3) := by
  unfold intake
  try dsimp only
  refine Only.ite ?_ ?_
  · refine Only.ite ?_ ?_
    · refine Only.then (bumpReg_only _ _ _) rfl ?_
      exact Only.refl _ _
    · refine Only.then (clFrameErr_only _ _) rfl ?_
      exact Only.refl _ _
  · split
    · refine Only.then (rejectAt_only _ _ _ _ _ _ _ _) rfl ?_
      exact Only.refl _ _
    · split
      · refine Only.then (rejectAt_only _ _ _ _ _ _ _ _) rfl ?_
        split
        · refine Only.then (note_only _ _ _ _) rfl ?_
          exact Only.refl _ _
        · exact Only.refl _ _
      · split
        · refine Only.then (rejectAt_only _ _ _ _ _ _ _ _) rfl ?_
          exact Only.refl _ _
        · refine Only.then (acceptCmd_only _ _ _ _) rfl ?_
          exact Only.refl _ _

theorem dropReasm_only (s : Dev) (x1 x2 x3 : Nat) :
    Only [.host] s (dropReasm s x1 x2 x3) := by
  unfold dropReasm
  try dsimp only
  refine Only.upd_host rfl ?_
  exact Only.refl _ _

theorem clusterCommandFragment_only (x0 x1 : Nat) (x2 : List U8) (s : Dev) :
    Only [.regs, .exe, .host, .cl, .log, .inForce] s (clusterCommandFragment x0 x1 x2 s) := by
  unfold clusterCommandFragment
  try dsimp only
  refine Only.ite ?_ ?_
  · exact Only.refl _ _
  · refine Only.ite ?_ ?_
    · refine Only.then (clFrameErr_only _ _) rfl ?_
      exact Only.refl _ _
    · split
      · apply Only.via
        · apply Only.then (clFrameErr_only _ _) rfl
          exact Only.refl _ _
        · refine Only.ite ?_ ?_
          · refine Only.then (clFrameErr_only _ _) rfl ?_
            exact Only.refl _ _
          · refine Only.ite ?_ ?_
            · refine Only.then (clFrameErr_only _ _) rfl ?_
              refine Only.ite_then ?_ ?_
              · exact Only.refl _ _
              · refine Only.upd_host rfl ?_
                exact Only.refl _ _
            · refine Only.ite ?_ ?_
              · refine Only.then (intake_only _ _ _ _) rfl ?_
                exact Only.refl _ _
              · refine Only.upd_host rfl ?_
                exact Only.refl _ _
        · refine Only.ite_then ?_ ?_
          · exact Only.refl _ _
          · refine Only.upd_cl rfl ?_
            exact Only.refl _ _
      · refine Only.ite ?_ ?_
        · refine Only.then (clFrameErr_only _ _) rfl ?_
          refine Only.then (dropReasm_only _ _ _ _) rfl ?_
          refine Only.ite_then ?_ ?_
          · exact Only.refl _ _
          · refine Only.upd_cl rfl ?_
            exact Only.refl _ _
        · refine Only.ite ?_ ?_
          · refine Only.ite_then ?_ ?_
            · exact Only.refl _ _
            · refine Only.upd_cl rfl ?_
              exact Only.refl _ _
          · split
            · refine Only.then (intake_only _ _ _ _) rfl ?_
              refine Only.then (dropReasm_only _ _ _ _) rfl ?_
              refine Only.ite_then ?_ ?_
              · exact Only.refl _ _
              · refine Only.upd_cl rfl ?_
                exact Only.refl _ _
            · refine Only.upd_host rfl ?_
              refine Only.ite_then ?_ ?_
              · exact Only.refl _ _
              · refine Only.upd_cl rfl ?_
                exact Only.refl _ _

theorem leave_only (s : Dev) (x1 : List ClFrame) :
    Only [.regs, .cl, .cnt] s (leave s x1) := by
  unfold leave
  try dsimp only
  refine Only.upd_cl rfl ?_
  refine Only.forL ?_ ?_
  · exact Only.refl _ _
  · intro u x
    try dsimp only
    refine Only.then (countBytes_only _ _ _) rfl ?_
    exact Only.refl _ _

theorem setEgress_only (s : Dev) (x1 : Nat) (x2 : List ClFrame) :
    Only [.cl] s (setEgress s x1 x2) := by
  unfold setEgress
  try dsimp only
  refine Only.upd_cl rfl ?_
  exact Only.refl _ _

theorem fitEgress_only (x0 x1 : Nat) (s : Dev) (x3 : List ClFrame) :
    Only [.regs, .cl, .log, .inForce] s (fitEgress x0 x1 s x3) := by
  induction x1 generalizing s x3 with
  | zero => exact Only.then (setEgress_only _ _ _) rfl (Only.refl _ _)
  | succ k ih =>
    unfold fitEgress
    refine Only.ite (Only.then (setEgress_only _ _ _) rfl (Only.refl _ _)) (Only.trans ?_ (ih _ _))
    exact Only.then (note_only _ _ _ _) rfl (Only.then (countEv_only _ _ _ _) rfl (Only.then (bumpReg_only _ _ _) rfl (Only.refl _ _)))

theorem waitEgress_only (s : Dev) (x1 : ClFrame) :
    Only [.regs, .cl, .log, .inForce] s (waitEgress s x1) := by
  unfold waitEgress
  try dsimp only
  refine Only.then (fitEgress_only _ _ _ _) rfl ?_
  exact Only.refl _ _

theorem egressOwn_only (s : Dev) (x1 : ClFrame) :
    Only [.regs, .cl, .cnt, .log, .inForce] s (egressOwn s x1) := by
  unfold egressOwn
  try dsimp only
  refine Only.ite ?_ ?_
  · refine Only.then (leave_only _ _) rfl ?_
    exact Only.refl _ _
  · refine Only.then (waitEgress_only _ _) rfl ?_
    exact Only.refl _ _

theorem clusterFrame_only (s : Dev) (x1 x2 x3 : Nat) (x4 : List U32) :
    Only [.regs, .cl, .cnt, .log, .inForce] s (clusterFrame s x1 x2 x3 x4) := by
  unfold clusterFrame
  try dsimp only
  refine Only.forL ?_ ?_
  · exact Only.refl _ _
  · intro u x
    try dsimp only
    refine Only.then (egressOwn_only _ _) rfl ?_
    exact Only.refl _ _

theorem drainPort_only (s : Dev) (x1 : Nat) :
    Only [.regs, .cl, .cnt] s (drainPort s x1) := by
  unfold drainPort
  try dsimp only
  refine Only.ite_then ?_ ?_
  · exact Only.refl _ _
  · refine Only.then (leave_only _ _) rfl ?_
    refine Only.then (setEgress_only _ _ _) rfl ?_
    exact Only.refl _ _

theorem clusterFrameArrival_only (x0 : Nat) (x1 : ClHead) (x2 x3 : U32) (x4 : List U8) (x5 : Bool) (x6 : Nat) (x7 : Bool) (s : Dev) :
    Only [.regs, .cl, .cnt, .log, .inForce] s (clusterFrameArrival x0 x1 x2 x3 x4 x5 x6 x7 s) := by
  unfold clusterFrameArrival
  try dsimp only
  refine Only.ite_then ?_ ?_
  · exact Only.refl _ _
  · refine Only.ite_then ?_ ?_
    · refine Only.ite_else ?_ ?_
      · refine Only.ite_else ?_ ?_
        · refine Only.then (countBytes_only _ _ _) rfl ?_
          exact Only.refl _ _
        · refine Only.then (clFrameErr_only _ _) rfl ?_
          exact Only.refl _ _
      · refine Only.then (countEv_only _ _ _ _) rfl ?_
        exact Only.refl _ _
    · apply Only.via
      · apply Only.then (waitEgress_only _ _) rfl
        exact Only.refl _ _
      · refine Only.then (leave_only _ _) rfl ?_
        refine Only.then (drainPort_only _ _) rfl ?_
        exact Only.refl _ _
      · refine Only.then (countEv_only _ _ _ _) rfl ?_
        exact Only.refl _ _

theorem portDown_only (s : Dev) (x1 : Nat) :
    Only [.regs, .log, .inForce] s (portDown s x1) := by
  unfold portDown
  try dsimp only
  refine Only.ite_then ?_ ?_
  · exact Only.refl _ _
  · refine Only.then (raise_only _ _ _ _ _) rfl ?_
    refine Only.then (wrB_only _ _ _ _) rfl ?_
    exact Only.refl _ _

theorem clusterPortDown_only (x0 : Nat) (s : Dev) :
    Only [.regs, .log, .inForce] s (clusterPortDown x0 s) := by
  unfold clusterPortDown
  try dsimp only
  refine Only.then (portDown_only _ _) rfl ?_
  exact Only.refl _ _

theorem clusterReadBody_only (x0 : HostCmd) (s : Dev) :
    Only [.exe, .host] s (clusterReadBody x0 s) := by
  unfold clusterReadBody
  try dsimp only
  refine Only.then (finish_only _ _ _ _ _) rfl ?_
  exact Only.refl _ _

theorem clusterRead_only (x0 : HostCmd) (s : Dev) :
    Only [.exe, .host, .actor] s (clusterRead x0 s) := by
  unfold clusterRead
  try dsimp only
  refine serve_only rfl ?_
  intro u
  refine Only.then (clusterReadBody_only _ _) rfl ?_
  exact Only.refl _ _

theorem clusterReply_only (s : Dev) (x1 : OutPkt) :
    Only [.regs, .host, .cl, .cnt, .log, .inForce] s (clusterReply s x1) := by
  unfold clusterReply
  try dsimp only
  refine Only.forL ?_ ?_
  · refine Only.upd_host rfl ?_
    exact Only.refl _ _
  · intro u x
    try dsimp only
    refine Only.then (clusterFrame_only _ _ _ _ _) rfl ?_
    exact Only.refl _ _

theorem clusterSend_only (s : Dev) (x1 x2 : Nat) (x3 : List U32) :
    Only [.regs, .cl, .cnt, .log, .inForce] s (clusterSend s x1 x2 x3) := by
  unfold clusterSend
  try dsimp only
  refine Only.then (clusterFrame_only _ _ _ _ _) rfl ?_
  exact Only.refl _ _

theorem endUnbegun_only (s : Dev) (x1 : InFlight) (x2 : Nat) (x3 : Bool) :
    Only [.regs, .mem, .lim, .exe, .host, .can, .freeCtr] s (endUnbegun s x1 x2 x3).2 := by
  unfold endUnbegun
  try dsimp only
  refine Only.ite_snd ?_ ?_
  · dsimp only
    refine Only.then (answer_only _ _ _ _) rfl ?_
    exact Only.refl _ _
  · refine Only.ite_snd ?_ ?_
    · refine Only.then (canWithdraw_only _ _ _ _) rfl ?_
      exact Only.refl _ _
    · dsimp only
      exact Only.refl _ _

theorem cmdCancelBody_only (x0 : HostCmd) (s : Dev) :
    Only [.regs, .mem, .lim, .exe, .host, .can, .freeCtr] s (cmdCancelBody x0 s) := by
  unfold cmdCancelBody
  refine Only.ite (Only.then (answer_only _ _ _ _) rfl (Only.refl _ _)) (Only.ite (Only.then (answer_only _ _ _ _) rfl (Only.refl _ _)) ?_)
  split
  · exact Only.then (answer_only _ _ _ _) rfl (Only.refl _ _)
  · refine Only.ite (Only.then (emit_only _ _ _) rfl (Only.refl _ _)) ?_
    exact Only.then (answer_only _ _ _ _) rfl ((endUnbegun_only _ _ _ _).mono rfl)

theorem cmdCancel_only (x0 : HostCmd) (s : Dev) :
    Only [.regs, .mem, .lim, .exe, .host, .can, .actor, .freeCtr] s (cmdCancel x0 s) := by
  unfold cmdCancel
  try dsimp only
  refine serve_only rfl ?_
  intro u
  refine Only.then (cmdCancelBody_only _ _) rfl ?_
  exact Only.refl _ _

theorem frameErr_only (s : Dev) (x1 : Nat) :
    Only [.regs, .rings, .log] s (frameErr s x1) := by
  unfold frameErr
  try dsimp only
  refine Only.ite_then ?_ ?_
  · refine Only.then (setRing_only _ _ _) rfl ?_
    refine Only.then (countEv_only _ _ _ _) rfl ?_
    refine Only.then (bumpReg_only _ _ _) rfl ?_
    exact Only.refl _ _
  · refine Only.then (post_only _ _ _ _) rfl ?_
    exact Only.refl _ _

theorem cmdEchoCheck_only (x0 : Nat) (x1 : List U8) (s : Dev) :
    Only [.regs, .rings, .cnt, .log, .inForce] s (cmdEchoCheck x0 x1 s) := by
  unfold cmdEchoCheck
  try dsimp only
  split
  · apply Only.via
    · apply Only.then (ringGot_only _ _) rfl
      exact Only.refl _ _
    · refine Only.then (frameErr_only _ _) rfl ?_
      exact Only.refl _ _
    · refine Only.then (ringBytes_only _ _ _) rfl ?_
      exact Only.refl _ _
  · refine Only.ite_then ?_ ?_
    · apply Only.via
      · apply Only.then (ringGot_only _ _) rfl
        exact Only.refl _ _
      · refine Only.then (frameErr_only _ _) rfl ?_
        exact Only.refl _ _
      · refine Only.then (ringBytes_only _ _ _) rfl ?_
        exact Only.refl _ _
    · refine Only.then (note_only _ _ _ _) rfl ?_
      refine Only.then (wrB_only _ _ _ _) rfl ?_
      exact Only.refl _ _

theorem cntHiWrite_only (x0 x1 : Nat) (x2 : U32) (s : Dev) :
    Only [.regs, .cnt, .busErr] s (cntHiWrite x0 x1 x2 s) := by
  unfold cntHiWrite
  try dsimp only
  refine Only.ite ?_ ?_
  · refine Only.then (busErrorTo_only _ _) rfl ?_
    exact Only.refl _ _
  · refine Only.upd_cnt rfl ?_
    refine Only.then (setCounter_only _ _ _) rfl ?_
    exact Only.refl _ _

theorem cntTake_only (x0 x1 : Nat) (s : Dev) :
    Only [.cnt, .readVal] s (cntTake x0 x1 s) := by
  unfold cntTake
  try dsimp only
  refine Only.upd_cnt_readVal rfl ?_
  exact Only.refl _ _

theorem cntLoRead_only (x0 x1 : Nat) (s : Dev) :
    Only [.exe, .cnt, .freeCtr, .readVal] s (cntLoRead x0 x1 s) := by
  unfold cntLoRead
  try dsimp only
  refine Only.ite_then ?_ ?_
  · exact Only.refl _ _
  · refine Only.then (logFree_only _ _ _) rfl ?_
    refine Only.then (cntTake_only _ _ _) rfl ?_
    exact Only.refl _ _

theorem cntLoWrite_only (x0 x1 : Nat) (x2 : U32) (s : Dev) :
    Only [.regs, .cnt, .busErr] s (cntLoWrite x0 x1 x2 s) := by
  unfold cntLoWrite
  try dsimp only
  refine Only.ite ?_ ?_
  · refine Only.then (busErrorTo_only _ _) rfl ?_
    exact Only.refl _ _
  · refine Only.upd_cnt rfl ?_
    exact Only.refl _ _

theorem staleSync_only (s : Dev) (x1 : Nat) :
    Only [.acq, .log, .inForce] s (staleSync s x1) := by
  unfold staleSync
  try dsimp only
  refine Only.ite ?_ ?_
  · refine Only.ite_else ?_ ?_
    · exact Only.refl _ _
    · refine Only.then (raise_only _ _ _ _ _) rfl ?_
      refine Only.upd_acq rfl ?_
      exact Only.refl _ _
  · refine Only.then (clearCond_only _ _ _ _ _) rfl ?_
    refine Only.then (clearCond_only _ _ _ _ _) rfl ?_
    refine Only.upd_acq rfl ?_
    exact Only.refl _ _

theorem scrSelfTest_only (s : Dev) :
    Only [.dev, .regs, .lim, .strs, .saf, .exe, .can, .log, .inForce] s (scrSelfTest s) := by
  unfold scrSelfTest
  try dsimp only
  refine Only.ite ?_ ?_
  · refine Only.then (clearCond_only _ _ _ _ _) rfl ?_
    exact Only.refl _ _
  · refine Only.ite_else ?_ ?_
    · refine Only.then (wrB_only _ _ _ _) rfl ?_
      exact Only.refl _ _
    · refine Only.then (fault3_only _ _ _ _ _ _ _ _) rfl ?_
      exact Only.refl _ _

theorem slotClose_only (s : Dev) :
    Only [.dev, .regs, .acq, .lim, .strs, .saf, .exe, .can, .log, .inForce] s (slotClose s) := by
  unfold slotClose
  try dsimp only
  split
  · exact Only.refl _ _
  · refine Only.then (scrSelfTest_only _) rfl ?_
    refine Only.ite_then ?_ ?_
    · refine Only.forL ?_ ?_
      · refine Only.upd_acq rfl ?_
        refine Only.then (wrN_only _ _ _) rfl ?_
        refine Only.then (wrN_only _ _ _) rfl ?_
        refine Only.then (wrB_only _ _ _ _) rfl ?_
        refine Only.then (wrB_only _ _ _ _) rfl ?_
        exact Only.refl _ _
      · intro u x
        try dsimp only
        refine Only.then (staleSync_only _ _) rfl ?_
        exact Only.refl _ _
    · refine Only.then (balCheck_only _ _) rfl ?_
      exact Only.refl _ _

theorem steepSnapshot_only (s : Dev) (x1 x2 : Nat) :
    Only [.est] s (steepSnapshot s x1 x2) := by
  unfold steepSnapshot
  try dsimp only
  refine Only.ite ?_ ?_
  · refine Only.then (setConf_only _ _ _) rfl ?_
    exact Only.refl _ _
  · refine Only.ite ?_ ?_
    · refine Only.then (setConf_only _ _ _) rfl ?_
      exact Only.refl _ _
    · refine Only.ite_else ?_ ?_
      · exact Only.refl _ _
      · refine Only.then (confRef_only _ _ _ _) rfl ?_
        refine Only.then (setConf_only _ _ _) rfl ?_
        exact Only.refl _ _

theorem quietSnapshot_only (s : Dev) (x1 x2 : Nat) :
    Only [.est, .log, .inForce] s (quietSnapshot s x1 x2) := by
  unfold quietSnapshot
  try dsimp only
  refine Only.ite ?_ ?_
  · refine Only.then (setConf_only _ _ _) rfl ?_
    exact Only.refl _ _
  · refine Only.ite_then ?_ ?_
    · exact Only.refl _ _
    · refine Only.ite_else ?_ ?_
      · refine Only.then (setConf_only _ _ _) rfl ?_
        exact Only.refl _ _
      · refine Only.then (note_only _ _ _ _) rfl ?_
        exact Only.refl _ _

theorem excSnapshot_only (s : Dev) (x1 x2 : Nat) :
    Only [.est, .log, .inForce] s (excSnapshot s x1 x2) := by
  unfold excSnapshot
  try dsimp only
  refine Only.ite_then ?_ ?_
  · exact Only.refl _ _
  · refine Only.ite ?_ ?_
    · refine Only.then (setConf_only _ _ _) rfl ?_
      exact Only.refl _ _
    · refine Only.ite ?_ ?_
      · refine Only.ite ?_ ?_
        · refine Only.then (post_only _ _ _ _) rfl ?_
          refine Only.then (clearCond_only _ _ _ _ _) rfl ?_
          refine Only.then (setConf_only _ _ _) rfl ?_
          exact Only.refl _ _
        · refine Only.then (setConf_only _ _ _) rfl ?_
          exact Only.refl _ _
      · refine Only.then (setConf_only _ _ _) rfl ?_
        exact Only.refl _ _

theorem estSnapshot_only (s : Dev) (x1 : Nat) :
    Only [.est, .log, .inForce] s (estSnapshot s x1) := by
  unfold estSnapshot
  try dsimp only
  refine Only.forL ?_ ?_
  · exact Only.refl _ _
  · intro u x
    try dsimp only
    refine Only.then (steepSnapshot_only _ _ _) rfl ?_
    refine Only.then (quietSnapshot_only _ _ _) rfl ?_
    refine Only.then (excSnapshot_only _ _ _) rfl ?_
    exact Only.refl _ _

theorem intMove_only (s : Dev) (x1 x2 : Nat) :
    Only [.lim] s (intMove s x1 x2) := by
  unfold intMove
  try dsimp only
  refine Only.then (setLim_only _ _ _) rfl ?_
  refine Only.then (setLim_only _ _ _) rfl ?_
  exact Only.refl _ _

theorem intSnapshot_only (s : Dev) (x1 x2 : Nat) :
    Only [.dev, .lim, .strs, .saf, .exe, .can, .log, .inForce] s (intSnapshot s x1 x2) := by
  unfold intSnapshot
  try dsimp only
  apply Only.via
  · apply Only.then (clearCond_only _ _ _ _ _) rfl
    exact Only.refl _ _
  · refine Only.ite_then ?_ ?_
    · exact Only.refl _ _
    · refine Only.then (fault3_only _ _ _ _ _ _ _ _) rfl ?_
      exact Only.refl _ _
  · refine Only.then (setLim_only _ _ _) rfl ?_
    refine Only.then (intMove_only _ _ _) rfl ?_
    exact Only.refl _ _

theorem limSnapshot_only (s : Dev) (x1 : Nat) :
    Only [.dev, .lim, .strs, .saf, .exe, .can, .log, .inForce] s (limSnapshot s x1) := by
  unfold limSnapshot
  try dsimp only
  refine Only.ite_else ?_ ?_
  · exact Only.refl _ _
  · refine Only.forL ?_ ?_
    · exact Only.refl _ _
    · intro u x
      try dsimp only
      refine Only.then (intSnapshot_only _ _ _) rfl ?_
      exact Only.refl _ _

theorem excessDir_only (s : Dev) (x1 : Bool) :
    Only [.lim, .log, .inForce] s (excessDir s x1) := by
  unfold excessDir
  try dsimp only
  refine Only.ite ?_ ?_
  · refine Only.then (raise_only _ _ _ _ _) rfl ?_
    refine Only.then (setWin_only _ _ _) rfl ?_
    exact Only.refl _ _
  · refine Only.then (clearCond_only _ _ _ _ _) rfl ?_
    refine Only.then (clearCond_only _ _ _ _ _) rfl ?_
    refine Only.then (setWin_only _ _ _) rfl ?_
    exact Only.refl _ _

theorem pcsSnapshot_only (s : Dev) (x1 : Nat) :
    Only [.lim, .log, .inForce] s (pcsSnapshot s x1) := by
  unfold pcsSnapshot
  try dsimp only
  refine Only.ite ?_ ?_
  · refine Only.upd_lim rfl ?_
    exact Only.refl _ _
  · split
    · refine Only.then (excessDir_only _ _) rfl ?_
      refine Only.then (excessDir_only _ _) rfl ?_
      refine Only.upd_lim rfl ?_
      exact Only.refl _ _
    · refine Only.then (track_only _ _ _ _ _ _ _) rfl ?_
      refine Only.upd_lim rfl ?_
      refine Only.then (excessDir_only _ _) rfl ?_
      refine Only.then (excessDir_only _ _) rfl ?_
      refine Only.upd_lim rfl ?_
      exact Only.refl _ _

theorem collectEnd_only (s : Dev) :
    Only [.dev, .regs, .mem, .acq, .est, .chg, .lim, .strs, .saf, .exe, .can, .log, .inForce] s (collectEnd s) := by
  unfold collectEnd
  try dsimp only
  split
  · exact Only.refl _ _
  · refine Only.ite_else ?_ ?_
    · refine Only.ite_else ?_ ?_
      · refine Only.ite_else ?_ ?_
        · refine Only.then (slotClose_only _) rfl ?_
          exact Only.refl _ _
        · refine Only.then (chgSnapshot_only _ _) rfl ?_
          refine Only.then (estSnapshot_only _ _) rfl ?_
          exact Only.refl _ _
      · refine Only.then (limSnapshot_only _ _) rfl ?_
        exact Only.refl _ _
    · refine Only.then (pcsSnapshot_only _ _) rfl ?_
      exact Only.refl _ _

theorem commandTimeout_only (x0 x1 : Nat) (s : Dev) :
    Only [.regs, .mem, .lim, .exe, .host, .can, .log, .inForce, .freeCtr] s (commandTimeout x0 x1 s) := by
  unfold commandTimeout
  dsimp only
  refine Only.ite (Only.refl _ _) ?_
  split
  · exact Only.refl _ _
  · rename_i f _
    refine Only.trans (t := note s 2 Ev.CMD_TIMEOUT (x0 + x1 * 0x10000 + f.op * 2 ^ 48))
      (Only.then (note_only _ _ _ _) rfl (Only.refl _ _)) (Only.later ?_)
    refine Later.only (Only.ite_then ((endUnbegun_only _ _ _ _).mono rfl) ?_)
    exact Only.then (timeoutRuns_only _ _) rfl (Only.refl _ _)

theorem umapCommit_only (s : Dev) (x1 : List (Nat × List U32)) :
    Only [.dev, .regs, .mem, .acq, .est, .chg, .lim, .thm, .strs, .saf, .exe, .can, .log, .inForce] s (umapCommit s x1) := by
  unfold umapCommit
  try dsimp only
  refine Only.ite_then ?_ ?_
  · exact Only.refl _ _
  · refine Only.then (umapTry_only _) rfl ?_
    refine Only.forL ?_ ?_
    · refine Only.upd_acq rfl ?_
      exact Only.refl _ _
    · intro u x
      try dsimp only
      refine Only.then (activeWrite_only _ _ _) rfl ?_
      exact Only.refl _ _

theorem ratedChange_only (s : Dev) (x1 : Nat) :
    Only [.mem, .est, .log, .inForce] s (ratedChange s x1) := by
  unfold ratedChange
  try dsimp only
  refine Only.then (strHealth_only _ _) rfl ?_
  refine Only.forL ?_ ?_
  · refine Only.ite_then ?_ ?_
    · refine Only.then (learnAbort_only _ _ _) rfl ?_
      exact Only.refl _ _
    · refine Only.forL ?_ ?_
      · refine Only.then (st32_only _ _ _) rfl ?_
        exact Only.refl _ _
      · intro u x
        try dsimp only
        refine Only.then (capWrite_only _ _ _) rfl ?_
        exact Only.refl _ _
  · intro u x
    try dsimp only
    refine Only.then (cellHealth_only _ _ _) rfl ?_
    exact Only.refl _ _

theorem commitEffects_only (s : Dev) (x1 : Nat → Nat) (x2 : Txn) (x3 : Bool) :
    Only [.dev, .regs, .mem, .acq, .est, .chg, .lim, .thm, .strs, .bus, .saf, .exe, .cl, .can, .log, .inForce] s (commitEffects s x1 x2 x3) := by
  unfold commitEffects
  try dsimp only
  refine Only.ite_else ?_ ?_
  · refine Only.forN ?_ ?_
    · refine Only.ite_else ?_ ?_
      · refine Only.forN ?_ ?_
        · refine Only.forN ?_ ?_
          · refine Only.ite_else ?_ ?_
            · refine Only.ite_else ?_ ?_
              · refine Only.ite_else ?_ ?_
                · refine Only.then (umapCommit_only _ _) rfl ?_
                  refine Only.then (syncHp_only _) rfl ?_
                  refine Only.then (cfgWrite_only _ _ _) rfl ?_
                  refine Only.ite_else ?_ ?_
                  · refine Only.then (cfgWrite_only _ _ _) rfl ?_
                    exact Only.refl _ _
                  · refine Only.ite_else ?_ ?_
                    · refine Only.then (cfgWrite_only _ _ _) rfl ?_
                      exact Only.refl _ _
                    · refine Only.then (clLeave_only _) rfl ?_
                      exact Only.refl _ _
                · refine Only.then (scrLoad_only _) rfl ?_
                  exact Only.refl _ _
              · refine Only.forN ?_ ?_
                · exact Only.refl _ _
                · intro u x
                  try dsimp only
                  refine Only.then (busDerive_only _ _) rfl ?_
                  exact Only.refl _ _
            · refine Only.forL ?_ ?_
              · exact Only.refl _ _
              · intro u x
                try dsimp only
                refine Only.then (directionSync_only _ _) rfl ?_
                exact Only.refl _ _
          · intro u x
            try dsimp only
            refine Only.ite_else ?_ ?_
            · exact Only.refl _ _
            · refine Only.then (ratedChange_only _ _) rfl ?_
              exact Only.refl _ _
        · intro u x
          try dsimp only
          refine Only.ite_else ?_ ?_
          · exact Only.refl _ _
          · refine Only.then (learnAbort_only _ _ _) rfl ?_
            exact Only.refl _ _
      · refine Only.then (healthAll_only _) rfl ?_
        refine Only.then (tableFaults_only _) rfl ?_
        exact Only.refl _ _
    · intro u x
      try dsimp only
      refine Only.ite_else ?_ ?_
      · exact Only.refl _ _
      · refine Only.then (canAsk_only _ _ _) rfl ?_
        refine Only.then (canAsk_only _ _ _) rfl ?_
        exact Only.refl _ _
  · refine Only.then (pisteStage_only _ _) rfl ?_
    exact Only.refl _ _

theorem commitDone_only (s : Dev) (x1 : Commit) :
    Only [.dev, .regs, .mem, .parCfg, .parNow, .piste, .acq, .est, .chg, .lim, .thm, .strs, .bus, .saf, .exe, .host, .cl, .can, .log, .inForce] s (commitDone s x1) := by
  unfold commitDone
  try dsimp only
  refine Only.then (finish_only _ _ _ _ _) rfl ?_
  refine Only.then (post_only _ _ _ _) rfl ?_
  refine Only.then (commitEffects_only _ _ _ _) rfl ?_
  refine Only.upd_host rfl ?_
  refine Only.then (commitPistes_only _ _) rfl ?_
  refine Only.forL ?_ ?_
  · exact Only.refl _ _
  · intro u x
    try dsimp only
    refine Only.ite ?_ ?_
    · refine Only.upd_parCfg_parNow rfl ?_
      exact Only.refl _ _
    · refine Only.upd_parCfg rfl ?_
      exact Only.refl _ _

theorem commitStores_only (s : Dev) (x1 : Nat) (x2 : List (Nat × U32 × U32)) :
    Only [.regs, .mem, .busErr] s (commitStores s x1 x2) := by
  unfold commitStores
  try dsimp only
  refine Only.forL ?_ ?_
  · exact Only.refl _ _
  · intro u x
    try dsimp only
    refine Only.forN ?_ ?_
    · exact Only.refl _ _
    · intro u x
      try dsimp only
      refine Only.ite_then ?_ ?_
      · exact Only.refl _ _
      · refine Only.ite ?_ ?_
        · refine Only.then (barredStore_only _ _ _) rfl ?_
          exact Only.refl _ _
        · refine Only.then (stBytes_only _ _ _) rfl ?_
          exact Only.refl _ _

theorem setOutcome_only (s : Dev) (x1 x2 x3 : Nat) :
    Only [.regs] s (setOutcome s x1 x2 x3) := by
  unfold setOutcome
  try dsimp only
  refine Only.ite_else ?_ ?_
  · exact Only.refl _ _
  · refine Only.then (wrF_only _ _ _ _ _) rfl ?_
    exact Only.refl _ _

theorem setCore_only (s : Dev) (x1 : Nat) (x2 : List U32) :
    Only [.exe] s (setCore s x1 x2) := by
  unfold setCore
  try dsimp only
  refine Only.upd_exe rfl ?_
  exact Only.refl _ _

theorem setCores_only (s : Dev) (x1 : Nat) (x2 : List U32) :
    Only [.exe] s (setCores s x1 x2) := by
  unfold setCores
  try dsimp only
  refine Only.ite_then ?_ ?_
  · refine Only.then (setCore_only _ _ _) rfl ?_
    exact Only.refl _ _
  · refine Only.then (setCore_only _ _ _) rfl ?_
    exact Only.refl _ _

theorem ringEnqueue_only (s : Dev) (x1 x2 : Nat) (x3 : RingTx) :
    Only [.rings] s (ringEnqueue s x1 x2 x3) := by
  unfold ringEnqueue
  try dsimp only
  refine Only.ite ?_ ?_
  · refine Only.then (setRing_only _ _ _) rfl ?_
    exact Only.refl _ _
  · refine Only.then (setRing_only _ _ _) rfl ?_
    exact Only.refl _ _

theorem tryEnter_only (s : Dev) (x : OutPkt) {t : Dev} (h : tryEnter s x = some t) : Only [.regs, .win, .cnt] s t := by
  unfold tryEnter at h
  dsimp only at h
  split at h
  · split at h
    · simp only [Option.some.injEq] at h; subst h
      refine Only.then (syncHp_only _) rfl (Only.ite_else ?_ (Only.then (wrB_only _ _ _ _) rfl (Only.refl _ _)))
      refine Only.then (wrB_only _ _ _ _) rfl (Only.then (wrN_only _ _ _) rfl (Only.then (countBytes_only _ _ _) rfl ?_))
      exact Only.upd_win rfl (fun w => Memory.wf_writeBytes _ _ _ (Memory.wf_writeBytes _ _ _ w)) (Only.refl _ _)
    · exact absurd h (by simp)
  · split at h
    · simp only [Option.some.injEq] at h; subst h
      refine Only.then (syncHp_only _) rfl (Only.ite_else ?_ (Only.then (wrB_only _ _ _ _) rfl (Only.refl _ _)))
      refine Only.then (wrB_only _ _ _ _) rfl (Only.then (wrN_only _ _ _) rfl (Only.then (countBytes_only _ _ _) rfl ?_))
      exact Only.upd_win rfl (Memory.wf_writeBytes _ _ _) (Only.refl _ _)
    · exact absurd h (by simp)

theorem pktOut_only (s : Dev) (x : OutPkt) {t : Dev} (h : pktOut s x = some t) : Only [.regs, .win, .host, .cl, .log, .inForce, .cnt] s t := by
  unfold pktOut at h
  split at h
  · exact (tryEnter_only _ _ h).mono rfl
  · simp only [Option.some.injEq] at h; subst h
    exact Only.then (clusterReply_only _ _) rfl (Only.refl _ _)

theorem enterFrom_only (s : Dev) (x1 x2 : List OutPkt) :
    Only [.regs, .win, .host, .cl, .cnt, .log, .inForce] s (enterFrom s x1 x2) := by
  induction x2 generalizing s x1 with
  | nil => exact Only.upd_host rfl (Only.refl _ _)
  | cons w t ih =>
    unfold enterFrom
    refine Only.ite (ih _ _) ?_
    split
    · rename_i h; exact Only.trans ((pktOut_only _ _ h).mono rfl) (ih _ _)
    · exact ih _ _

theorem sendReply_only (s : Dev) (x1 : OutPkt) :
    Only [.regs, .win, .host, .cl, .cnt, .log, .inForce] s (sendReply s x1) := by
  unfold sendReply
  try dsimp only
  refine Only.ite ?_ ?_
  · refine Only.then (setSess_only _ _ _) rfl ?_
    exact Only.refl _ _
  · refine Only.then (enterFrom_only _ _ _) rfl ?_
    exact Only.refl _ _

theorem seoRequest_only (s : Dev) (x1 : Nat) :
    Only [.regs, .strs, .bus, .saf, .exe, .log] s (seoRequest s x1) := by
  unfold seoRequest
  try dsimp only
  refine Only.then (seoFollowAll_only _) rfl ?_
  refine Only.forN ?_ ?_
  · refine Only.then (wrN_only _ _ _) rfl ?_
    exact Only.refl _ _
  · intro u x
    try dsimp only
    refine Only.ite_else ?_ ?_
    · exact Only.refl _ _
    · refine Only.then (setSeo_only _ _ _) rfl ?_
      exact Only.refl _ _

theorem curJob_only (s : Dev) (x1 : Nat) :
    Only [.regs, .est] s (curJob s x1) := by
  unfold curJob
  try dsimp only
  refine Only.ite ?_ ?_
  · refine Only.then (wrB_only _ _ _ _) rfl ?_
    exact Only.refl _ _
  · refine Only.then (wrB_only _ _ _ _) rfl ?_
    refine Only.upd_est rfl ?_
    exact Only.refl _ _

theorem estLaneFenceWrite_only (x0 : Nat) (x1 : U32) (s : Dev) :
    Only [.regs, .busErr] s (estLaneFenceWrite x0 x1 s) := by
  unfold estLaneFenceWrite
  try dsimp only
  refine Only.ite ?_ ?_
  · refine Only.then (busErrorTo_only _ _) rfl ?_
    exact Only.refl _ _
  · refine Only.ite ?_ ?_
    · refine Only.then (wrB_only _ _ _ _) rfl ?_
      exact Only.refl _ _
    · refine Only.then (wr_only _ _ _) rfl ?_
      exact Only.refl _ _

theorem estWtDescWrite_only (x0 x1 x2 x3 : Nat) (x4 : U32) (s : Dev) :
    Only [.regs, .busErr] s (estWtDescWrite x0 x1 x2 x3 x4 s) := by
  unfold estWtDescWrite
  try dsimp only
  refine Only.ite ?_ ?_
  · refine Only.then (busErrorTo_only _ _) rfl ?_
    exact Only.refl _ _
  · refine Only.ite_then ?_ ?_
    · exact Only.refl _ _
    · refine Only.ite ?_ ?_
      · refine Only.then (wrB_only _ _ _ _) rfl ?_
        exact Only.refl _ _
      · refine Only.then (wr_only _ _ _) rfl ?_
        exact Only.refl _ _

theorem laneTestRequest_only (x0 : Nat) (s : Dev) :
    Only [.regs, .est, .busErr] s (laneTestRequest x0 s) := by
  unfold laneTestRequest
  try dsimp only
  refine Only.ite ?_ ?_
  · refine Only.then (busErrorTo_only _ _) rfl ?_
    exact Only.refl _ _
  · refine Only.then (wrB_only _ _ _ _) rfl ?_
    refine Only.upd_est rfl ?_
    exact Only.refl _ _

theorem estTake_only (s : Dev) (x1 : List (Nat × U32 × U32)) :
    Only [.regs, .est, .busErr] s (estTake s x1) := by
  unfold estTake
  try dsimp only
  refine Only.forL ?_ ?_
  · exact Only.refl _ _
  · intro u x
    try dsimp only
    refine Only.ite ?_ ?_
    · refine Only.then (curJob_only _ _) rfl ?_
      exact Only.refl _ _
    · refine Only.ite ?_ ?_
      · refine Only.then (estLaneFenceWrite_only _ _ _) rfl ?_
        exact Only.refl _ _
      · refine Only.ite ?_ ?_
        · refine Only.then (estWtDescWrite_only _ _ _ _ _ _) rfl ?_
          exact Only.refl _ _
        · refine Only.ite_else ?_ ?_
          · refine Only.then (wr_only _ _ _) rfl ?_
            exact Only.refl _ _
          · refine Only.then (laneTestRequest_only _ _) rfl ?_
            exact Only.refl _ _

theorem deliver_only (s : Dev) (x1 : Nat) (x2 : Effect) :
    Only [.dev, .regs, .mem, .win, .rings, .acq, .est, .lim, .strs, .bus, .saf, .exe, .host, .cl, .can, .cnt, .log, .pwr, .inForce, .actor, .freeCtr, .busErr] s (deliver s x1 x2) := by
  unfold deliver
  try dsimp only
  split
  · refine Only.then (ringEnqueue_only _ _ _ _) rfl ?_
    exact Only.refl _ _
  · refine Only.then (canEnqueue_only _ _ _ _ _) rfl ?_
    exact Only.refl _ _
  · refine Only.then (clusterSend_only _ _ _ _) rfl ?_
    exact Only.refl _ _
  · refine Only.then (sendReply_only _ _) rfl ?_
    exact Only.refl _ _
  · refine Only.then (clearTaken_only _ _ _ _) rfl ?_
    exact Only.refl _ _
  · refine Only.then (seoRequest_only _ _) rfl ?_
    exact Only.refl _ _
  · refine Only.then (setLatch_only _ _) rfl ?_
    exact Only.refl _ _
  · refine Only.then (scrTake_only _ _) rfl ?_
    exact Only.refl _ _
  · refine Only.then (cfgDeliver_only _ _) rfl ?_
    exact Only.refl _ _
  · refine Only.then (estTake_only _ _) rfl ?_
    exact Only.refl _ _
  · refine Only.then (retDeliver_only _ _ _ _ _) rfl ?_
    exact Only.refl _ _
  · refine Only.then (flushLog_only _) rfl ?_
    exact Only.refl _ _
  · refine Only.then (canCancelled_only _ _ _ _) rfl ?_
    exact Only.refl _ _
  · refine Only.then (canOpTake_only _ _ _) rfl ?_
    exact Only.refl _ _

theorem deliverAll_only (s : Dev) (x1 : Nat) (x2 : List RelEntry) :
    Only [.dev, .regs, .mem, .win, .rings, .acq, .est, .lim, .strs, .bus, .saf, .exe, .host, .cl, .can, .cnt, .log, .pwr, .inForce, .actor, .freeCtr, .busErr] s (deliverAll s x1 x2) := by
  unfold deliverAll
  try dsimp only
  refine Only.then (countEv_only _ _ _ _) rfl ?_
  refine Only.forL ?_ ?_
  · exact Only.refl _ _
  · intro u x
    try dsimp only
    refine Only.then (deliver_only _ _ _) rfl ?_
    exact Only.refl _ _

theorem nextWindow_only (s : Dev) (x1 : Nat) :
    Only [.exe, .log] s (nextWindow s x1) := by
  unfold nextWindow
  try dsimp only
  refine Only.ite_then ?_ ?_
  · refine Only.then (setPair_only _ _ _) rfl ?_
    exact Only.refl _ _
  · refine Only.then (modeChange_only _ _ _ _ _) rfl ?_
    exact Only.refl _ _

theorem windowClean_only (s : Dev) (x1 : Nat) (x2 : List Retired) (x3 x4 : List RelEntry) (x5 : List U32) :
    Only [.dev, .regs, .mem, .win, .rings, .acq, .est, .lim, .strs, .bus, .saf, .exe, .host, .cl, .can, .cnt, .log, .pwr, .inForce, .actor, .freeCtr, .busErr] s (windowClean s x1 x2 x3 x4 x5) := by
  unfold windowClean
  try dsimp only
  refine Only.then (countEv_only _ _ _ _) rfl ?_
  refine Only.then (deliverAll_only _ _ _) rfl ?_
  refine Only.then (nextWindow_only _ _) rfl ?_
  refine Only.then (commitStores_only _ _ _) rfl ?_
  refine Only.then (setCores_only _ _ _) rfl ?_
  refine Only.then (setPair_only _ _ _) rfl ?_
  exact Only.refl _ _

theorem goOn_only (s : Dev) (x1 : Nat) (x2 : List Retired) (x3 : List U32) :
    Only [.dev, .regs, .mem, .win, .rings, .acq, .est, .lim, .strs, .bus, .saf, .exe, .host, .cl, .can, .cnt, .log, .pwr, .inForce, .actor, .freeCtr, .busErr] s (goOn s x1 x2 x3) := by
  unfold goOn
  try dsimp only
  refine Only.then (windowClean_only _ _ _ _ _ _) rfl ?_
  refine Only.then (wrB_only _ _ _ _) rfl ?_
  exact Only.refl _ _

theorem lostP0_only (s : Dev) (x1 : Nat) :
    Only [.dev, .regs, .strs, .bus, .saf, .exe, .log, .pwr, .inForce] s (lostP0 s x1) := by
  unfold lostP0
  try dsimp only
  refine Only.forL ?_ ?_
  · refine Only.then (fault5_only _ _ _ _) rfl ?_
    exact Only.refl _ _
  · intro u x
    try dsimp only
    refine Only.then (lockStr_only _ _ _) rfl ?_
    exact Only.refl _ _

theorem pairLost_only (s : Dev) (x1 : Nat) :
    Only [.dev, .regs, .lim, .strs, .bus, .saf, .exe, .can, .log, .pwr, .inForce] s (pairLost s x1) := by
  unfold pairLost
  try dsimp only
  refine Only.ite_then ?_ ?_
  · refine Only.upd_pwr rfl ?_
    refine Only.then (setPair_only _ _ _) rfl ?_
    refine Only.ite_else ?_ ?_
    · exact Only.refl _ _
    · refine Only.then (lostP0_only _ _) rfl ?_
      exact Only.refl _ _
  · refine Only.ite ?_ ?_
    · refine Only.then (fault4_only _ _ _ _ _ _ _ _) rfl ?_
      exact Only.refl _ _
    · refine Only.then (fault3_only _ _ _ _ _ _ _ _) rfl ?_
      exact Only.refl _ _

theorem comparePath_only (s : Dev) (x1 : Nat) (x2 : List Retired) (x3 : List U32) :
    Only [.dev, .regs, .mem, .win, .rings, .acq, .est, .lim, .strs, .bus, .saf, .exe, .host, .cl, .can, .cnt, .log, .pwr, .inForce, .actor, .freeCtr, .busErr] s (comparePath s x1 x2 x3) := by
  unfold comparePath
  try dsimp only
  apply Only.via
  · apply Only.then (goOn_only _ _ _ _) rfl
    exact Only.refl _ _
  · apply Only.via
    · apply Only.then (pairLost_only _ _) rfl
      apply Only.then (setOutcome_only _ _ _ _) rfl
      exact Only.refl _ _
    · refine Only.then (goOn_only _ _ _ _) rfl ?_
      refine Only.then (setPair_only _ _ _) rfl ?_
      refine Only.upd_exe rfl ?_
      exact Only.refl _ _
    · refine Only.then (setHealth_only _ _) rfl ?_
      refine Only.then (raise_only _ _ _ _ _) rfl ?_
      exact Only.refl _ _
  · refine Only.then (setPair_only _ _ _) rfl ?_
    refine Only.then (wrB_only _ _ _ _) rfl ?_
    refine Only.then (setHealth_only _ _) rfl ?_
    refine Only.then (note_only _ _ _ _) rfl ?_
    refine Only.then (wrB_only _ _ _ _) rfl ?_
    refine Only.then (setOutcome_only _ _ _ _) rfl ?_
    refine Only.then (post_only _ _ _ _) rfl ?_
    exact Only.refl _ _

theorem retired_only (s : Dev) (x1 : Nat) (x2 : List Retired) :
    Only [.regs] s (retired s x1 x2) := by
  unfold retired
  try dsimp only
  refine Only.then (countEv_only _ _ _ _) rfl ?_
  exact Only.refl _ _

theorem tagDraw_only (s : Dev) :
    Only [.cnt] s (tagDraw s).2 := by
  unfold tagDraw
  try dsimp only
  refine Only.upd_cnt rfl ?_
  exact Only.refl _ _

theorem tagStep_only (x0 : Nat) (x1 : Bool) (s : Dev) (x3 : Retired) :
    Only [.regs, .mem, .cnt] s (tagStep x0 x1 s x3) := by
  unfold tagStep
  try dsimp only
  refine Only.ite ?_ ?_
  · refine Only.upd_cnt rfl ?_
    refine Only.then (tagDraw_only _) rfl ?_
    refine Only.then (wrN_only _ _ _) rfl ?_
    refine Only.then (stBytes_only _ _ _) rfl ?_
    exact Only.refl _ _
  · refine Only.upd_cnt rfl ?_
    exact Only.refl _ _

theorem tagWindow_only (s : Dev) (x1 x2 : Nat) (x3 : Bool) (x4 : List Retired) :
    Only [.regs, .mem, .cnt] s (tagWindow s x1 x2 x3 x4) := by
  unfold tagWindow
  try dsimp only
  refine Only.ite ?_ ?_
  · exact Only.refl _ _
  · refine Only.ite ?_ ?_
    · refine Only.ite_then ?_ ?_
      · exact Only.refl _ _
      · refine Only.upd_cnt rfl ?_
        exact Only.refl _ _
    · refine Only.forL ?_ ?_
      · refine Only.ite ?_ ?_
        · exact Only.refl _ _
        · refine Only.upd_cnt rfl ?_
          refine Only.then (tagDraw_only _) rfl ?_
          exact Only.refl _ _
      · intro u x
        try dsimp only
        refine Only.then (tagStep_only _ _ _ _) rfl ?_
        exact Only.refl _ _

theorem restorePair_only (s : Dev) (x1 : Nat) :
    Only [.exe, .log, .inForce] s (restorePair s x1) := by
  unfold restorePair
  try dsimp only
  refine Only.ite_else ?_ ?_
  · exact Only.refl _ _
  · refine Only.then (clearCond_only _ _ _ _ _) rfl ?_
    refine Only.then (post_only _ _ _ _) rfl ?_
    refine Only.then (setCore_only _ _ _) rfl ?_
    refine Only.then (setPair_only _ _ _) rfl ?_
    exact Only.refl _ _

theorem stopSpareTest_only (s : Dev) :
    Only [.exe] s (stopSpareTest s) := by
  unfold stopSpareTest
  try dsimp only
  split
  · refine Only.upd_exe rfl ?_
    exact Only.refl _ _
  · exact Only.refl _ _

theorem countMismatch_only (s : Dev) (x1 : Nat) :
    Only [.regs, .exe] s (countMismatch s x1) := by
  unfold countMismatch
  try dsimp only
  refine Only.then (stopSpareTest_only _) rfl ?_
  refine Only.then (bumpReg_only _ _ _) rfl ?_
  refine Only.then (countEv_only _ _ _ _) rfl ?_
  exact Only.refl _ _

theorem setLastMm_only (s : Dev) (x1 x2 x3 x4 : Nat) :
    Only [.regs] s (setLastMm s x1 x2 x3 x4) := by
  unfold setLastMm
  try dsimp only
  refine Only.then (wrN_only _ _ _) rfl ?_
  exact Only.refl _ _

theorem loadSpare_only (s : Dev) (x1 : Nat) :
    Only [.exe] s (loadSpare s x1) := by
  unfold loadSpare
  try dsimp only
  split
  · refine Only.then (setCore_only _ _ _) rfl ?_
    exact Only.refl _ _
  · exact Only.refl _ _

theorem mismatch_only (s : Dev) (x1 x2 : Nat) (x3 : List (Nat × U32)) :
    Only [.dev, .regs, .strs, .bus, .saf, .exe, .log, .pwr, .inForce] s (mismatch s x1 x2 x3) := by
  unfold mismatch
  try dsimp only
  refine Only.ite_else ?_ ?_
  · refine Only.ite_else ?_ ?_
    · refine Only.then (setCores_only _ _ _) rfl ?_
      refine Only.then (setPair_only _ _ _) rfl ?_
      refine Only.then (setLastMm_only _ _ _ _ _) rfl ?_
      refine Only.then (countMismatch_only _ _) rfl ?_
      exact Only.refl _ _
    · refine Only.then (loadSpare_only _ _) rfl ?_
      exact Only.refl _ _
  · refine Only.then (fault5_only _ _ _ _) rfl ?_
    refine Only.then (emit_only _ _ _) rfl ?_
    refine Only.then (wrB_only _ _ _ _) rfl ?_
    exact Only.refl _ _

theorem compareWindowClose_only (x0 : Nat) (x1 x2 : List Retired) (x3 : Bool) (x4 : List (Nat × U32)) (x5 : List U32) (s : Dev) :
    Only [.dev, .regs, .mem, .win, .rings, .acq, .est, .lim, .strs, .bus, .saf, .exe, .host, .cl, .can, .cnt, .log, .pwr, .inForce, .actor, .freeCtr, .busErr] s (compareWindowClose x0 x1 x2 x3 x4 x5 s) := by
  unfold compareWindowClose
  try dsimp only
  refine Only.ite_then ?_ ?_
  · exact Only.refl _ _
  · apply Only.via
    · apply Only.then (restorePair_only _ _) rfl
      apply Only.then (windowClean_only _ _ _ _ _ _) rfl
      exact Only.refl _ _
    · refine Only.ite ?_ ?_
      · refine Only.then (windowClean_only _ _ _ _ _ _) rfl ?_
        exact Only.refl _ _
      · refine Only.then (mismatch_only _ _ _ _) rfl ?_
        exact Only.refl _ _
    · refine Only.then (tagWindow_only _ _ _ _ _) rfl ?_
      refine Only.ite_then ?_ ?_
      · refine Only.then (retired_only _ _ _) rfl ?_
        exact Only.refl _ _
      · refine Only.then (retired_only _ _ _) rfl ?_
        exact Only.refl _ _

theorem compensationUpdate_only (s : Dev) :
    Only [.regs] s (compensationUpdate s) := by
  unfold compensationUpdate
  try dsimp only
  refine Only.ite ?_ ?_
  · exact Only.refl _ _
  · split
    · refine Only.then (wr_only _ _ _) rfl ?_
      split
      · refine Only.then (wr_only _ _ _) rfl ?_
        exact Only.refl _ _
      · exact Only.refl _ _
    · split
      · refine Only.then (wr_only _ _ _) rfl ?_
        exact Only.refl _ _
      · exact Only.refl _ _

theorem configAbortBody_only (x0 : HostCmd) (s : Dev) :
    Only [.exe, .host, .log] s (configAbortBody x0 s) := by
  unfold configAbortBody
  try dsimp only
  refine Only.ite ?_ ?_
  · refine Only.then (answer_only _ _ _ _) rfl ?_
    refine Only.then (abortTxn_only _ _ _) rfl ?_
    exact Only.refl _ _
  · refine Only.then (answer_only _ _ _ _) rfl ?_
    exact Only.refl _ _

theorem configAbort_only (x0 : HostCmd) (s : Dev) :
    Only [.exe, .host, .log, .actor] s (configAbort x0 s) := by
  unfold configAbort
  try dsimp only
  refine serve_only rfl ?_
  intro u
  refine Only.then (configAbortBody_only _ _) rfl ?_
  exact Only.refl _ _

theorem configBeginBody_only (x0 : HostCmd) (s : Dev) :
    Only [.exe, .host] s (configBeginBody x0 s) := by
  unfold configBeginBody
  try dsimp only
  refine Only.ite ?_ ?_
  · refine Only.then (answer_only _ _ _ _) rfl ?_
    exact Only.refl _ _
  · refine Only.then (answer_only _ _ _ _) rfl ?_
    refine Only.upd_host rfl ?_
    exact Only.refl _ _

theorem configBegin_only (x0 : HostCmd) (s : Dev) :
    Only [.exe, .host, .actor] s (configBegin x0 s) := by
  unfold configBegin
  try dsimp only
  refine serve_only rfl ?_
  intro u
  refine Only.then (configBeginBody_only _ _) rfl ?_
  exact Only.refl _ _

theorem configCommitBody_only (x0 : HostCmd) (s : Dev) :
    Only [.mem, .exe, .host, .pwr] s (configCommitBody x0 s) := by
  unfold configCommitBody
  try dsimp only
  split
  · refine Only.then (answer_only _ _ _ _) rfl ?_
    exact Only.refl _ _
  · refine Only.ite ?_ ?_
    · refine Only.then (answer_only _ _ _ _) rfl ?_
      exact Only.refl _ _
    · refine Only.ite ?_ ?_
      · refine Only.then (answer_only _ _ _ _) rfl ?_
        exact Only.refl _ _
      · split
        · refine Only.then (finish_only _ _ _ _ _) rfl ?_
          exact Only.refl _ _
        · split
          · refine Only.then (finish_only _ _ _ _ _) rfl ?_
            exact Only.refl _ _
          · split
            · refine Only.then (finish_only _ _ _ _ _) rfl ?_
              exact Only.refl _ _
            · refine Only.then (pumpTxns_only _) rfl ?_
              refine Only.upd_host_pwr rfl ?_
              refine Only.then (stBytes_only _ _ _) rfl ?_
              exact Only.refl _ _

theorem configCommit_only (x0 : HostCmd) (s : Dev) :
    Only [.mem, .exe, .host, .pwr, .actor] s (configCommit x0 s) := by
  unfold configCommit
  try dsimp only
  refine serve_only rfl ?_
  intro u
  refine Only.then (configCommitBody_only _ _) rfl ?_
  exact Only.refl _ _

theorem configDone_only (s : Dev) (x1 : Nat) (x2 : Exch) :
    Only [.regs, .rings, .log] s (configDone s x1 x2) := by
  unfold configDone
  try dsimp only
  refine Only.ite_then ?_ ?_
  · exact Only.refl _ _
  · refine Only.ite_then ?_ ?_
    · exact Only.refl _ _
    · refine Only.ite_else ?_ ?_
      · refine Only.then (setRing_only _ _ _) rfl ?_
        exact Only.refl _ _
      · refine Only.then (post_only _ _ _ _) rfl ?_
        refine Only.then (wrB_only _ _ _ _) rfl ?_
        exact Only.refl _ _

theorem configIdleTimeout_only (s : Dev) :
    Only [.host, .log] s (configIdleTimeout s) := by
  unfold configIdleTimeout
  try dsimp only
  refine Only.ite_else ?_ ?_
  · exact Only.refl _ _
  · refine Only.then (abortTxn_only _ _ _) rfl ?_
    exact Only.refl _ _

theorem connFail_only (s : Dev) (x1 x2 : Nat) :
    Only [.dev, .strs, .saf, .exe, .log] s (connFail s x1 x2) := by
  unfold connFail
  try dsimp only
  refine Only.then (deriveState_only _ _) rfl ?_
  refine Only.then (openSeq_only _ _ _) rfl ?_
  refine Only.then (setStr_only _ _ _) rfl ?_
  exact Only.refl _ _

theorem seoRequests_only (s : Dev) :
    Only [.saf, .exe] s (seoRequests s) := by
  unfold seoRequests
  try dsimp only
  refine Only.ite_then ?_ ?_
  · exact Only.refl _ _
  · refine Only.ite_then ?_ ?_
    · refine Only.forN ?_ ?_
      · exact Only.refl _ _
      · intro u x
        try dsimp only
        refine Only.ite_else ?_ ?_
        · exact Only.refl _ _
        · refine Only.then (setSeo_only _ _ _) rfl ?_
          exact Only.refl _ _
    · refine Only.then (emit_only _ _ _) rfl ?_
      exact Only.refl _ _

theorem connectOne_only (s : Dev) (x1 : Nat) :
    Only [.dev, .strs, .saf, .exe, .log, .inForce] s (connectOne s x1).2.2 := by
  unfold connectOne
  try dsimp only
  refine Only.ite_snd2 ?_ ?_
  · dsimp only
    exact Only.refl _ _
  · refine Only.ite_snd2 ?_ ?_
    · dsimp only
      exact Only.refl _ _
    · refine Only.ite_snd2 ?_ ?_
      · dsimp only
        exact Only.refl _ _
      · refine Only.ite_snd2 ?_ ?_
        · dsimp only
          refine Only.then (budgetRefuse_only _ _) rfl ?_
          exact Only.refl _ _
        · refine Only.ite_snd2 ?_ ?_
          · dsimp only
            refine Only.then (note_only _ _ _ _) rfl ?_
            exact Only.refl _ _
          · refine Only.ite_snd2 ?_ ?_
            · dsimp only
              refine Only.then (seoRequests_only _) rfl ?_
              refine Only.then (setStr_only _ _ _) rfl ?_
              exact Only.refl _ _
            · refine Only.ite_snd2 ?_ ?_
              · dsimp only
                refine Only.then (deriveState_only _ _) rfl ?_
                refine Only.then (leaveOpen_only _ _) rfl ?_
                refine Only.then (seoRequests_only _) rfl ?_
                refine Only.then (setStr_only _ _ _) rfl ?_
                exact Only.refl _ _
              · dsimp only
                refine Only.then (deriveState_only _ _) rfl ?_
                refine Only.then (leaveOpen_only _ _) rfl ?_
                refine Only.then (seoRequests_only _) rfl ?_
                refine Only.then (setStr_only _ _ _) rfl ?_
                exact Only.refl _ _

theorem connectFor_only (x0 : Nat) (x1 : List Nat) (s : Dev) (x3 : Nat) :
    Only [.dev, .strs, .saf, .exe, .log, .inForce] s (connectFor x0 x1 s x3).2.2 := by
  unfold connectFor
  try dsimp only
  refine Only.ite_snd2 ?_ ?_
  · dsimp only
    exact Only.refl _ _
  · refine Only.ite_snd2 ?_ ?_
    · dsimp only
      refine Only.then (setStr_only _ _ _) rfl ?_
      refine Only.then (connectOne_only _ _) rfl ?_
      exact Only.refl _ _
    · refine Only.then (connectOne_only _ _) rfl ?_
      exact Only.refl _ _

theorem safeP0_only (s : Dev) (x1 : Nat) :
    Only [.exe] s (safeP0 s x1) := by
  unfold safeP0
  try dsimp only
  refine Only.then (emit_only _ _ _) rfl ?_
  exact Only.refl _ _

theorem weldFound_only (s : Dev) (x1 x2 : Nat) :
    Only [.strs, .exe, .log, .pwr, .inForce] s (weldFound s x1 x2) := by
  unfold weldFound
  try dsimp only
  refine Only.ite_then ?_ ?_
  · exact Only.refl _ _
  · refine Only.ite_else ?_ ?_
    · refine Only.forL ?_ ?_
      · refine Only.then (saveSoon_only _) rfl ?_
        refine Only.then (setStr_only _ _ _) rfl ?_
        exact Only.refl _ _
      · intro u x
        try dsimp only
        refine Only.then (raise_only _ _ _ _ _) rfl ?_
        exact Only.refl _ _
    · refine Only.then (safeP0_only _ _) rfl ?_
      refine Only.then (raise_only _ _ _ _ _) rfl ?_
      exact Only.refl _ _

theorem preFail_only (s : Dev) (x1 x2 : Nat) :
    Only [.dev, .strs, .saf, .exe, .log, .inForce, .actor] s (preFail s x1 x2) := by
  unfold preFail
  try dsimp only
  refine Only.then (connFail_only _ _ _) rfl ?_
  refine Only.then (askedNote_only _ _ _ _) rfl ?_
  exact Only.refl _ _

theorem wearCheck_only (s : Dev) (x1 x2 : Nat) :
    Only [.strs, .log, .inForce] s (wearCheck s x1 x2) := by
  unfold wearCheck
  try dsimp only
  refine Only.ite_then ?_ ?_
  · refine Only.then (setStr_only _ _ _) rfl ?_
    exact Only.refl _ _
  · refine Only.then (note_only _ _ _ _) rfl ?_
    exact Only.refl _ _

theorem countBreak_only (s : Dev) (x1 x2 x3 : Nat) :
    Only [.strs, .log, .inForce] s (countBreak s x1 x2 x3) := by
  unfold countBreak
  try dsimp only
  refine Only.then (wearCheck_only _ _ _) rfl ?_
  refine Only.ite_else ?_ ?_
  · refine Only.then (setStr_only _ _ _) rfl ?_
    exact Only.refl _ _
  · refine Only.then (note_only _ _ _ _) rfl ?_
    exact Only.refl _ _

theorem recordBreaks_only (s : Dev) (x1 : Nat) :
    Only [.strs, .log, .inForce] s (recordBreaks s x1) := by
  unfold recordBreaks
  try dsimp only
  refine Only.forL ?_ ?_
  · exact Only.refl _ _
  · intro u x
    try dsimp only
    refine Only.then (countBreak_only _ _ _ _) rfl ?_
    exact Only.refl _ _

theorem weldStr_only (s : Dev) (x1 : Nat) :
    Only [.strs, .pwr] s (weldStr s x1) := by
  unfold weldStr
  try dsimp only
  refine Only.then (saveSoon_only _) rfl ?_
  refine Only.then (setStr_only _ _ _) rfl ?_
  exact Only.refl _ _

theorem rampEnd_only (s : Dev) :
    Only [.lim] s (rampEnd s) := by
  unfold rampEnd
  try dsimp only
  refine Only.ite_else ?_ ?_
  · exact Only.refl _ _
  · refine Only.upd_lim rfl ?_
    exact Only.refl _ _

theorem openingEnd_only (s : Dev) (x1 : Nat) :
    Only [.dev, .lim, .strs, .saf, .log, .pwr, .inForce] s (openingEnd s x1) := by
  unfold openingEnd
  try dsimp only
  refine Only.then (rampEnd_only _) rfl ?_
  refine Only.then (deriveState_only _ _) rfl ?_
  apply Only.via
  · apply Only.then (weldStr_only _ _) rfl
    exact Only.refl _ _
  · apply Only.via
    · apply Only.then (lockStr_only _ _ _) rfl
      exact Only.refl _ _
    · refine Only.ite ?_ ?_
      · refine Only.then (lockStr_only _ _ _) rfl ?_
        exact Only.refl _ _
      · refine Only.then (setStr_only _ _ _) rfl ?_
        exact Only.refl _ _
    · refine Only.ite_else ?_ ?_
      · exact Only.refl _ _
      · refine Only.then (post_only _ _ _ _) rfl ?_
        exact Only.refl _ _
  · refine Only.then (setStr_only _ _ _) rfl ?_
    refine Only.then (recordBreaks_only _ _) rfl ?_
    exact Only.refl _ _

theorem phaseDone_only (s : Dev) (x1 : Nat) :
    Only [.dev, .lim, .strs, .saf, .exe, .log, .pwr, .inForce, .actor] s (phaseDone s x1) := by
  unfold phaseDone
  try dsimp only
  refine Only.ite ?_ ?_
  · exact Only.refl _ _
  · split
    · refine Only.then (openingEnd_only _ _) rfl ?_
      exact Only.refl _ _
    · refine Only.then (openingEnd_only _ _) rfl ?_
      exact Only.refl _ _
    · refine Only.then (openingEnd_only _ _) rfl ?_
      exact Only.refl _ _
    · exact Only.refl _ _
    · exact Only.refl _ _
    · exact Only.refl _ _
    · split
      · refine Only.ite ?_ ?_
        · refine Only.then (setStr_only _ _ _) rfl ?_
          exact Only.refl _ _
        · refine Only.then (closeMN_only _ _ _) rfl ?_
          exact Only.refl _ _
      · refine Only.then (setStr_only _ _ _) rfl ?_
        exact Only.refl _ _
      · refine Only.ite ?_ ?_
        · refine Only.then (setStr_only _ _ _) rfl ?_
          exact Only.refl _ _
        · refine Only.then (closeMP_only _ _) rfl ?_
          exact Only.refl _ _
      · refine Only.ite ?_ ?_
        · refine Only.then (issueCoils_only _ _ _) rfl ?_
          refine Only.then (setStr_only _ _ _) rfl ?_
          exact Only.refl _ _
        · refine Only.then (closedStr_only _ _) rfl ?_
          exact Only.refl _ _
      · refine Only.then (closedStr_only _ _) rfl ?_
        exact Only.refl _ _
      · exact Only.refl _ _

theorem contactorFbTimeout_only (x0 x1 : Nat) (s : Dev) :
    Only [.dev, .lim, .strs, .saf, .exe, .log, .pwr, .inForce, .actor] s (contactorFbTimeout x0 x1 s) := by
  unfold contactorFbTimeout
  try dsimp only
  refine Only.ite_then ?_ ?_
  · exact Only.refl _ _
  · apply Only.via
    · apply Only.ite
      · apply Only.then (preFail_only _ _ _) rfl
        exact Only.refl _ _
      · apply Only.then (connFail_only _ _ _) rfl
        apply Only.then (askedNote_only _ _ _ _) rfl
        exact Only.refl _ _
    · refine Only.then (phaseDone_only _ _) rfl ?_
      exact Only.refl _ _
    · refine Only.then (weldFound_only _ _ _) rfl ?_
      refine Only.then (setStr_only _ _ _) rfl ?_
      exact Only.refl _ _

theorem contactorPoll_only (x0 : Nat) (s : Dev) :
    Only [.exe] s (contactorPoll x0 s) := by
  unfold contactorPoll
  try dsimp only
  refine Only.ite_else ?_ ?_
  · exact Only.refl _ _
  · refine Only.then (suExchange_only _ _ _ _) rfl ?_
    exact Only.refl _ _

theorem countClose_only (s : Dev) (x1 x2 : Nat) :
    Only [.strs, .log, .inForce] s (countClose s x1 x2) := by
  unfold countClose
  try dsimp only
  refine Only.then (wearCheck_only _ _ _) rfl ?_
  refine Only.then (setStr_only _ _ _) rfl ?_
  exact Only.refl _ _

theorem contactorRead_only (s : Dev) (x1 x2 : Nat) :
    Only [.dev, .lim, .strs, .saf, .exe, .log, .pwr, .inForce, .actor] s (contactorRead s x1 x2) := by
  unfold contactorRead
  try dsimp only
  refine Only.ite_then ?_ ?_
  · refine Only.forL ?_ ?_
    · refine Only.then (setStr_only _ _ _) rfl ?_
      exact Only.refl _ _
    · intro u x
      try dsimp only
      refine Only.then (countClose_only _ _ _) rfl ?_
      exact Only.refl _ _
  · refine Only.then (phaseDone_only _ _) rfl ?_
    exact Only.refl _ _

theorem contactorSet_only (s : Dev) (x1 x2 : Nat) :
    Only [.dev, .lim, .strs, .saf, .exe, .log, .pwr, .inForce, .actor] s (contactorSet s x1 x2) := by
  unfold contactorSet
  try dsimp only
  split
  · exact Only.refl _ _
  · split
    · refine Only.then (issueCoils_only _ _ _) rfl ?_
      refine Only.then (setStr_only _ _ _) rfl ?_
      exact Only.refl _ _
    · refine Only.then (phaseDone_only _ _) rfl ?_
      refine Only.then (setStr_only _ _ _) rfl ?_
      exact Only.refl _ _

theorem coreSelftestComplete_only (x0 : Nat) (x1 : Bool) (s : Dev) :
    Only [.regs, .exe, .log, .inForce] s (coreSelftestComplete x0 x1 s) := by
  unfold coreSelftestComplete
  try dsimp only
  refine Only.ite ?_ ?_
  · exact Only.refl _ _
  · refine Only.ite ?_ ?_
    · refine Only.ite ?_ ?_
      · refine Only.upd_exe rfl ?_
        exact Only.refl _ _
      · refine Only.ite_else ?_ ?_
        · refine Only.then (post_only _ _ _ _) rfl ?_
          refine Only.then (setHealth_only _ _) rfl ?_
          split
          · refine Only.ite_then ?_ ?_
            · refine Only.upd_exe rfl ?_
              exact Only.refl _ _
            · refine Only.then (post_only _ _ _ _) rfl ?_
              refine Only.then (setOutcome_only _ _ _ _) rfl ?_
              exact Only.refl _ _
          · refine Only.upd_exe rfl ?_
            exact Only.refl _ _
        · refine Only.upd_exe rfl ?_
          exact Only.refl _ _
    · refine Only.ite_else ?_ ?_
      · refine Only.then (raise_only _ _ _ _ _) rfl ?_
        refine Only.then (setHealth_only _ _) rfl ?_
        split
        · refine Only.ite_then ?_ ?_
          · refine Only.upd_exe rfl ?_
            exact Only.refl _ _
          · refine Only.then (post_only _ _ _ _) rfl ?_
            refine Only.then (setOutcome_only _ _ _ _) rfl ?_
            exact Only.refl _ _
        · refine Only.upd_exe rfl ?_
          exact Only.refl _ _
      · refine Only.upd_exe rfl ?_
        exact Only.refl _ _

theorem coreUnfenceBody_only (x0 : HostCmd) (s : Dev) :
    Only [.exe, .host, .log, .inForce] s (coreUnfenceBody x0 s) := by
  unfold coreUnfenceBody
  try dsimp only
  refine Only.ite ?_ ?_
  · refine Only.then (answer_only _ _ _ _) rfl ?_
    exact Only.refl _ _
  · refine Only.ite ?_ ?_
    · refine Only.then (answer_only _ _ _ _) rfl ?_
      exact Only.refl _ _
    · refine Only.then (answer_only _ _ _ _) rfl ?_
      refine Only.forN ?_ ?_
      · refine Only.then (setHealth_only _ _) rfl ?_
        exact Only.refl _ _
      · intro u x
        try dsimp only
        refine Only.ite_else ?_ ?_
        · exact Only.refl _ _
        · refine Only.then (clearCond_only _ _ _ _ _) rfl ?_
          exact Only.refl _ _

theorem coreUnfence_only (x0 : HostCmd) (s : Dev) :
    Only [.exe, .host, .log, .inForce, .actor] s (coreUnfence x0 s) := by
  unfold coreUnfence
  try dsimp only
  refine serve_only rfl ?_
  intro u
  refine Only.then (coreUnfenceBody_only _ _) rfl ?_
  exact Only.refl _ _

theorem counterReadBody_only (x0 : HostCmd) (s : Dev) :
    Only [.exe, .host] s (counterReadBody x0 s) := by
  unfold counterReadBody
  try dsimp only
  refine Only.ite ?_ ?_
  · refine Only.then (answer_only _ _ _ _) rfl ?_
    exact Only.refl _ _
  · refine Only.ite ?_ ?_
    · refine Only.then (answer_only _ _ _ _) rfl ?_
      exact Only.refl _ _
    · split
      · refine Only.then (answer_only _ _ _ _) rfl ?_
        exact Only.refl _ _
      · refine Only.ite ?_ ?_
        · refine Only.then (answer_only _ _ _ _) rfl ?_
          exact Only.refl _ _
        · refine Only.then (finish_only _ _ _ _ _) rfl ?_
          exact Only.refl _ _

theorem counterRead_only (x0 : HostCmd) (s : Dev) :
    Only [.exe, .host, .actor] s (counterRead x0 s) := by
  unfold counterRead
  try dsimp only
  refine serve_only rfl ?_
  intro u
  refine Only.then (counterReadBody_only _ _) rfl ?_
  exact Only.refl _ _

theorem curatorJobComplete_only (x0 : Bool) (s : Dev) :
    Only [.regs, .mem, .est, .exe, .freeCtr] s (curatorJobComplete x0 s) := by
  unfold curatorJobComplete
  try dsimp only [takeBit, takeWord, takeNat]
  split
  · exact Only.refl _ _
  · refine Only.ite_then ?_ ?_
    · exact Only.refl _ _
    · refine Only.then (setStrBit_only _ _ _ _) rfl ?_
      refine Only.then (wrB_only _ _ _ _) rfl ?_
      refine Only.upd_est_exe rfl ?_
      refine Only.then (stWords_only _ _ _) rfl ?_
      refine Only.upd_freeCtr rfl ?_
      refine Only.then (countEv_only _ _ _ _) rfl ?_
      exact Only.refl _ _

theorem currentChecks_only (s : Dev) (x1 x2 : Nat) :
    Only [.dev, .lim, .strs, .saf, .exe, .can, .log, .pwr, .inForce] s (currentChecks s x1 x2) := by
  unfold currentChecks
  try dsimp only
  refine Only.ite_then ?_ ?_
  · refine Only.then (directionSync_only _ _) rfl ?_
    exact Only.refl _ _
  · apply Only.via
    · apply Only.then (tripStr_only _ _ _ _ _) rfl
      exact Only.refl _ _
    · refine Only.ite ?_ ?_
      · refine Only.then (fault3_only _ _ _ _ _ _ _ _) rfl ?_
        exact Only.refl _ _
      · refine Only.then (clearCond_only _ _ _ _ _) rfl ?_
        exact Only.refl _ _
    · refine Only.ite_else ?_ ?_
      · exact Only.refl _ _
      · refine Only.then (tripStr_only _ _ _ _ _) rfl ?_
        exact Only.refl _ _

theorem currentSum_only (s : Dev) (x1 : Nat) :
    Only [.dev, .lim, .strs, .saf, .exe, .can, .log, .inForce] s (currentSum s x1) := by
  unfold currentSum
  try dsimp only
  refine Only.ite_then ?_ ?_
  · exact Only.refl _ _
  · refine Only.ite ?_ ?_
    · refine Only.ite_else ?_ ?_
      · refine Only.upd_saf rfl ?_
        exact Only.refl _ _
      · refine Only.then (fault3_only _ _ _ _ _ _ _ _) rfl ?_
        exact Only.refl _ _
    · refine Only.then (clearCond_only _ _ _ _ _) rfl ?_
      refine Only.upd_saf rfl ?_
      exact Only.refl _ _

theorem cutConnects_only (s : Dev) (x1 : List Nat) :
    Only [.exe, .host] s (cutConnects s x1) := by
  unfold cutConnects
  try dsimp only
  refine Only.forL ?_ ?_
  · exact Only.refl _ _
  · intro u x
    try dsimp only
    refine Only.ite_else ?_ ?_
    · exact Only.refl _ _
    · refine Only.ite ?_ ?_
      · refine Only.then (answer_only _ _ _ _) rfl ?_
        exact Only.refl _ _
      · refine Only.then (updFlight_only _ _ _ _) rfl ?_
        exact Only.refl _ _

theorem debugHalt_only (x0 : Nat) (s : Dev) :
    Only [.exe, .log, .inForce] s (debugHalt x0 s) := by
  unfold debugHalt
  try dsimp only
  refine Only.ite ?_ ?_
  · exact Only.refl _ _
  · refine Only.ite ?_ ?_
    · refine Only.upd_exe rfl ?_
      exact Only.refl _ _
    · split
      · refine Only.upd_exe rfl ?_
        exact Only.refl _ _
      · apply Only.via
        · apply Only.then (setPair_only _ _ _) rfl
          exact Only.refl _ _
        · refine Only.then (raise_only _ _ _ _ _) rfl ?_
          refine Only.then (setPair_only _ _ _) rfl ?_
          exact Only.refl _ _
        · refine Only.upd_exe rfl ?_
          exact Only.refl _ _

theorem debugSetBody_only (x0 : HostCmd) (s : Dev) :
    Only [.exe, .host, .log, .pwr] s (debugSetBody x0 s) := by
  unfold debugSetBody
  try dsimp only
  refine Only.ite ?_ ?_
  · refine Only.then (answer_only _ _ _ _) rfl ?_
    exact Only.refl _ _
  · refine Only.ite ?_ ?_
    · refine Only.then (answer_only _ _ _ _) rfl ?_
      exact Only.refl _ _
    · refine Only.ite ?_ ?_
      · refine Only.then (answer_only _ _ _ _) rfl ?_
        exact Only.refl _ _
      · refine Only.ite ?_ ?_
        · refine Only.then (answer_only _ _ _ _) rfl ?_
          exact Only.refl _ _
        · refine Only.then (answer_only _ _ _ _) rfl ?_
          refine Only.ite_else ?_ ?_
          · refine Only.ite_then ?_ ?_
            · exact Only.refl _ _
            · refine Only.then (modeChange_only _ _ _ _ _) rfl ?_
              refine Only.upd_exe_pwr rfl ?_
              exact Only.refl _ _
          · refine Only.forN ?_ ?_
            · refine Only.upd_exe rfl ?_
              exact Only.refl _ _
            · intro u x
              try dsimp only
              refine Only.ite_else ?_ ?_
              · exact Only.refl _ _
              · refine Only.then (setPair_only _ _ _) rfl ?_
                exact Only.refl _ _

theorem debugSet_only (x0 : HostCmd) (s : Dev) :
    Only [.exe, .host, .log, .pwr, .actor] s (debugSet x0 s) := by
  unfold debugSet
  try dsimp only
  refine serve_only rfl ?_
  intro u
  refine Only.then (debugSetBody_only _ _) rfl ?_
  exact Only.refl _ _

theorem suspendExch_only (s : Dev) (x1 : Nat) :
    Only [.rings] s (suspendExch s x1) := by
  unfold suspendExch
  try dsimp only
  refine Only.then (setRing_only _ _ _) rfl ?_
  exact Only.refl _ _

theorem sendStubEnd_only (s : Dev) (x1 x2 : Nat) (x3 : Bool) :
    Only [.exe] s (sendStubEnd s x1 x2 x3) := by
  unfold sendStubEnd
  try dsimp only
  refine Only.ite_then ?_ ?_
  · exact Only.refl _ _
  · refine Only.then (emit_only _ _ _) rfl ?_
    exact Only.refl _ _

theorem searchStep_only (s : Dev) (x1 : Nat) (x2 : StubSearch) :
    Only [.rings, .exe] s (searchStep s x1 x2) := by
  unfold searchStep
  try dsimp only
  refine Only.ite_else ?_ ?_
  · refine Only.then (setRing_only _ _ _) rfl ?_
    split
    · refine Only.then (sendEnum_only _ _ _ _ _) rfl ?_
      split
      · refine Only.then (sendEnum_only _ _ _ _ _) rfl ?_
        exact Only.refl _ _
      · exact Only.refl _ _
    · split
      · refine Only.then (sendEnum_only _ _ _ _ _) rfl ?_
        exact Only.refl _ _
      · exact Only.refl _ _
  · refine Only.ite_else ?_ ?_
    · refine Only.ite_else ?_ ?_
      · exact Only.refl _ _
      · refine Only.then (sendStubEnd_only _ _ _ _) rfl ?_
        exact Only.refl _ _
    · refine Only.then (sendStubEnd_only _ _ _ _) rfl ?_
      exact Only.refl _ _

theorem declareBreak_only (s : Dev) (x1 : Nat) (x2 : Bool) :
    Only [.regs, .rings, .exe, .log, .inForce] s (declareBreak s x1 x2) := by
  unfold declareBreak
  try dsimp only
  refine Only.ite_then ?_ ?_
  · exact Only.refl _ _
  · apply Only.via
    · apply Only.then (searchStep_only _ _ _) rfl
      apply Only.then (sendEnum_only _ _ _ _ _) rfl
      apply Only.then (sendEnum_only _ _ _ _ _) rfl
      apply Only.then (raise_only _ _ _ _ _) rfl
      apply Only.then (wrB_only _ _ _ _) rfl
      exact Only.refl _ _
    · refine Only.ite_else ?_ ?_
      · exact Only.refl _ _
      · apply Only.via
        · apply Only.then (searchStep_only _ _ _) rfl
          exact Only.refl _ _
        · refine Only.then (searchStep_only _ _ _) rfl ?_
          exact Only.refl _ _
        · refine Only.then (sendEnum_only _ _ _ _ _) rfl ?_
          refine Only.then (note_only _ _ _ _) rfl ?_
          refine Only.then (wrB_only _ _ _ _) rfl ?_
          exact Only.refl _ _
    · refine Only.then (suspendExch_only _ _) rfl ?_
      exact Only.refl _ _

theorem delayReqReceived_only (x0 x1 x2 x3 x4 x5 : Nat) (s : Dev) :
    Only [.exe] s (delayReqReceived x0 x1 x2 x3 x4 x5 s) := by
  unfold delayReqReceived
  try dsimp only
  refine Only.ite_else ?_ ?_
  · exact Only.refl _ _
  · refine Only.then (emit_only _ _ _) rfl ?_
    exact Only.refl _ _

theorem nextSeq_only (s : Dev) (x1 : Nat) :
    Only [.cl] s (nextSeq s x1).2 := by
  unfold nextSeq
  try dsimp only
  refine Only.upd_cl rfl ?_
  exact Only.refl _ _

theorem delayReqSend_only (x0 : Nat) (s : Dev) :
    Only [.exe, .cl] s (delayReqSend x0 s) := by
  unfold delayReqSend
  try dsimp only
  split
  · refine Only.ite ?_ ?_
    · exact Only.refl _ _
    · refine Only.then (emit_only _ _ _) rfl ?_
      refine Only.upd_cl rfl ?_
      refine Only.then (nextSeq_only _ _) rfl ?_
      exact Only.refl _ _
  · exact Only.refl _ _

theorem delayRespReceived_only (x0 x1 x2 x3 x4 x5 : Nat) (s : Dev) :
    Only [.regs, .cl, .log, .inForce] s (delayRespReceived x0 x1 x2 x3 x4 x5 s) := by
  unfold delayRespReceived
  try dsimp only
  split
  · exact Only.refl _ _
  · refine Only.ite_then ?_ ?_
    · exact Only.refl _ _
    · refine Only.ite ?_ ?_
      · refine Only.then (note_only _ _ _ _) rfl ?_
        refine Only.then (wrB_only _ _ _ _) rfl ?_
        refine Only.upd_cl rfl ?_
        exact Only.refl _ _
      · refine Only.then (wrN_only _ _ _) rfl ?_
        refine Only.upd_cl rfl ?_
        exact Only.refl _ _

theorem deliverHeld_only (s : Dev) (x1 : Nat) :
    Only [.exe, .host, .log, .inForce] s (deliverHeld s x1) := by
  unfold deliverHeld
  try dsimp only
  refine Only.then (sendNotices_only _) rfl ?_
  refine Only.forL ?_ ?_
  · refine Only.then (setSess_only _ _ _) rfl ?_
    exact Only.refl _ _
  · intro u x
    try dsimp only
    refine Only.then (sendPkt_only _ _) rfl ?_
    exact Only.refl _ _

theorem dieEnter_only (s : Dev) (x1 : Nat) :
    Only [.dev, .regs, .lim, .thm, .strs, .saf, .exe, .can, .log, .inForce] s (dieEnter s x1) := by
  unfold dieEnter
  try dsimp only
  apply Only.via
  · apply Only.then (fault3_only _ _ _ _ _ _ _ _) rfl
    apply Only.then (wrB_only _ _ _ _) rfl
    exact Only.refl _ _
  · refine Only.then (clearCond_only _ _ _ _ _) rfl ?_
    exact Only.refl _ _
  · apply Only.via
    · apply Only.then (raise_only _ _ _ _ _) rfl
      apply Only.then (estWrite_only _ _) rfl
      exact Only.refl _ _
    · refine Only.ite_else ?_ ?_
      · exact Only.refl _ _
      · refine Only.then (clearCond_only _ _ _ _ _) rfl ?_
        refine Only.then (estWrite_only _ _) rfl ?_
        exact Only.refl _ _
    · apply Only.via
      · apply Only.then (raise_only _ _ _ _ _) rfl
        exact Only.refl _ _
      · refine Only.ite_else ?_ ?_
        · exact Only.refl _ _
        · refine Only.then (clearCond_only _ _ _ _ _) rfl ?_
          exact Only.refl _ _
      · refine Only.ite_else ?_ ?_
        · refine Only.upd_thm rfl ?_
          refine Only.then (wrF_only _ _ _ _ _) rfl ?_
          exact Only.refl _ _
        · refine Only.then (wrB_only _ _ _ _) rfl ?_
          exact Only.refl _ _

theorem dieSensorExclusion_only (x0 : Nat) (s : Dev) :
    Only [.dev, .regs, .lim, .thm, .strs, .saf, .exe, .can, .log, .inForce] s (dieSensorExclusion x0 s) := by
  unfold dieSensorExclusion
  try dsimp only
  refine Only.ite_then ?_ ?_
  · exact Only.refl _ _
  · refine Only.ite_else ?_ ?_
    · refine Only.then (raise_only _ _ _ _ _) rfl ?_
      refine Only.then (wrB_only _ _ _ _) rfl ?_
      exact Only.refl _ _
    · refine Only.then (dieEnter_only _ _) rfl ?_
      exact Only.refl _ _

theorem dieStateDwellExpiry_only (s : Dev) :
    Only [.dev, .regs, .lim, .thm, .strs, .saf, .exe, .can, .log, .inForce] s (dieStateDwellExpiry s) := by
  unfold dieStateDwellExpiry
  try dsimp only
  refine Only.ite_then ?_ ?_
  · exact Only.refl _ _
  · refine Only.ite ?_ ?_
    · refine Only.then (dieEnter_only _ _) rfl ?_
      exact Only.refl _ _
    · refine Only.ite ?_ ?_
      · refine Only.then (dieEnter_only _ _) rfl ?_
        exact Only.refl _ _
      · refine Only.ite_else ?_ ?_
        · exact Only.refl _ _
        · refine Only.then (dieEnter_only _ _) rfl ?_
          exact Only.refl _ _

theorem dieTemperatureUpdate_only (x0 : List Int) (s : Dev) :
    Only [.dev, .regs, .lim, .thm, .strs, .saf, .exe, .can, .log, .inForce] s (dieTemperatureUpdate x0 s) := by
  unfold dieTemperatureUpdate
  try dsimp only
  refine Only.upd_thm rfl ?_
  refine Only.ite_else ?_ ?_
  · apply Only.via
    · apply Only.then (dieEnter_only _ _) rfl
      exact Only.refl _ _
    · refine Only.ite_else ?_ ?_
      · exact Only.refl _ _
      · refine Only.then (dieEnter_only _ _) rfl ?_
        exact Only.refl _ _
    · refine Only.ite_else ?_ ?_
      · refine Only.then (wrN_only _ _ _) rfl ?_
        refine Only.forN ?_ ?_
        · refine Only.upd_thm rfl ?_
          refine Only.forN ?_ ?_
          · exact Only.refl _ _
          · intro u x
            try dsimp only
            refine Only.then (wrN_only _ _ _) rfl ?_
            exact Only.refl _ _
        · intro u x
          try dsimp only
          refine Only.ite_else ?_ ?_
          · exact Only.refl _ _
          · refine Only.then (clearCond_only _ _ _ _ _) rfl ?_
            refine Only.then (wrB_only _ _ _ _) rfl ?_
            exact Only.refl _ _
      · refine Only.upd_thm rfl ?_
        refine Only.then (wrN_only _ _ _) rfl ?_
        exact Only.refl _ _
  · refine Only.then (dieEnter_only _ _) rfl ?_
    exact Only.refl _ _

theorem directNow_only (s : Dev) (x1 : List (Nat × Int)) :
    Only [.regs] s (directNow s x1) := by
  unfold directNow
  try dsimp only
  refine Only.forL ?_ ?_
  · exact Only.refl _ _
  · intro u x
    try dsimp only
    refine Only.ite_else ?_ ?_
    · exact Only.refl _ _
    · refine Only.then (wr_only _ _ _) rfl ?_
      exact Only.refl _ _

theorem directReadBody_only (x0 : HostCmd) (s : Dev) :
    Only [.exe, .host] s (directReadBody x0 s) := by
  unfold directReadBody
  try dsimp only
  refine Only.then (finish_only _ _ _ _ _) rfl ?_
  exact Only.refl _ _

theorem directRead_only (x0 : HostCmd) (s : Dev) :
    Only [.exe, .host, .actor] s (directRead x0 s) := by
  unfold directRead
  try dsimp only
  refine serve_only rfl ?_
  intro u
  refine Only.then (directReadBody_only _ _) rfl ?_
  exact Only.refl _ _

theorem directionSettleExpiry_only (x0 : Nat) (x1 : Bool) (s : Dev) :
    Only [.strs] s (directionSettleExpiry x0 x1 s) := by
  unfold directionSettleExpiry
  try dsimp only
  refine Only.ite_then ?_ ?_
  · exact Only.refl _ _
  · refine Only.ite ?_ ?_
    · refine Only.then (setStr_only _ _ _) rfl ?_
      exact Only.refl _ _
    · refine Only.then (setStr_only _ _ _) rfl ?_
      exact Only.refl _ _

theorem disconnectOne_only (s : Dev) (x1 : Nat) :
    Only [.strs, .exe] s (disconnectOne s x1).2.2 := by
  unfold disconnectOne
  dsimp only
  refine Only.ite_snd2 (Only.refl _ _) (Only.ite_snd2 (Only.then (setStr_only _ _ _) rfl (Only.refl _ _)) (Only.ite_snd2 (Only.refl _ _) ?_))
  exact Only.ite_snd2 (Only.refl _ _) (Only.then (openSeq_only _ _ _) rfl (Only.refl _ _))

theorem setCtl_only (s : Dev) (x1 : Nat) (x2 : PcsCtl) :
    Only [.lim] s (setCtl s x1 x2) := by
  unfold setCtl
  try dsimp only
  refine Only.upd_lim rfl ?_
  exact Only.refl _ _

theorem dropCopy_only (s : Dev) (x1 x2 : Nat) :
    Only [.lim] s (dropCopy s x1 x2) := by
  unfold dropCopy
  try dsimp only
  refine Only.forL ?_ ?_
  · exact Only.refl _ _
  · intro u x
    try dsimp only
    refine Only.then (setCtl_only _ _ _) rfl ?_
    exact Only.refl _ _

theorem dropEntry_only (s : Dev) (x1 : Nat) :
    Only [.mem, .exe] s (dropEntry s x1) := by
  unfold dropEntry
  try dsimp only
  refine Only.ite ?_ ?_
  · refine Only.then (st32_only _ _ _) rfl ?_
    exact Only.refl _ _
  · refine Only.ite ?_ ?_
    · refine Only.then (st16_only _ _ _) rfl ?_
      exact Only.refl _ _
    · refine Only.ite ?_ ?_
      · refine Only.upd_exe rfl ?_
        exact Only.refl _ _
      · refine Only.ite ?_ ?_
        · refine Only.then (st16_only _ _ _) rfl ?_
          exact Only.refl _ _
        · refine Only.ite_else ?_ ?_
          · exact Only.refl _ _
          · refine Only.then (st16_only _ _ _) rfl ?_
            exact Only.refl _ _

theorem setOpen_only (s : Dev) (x1 : Nat) (x2 : Bool) :
    Only [.regs] s (setOpen s x1 x2) := by
  unfold setOpen
  try dsimp only
  refine Only.then (wrB_only _ _ _ _) rfl ?_
  exact Only.refl _ _

theorem dropGate_only (s : Dev) (x1 : OpenGate) :
    Only [.regs, .piste] s (dropGate s x1) := by
  unfold dropGate
  try dsimp only
  refine Only.then (setOpen_only _ _ _) rfl ?_
  refine Only.upd_piste rfl ?_
  exact Only.refl _ _

theorem serveRange_only (s : Dev) (x1 : Nat) (x2 : HostCmd) (x3 x4 : Nat) (x5 : List U32) (x6 : Nat → List U32) :
    Only [.exe, .host] s (serveRange s x1 x2 x3 x4 x5 x6) := by
  unfold serveRange
  try dsimp only
  refine Only.ite ?_ ?_
  · refine Only.then (answer_only _ _ _ _) rfl ?_
    exact Only.refl _ _
  · split
    · refine Only.then (answer_only _ _ _ _) rfl ?_
      exact Only.refl _ _
    · refine Only.then (finish_only _ _ _ _ _) rfl ?_
      exact Only.refl _ _

theorem dumpReadBody_only (x0 : HostCmd) (s : Dev) :
    Only [.exe, .host] s (dumpReadBody x0 s) := by
  unfold dumpReadBody
  try dsimp only
  refine Only.then (serveRange_only _ _ _ _ _ _ _) rfl ?_
  exact Only.refl _ _

theorem dumpRead_only (x0 : HostCmd) (s : Dev) :
    Only [.exe, .host, .actor] s (dumpRead x0 s) := by
  unfold dumpRead
  try dsimp only
  refine serve_only rfl ?_
  intro u
  refine Only.then (dumpReadBody_only _ _) rfl ?_
  exact Only.refl _ _

theorem dumpRecordWritten_only (s : Dev) :
    Only [.regs, .mem, .cnt] s (dumpRecordWritten s) := by
  unfold dumpRecordWritten
  try dsimp only
  refine Only.ite_then ?_ ?_
  · exact Only.refl _ _
  · refine Only.upd_cnt rfl ?_
    refine Only.then (wrN_only _ _ _) rfl ?_
    refine Only.then (wrB_only _ _ _ _) rfl ?_
    refine Only.then (stWords_only _ _ _) rfl ?_
    exact Only.refl _ _

theorem holdSession_only (s : Dev) (x1 : Nat) :
    Only [.regs, .win, .host, .cl, .cnt, .log, .inForce] s (holdSession s x1) := by
  unfold holdSession
  try dsimp only
  refine Only.then (syncHp_only _) rfl ?_
  refine Only.then (enterFrom_only _ _ _) rfl ?_
  refine Only.then (setSess_only _ _ _) rfl ?_
  exact Only.refl _ _

theorem restartHost_only (s : Dev) :
    Only [.regs, .mem, .win, .lim, .exe, .host, .cl, .can, .cnt, .log, .pwr, .inForce, .freeCtr] s (restartHost s) := by
  unfold restartHost
  try dsimp only
  refine Only.forN ?_ ?_
  · refine Only.forL ?_ ?_
    · exact Only.refl _ _
    · intro u x
      try dsimp only
      refine Only.ite_then ?_ ?_
      · refine Only.then (endUnbegun_only _ _ _ _) rfl ?_
        exact Only.refl _ _
      · refine Only.then (timeoutRuns_only _ _) rfl ?_
        exact Only.refl _ _
  · intro u x
    try dsimp only
    refine Only.ite ?_ ?_
    · refine Only.then (holdSession_only _ _) rfl ?_
      exact Only.refl _ _
    · refine Only.ite_else ?_ ?_
      · exact Only.refl _ _
      · refine Only.then (dropSession_only _ _) rfl ?_
        exact Only.refl _ _

theorem restartPair_only (s : Dev) (x1 : Nat) :
    Only [.dev, .regs, .mem, .win, .lim, .strs, .bus, .saf, .exe, .host, .cl, .can, .cnt, .log, .pwr, .inForce, .freeCtr] s (restartPair s x1) := by
  unfold restartPair
  try dsimp only
  apply Only.via
  · apply Only.then (pairLost_only _ _) rfl
    exact Only.refl _ _
  · refine Only.ite_else ?_ ?_
    · refine Only.then (setPair_only _ _ _) rfl ?_
      refine Only.then (setCores_only _ _ _) rfl ?_
      exact Only.refl _ _
    · refine Only.then (restartHost_only _) rfl ?_
      exact Only.refl _ _
  · refine Only.upd_pwr rfl ?_
    exact Only.refl _ _

theorem restoreLogSlot_only (s : Dev) (x1 : Nat) :
    Only [.mem] s (restoreLogSlot s x1) := by
  unfold restoreLogSlot
  try dsimp only
  refine Only.ite_then ?_ ?_
  · exact Only.refl _ _
  · refine Only.then (stBytes_only _ _ _) rfl ?_
    exact Only.refl _ _

theorem eccConsequence_only (s : Dev) (x1 x2 : Nat) :
    Only [.dev, .regs, .mem, .win, .est, .lim, .strs, .bus, .saf, .exe, .host, .cl, .can, .cnt, .log, .pwr, .inForce, .freeCtr] s (eccConsequence s x1 x2) := by
  unfold eccConsequence
  try dsimp only
  refine Only.ite ?_ ?_
  · refine Only.upd_exe rfl ?_
    exact Only.refl _ _
  · refine Only.ite ?_ ?_
    · refine Only.then (dropEntry_only _ _) rfl ?_
      exact Only.refl _ _
    · refine Only.ite ?_ ?_
      · refine Only.upd_exe rfl ?_
        exact Only.refl _ _
      · refine Only.ite ?_ ?_
        · refine Only.upd_est_exe rfl ?_
          exact Only.refl _ _
        · refine Only.ite ?_ ?_
          · refine Only.then (dropEntry_only _ _) rfl ?_
            exact Only.refl _ _
          · refine Only.ite ?_ ?_
            · refine Only.ite ?_ ?_
              · refine Only.ite_else ?_ ?_
                · exact Only.refl _ _
                · refine Only.then (safeP0_only _ _) rfl ?_
                  refine Only.then (raise_only _ _ _ _ _) rfl ?_
                  exact Only.refl _ _
              · refine Only.ite_else ?_ ?_
                · exact Only.refl _ _
                · refine Only.then (restartPair_only _ _) rfl ?_
                  exact Only.refl _ _
            · refine Only.ite ?_ ?_
              · refine Only.ite_then ?_ ?_
                · exact Only.refl _ _
                · refine Only.ite ?_ ?_
                  · refine Only.ite_else ?_ ?_
                    · exact Only.refl _ _
                    · refine Only.then (safeP0_only _ _) rfl ?_
                      refine Only.then (raise_only _ _ _ _ _) rfl ?_
                      exact Only.refl _ _
                  · refine Only.ite_else ?_ ?_
                    · exact Only.refl _ _
                    · refine Only.then (restartPair_only _ _) rfl ?_
                      exact Only.refl _ _
              · refine Only.ite ?_ ?_
                · refine Only.then (st16_only _ _ _) rfl ?_
                  exact Only.refl _ _
                · refine Only.ite_then ?_ ?_
                  · exact Only.refl _ _
                  · refine Only.ite ?_ ?_
                    · refine Only.then (restoreLogSlot_only _ _) rfl ?_
                      exact Only.refl _ _
                    · refine Only.ite_else ?_ ?_
                      · exact Only.refl _ _
                      · refine Only.ite_then ?_ ?_
                        · exact Only.refl _ _
                        · refine Only.ite ?_ ?_
                          · refine Only.ite_else ?_ ?_
                            · exact Only.refl _ _
                            · refine Only.then (safeP0_only _ _) rfl ?_
                              refine Only.then (raise_only _ _ _ _ _) rfl ?_
                              exact Only.refl _ _
                          · refine Only.ite_else ?_ ?_
                            · exact Only.refl _ _
                            · refine Only.then (restartPair_only _ _) rfl ?_
                              exact Only.refl _ _

theorem eccReport_only (s : Dev) :
    Only [.exe, .log] s (eccReport s) := by
  unfold eccReport
  try dsimp only
  refine Only.ite_then ?_ ?_
  · exact Only.refl _ _
  · refine Only.then (post_only _ _ _ _) rfl ?_
    refine Only.upd_exe rfl ?_
    exact Only.refl _ _

theorem eccUncorrectableRead_only (x0 x1 : Nat) (s : Dev) :
    Only [.dev, .regs, .mem, .win, .est, .lim, .strs, .bus, .saf, .exe, .host, .cl, .can, .cnt, .log, .pwr, .inForce, .freeCtr, .busErr] s (eccUncorrectableRead x0 x1 s) := by
  unfold eccUncorrectableRead
  try dsimp only
  refine Only.ite ?_ ?_
  · refine Only.ite_else ?_ ?_
    · refine Only.then (wrB_only _ _ _ _) rfl ?_
      refine Only.then (busErrorOf_only _ _) rfl ?_
      exact Only.refl _ _
    · refine Only.then (note_only _ _ _ _) rfl ?_
      exact Only.refl _ _
  · refine Only.ite_then ?_ ?_
    · exact Only.refl _ _
    · refine Only.then (eccConsequence_only _ _ _) rfl ?_
      refine Only.then (note_only _ _ _ _) rfl ?_
      refine Only.then (busErrorOf_only _ _) rfl ?_
      refine Only.then (wrN_only _ _ _) rfl ?_
      exact Only.refl _ _

theorem endParse_only (s : Dev) (x1 : Nat) (x2 : Bool) :
    Only [.rings] s (endParse s x1 x2) := by
  unfold endParse
  try dsimp only
  refine Only.then (setRing_only _ _ _) rfl ?_
  exact Only.refl _ _

theorem enterHibernate_only (s : Dev) :
    Only [.dev, .regs, .mem, .win, .parCfg, .parNow, .tb, .piste, .rings, .acq, .est, .chg, .lim, .thm, .strs, .bus, .saf, .exe, .host, .cl, .can, .cnt, .log, .pwr, .inForce, .uptimeMs, .actor, .busErr, .readVal, .posts] s (enterHibernate s) := by
  unfold enterHibernate
  try dsimp only
  refine Only.upd_dev rfl ?_
  refine Only.then (wr_only _ _ _) rfl ?_
  refine Only.then (wr_only _ _ _) rfl ?_
  refine Only.then (wr_only _ _ _) rfl ?_
  refine Only.then (wr_only _ _ _) rfl ?_
  refine Only.then (resetDev_only _) rfl ?_
  refine Only.upd_pwr rfl ?_
  refine Only.then (endNow_only _) rfl ?_
  exact Only.refl _ _

theorem unreachSync_only (s : Dev) (x1 x2 : Nat) :
    Only [.regs, .log, .inForce] s (unreachSync s x1 x2) := by
  unfold unreachSync
  try dsimp only
  refine Only.ite_then ?_ ?_
  · exact Only.refl _ _
  · refine Only.then (clearCond_only _ _ _ _ _) rfl ?_
    refine Only.then (wrB_only _ _ _ _) rfl ?_
    exact Only.refl _ _

theorem joinAck_only (s : Dev) (x1 x2 x3 x4 x5 x6 x7 : Nat) :
    Only [.regs, .rings, .exe, .log, .inForce] s (joinAck s x1 x2 x3 x4 x5 x6 x7) := by
  unfold joinAck
  try dsimp only
  refine Only.ite ?_ ?_
  · refine Only.then (sendEnum_only _ _ _ _ _) rfl ?_
    refine Only.then (programRing_only _ _ _) rfl ?_
    refine Only.ite_then ?_ ?_
    · refine Only.then (clearCond_only _ _ _ _ _) rfl ?_
      refine Only.then (unreachSync_only _ _ _) rfl ?_
      refine Only.then (ringCounts_only _ _) rfl ?_
      refine Only.then (wrF_only _ _ _ _ _) rfl ?_
      refine Only.then (wrB_only _ _ _ _) rfl ?_
      refine Only.then (setRing_only _ _ _) rfl ?_
      refine Only.then (setRing_only _ _ _) rfl ?_
      exact Only.refl _ _
    · refine Only.then (sendConfig_only _ _ _ _ _ _) rfl ?_
      exact Only.refl _ _
  · refine Only.then (raise_only _ _ _ _ _) rfl ?_
    refine Only.then (sendEnum_only _ _ _ _ _) rfl ?_
    refine Only.then (wrB_only _ _ _ _) rfl ?_
    refine Only.then (setRing_only _ _ _) rfl ?_
    exact Only.refl _ _

theorem enumAckReceived_only (x0 x1 x2 x3 x4 x5 : Nat) (s : Dev) :
    Only [.regs, .rings, .exe, .host, .cnt, .log, .inForce] s (enumAckReceived x0 x1 x2 x3 x4 x5 s) := by
  unfold enumAckReceived
  try dsimp only
  split
  · refine Only.then (ringGot_only _ _) rfl ?_
    refine Only.then (ringBytes_only _ _ _) rfl ?_
    exact Only.refl _ _
  · split
    · refine Only.then (ringGot_only _ _) rfl ?_
      refine Only.then (ringBytes_only _ _ _) rfl ?_
      exact Only.refl _ _
    · apply Only.via
      · apply Only.then (joinAck_only _ _ _ _ _ _ _ _) rfl
        exact Only.refl _ _
      · refine Only.then (enumNext_only _ _ _) rfl ?_
        refine Only.ite_else ?_ ?_
        · apply Only.via
          · apply Only.then (raise_only _ _ _ _ _) rfl
            exact Only.refl _ _
          · refine Only.then (clearCond_only _ _ _ _ _) rfl ?_
            exact Only.refl _ _
          · refine Only.then (setRing_only _ _ _) rfl ?_
            exact Only.refl _ _
        · refine Only.then (refuseNodes_only _ _ _) rfl ?_
          exact Only.refl _ _
      · refine Only.then (ringGot_only _ _) rfl ?_
        refine Only.then (ringBytes_only _ _ _) rfl ?_
        exact Only.refl _ _

theorem ringSend_only (s : Dev) (x1 : Nat) (x2 : RingFrameOut) :
    Only [.regs, .rings, .cnt] s (ringSend s x1 x2) := by
  unfold ringSend
  try dsimp only
  refine Only.then (countBytes_only _ _ _) rfl ?_
  refine Only.then (countEv_only _ _ _ _) rfl ?_
  refine Only.then (setRing_only _ _ _) rfl ?_
  exact Only.refl _ _

theorem enumOut_only (s : Dev) (x1 : Nat) (x2 : Bool) (x3 : Nat) (x4 : List Nat) :
    Only [.regs, .rings, .cnt] s (enumOut s x1 x2 x3 x4) := by
  unfold enumOut
  try dsimp only
  refine Only.then (ringSend_only _ _ _) rfl ?_
  exact Only.refl _ _

theorem estCurJob_only (x0 x1 : Nat) (s : Dev) :
    Only [.regs, .est, .busErr] s (estCurJob x0 x1 s) := by
  unfold estCurJob
  try dsimp only
  refine Only.ite ?_ ?_
  · refine Only.then (busErrorTo_only _ _) rfl ?_
    exact Only.refl _ _
  · refine Only.then (curJob_only _ _) rfl ?_
    exact Only.refl _ _

theorem fallbackSync_only (s : Dev) (x1 : List Nat) :
    Only [.regs, .est, .log] s (fallbackSync s x1) := by
  unfold fallbackSync
  try dsimp only
  refine Only.forL ?_ ?_
  · refine Only.forN ?_ ?_
    · exact Only.refl _ _
    · intro u x
      try dsimp only
      refine Only.then (wrN_only _ _ _) rfl ?_
      exact Only.refl _ _
  · intro u x
    try dsimp only
    refine Only.ite ?_ ?_
    · refine Only.ite_else ?_ ?_
      · exact Only.refl _ _
      · refine Only.then (post_only _ _ _ _) rfl ?_
        refine Only.then (setConf_only _ _ _) rfl ?_
        exact Only.refl _ _
    · refine Only.then (setConf_only _ _ _) rfl ?_
      exact Only.refl _ _

theorem passStart_only (s : Dev) (x1 x2 : Nat) :
    Only [.regs, .mem, .est, .log] s (passStart s x1 x2) := by
  unfold passStart
  try dsimp only
  refine Only.then (wrB_only _ _ _ _) rfl ?_
  refine Only.upd_est rfl ?_
  refine Only.then (wrN_only _ _ _) rfl ?_
  refine Only.then (fallbackSync_only _ _) rfl ?_
  refine Only.ite_else ?_ ?_
  · refine Only.then (applySwaps_only _) rfl ?_
    exact Only.refl _ _
  · refine Only.forL ?_ ?_
    · exact Only.refl _ _
    · intro u x
      try dsimp only
      refine Only.then (st32_only _ _ _) rfl ?_
      exact Only.refl _ _

theorem passPrepare_only (s : Dev) :
    Only [.mem, .est, .exe, .pwr] s (passPrepare s) := by
  unfold passPrepare
  try dsimp only
  refine Only.upd_est_pwr rfl ?_
  refine Only.forL ?_ ?_
  · refine Only.forL ?_ ?_
    · exact Only.refl _ _
    · intro u x
      try dsimp only
      refine Only.upd_exe rfl ?_
      refine Only.ite ?_ ?_
      · refine Only.then (restoreCell_only _ _ _ _) rfl ?_
        exact Only.refl _ _
      · refine Only.then (clearMem_only _ _ _) rfl ?_
        exact Only.refl _ _
  · intro u x
    try dsimp only
    refine Only.then (copySet_only _ _) rfl ?_
    exact Only.refl _ _

theorem estGo_only (x0 x1 x2 : Nat) (s : Dev) :
    Only [.regs, .mem, .parNow, .est, .exe, .log, .pwr, .busErr] s (estGo x0 x1 x2 s) := by
  unfold estGo
  try dsimp only
  refine Only.ite ?_ ?_
  · refine Only.then (busErrorTo_only _ _) rfl ?_
    exact Only.refl _ _
  · refine Only.ite_then ?_ ?_
    · exact Only.refl _ _
    · refine Only.ite ?_ ?_
      · refine Only.then (wrB_only _ _ _ _) rfl ?_
        exact Only.refl _ _
      · refine Only.then (passStart_only _ _ _) rfl ?_
        refine Only.then (promote_only _ _) rfl ?_
        refine Only.then (passPrepare_only _) rfl ?_
        exact Only.refl _ _

theorem rebuildStr_only (s : Dev) (x1 : Nat) (x2 x3 : Int) (x4 : Nat) :
    Only [.exe] s (rebuildStr s x1 x2 x3 x4) := by
  unfold rebuildStr
  try dsimp only
  refine Only.then (emit_only _ _ _) rfl ?_
  exact Only.refl _ _

theorem estSupervise_only (s : Dev) :
    Only [.est, .exe] s (estSupervise s) := by
  unfold estSupervise
  try dsimp only
  refine Only.forL ?_ ?_
  · exact Only.refl _ _
  · intro u x
    try dsimp only
    refine Only.ite_else ?_ ?_
    · refine Only.then (estWrite_only _ _) rfl ?_
      exact Only.refl _ _
    · refine Only.then (rebuildStr_only _ _ _ _ _) rfl ?_
      refine Only.upd_est rfl ?_
      exact Only.refl _ _

theorem passFallback_only (s : Dev) (x1 : Pass) :
    Only [.regs, .est, .log] s (passFallback s x1).1 := by
  unfold passFallback
  try dsimp only
  refine Only.ite_fst ?_ ?_
  · dsimp only
    exact Only.refl _ _
  · dsimp only
    refine Only.then (fallbackSync_only _ _) rfl ?_
    exact Only.refl _ _

theorem runCells_only (s : Dev) (x1 : Pass) (x2 : List (Nat × Nat)) :
    Only [.regs, .mem] s (runCells s x1 x2) := by
  unfold runCells
  try dsimp only
  refine Only.forL ?_ ?_
  · exact Only.refl _ _
  · intro u x
    try dsimp only
    split
    · exact Only.refl _ _
    · refine Only.ite ?_ ?_
      · refine Only.then (st16_only _ _ _) rfl ?_
        exact Only.refl _ _
      · refine Only.ite_else ?_ ?_
        · refine Only.then (stBytes_only _ _ _) rfl ?_
          exact Only.refl _ _
        · refine Only.then (st64_only _ _ _) rfl ?_
          exact Only.refl _ _

theorem passEnd_only (s : Dev) (x1 : Pass) (x2 : List (Nat × Nat)) (x3 : Nat) (x4 : Bool) :
    Only [.regs, .mem, .est, .cnt] s (passEnd s x1 x2 x3 x4) := by
  unfold passEnd
  try dsimp only
  apply Only.via
  · apply Only.then (wrB_only _ _ _ _) rfl
    apply Only.then (countEv_only _ _ _ _) rfl
    exact Only.refl _ _
  · refine Only.forN ?_ ?_
    · exact Only.refl _ _
    · intro u x
      try dsimp only
      refine Only.then (wr_only _ _ _) rfl ?_
      exact Only.refl _ _
  · refine Only.then (wrN_only _ _ _) rfl ?_
    refine Only.then (wrN_only _ _ _) rfl ?_
    refine Only.then (wrN_only _ _ _) rfl ?_
    refine Only.then (wrB_only _ _ _ _) rfl ?_
    refine Only.upd_est rfl ?_
    refine Only.then (countBytes_only _ _ _) rfl ?_
    refine Only.then (countEv_only _ _ _ _) rfl ?_
    refine Only.then (countEv_only _ _ _ _) rfl ?_
    refine Only.then (runCells_only _ _ _) rfl ?_
    refine Only.then (auditCopy_only _ _ _) rfl ?_
    exact Only.refl _ _

theorem reducerWrite_only (s : Dev) (x1 : Pass) (x2 : List Nat) :
    Only [.mem, .lim] s (reducerWrite s x1 x2) := by
  unfold reducerWrite
  try dsimp only
  refine Only.forN ?_ ?_
  · refine Only.upd_lim rfl ?_
    exact Only.refl _ _
  · intro u x
    try dsimp only
    refine Only.then (stBytes_only _ _ _) rfl ?_
    exact Only.refl _ _

theorem estimatorPassComplete_only (x0 : Nat) (x1 : List (Nat × Nat × Nat)) (s : Dev) :
    Only [.regs, .mem, .est, .lim, .cnt, .log, .inForce] s (estimatorPassComplete x0 x1 s) := by
  unfold estimatorPassComplete
  try dsimp only
  split
  · exact Only.refl _ _
  · refine Only.then (capTake_only _) rfl ?_
    refine Only.then (reducerWrite_only _ _ _) rfl ?_
    refine Only.forL ?_ ?_
    · refine Only.then (passEnd_only _ _ _ _ _) rfl ?_
      refine Only.then (passFallback_only _ _) rfl ?_
      exact Only.refl _ _
    · intro u x
      try dsimp only
      refine Only.then (st8_only _ _ _) rfl ?_
      exact Only.refl _ _

theorem exchDead_only (s : Dev) (x1 : Nat) (x2 : Exch) :
    Only [.dev, .rings, .strs, .saf, .exe, .host, .log, .pwr, .inForce] s (exchDead s x1 x2) := by
  unfold exchDead
  try dsimp only
  refine Only.then (exchFail_only _ _ _ _) rfl ?_
  refine Only.then (note_only _ _ _ _) rfl ?_
  exact Only.refl _ _

theorem exchRetry_only (s : Dev) (x1 : Nat) (x2 : Exch) :
    Only [.dev, .rings, .strs, .saf, .exe, .host, .log, .pwr, .inForce] s (exchRetry s x1 x2) := by
  unfold exchRetry
  try dsimp only
  refine Only.ite ?_ ?_
  · refine Only.then (setRing_only _ _ _) rfl ?_
    exact Only.refl _ _
  · refine Only.then (exchDead_only _ _ _) rfl ?_
    exact Only.refl _ _

theorem exeRestartWrite_only (x0 : Nat) (x1 : U32) (s : Dev) :
    Only [.dev, .regs, .mem, .win, .lim, .strs, .bus, .saf, .exe, .host, .cl, .can, .cnt, .log, .pwr, .inForce, .freeCtr, .busErr] s (exeRestartWrite x0 x1 s) := by
  unfold exeRestartWrite
  try dsimp only
  refine Only.ite ?_ ?_
  · refine Only.then (busErrorTo_only _ _) rfl ?_
    exact Only.refl _ _
  · refine Only.forL ?_ ?_
    · exact Only.refl _ _
    · intro u x
      try dsimp only
      refine Only.ite_else ?_ ?_
      · exact Only.refl _ _
      · refine Only.then (restartPair_only _ _) rfl ?_
        exact Only.refl _ _

theorem execReadBody_only (x0 : HostCmd) (s : Dev) :
    Only [.exe, .host] s (execReadBody x0 s) := by
  unfold execReadBody
  try dsimp only
  refine Only.then (finish_only _ _ _ _ _) rfl ?_
  exact Only.refl _ _

theorem execRead_only (x0 : HostCmd) (s : Dev) :
    Only [.exe, .host, .actor] s (execRead x0 s) := by
  unfold execRead
  try dsimp only
  refine serve_only rfl ?_
  intro u
  refine Only.then (execReadBody_only _ _) rfl ?_
  exact Only.refl _ _

theorem factorsTake_only (s : Dev) :
    Only [.thm] s (factorsTake s) := by
  unfold factorsTake
  try dsimp only
  refine Only.ite_then ?_ ?_
  · exact Only.refl _ _
  · refine Only.upd_thm rfl ?_
    exact Only.refl _ _

theorem failInput_only (s : Dev) (x1 x2 x3 : Nat) :
    Only [.mem, .thm, .log, .inForce] s (failInput s x1 x2 x3) := by
  unfold failInput
  try dsimp only
  refine Only.then (setThm_only _ _ _) rfl ?_
  refine Only.then (raise_only _ _ _ _ _) rfl ?_
  refine Only.then (setIn_only _ _ _) rfl ?_
  refine Only.then (setInState_only _ _ _) rfl ?_
  exact Only.refl _ _

theorem fbkInputChange_only (x0 : Nat) (x1 : Bool) (s : Dev) :
    Only [.dev, .regs, .strs, .bus, .saf, .exe, .log, .pwr, .inForce] s (fbkInputChange x0 x1 s) := by
  unfold fbkInputChange
  try dsimp only
  refine Only.ite_then ?_ ?_
  · refine Only.then (wrB_only _ _ _ _) rfl ?_
    exact Only.refl _ _
  · refine Only.ite_then ?_ ?_
    · exact Only.refl _ _
    · apply Only.via
      · apply Only.then (busWeld_only _ _) rfl
        exact Only.refl _ _
      · refine Only.ite_else ?_ ?_
        · exact Only.refl _ _
        · refine Only.then (fault4_only _ _ _ _ _ _ _ _) rfl ?_
          refine Only.then (setBus_only _ _ _) rfl ?_
          exact Only.refl _ _
      · refine Only.then (setBus_only _ _ _) rfl ?_
        exact Only.refl _ _

theorem fbkRelease_only (s : Dev) (x1 : HostCmd) :
    Only [.bus, .log, .inForce] s (fbkRelease s x1).2 := by
  unfold fbkRelease
  try dsimp only
  refine Only.foldl_snd ?_ ?_
  · dsimp only
    exact Only.refl _ _
  · intro u x
    try dsimp only
    refine Only.ite_snd ?_ ?_
    · dsimp only
      refine Only.then (clearCond_only _ _ _ _ _) rfl ?_
      refine Only.then (setBus_only _ _ _) rfl ?_
      exact Only.refl _ _
    · exact Only.refl _ _

theorem feedbackJudge_only (s : Dev) :
    Only [.log, .inForce] s (feedbackJudge s) := by
  unfold feedbackJudge
  try dsimp only
  refine Only.ite_then ?_ ?_
  · exact Only.refl _ _
  · refine Only.then (track_only _ _ _ _ _ _ _) rfl ?_
    refine Only.then (track_only _ _ _ _ _ _ _) rfl ?_
    exact Only.refl _ _

theorem fixSteps_only (s : Dev) (x1 : Bool) (x2 x3 : Nat) :
    Only [.lim, .log] s (fixSteps s x1 x2 x3) := by
  unfold fixSteps
  try dsimp only
  refine Only.then (post_only _ _ _ _) rfl ?_
  refine Only.then (setWin_only _ _ _) rfl ?_
  exact Only.refl _ _

theorem focComparatorTest_only (x0 : Nat) (x1 : Bool) (s : Dev) :
    Only [.acq] s (focComparatorTest x0 x1 s) := by
  unfold focComparatorTest
  try dsimp only
  refine Only.ite_else ?_ ?_
  · exact Only.refl _ _
  · refine Only.upd_acq rfl ?_
    exact Only.refl _ _

theorem focHolds_only (s : Dev) :
    Only [.regs, .strs, .bus, .saf, .exe, .log] s (focHolds s) := by
  unfold focHolds
  try dsimp only
  refine Only.then (seoFollowAll_only _) rfl ?_
  refine Only.then (wrF_only _ _ _ _ _) rfl ?_
  exact Only.refl _ _

theorem focTrip_only (s : Dev) (x1 : Nat) (x2 : Bool) :
    Only [.dev, .regs, .strs, .bus, .saf, .exe, .log, .pwr, .inForce] s (focTrip s x1 x2) := by
  unfold focTrip
  try dsimp only
  refine Only.ite_else ?_ ?_
  · refine Only.then (focHolds_only _) rfl ?_
    refine Only.then (wrB_only _ _ _ _) rfl ?_
    exact Only.refl _ _
  · refine Only.then (fault4_only _ _ _ _ _ _ _ _) rfl ?_
    exact Only.refl _ _

theorem focComparatorTrip_only (x0 : Nat) (x1 : Bool) (s : Dev) :
    Only [.dev, .regs, .acq, .strs, .bus, .saf, .exe, .log, .pwr, .inForce] s (focComparatorTrip x0 x1 s) := by
  unfold focComparatorTrip
  try dsimp only
  refine Only.ite_then ?_ ?_
  · exact Only.refl _ _
  · refine Only.ite ?_ ?_
    · refine Only.upd_acq rfl ?_
      exact Only.refl _ _
    · refine Only.then (focTrip_only _ _ _) rfl ?_
      exact Only.refl _ _

theorem focTestEnd_only (x0 : Bool) (s : Dev) :
    Only [.dev, .regs, .acq, .lim, .strs, .bus, .saf, .exe, .can, .log, .pwr, .inForce] s (focTestEnd x0 s) := by
  unfold focTestEnd
  try dsimp only
  split
  · exact Only.refl _ _
  · refine Only.ite_else ?_ ?_
    · apply Only.via
      · apply Only.then (clearCond_only _ _ _ _ _) rfl
        exact Only.refl _ _
      · refine Only.ite_else ?_ ?_
        · exact Only.refl _ _
        · refine Only.then (fault3_only _ _ _ _ _ _ _ _) rfl ?_
          exact Only.refl _ _
      · refine Only.then (wrB_only _ _ _ _) rfl ?_
        refine Only.upd_acq rfl ?_
        exact Only.refl _ _
    · refine Only.then (focTrip_only _ _ _) rfl ?_
      exact Only.refl _ _

theorem focTripClear_only (x0 : Nat) (x1 x2 : U32) (s : Dev) :
    Only [.regs, .strs, .bus, .saf, .exe, .log, .busErr] s (focTripClear x0 x1 x2 s) := by
  unfold focTripClear
  try dsimp only
  refine Only.ite ?_ ?_
  · refine Only.then (busErrorTo_only _ _) rfl ?_
    exact Only.refl _ _
  · refine Only.then (focHolds_only _) rfl ?_
    refine Only.then (wr_only _ _ _) rfl ?_
    exact Only.refl _ _

theorem fwActivateBody_only (x0 : HostCmd) (s : Dev) :
    Only [.exe, .host, .pwr] s (fwActivateBody x0 s) := by
  unfold fwActivateBody
  try dsimp only
  refine Only.ite ?_ ?_
  · refine Only.then (answer_only _ _ _ _) rfl ?_
    exact Only.refl _ _
  · refine Only.ite ?_ ?_
    · refine Only.then (answer_only _ _ _ _) rfl ?_
      exact Only.refl _ _
    · refine Only.ite ?_ ?_
      · refine Only.then (answer_only _ _ _ _) rfl ?_
        exact Only.refl _ _
      · refine Only.ite ?_ ?_
        · refine Only.then (answer_only _ _ _ _) rfl ?_
          exact Only.refl _ _
        · refine Only.then (answer_only _ _ _ _) rfl ?_
          refine Only.upd_pwr rfl ?_
          exact Only.refl _ _

theorem fwActivate_only (x0 : HostCmd) (s : Dev) :
    Only [.exe, .host, .pwr, .actor] s (fwActivate x0 s) := by
  unfold fwActivate
  try dsimp only
  refine serve_only rfl ?_
  intro u
  refine Only.then (fwActivateBody_only _ _) rfl ?_
  exact Only.refl _ _

theorem fwInfoBody_only (x0 : HostCmd) (s : Dev) :
    Only [.exe, .host] s (fwInfoBody x0 s) := by
  unfold fwInfoBody
  try dsimp only
  refine Only.then (finish_only _ _ _ _ _) rfl ?_
  exact Only.refl _ _

theorem fwInfo_only (x0 : HostCmd) (s : Dev) :
    Only [.exe, .host, .actor] s (fwInfo x0 s) := by
  unfold fwInfo
  try dsimp only
  refine serve_only rfl ?_
  intro u
  refine Only.then (fwInfoBody_only _ _) rfl ?_
  exact Only.refl _ _

theorem setBootRec_only (s : Dev) (x1 : BootRec → BootRec) :
    Only [.pwr] s (setBootRec s x1) := by
  unfold setBootRec
  try dsimp only
  refine Only.upd_pwr rfl ?_
  exact Only.refl _ _

theorem fwStageBeginBody_only (x0 : HostCmd) (s : Dev) :
    Only [.mem, .exe, .host, .pwr] s (fwStageBeginBody x0 s) := by
  unfold fwStageBeginBody
  try dsimp only
  refine Only.ite ?_ ?_
  · refine Only.then (answer_only _ _ _ _) rfl ?_
    exact Only.refl _ _
  · refine Only.ite ?_ ?_
    · refine Only.then (answer_only _ _ _ _) rfl ?_
      exact Only.refl _ _
    · refine Only.ite ?_ ?_
      · refine Only.then (answer_only _ _ _ _) rfl ?_
        exact Only.refl _ _
      · refine Only.then (finish_only _ _ _ _ _) rfl ?_
        refine Only.then (pumpTxns_only _) rfl ?_
        refine Only.ite_else ?_ ?_
        · refine Only.upd_pwr rfl ?_
          exact Only.refl _ _
        · refine Only.then (setBootRec_only _ _) rfl ?_
          exact Only.refl _ _

theorem fwStageBegin_only (x0 : HostCmd) (s : Dev) :
    Only [.mem, .exe, .host, .pwr, .actor] s (fwStageBegin x0 s) := by
  unfold fwStageBegin
  try dsimp only
  refine serve_only rfl ?_
  intro u
  refine Only.then (fwStageBeginBody_only _ _) rfl ?_
  exact Only.refl _ _

theorem fwStageDataBody_only (x0 : HostCmd) (s : Dev) :
    Only [.mem, .exe, .host, .pwr] s (fwStageDataBody x0 s) := by
  unfold fwStageDataBody
  try dsimp only
  refine Only.ite ?_ ?_
  · refine Only.then (answer_only _ _ _ _) rfl ?_
    exact Only.refl _ _
  · refine Only.ite ?_ ?_
    · refine Only.then (answer_only _ _ _ _) rfl ?_
      exact Only.refl _ _
    · refine Only.ite ?_ ?_
      · refine Only.then (answer_only _ _ _ _) rfl ?_
        exact Only.refl _ _
      · split
        · refine Only.then (answer_only _ _ _ _) rfl ?_
          exact Only.refl _ _
        · refine Only.ite ?_ ?_
          · refine Only.then (answer_only _ _ _ _) rfl ?_
            exact Only.refl _ _
          · refine Only.then (answer_only _ _ _ _) rfl ?_
            refine Only.upd_pwr rfl ?_
            refine Only.then (stBytes_only _ _ _) rfl ?_
            exact Only.refl _ _

theorem fwStageData_only (x0 : HostCmd) (s : Dev) :
    Only [.mem, .exe, .host, .pwr, .actor] s (fwStageData x0 s) := by
  unfold fwStageData
  try dsimp only
  refine serve_only rfl ?_
  intro u
  refine Only.then (fwStageDataBody_only _ _) rfl ?_
  exact Only.refl _ _

theorem fwStageVerifyBody_only (x0 : HostCmd) (s : Dev) :
    Only [.mem, .exe, .host, .pwr] s (fwStageVerifyBody x0 s) := by
  unfold fwStageVerifyBody
  try dsimp only
  refine Only.ite ?_ ?_
  · refine Only.then (answer_only _ _ _ _) rfl ?_
    exact Only.refl _ _
  · split
    · refine Only.then (answer_only _ _ _ _) rfl ?_
      exact Only.refl _ _
    · refine Only.ite ?_ ?_
      · refine Only.then (finish_only _ _ _ _ _) rfl ?_
        exact Only.refl _ _
      · apply Only.via
        · apply Only.then (answer_only _ _ _ _) rfl
          apply Only.then (pumpTxns_only _) rfl
          apply Only.then (setBootRec_only _ _) rfl
          exact Only.refl _ _
        · refine Only.then (finish_only _ _ _ _ _) rfl ?_
          refine Only.then (pumpTxns_only _) rfl ?_
          refine Only.then (setBootRec_only _ _) rfl ?_
          exact Only.refl _ _
        · refine Only.upd_pwr rfl ?_
          exact Only.refl _ _

theorem fwStageVerify_only (x0 : HostCmd) (s : Dev) :
    Only [.mem, .exe, .host, .pwr, .actor] s (fwStageVerify x0 s) := by
  unfold fwStageVerify
  try dsimp only
  refine serve_only rfl ?_
  intro u
  refine Only.then (fwStageVerifyBody_only _ _) rfl ?_
  exact Only.refl _ _

theorem gateComplete_only (s : Dev) (x1 : Nat) :
    Only [.regs, .piste, .log, .inForce] s (gateComplete s x1) := by
  unfold gateComplete
  try dsimp only
  refine Only.then (clearCond_only _ _ _ _ _) rfl ?_
  refine Only.then (clearCond_only _ _ _ _ _) rfl ?_
  refine Only.upd_piste rfl ?_
  split
  · refine Only.then (dropGate_only _ _) rfl ?_
    exact Only.refl _ _
  · exact Only.refl _ _

theorem passAbort_only (s : Dev) :
    Only [.regs, .mem, .est, .cnt, .log, .inForce, .freeCtr] s (passAbort s) := by
  unfold passAbort
  try dsimp only [takeBit, takeWord, takeNat]
  split
  · exact Only.refl _ _
  · refine Only.then (capTake_only _) rfl ?_
    refine Only.then (passEnd_only _ _ _ _ _) rfl ?_
    refine Only.upd_freeCtr rfl ?_
    refine Only.then (passFallback_only _ _) rfl ?_
    exact Only.refl _ _

theorem holdGateEnd_only (s : Dev) :
    Only [.regs, .can] s (holdGateEnd s) := by
  unfold holdGateEnd
  try dsimp only
  refine Only.forL ?_ ?_
  · exact Only.refl _ _
  · intro u x
    try dsimp only
    refine Only.then (wrB_only _ _ _ _) rfl ?_
    refine Only.then (setCan_only _ _ _) rfl ?_
    exact Only.refl _ _

theorem gateMiss_only (s : Dev) (x1 : OpenGate) :
    Only [.regs, .piste, .exe, .log, .inForce] s (gateMiss s x1) := by
  unfold gateMiss
  try dsimp only
  apply Only.via
  · apply Only.then (safeP0_only _ _) rfl
    apply Only.then (raise_only _ _ _ _ _) rfl
    exact Only.refl _ _
  · apply Only.via
    · apply Only.then (raise_only _ _ _ _ _) rfl
      exact Only.refl _ _
    · refine Only.ite_else ?_ ?_
      · exact Only.refl _ _
      · refine Only.then (raise_only _ _ _ _ _) rfl ?_
        exact Only.refl _ _
    · refine Only.then (note_only _ _ _ _) rfl ?_
      exact Only.refl _ _
  · refine Only.upd_piste rfl ?_
    refine Only.then (countEv_only _ _ _ _) rfl ?_
    refine Only.then (dropGate_only _ _) rfl ?_
    exact Only.refl _ _

theorem gateDeadline_only (x0 : Nat) (s : Dev) :
    Only [.dev, .regs, .mem, .piste, .acq, .est, .chg, .lim, .strs, .saf, .exe, .can, .cnt, .log, .inForce, .freeCtr] s (gateDeadline x0 s) := by
  unfold gateDeadline
  try dsimp only
  split
  · refine Only.ite_else ?_ ?_
    · refine Only.ite_else ?_ ?_
      · refine Only.ite_else ?_ ?_
        · exact Only.refl _ _
        · refine Only.then (wr_only _ _ _) rfl ?_
          exact Only.refl _ _
      · refine Only.then (passAbort_only _) rfl ?_
        exact Only.refl _ _
    · refine Only.then (holdGateEnd_only _) rfl ?_
      exact Only.refl _ _
  · refine Only.ite_else ?_ ?_
    · refine Only.then (gateMiss_only _ _) rfl ?_
      refine Only.ite_else ?_ ?_
      · refine Only.ite_else ?_ ?_
        · refine Only.then (wr_only _ _ _) rfl ?_
          exact Only.refl _ _
        · refine Only.then (passAbort_only _) rfl ?_
          exact Only.refl _ _
      · refine Only.then (collectEnd_only _) rfl ?_
        exact Only.refl _ _
    · refine Only.then (holdGateEnd_only _) rfl ?_
      exact Only.refl _ _

theorem openGate_only (s : Dev) (x1 : Nat) :
    Only [.regs, .piste, .exe, .log, .inForce] s (openGate s x1) := by
  unfold openGate
  try dsimp only
  refine Only.then (setOpen_only _ _ _) rfl ?_
  refine Only.upd_piste rfl ?_
  refine Only.ite_then ?_ ?_
  · refine Only.then (wr_only _ _ _) rfl ?_
    split
    · refine Only.then (gateMiss_only _ _) rfl ?_
      exact Only.refl _ _
    · exact Only.refl _ _
  · refine Only.upd_piste rfl ?_
    exact Only.refl _ _

theorem holdGateStart_only (s : Dev) :
    Only [.can] s (holdGateStart s) := by
  unfold holdGateStart
  try dsimp only
  refine Only.forL ?_ ?_
  · exact Only.refl _ _
  · intro u x
    try dsimp only
    refine Only.then (setCan_only _ _ _) rfl ?_
    exact Only.refl _ _

theorem openWindow_only (s : Dev) (x1 : Bool) :
    Only [.acq] s (openWindow s x1) := by
  unfold openWindow
  try dsimp only
  refine Only.upd_acq rfl ?_
  exact Only.refl _ _

theorem ringCast_only (s : Dev) (x1 x2 : Nat) (x3 : List Nat) :
    Only [.regs, .rings, .cnt] s (ringCast s x1 x2 x3) := by
  unfold ringCast
  try dsimp only
  refine Only.ite_else ?_ ?_
  · refine Only.then (ringSend_only _ _ _) rfl ?_
    exact Only.refl _ _
  · refine Only.then (ringSend_only _ _ _) rfl ?_
    exact Only.refl _ _

theorem ringTrigger_only (s : Dev) (x1 : Bool) :
    Only [.regs, .rings, .cnt] s (ringTrigger s x1) := by
  unfold ringTrigger
  try dsimp only
  refine Only.forL ?_ ?_
  · exact Only.refl _ _
  · intro u x
    try dsimp only
    refine Only.then (ringCast_only _ _ _ _) rfl ?_
    exact Only.refl _ _

theorem publishOpen_only (s : Dev) (x1 : Nat) (x2 : Bool) :
    Only [.lim] s (publishOpen s x1 x2) := by
  unfold publishOpen
  try dsimp only
  refine Only.ite ?_ ?_
  · refine Only.upd_lim rfl ?_
    exact Only.refl _ _
  · refine Only.ite_else ?_ ?_
    · exact Only.refl _ _
    · refine Only.upd_lim rfl ?_
      exact Only.refl _ _

theorem tempCheck_only (s : Dev) :
    Only [.acq] s (tempCheck s) := by
  unfold tempCheck
  try dsimp only
  refine Only.upd_acq rfl ?_
  exact Only.refl _ _

theorem setForce_only (s : Dev) (x1 : Nat) (x2 : Bool) (x3 : Nat) :
    Only [.lim] s (setForce s x1 x2 x3) := by
  unfold setForce
  try dsimp only
  refine Only.then (setLim_only _ _ _) rfl ?_
  exact Only.refl _ _

theorem settleFactors_only (s : Dev) (x1 : Bool) :
    Only [.lim] s (settleFactors s x1) := by
  unfold settleFactors
  try dsimp only
  refine Only.forL ?_ ?_
  · exact Only.refl _ _
  · intro u x
    try dsimp only
    refine Only.then (setForce_only _ _ _ _) rfl ?_
    exact Only.refl _ _

theorem setPost_only (s : Dev) (x1 : Nat) (x2 : Bool) (x3 : Nat) :
    Only [.lim] s (setPost s x1 x2 x3) := by
  unfold setPost
  try dsimp only
  refine Only.then (setLim_only _ _ _) rfl ?_
  exact Only.refl _ _

theorem lowerSteps_only (s : Dev) (x1 : Bool) (x2 : Nat) :
    Only [.lim] s (lowerSteps s x1 x2) := by
  unfold lowerSteps
  try dsimp only
  refine Only.then (setWin_only _ _ _) rfl ?_
  exact Only.refl _ _

theorem thermalStep_only (s : Dev) (x1 : Bool) :
    Only [.lim] s (thermalStep s x1) := by
  unfold thermalStep
  try dsimp only
  apply Only.via
  · apply Only.then (setWin_only _ _ _) rfl
    apply Only.ite_else
    · exact Only.refl _ _
    · apply Only.then (lowerSteps_only _ _ _) rfl
      exact Only.refl _ _
  · refine Only.ite_else ?_ ?_
    · exact Only.refl _ _
    · refine Only.then (setWin_only _ _ _) rfl ?_
      exact Only.refl _ _
  · refine Only.forL ?_ ?_
    · refine Only.forL ?_ ?_
      · refine Only.ite_else ?_ ?_
        · exact Only.refl _ _
        · refine Only.then (setWin_only _ _ _) rfl ?_
          refine Only.then (settleFactors_only _ _) rfl ?_
          exact Only.refl _ _
      · intro u x
        try dsimp only
        refine Only.ite ?_ ?_
        · refine Only.then (setForce_only _ _ _ _) rfl ?_
          exact Only.refl _ _
        · refine Only.then (setForce_only _ _ _ _) rfl ?_
          exact Only.refl _ _
    · intro u x
      try dsimp only
      refine Only.then (setPost_only _ _ _ _) rfl ?_
      exact Only.refl _ _

theorem windowStep_only (s : Dev) (x1 x2 : Bool) (x3 x4 : Nat) (x5 : Option Nat) :
    Only [.lim, .log] s (windowStep s x1 x2 x3 x4 x5) := by
  unfold windowStep
  try dsimp only
  split
  · refine Only.ite ?_ ?_
    · refine Only.then (setWin_only _ _ _) rfl ?_
      exact Only.refl _ _
    · refine Only.ite ?_ ?_
      · refine Only.then (setWin_only _ _ _) rfl ?_
        refine Only.then (fixSteps_only _ _ _ _) rfl ?_
        exact Only.refl _ _
      · refine Only.ite ?_ ?_
        · refine Only.then (setWin_only _ _ _) rfl ?_
          refine Only.then (fixSteps_only _ _ _ _) rfl ?_
          exact Only.refl _ _
        · refine Only.then (setWin_only _ _ _) rfl ?_
          exact Only.refl _ _
  · refine Only.ite ?_ ?_
    · refine Only.then (setWin_only _ _ _) rfl ?_
      exact Only.refl _ _
    · refine Only.then (setWin_only _ _ _) rfl ?_
      exact Only.refl _ _
  · refine Only.ite ?_ ?_
    · refine Only.then (post_only _ _ _ _) rfl ?_
      refine Only.then (setWin_only _ _ _) rfl ?_
      exact Only.refl _ _
    · refine Only.then (setWin_only _ _ _) rfl ?_
      exact Only.refl _ _
  · refine Only.then (setWin_only _ _ _) rfl ?_
    exact Only.refl _ _

theorem limitsDir_only (s : Dev) (x1 x2 : Bool) :
    Only [.lim, .log] s (limitsDir s x1 x2) := by
  unfold limitsDir
  try dsimp only
  refine Only.then (windowStep_only _ _ _ _ _ _) rfl ?_
  refine Only.then (setWin_only _ _ _) rfl ?_
  refine Only.forL ?_ ?_
  · refine Only.forL ?_ ?_
    · refine Only.then (thermalStep_only _ _) rfl ?_
      refine Only.then (advanceSteps_only _ _ _) rfl ?_
      exact Only.refl _ _
    · intro u x
      try dsimp only
      refine Only.then (setLim_only _ _ _) rfl ?_
      exact Only.refl _ _
  · intro u x
    try dsimp only
    refine Only.ite_then ?_ ?_
    · exact Only.refl _ _
    · refine Only.then (setLim_only _ _ _) rfl ?_
      exact Only.refl _ _

theorem limitsRun_only (s : Dev) (x1 : Bool) :
    Only [.mem, .lim, .log, .inForce] s (limitsRun s x1) := by
  unfold limitsRun
  try dsimp only
  refine Only.ite_then ?_ ?_
  · apply Only.via
    · apply Only.then (advanceSteps_only _ _ _) rfl
      apply Only.then (advanceSteps_only _ _ _) rfl
      exact Only.refl _ _
    · refine Only.then (limitsDir_only _ _ _) rfl ?_
      refine Only.then (limitsDir_only _ _ _) rfl ?_
      exact Only.refl _ _
    · refine Only.upd_lim rfl ?_
      refine Only.ite_else ?_ ?_
      · refine Only.then (pcsIdle_only _) rfl ?_
        exact Only.refl _ _
      · refine Only.upd_lim rfl ?_
        exact Only.refl _ _
  · refine Only.then (coefAll_only _ _) rfl ?_
    exact Only.refl _ _

theorem tripScan_only (s : Dev) :
    Only [.dev, .thm, .strs, .saf, .exe, .log, .pwr, .inForce] s (tripScan s) := by
  unfold tripScan
  try dsimp only
  refine Only.forL ?_ ?_
  · exact Only.refl _ _
  · intro u x
    try dsimp only
    refine Only.ite_then ?_ ?_
    · exact Only.refl _ _
    · refine Only.forN ?_ ?_
      · exact Only.refl _ _
      · intro u x
        try dsimp only
        refine Only.ite_else ?_ ?_
        · exact Only.refl _ _
        · refine Only.then (tripStr_only _ _ _ _ _) rfl ?_
          refine Only.then (setThm_only _ _ _) rfl ?_
          exact Only.refl _ _

theorem gateWork_only (s : Dev) (x1 : Nat) (x2 : U32) :
    Only [.dev, .regs, .mem, .acq, .est, .chg, .lim, .thm, .strs, .saf, .exe, .can, .log, .pwr, .inForce] s (gateWork s x1 x2) := by
  unfold gateWork
  try dsimp only
  refine Only.ite ?_ ?_
  · refine Only.then (tempCheck_only _) rfl ?_
    exact Only.refl _ _
  · refine Only.ite ?_ ?_
    · refine Only.then (balRun_only _) rfl ?_
      exact Only.refl _ _
    · refine Only.ite ?_ ?_
      · refine Only.then (estSupervise_only _) rfl ?_
        exact Only.refl _ _
      · refine Only.ite ?_ ?_
        · refine Only.then (auditGate_only _) rfl ?_
          exact Only.refl _ _
        · refine Only.ite ?_ ?_
          · refine Only.then (limitsRun_only _ _) rfl ?_
            refine Only.then (factorsTake_only _) rfl ?_
            exact Only.refl _ _
          · refine Only.ite ?_ ?_
            · refine Only.then (clampRun_only _) rfl ?_
              exact Only.refl _ _
            · refine Only.ite_else ?_ ?_
              · exact Only.refl _ _
              · refine Only.then (scrOvf_only _) rfl ?_
                refine Only.then (tripScan_only _) rfl ?_
                exact Only.refl _ _

theorem takeStart_only (s : Dev) (x1 x2 : Nat) :
    Only [.piste] s (takeStart s x1 x2) := by
  unfold takeStart
  try dsimp only
  refine Only.upd_piste rfl ?_
  exact Only.refl _ _

theorem gateStart_only (x0 : Nat) (s : Dev) :
    Only [.dev, .regs, .mem, .piste, .rings, .acq, .est, .chg, .lim, .thm, .strs, .saf, .exe, .can, .cnt, .log, .pwr, .inForce] s (gateStart x0 s) := by
  unfold gateStart
  try dsimp only
  refine Only.ite_then ?_ ?_
  · exact Only.refl _ _
  · apply Only.via
    · apply Only.then (gateComplete_only _ _) rfl
      apply Only.ite_then
      · exact Only.refl _ _
      · apply Only.then (openWindow_only _ _) rfl
        apply Only.then (ringTrigger_only _ _) rfl
        exact Only.refl _ _
    · refine Only.ite_else ?_ ?_
      · refine Only.then (publishOpen_only _ _ _) rfl ?_
        exact Only.refl _ _
      · refine Only.then (gateWork_only _ _ _) rfl ?_
        refine Only.then (takeStart_only _ _ _) rfl ?_
        exact Only.refl _ _
    · refine Only.ite_else ?_ ?_
      · refine Only.then (countEv_only _ _ _ _) rfl ?_
        refine Only.then (openGate_only _ _) rfl ?_
        exact Only.refl _ _
      · refine Only.then (holdGateStart_only _) rfl ?_
        exact Only.refl _ _

theorem sendSync_only (s : Dev) (x1 : Nat) :
    Only [.exe, .cl] s (sendSync s x1) := by
  unfold sendSync
  try dsimp only
  refine Only.then (emit_only _ _ _) rfl ?_
  refine Only.then (nextSeq_only _ _) rfl ?_
  exact Only.refl _ _

theorem headEntrySync_only (x0 : U32) (s : Dev) :
    Only [.exe, .cl] s (headEntrySync x0 s) := by
  unfold headEntrySync
  try dsimp only
  refine Only.ite_else ?_ ?_
  · exact Only.refl _ _
  · refine Only.then (sendSync_only _ _) rfl ?_
    refine Only.upd_cl rfl ?_
    exact Only.refl _ _

theorem heartbeats_only (s : Dev) :
    Only [.exe] s (heartbeats s) := by
  unfold heartbeats
  try dsimp only
  refine Only.forL ?_ ?_
  · exact Only.refl _ _
  · intro u x
    try dsimp only
    refine Only.ite_then ?_ ?_
    · exact Only.refl _ _
    · refine Only.then (setPair_only _ _ _) rfl ?_
      exact Only.refl _ _

theorem setMem_only (s : Dev) (x1 : Nat) (x2 : Member) :
    Only [.cl] s (setMem s x1 x2) := by
  unfold setMem
  try dsimp only
  refine Only.upd_cl rfl ?_
  exact Only.refl _ _

theorem helloBroadcast_only (s : Dev) :
    Only [.exe, .cl] s (helloBroadcast s) := by
  unfold helloBroadcast
  try dsimp only
  refine Only.ite_then ?_ ?_
  · exact Only.refl _ _
  · refine Only.then (emit_only _ _ _) rfl ?_
    refine Only.then (setMem_only _ _ _) rfl ?_
    exact Only.refl _ _

theorem helloReceived_only (x0 : Nat) (x1 : List U8) (s : Dev) :
    Only [.regs, .cl, .log, .inForce] s (helloReceived x0 x1 s) := by
  unfold helloReceived
  try dsimp only
  refine Only.ite_then ?_ ?_
  · exact Only.refl _ _
  · refine Only.ite_then ?_ ?_
    · refine Only.ite_then ?_ ?_
      · exact Only.refl _ _
      · refine Only.ite_else ?_ ?_
        · exact Only.refl _ _
        · refine Only.then (post_only _ _ _ _) rfl ?_
          refine Only.then (clearCond_only _ _ _ _ _) rfl ?_
          refine Only.then (wrB_only _ _ _ _) rfl ?_
          exact Only.refl _ _
    · refine Only.ite_then ?_ ?_
      · exact Only.refl _ _
      · refine Only.ite ?_ ?_
        · refine Only.then (raise_only _ _ _ _ _) rfl ?_
          refine Only.then (wrB_only _ _ _ _) rfl ?_
          refine Only.then (setMem_only _ _ _) rfl ?_
          exact Only.refl _ _
        · refine Only.ite_else ?_ ?_
          · refine Only.then (track_only _ _ _ _ _ _ _) rfl ?_
            refine Only.then (setMem_only _ _ _) rfl ?_
            exact Only.refl _ _
          · refine Only.then (raise_only _ _ _ _ _) rfl ?_
            refine Only.then (wrB_only _ _ _ _) rfl ?_
            exact Only.refl _ _

theorem hibernateBody_only (x0 : HostCmd) (s : Dev) :
    Only [.mem, .acq, .exe, .host, .pwr] s (hibernateBody x0 s) := by
  unfold hibernateBody
  try dsimp only
  refine Only.ite ?_ ?_
  · refine Only.then (answer_only _ _ _ _) rfl ?_
    exact Only.refl _ _
  · refine Only.ite ?_ ?_
    · refine Only.then (answer_only _ _ _ _) rfl ?_
      exact Only.refl _ _
    · refine Only.ite ?_ ?_
      · refine Only.then (answer_only _ _ _ _) rfl ?_
        exact Only.refl _ _
      · refine Only.then (pumpTxns_only _) rfl ?_
        refine Only.ite_else ?_ ?_
        · refine Only.then (answer_only _ _ _ _) rfl ?_
          refine Only.upd_pwr rfl ?_
          exact Only.refl _ _
        · refine Only.then (balCancel_only _) rfl ?_
          exact Only.refl _ _

theorem hibernate_only (x0 : HostCmd) (s : Dev) :
    Only [.mem, .acq, .exe, .host, .pwr, .actor] s (hibernate x0 s) := by
  unfold hibernate
  try dsimp only
  refine serve_only rfl ?_
  intro u
  refine Only.then (hibernateBody_only _ _) rfl ?_
  exact Only.refl _ _

theorem hibernateAbortTimeout_only (s : Dev) :
    Only [.log, .pwr, .inForce] s (hibernateAbortTimeout s) := by
  unfold hibernateAbortTimeout
  try dsimp only
  refine Only.ite_then ?_ ?_
  · exact Only.refl _ _
  · refine Only.ite_else ?_ ?_
    · refine Only.then (note_only _ _ _ _) rfl ?_
      refine Only.upd_pwr rfl ?_
      exact Only.refl _ _
    · refine Only.then (post_only _ _ _ _) rfl ?_
      exact Only.refl _ _

theorem serveSlot_only (s : Dev) (x1 : Nat) (x2 : HostCmd) (x3 x4 : Nat) (x5 : Nat → Nat → List U32) :
    Only [.exe, .host] s (serveSlot s x1 x2 x3 x4 x5) := by
  unfold serveSlot
  try dsimp only
  refine Only.ite ?_ ?_
  · refine Only.then (answer_only _ _ _ _) rfl ?_
    exact Only.refl _ _
  · refine Only.ite ?_ ?_
    · refine Only.then (answer_only _ _ _ _) rfl ?_
      exact Only.refl _ _
    · split
      · refine Only.then (answer_only _ _ _ _) rfl ?_
        exact Only.refl _ _
      · split
        · refine Only.then (answer_only _ _ _ _) rfl ?_
          exact Only.refl _ _
        · refine Only.then (finish_only _ _ _ _ _) rfl ?_
          exact Only.refl _ _

theorem historyReadBody_only (x0 : HostCmd) (s : Dev) :
    Only [.exe, .host] s (historyReadBody x0 s) := by
  unfold historyReadBody
  try dsimp only
  refine Only.then (serveSlot_only _ _ _ _ _ _) rfl ?_
  exact Only.refl _ _

theorem historyRead_only (x0 : HostCmd) (s : Dev) :
    Only [.exe, .host, .actor] s (historyRead x0 s) := by
  unfold historyRead
  try dsimp only
  refine serve_only rfl ?_
  intro u
  refine Only.then (historyReadBody_only _ _) rfl ?_
  exact Only.refl _ _

theorem holdoverTimerExpiry_only (s : Dev) :
    Only [.regs, .tb, .log, .inForce] s (holdoverTimerExpiry s) := by
  unfold holdoverTimerExpiry
  try dsimp only
  refine Only.ite_else ?_ ?_
  · exact Only.refl _ _
  · refine Only.then (raise_only _ _ _ _ _) rfl ?_
    refine Only.then (setTb_only _ _ _) rfl ?_
    refine Only.then (wrB_only _ _ _ _) rfl ?_
    refine Only.upd_tb rfl ?_
    exact Only.refl _ _

theorem ptrErr_only (s : Dev) :
    Only [.regs] s (ptrErr s) := by
  unfold ptrErr
  try dsimp only
  refine Only.then (wrB_only _ _ _ _) rfl ?_
  refine Only.then (wrB_only _ _ _ _) rfl ?_
  exact Only.refl _ _

theorem hpCmdWpWrite_only (x0 : U32) (s : Dev) :
    Only [.regs, .host] s (hpCmdWpWrite x0 s) := by
  unfold hpCmdWpWrite
  try dsimp only
  refine Only.ite_then ?_ ?_
  · exact Only.refl _ _
  · refine Only.ite ?_ ?_
    · refine Only.then (ptrErr_only _) rfl ?_
      exact Only.refl _ _
    · refine Only.ite_then ?_ ?_
      · refine Only.then (wrB_only _ _ _ _) rfl ?_
        refine Only.then (wrN_only _ _ _) rfl ?_
        exact Only.refl _ _
      · refine Only.upd_host rfl ?_
        exact Only.refl _ _

theorem hpRplRpWrite_only (x0 : U32) (s : Dev) :
    Only [.regs, .win, .exe, .host, .cl, .cnt, .log, .inForce] s (hpRplRpWrite x0 s) := by
  unfold hpRplRpWrite
  try dsimp only
  refine Only.ite_then ?_ ?_
  · exact Only.refl _ _
  · refine Only.ite ?_ ?_
    · refine Only.then (ptrErr_only _) rfl ?_
      exact Only.refl _ _
    · refine Only.ite_else ?_ ?_
      · refine Only.then (syncHp_only _) rfl ?_
        refine Only.then (enterFrom_only _ _ _) rfl ?_
        refine Only.then (wrB_only _ _ _ _) rfl ?_
        refine Only.then (wrN_only _ _ _) rfl ?_
        exact Only.refl _ _
      · refine Only.then (sendNotices_only _) rfl ?_
        exact Only.refl _ _

theorem identifyBody_only (x0 : HostCmd) (s : Dev) :
    Only [.exe, .host] s (identifyBody x0 s) := by
  unfold identifyBody
  try dsimp only
  refine Only.then (finish_only _ _ _ _ _) rfl ?_
  exact Only.refl _ _

theorem identify_only (x0 : HostCmd) (s : Dev) :
    Only [.exe, .host, .actor] s (identify x0 s) := by
  unfold identify
  try dsimp only
  refine serve_only rfl ?_
  intro u
  refine Only.then (identifyBody_only _ _) rfl ?_
  exact Only.refl _ _

theorem joinSnapshot_only (s : Dev) (x1 x2 : Nat) :
    Only [.strs, .exe] s (joinSnapshot s x1 x2) := by
  unfold joinSnapshot
  try dsimp only
  refine Only.ite_then ?_ ?_
  · exact Only.refl _ _
  · refine Only.ite_else ?_ ?_
    · refine Only.then (setStr_only _ _ _) rfl ?_
      exact Only.refl _ _
    · refine Only.ite ?_ ?_
      · refine Only.then (closeMP_only _ _) rfl ?_
        exact Only.refl _ _
      · refine Only.then (closeMN_only _ _ _) rfl ?_
        exact Only.refl _ _

theorem joinWaitTimeout_only (x0 : Nat) (s : Dev) :
    Only [.dev, .strs, .saf, .exe, .log, .inForce, .actor] s (joinWaitTimeout x0 s) := by
  unfold joinWaitTimeout
  try dsimp only
  refine Only.ite_else ?_ ?_
  · exact Only.refl _ _
  · refine Only.then (connFail_only _ _ _) rfl ?_
    refine Only.then (askedNote_only _ _ _ _) rfl ?_
    exact Only.refl _ _

theorem jtagInstructionUpdate_only (x0 : JtagIns) (s : Dev) :
    Only [.dev, .regs, .strs, .bus, .saf, .exe, .log, .pwr, .inForce] s (jtagInstructionUpdate x0 s) := by
  unfold jtagInstructionUpdate
  try dsimp only
  refine Only.ite_else ?_ ?_
  · refine Only.upd_pwr rfl ?_
    exact Only.refl _ _
  · refine Only.then (setLatch_only _ _) rfl ?_
    exact Only.refl _ _

theorem judgeAll_only {l : List Part} {f : Dev → Nat → Nat × Nat × Dev} (k : ∀ t x, Only l t (f t x).2.2) (s : Dev) (xs : List Nat) :
    Only l s (judgeAll f s xs).2 := by
  induction xs generalizing s with
  | nil => exact Only.refl _ _
  | cons x t ih => exact Only.trans (k s x) (ih _)

theorem keyProvisionBody_only (x0 : HostCmd) (s : Dev) :
    Only [.regs, .exe, .host, .log, .pwr, .inForce] s (keyProvisionBody x0 s) := by
  unfold keyProvisionBody
  try dsimp only
  refine Only.ite ?_ ?_
  · refine Only.then (answer_only _ _ _ _) rfl ?_
    exact Only.refl _ _
  · refine Only.ite ?_ ?_
    · refine Only.then (answer_only _ _ _ _) rfl ?_
      exact Only.refl _ _
    · refine Only.then (answer_only _ _ _ _) rfl ?_
      refine Only.ite_then ?_ ?_
      · refine Only.upd_host rfl ?_
        exact Only.refl _ _
      · refine Only.forN ?_ ?_
        · exact Only.refl _ _
        · intro u x
          try dsimp only
          refine Only.ite_then ?_ ?_
          · exact Only.refl _ _
          · refine Only.then (closeSession_only _ _ _) rfl ?_
            exact Only.refl _ _

theorem keyProvision_only (x0 : HostCmd) (s : Dev) :
    Only [.regs, .exe, .host, .log, .pwr, .inForce, .actor] s (keyProvision x0 s) := by
  unfold keyProvision
  try dsimp only
  refine serve_only rfl ?_
  intro u
  refine Only.then (keyProvisionBody_only _ _) rfl ?_
  exact Only.refl _ _

theorem laneTestComplete_only (x0 : U32) (s : Dev) :
    Only [.dev, .regs, .est, .lim, .strs, .saf, .exe, .can, .log, .inForce] s (laneTestComplete x0 s) := by
  unfold laneTestComplete
  try dsimp only
  refine Only.ite_then ?_ ?_
  · exact Only.refl _ _
  · refine Only.forN ?_ ?_
    · apply Only.via
      · apply Only.then (wrB_only _ _ _ _) rfl
        exact Only.refl _ _
      · refine Only.then (wrB_only _ _ _ _) rfl ?_
        exact Only.refl _ _
      · refine Only.then (wr_only _ _ _) rfl ?_
        refine Only.then (wrB_only _ _ _ _) rfl ?_
        refine Only.upd_est rfl ?_
        exact Only.refl _ _
    · intro u x
      try dsimp only
      refine Only.ite ?_ ?_
      · refine Only.upd_est rfl ?_
        exact Only.refl _ _
      · refine Only.ite_else ?_ ?_
        · exact Only.refl _ _
        · refine Only.then (fenceLane_only _ _) rfl ?_
          exact Only.refl _ _

theorem lateMarks_only (s : Dev) (x1 x2 : Nat) :
    Only [.regs, .rings, .log] s (lateMarks s x1 x2) := by
  unfold lateMarks
  try dsimp only
  refine Only.ite_then ?_ ?_
  · refine Only.then (wrB_only _ _ _ _) rfl ?_
    refine Only.then (wrB_only _ _ _ _) rfl ?_
    refine Only.then (wrB_only _ _ _ _) rfl ?_
    exact Only.refl _ _
  · refine Only.then (post_only _ _ _ _) rfl ?_
    refine Only.then (setRing_only _ _ _) rfl ?_
    exact Only.refl _ _

theorem launchTrain_only (s : Dev) (x1 x2 : Nat) (x3 : Bool) :
    Only [.regs, .rings, .cnt] s (launchTrain s x1 x2 x3) := by
  unfold launchTrain
  try dsimp only
  apply Only.via
  · apply Only.then (ringSend_only _ _ _) rfl
    apply Only.then (ringSend_only _ _ _) rfl
    exact Only.refl _ _
  · refine Only.then (ringSend_only _ _ _) rfl ?_
    exact Only.refl _ _
  · refine Only.then (setRing_only _ _ _) rfl ?_
    exact Only.refl _ _

theorem limitsReadBody_only (x0 : HostCmd) (s : Dev) :
    Only [.exe, .host] s (limitsReadBody x0 s) := by
  unfold limitsReadBody
  try dsimp only
  refine Only.then (finish_only _ _ _ _ _) rfl ?_
  exact Only.refl _ _

theorem limitsRead_only (x0 : HostCmd) (s : Dev) :
    Only [.exe, .host, .actor] s (limitsRead x0 s) := by
  unfold limitsRead
  try dsimp only
  refine serve_only rfl ?_
  intro u
  refine Only.then (limitsReadBody_only _ _) rfl ?_
  exact Only.refl _ _

theorem sendCmd_only (s : Dev) (x1 : Nat) (x2 : Exch) (x3 x4 : Bool) :
    Only [.regs, .rings, .cnt] s (sendCmd s x1 x2 x3 x4) := by
  unfold sendCmd
  try dsimp only
  refine Only.then (setRing_only _ _ _) rfl ?_
  refine Only.then (ringSend_only _ _ _) rfl ?_
  exact Only.refl _ _

theorem startExch_only (s : Dev) (x1 : Nat) (x2 : Exch) :
    Only [.dev, .regs, .rings, .strs, .saf, .exe, .host, .cnt, .log, .pwr, .inForce] s (startExch s x1 x2) := by
  unfold startExch
  try dsimp only
  split
  · refine Only.then (exchDead_only _ _ _) rfl ?_
    exact Only.refl _ _
  · refine Only.then (sendCmd_only _ _ _ _ _) rfl ?_
    refine Only.then (setRing_only _ _ _) rfl ?_
    exact Only.refl _ _

theorem startTx_only (s : Dev) (x1 : Nat) (x2 : RingTx) :
    Only [.dev, .regs, .rings, .strs, .saf, .exe, .host, .cnt, .log, .pwr, .inForce] s (startTx s x1 x2) := by
  unfold startTx
  try dsimp only
  split
  · refine Only.then (startExch_only _ _ _) rfl ?_
    exact Only.refl _ _
  · refine Only.then (ringCast_only _ _ _ _) rfl ?_
    exact Only.refl _ _
  · refine Only.then (enumOut_only _ _ _ _ _) rfl ?_
    exact Only.refl _ _
  · refine Only.then (startExch_only _ _ _) rfl ?_
    exact Only.refl _ _

theorem startFirst_only (s : Dev) (x1 : Nat) (x2 : RingTx → Bool) :
    Only [.dev, .regs, .rings, .strs, .saf, .exe, .host, .cnt, .log, .pwr, .inForce] s (startFirst s x1 x2) := by
  unfold startFirst
  try dsimp only
  split
  · refine Only.then (startTx_only _ _ _) rfl ?_
    refine Only.then (setRing_only _ _ _) rfl ?_
    exact Only.refl _ _
  · exact Only.refl _ _

theorem resendExch_only (s : Dev) (x1 : Nat) (x2 : Exch) :
    Only [.dev, .regs, .rings, .strs, .saf, .exe, .host, .cnt, .log, .pwr, .inForce] s (resendExch s x1 x2) := by
  unfold resendExch
  try dsimp only
  refine Only.ite_then ?_ ?_
  · exact Only.refl _ _
  · refine Only.ite ?_ ?_
    · refine Only.then (startFirst_only _ _ _) rfl ?_
      exact Only.refl _ _
    · refine Only.then (sendCmd_only _ _ _ _ _) rfl ?_
      exact Only.refl _ _

theorem linkTransmit_only (s : Dev) (x1 : Nat) :
    Only [.dev, .regs, .rings, .strs, .saf, .exe, .host, .cnt, .log, .pwr, .inForce] s (linkTransmit s x1) := by
  unfold linkTransmit
  try dsimp only
  split
  · refine Only.ite ?_ ?_
    · refine Only.then (resendExch_only _ _ _) rfl ?_
      exact Only.refl _ _
    · refine Only.then (startFirst_only _ _ _) rfl ?_
      exact Only.refl _ _
  · refine Only.then (startFirst_only _ _ _) rfl ?_
    exact Only.refl _ _

theorem lockOne_only (s : Dev) (x1 : Nat) :
    Only [.strs, .log, .pwr, .inForce] s (lockOne s x1).2.2 := by
  unfold lockOne
  refine Only.ite_snd2 (Only.refl _ _) (Only.ite_snd2 (Only.refl _ _) (Only.ite_snd2 ?_ (Only.refl _ _)))
  exact Only.then (lockStr_only _ _ _) rfl (Only.refl _ _)

theorem logReadBody_only (x0 : HostCmd) (s : Dev) :
    Only [.exe, .host] s (logReadBody x0 s) := by
  unfold logReadBody
  try dsimp only
  refine Only.ite ?_ ?_
  · refine Only.then (answer_only _ _ _ _) rfl ?_
    exact Only.refl _ _
  · refine Only.ite ?_ ?_
    · refine Only.then (answer_only _ _ _ _) rfl ?_
      exact Only.refl _ _
    · refine Only.ite ?_ ?_
      · refine Only.then (answer_only _ _ _ _) rfl ?_
        exact Only.refl _ _
      · refine Only.then (finish_only _ _ _ _ _) rfl ?_
        exact Only.refl _ _

theorem logRead_only (x0 : HostCmd) (s : Dev) :
    Only [.exe, .host, .actor] s (logRead x0 s) := by
  unfold logRead
  try dsimp only
  refine serve_only rfl ?_
  intro u
  refine Only.then (logReadBody_only _ _) rfl ?_
  exact Only.refl _ _

theorem logSecondBoundary_only (s : Dev) :
    Only [.regs, .mem, .host, .log, .inForce] s (logSecondBoundary s) := by
  unfold logSecondBoundary
  try dsimp only
  refine Only.ite_then ?_ ?_
  · exact Only.refl _ _
  · refine Only.ite ?_ ?_
    · refine Only.upd_log rfl (Or.inr fun _ _ h => h) ?_
      exact Only.refl _ _
    · refine Only.then (assignRecord_only _ _) rfl ?_
      refine Only.upd_log_inForce rfl (Or.inr fun _ _ h => h) ?_
      exact Only.refl _ _

theorem maskCmd_only {l : List Part} {s : Dev} {op len : Nat} {c : HostCmd} {f : Dev → Nat → Nat × Nat × Dev}
    (h : covers l [.exe, .host] = true) (k : ∀ t x, Only l t (f t x).2.2) : Only l s (maskCmd op len f c s) := by
  unfold maskCmd
  dsimp only
  refine Only.ite (Only.then (answer_only _ _ _ _) h (Only.refl _ _)) (Only.ite (Only.then (answer_only _ _ _ _) h (Only.refl _ _)) ?_)
  exact Only.then (finish_only _ _ _ _ _) h (judgeAll_only k _ _)

theorem masterDone_only (s : Dev) (x1 : Nat) :
    Only [.est, .exe, .host, .pwr] s (masterDone s x1) := by
  unfold masterDone
  try dsimp only
  split
  · refine Only.then (answer_only _ _ _ _) rfl ?_
    refine Only.upd_est_pwr rfl ?_
    exact Only.refl _ _
  · refine Only.upd_est_pwr rfl ?_
    exact Only.refl _ _

theorem masterTableLoadBody_only (x0 : HostCmd) (s : Dev) :
    Only [.mem, .exe, .host, .pwr] s (masterTableLoadBody x0 s) := by
  unfold masterTableLoadBody
  try dsimp only
  refine Only.ite ?_ ?_
  · refine Only.then (answer_only _ _ _ _) rfl ?_
    exact Only.refl _ _
  · refine Only.ite ?_ ?_
    · refine Only.then (answer_only _ _ _ _) rfl ?_
      exact Only.refl _ _
    · refine Only.ite ?_ ?_
      · refine Only.then (answer_only _ _ _ _) rfl ?_
        exact Only.refl _ _
      · refine Only.ite ?_ ?_
        · refine Only.then (answer_only _ _ _ _) rfl ?_
          exact Only.refl _ _
        · refine Only.ite ?_ ?_
          · refine Only.then (answer_only _ _ _ _) rfl ?_
            exact Only.refl _ _
          · apply Only.via
            · apply Only.then (answer_only _ _ _ _) rfl
              exact Only.refl _ _
            · refine Only.ite ?_ ?_
              · refine Only.then (pumpTxns_only _) rfl ?_
                refine Only.upd_pwr rfl ?_
                exact Only.refl _ _
              · refine Only.then (answer_only _ _ _ _) rfl ?_
                refine Only.upd_pwr rfl ?_
                exact Only.refl _ _
            · refine Only.then (stBytes_only _ _ _) rfl ?_
              refine Only.upd_pwr rfl ?_
              refine Only.ite_then ?_ ?_
              · exact Only.refl _ _
              · refine Only.then (clearMem_only _ _ _) rfl ?_
                exact Only.refl _ _

theorem masterTableLoad_only (x0 : HostCmd) (s : Dev) :
    Only [.mem, .exe, .host, .pwr, .actor] s (masterTableLoad x0 s) := by
  unfold masterTableLoad
  try dsimp only
  refine serve_only rfl ?_
  intro u
  refine Only.then (masterTableLoadBody_only _ _) rfl ?_
  exact Only.refl _ _

theorem nodeHot_only (s : Dev) (x1 : Nat) :
    Only [.thm, .log, .inForce] s (nodeHot s x1) := by
  unfold nodeHot
  try dsimp only
  refine Only.forL ?_ ?_
  · exact Only.refl _ _
  · intro u x
    try dsimp only
    refine Only.then (track_only _ _ _ _ _ _ _) rfl ?_
    refine Only.upd_thm rfl ?_
    exact Only.refl _ _

theorem nodeLeave_only (s : Dev) (x1 x2 : Nat) :
    Only [.regs, .rings, .exe, .log, .inForce] s (nodeLeave s x1 x2) := by
  unfold nodeLeave
  try dsimp only
  refine Only.then (note_only _ _ _ _) rfl ?_
  refine Only.then (ringCounts_only _ _) rfl ?_
  split
  · refine Only.then (raise_only _ _ _ _ _) rfl ?_
    refine Only.then (wrB_only _ _ _ _) rfl ?_
    refine Only.then (setMode_only _ _ _) rfl ?_
    refine Only.then (wrF_only _ _ _ _ _) rfl ?_
    refine Only.then (wrF_only _ _ _ _ _) rfl ?_
    refine Only.then (setRing_only _ _ _) rfl ?_
    refine Only.then (sendEnum_only _ _ _ _ _) rfl ?_
    refine Only.ite_else ?_ ?_
    · refine Only.ite_else ?_ ?_
      · refine Only.then (sendStubEnd_only _ _ _ _) rfl ?_
        refine Only.ite_else ?_ ?_
        · exact Only.refl _ _
        · refine Only.then (sendEnum_only _ _ _ _ _) rfl ?_
          refine Only.then (sendEnum_only _ _ _ _ _) rfl ?_
          exact Only.refl _ _
      · refine Only.then (sendStubEnd_only _ _ _ _) rfl ?_
        exact Only.refl _ _
    · refine Only.then (sendStubEnd_only _ _ _ _) rfl ?_
      exact Only.refl _ _
  · refine Only.then (unreachSync_only _ _ _) rfl ?_
    refine Only.then (setMode_only _ _ _) rfl ?_
    refine Only.then (wrF_only _ _ _ _ _) rfl ?_
    refine Only.then (wrF_only _ _ _ _ _) rfl ?_
    refine Only.then (setRing_only _ _ _) rfl ?_
    refine Only.then (sendEnum_only _ _ _ _ _) rfl ?_
    refine Only.ite_else ?_ ?_
    · refine Only.ite_else ?_ ?_
      · refine Only.then (sendStubEnd_only _ _ _ _) rfl ?_
        refine Only.ite_else ?_ ?_
        · exact Only.refl _ _
        · refine Only.then (sendEnum_only _ _ _ _ _) rfl ?_
          refine Only.then (sendEnum_only _ _ _ _ _) rfl ?_
          exact Only.refl _ _
      · refine Only.then (sendStubEnd_only _ _ _ _) rfl ?_
        exact Only.refl _ _
    · refine Only.then (sendStubEnd_only _ _ _ _) rfl ?_
      exact Only.refl _ _

theorem nodeReadBody_only (x0 : HostCmd) (s : Dev) :
    Only [.exe, .host] s (nodeReadBody x0 s) := by
  unfold nodeReadBody
  try dsimp only
  refine Only.ite ?_ ?_
  · refine Only.then (answer_only _ _ _ _) rfl ?_
    exact Only.refl _ _
  · refine Only.ite ?_ ?_
    · refine Only.then (answer_only _ _ _ _) rfl ?_
      exact Only.refl _ _
    · refine Only.ite ?_ ?_
      · refine Only.then (answer_only _ _ _ _) rfl ?_
        exact Only.refl _ _
      · refine Only.ite ?_ ?_
        · refine Only.then (answer_only _ _ _ _) rfl ?_
          exact Only.refl _ _
        · refine Only.then (emit_only _ _ _) rfl ?_
          exact Only.refl _ _

theorem nodeRead_only (x0 : HostCmd) (s : Dev) :
    Only [.exe, .host, .actor] s (nodeRead x0 s) := by
  unfold nodeRead
  try dsimp only
  refine serve_only rfl ?_
  intro u
  refine Only.then (nodeReadBody_only _ _) rfl ?_
  exact Only.refl _ _

theorem noteNow_only (s : Dev) (x1 : Bool) (x2 : Nat) :
    Only [.lim] s (noteNow s x1 x2) := by
  unfold noteNow
  try dsimp only
  refine Only.then (setWin_only _ _ _) rfl ?_
  exact Only.refl _ _

theorem noticeSubscribeBody_only (x0 : HostCmd) (s : Dev) :
    Only [.exe, .host] s (noticeSubscribeBody x0 s) := by
  unfold noticeSubscribeBody
  try dsimp only
  refine Only.ite ?_ ?_
  · refine Only.then (answer_only _ _ _ _) rfl ?_
    exact Only.refl _ _
  · refine Only.ite ?_ ?_
    · refine Only.then (answer_only _ _ _ _) rfl ?_
      exact Only.refl _ _
    · refine Only.then (answer_only _ _ _ _) rfl ?_
      refine Only.then (setSess_only _ _ _) rfl ?_
      exact Only.refl _ _

theorem noticeSubscribe_only (x0 : HostCmd) (s : Dev) :
    Only [.exe, .host, .actor] s (noticeSubscribe x0 s) := by
  unfold noticeSubscribe
  try dsimp only
  refine serve_only rfl ?_
  intro u
  refine Only.then (noticeSubscribeBody_only _ _) rfl ?_
  exact Only.refl _ _

theorem offsetSlew_only (s : Dev) :
    Only [.regs, .tb] s (offsetSlew s) := by
  unfold offsetSlew
  try dsimp only
  refine Only.ite ?_ ?_
  · refine Only.upd_tb rfl ?_
    exact Only.refl _ _
  · refine Only.ite_then ?_ ?_
    · exact Only.refl _ _
    · refine Only.then (wrB_only _ _ _ _) rfl ?_
      refine Only.upd_tb rfl ?_
      exact Only.refl _ _

theorem setOutvoted_only (s : Dev) (x1 x2 x3 : Nat) :
    Only [.regs] s (setOutvoted s x1 x2 x3) := by
  unfold setOutvoted
  try dsimp only
  refine Only.ite_else ?_ ?_
  · exact Only.refl _ _
  · refine Only.then (wrF_only _ _ _ _ _) rfl ?_
    exact Only.refl _ _

theorem testCore_only (s : Dev) (x1 x2 x3 x4 : Nat) :
    Only [.exe] s (testCore s x1 x2 x3 x4) := by
  unfold testCore
  try dsimp only
  refine Only.upd_exe rfl ?_
  exact Only.refl _ _

theorem outvote_only (s : Dev) (x1 x2 x3 : Nat) (x4 : List Retired) (x5 : List U32) :
    Only [.dev, .regs, .mem, .win, .rings, .acq, .est, .lim, .strs, .bus, .saf, .exe, .host, .cl, .can, .cnt, .log, .pwr, .inForce, .actor, .freeCtr, .busErr] s (outvote s x1 x2 x3 x4 x5) := by
  unfold outvote
  try dsimp only
  refine Only.then (goOn_only _ _ _ _) rfl ?_
  refine Only.then (testCore_only _ _ _ _ _) rfl ?_
  refine Only.then (setPair_only _ _ _) rfl ?_
  refine Only.upd_exe rfl ?_
  refine Only.then (setOutvoted_only _ _ _ _) rfl ?_
  exact Only.refl _ _

theorem packetIntake_only (s : Dev) :
    Only [.regs, .mem, .exe, .host, .cl, .cnt, .log, .inForce] s (packetIntake s) := by
  unfold packetIntake
  try dsimp only
  split
  · exact Only.refl _ _
  · refine Only.ite_then ?_ ?_
    · exact Only.refl _ _
    · refine Only.then (intake_only _ _ _ _) rfl ?_
      refine Only.then (countBytes_only _ _ _) rfl ?_
      refine Only.then (countEv_only _ _ _ _) rfl ?_
      refine Only.ite_else ?_ ?_
      · refine Only.upd_host rfl ?_
        refine Only.then (wrN_only _ _ _) rfl ?_
        exact Only.refl _ _
      · refine Only.then (wrB_only _ _ _ _) rfl ?_
        exact Only.refl _ _

theorem pairHeartbeatTimeout_only (x0 : Nat) (s : Dev) :
    Only [.dev, .regs, .mem, .win, .lim, .strs, .bus, .saf, .exe, .host, .cl, .can, .cnt, .log, .pwr, .inForce, .freeCtr] s (pairHeartbeatTimeout x0 s) := by
  unfold pairHeartbeatTimeout
  try dsimp only
  refine Only.ite_then ?_ ?_
  · exact Only.refl _ _
  · refine Only.then (restartPair_only _ _) rfl ?_
    refine Only.then (note_only _ _ _ _) rfl ?_
    exact Only.refl _ _

theorem pairRestartTimeout_only (x0 : Nat) (s : Dev) :
    Only [.dev, .regs, .lim, .strs, .bus, .saf, .exe, .can, .log, .pwr, .inForce] s (pairRestartTimeout x0 s) := by
  unfold pairRestartTimeout
  try dsimp only
  refine Only.ite_else ?_ ?_
  · exact Only.refl _ _
  · refine Only.then (pairLost_only _ _) rfl ?_
    exact Only.refl _ _

theorem paramGetBody_only (x0 : HostCmd) (s : Dev) :
    Only [.exe, .host] s (paramGetBody x0 s) := by
  unfold paramGetBody
  try dsimp only
  refine Only.ite ?_ ?_
  · refine Only.then (answer_only _ _ _ _) rfl ?_
    exact Only.refl _ _
  · refine Only.ite ?_ ?_
    · refine Only.then (answer_only _ _ _ _) rfl ?_
      exact Only.refl _ _
    · refine Only.ite ?_ ?_
      · refine Only.then (answer_only _ _ _ _) rfl ?_
        exact Only.refl _ _
      · refine Only.ite ?_ ?_
        · refine Only.then (answer_only _ _ _ _) rfl ?_
          exact Only.refl _ _
        · split
          · refine Only.then (finish_only _ _ _ _ _) rfl ?_
            exact Only.refl _ _
          · refine Only.then (finish_only _ _ _ _ _) rfl ?_
            exact Only.refl _ _

theorem paramGet_only (x0 : HostCmd) (s : Dev) :
    Only [.exe, .host, .actor] s (paramGet x0 s) := by
  unfold paramGet
  try dsimp only
  refine serve_only rfl ?_
  intro u
  refine Only.then (paramGetBody_only _ _) rfl ?_
  exact Only.refl _ _

theorem setTxn_only (s : Dev) (x1 : Txn → Txn) :
    Only [.host] s (setTxn s x1) := by
  unfold setTxn
  try dsimp only
  refine Only.upd_host rfl ?_
  exact Only.refl _ _

theorem paramSetBody_only (x0 : HostCmd) (s : Dev) :
    Only [.exe, .host] s (paramSetBody x0 s) := by
  unfold paramSetBody
  try dsimp only
  refine Only.ite ?_ ?_
  · refine Only.then (answer_only _ _ _ _) rfl ?_
    exact Only.refl _ _
  · refine Only.ite ?_ ?_
    · refine Only.then (answer_only _ _ _ _) rfl ?_
      exact Only.refl _ _
    · refine Only.ite ?_ ?_
      · refine Only.then (answer_only _ _ _ _) rfl ?_
        exact Only.refl _ _
      · refine Only.ite ?_ ?_
        · refine Only.then (answer_only _ _ _ _) rfl ?_
          exact Only.refl _ _
        · refine Only.ite ?_ ?_
          · refine Only.then (answer_only _ _ _ _) rfl ?_
            exact Only.refl _ _
          · split
            · refine Only.then (finish_only _ _ _ _ _) rfl ?_
              exact Only.refl _ _
            · refine Only.ite ?_ ?_
              · refine Only.then (answer_only _ _ _ _) rfl ?_
                exact Only.refl _ _
              · split
                · refine Only.then (finish_only _ _ _ _ _) rfl ?_
                  exact Only.refl _ _
                · refine Only.ite ?_ ?_
                  · refine Only.then (answer_only _ _ _ _) rfl ?_
                    exact Only.refl _ _
                  · refine Only.then (answer_only _ _ _ _) rfl ?_
                    refine Only.then (setTxn_only _ _) rfl ?_
                    exact Only.refl _ _

theorem paramSet_only (x0 : HostCmd) (s : Dev) :
    Only [.exe, .host, .actor] s (paramSet x0 s) := by
  unfold paramSet
  try dsimp only
  refine serve_only rfl ?_
  intro u
  refine Only.then (paramSetBody_only _ _) rfl ?_
  exact Only.refl _ _

theorem pcsAlive_only (s : Dev) (x1 : Nat) :
    Only [.lim, .log, .inForce] s (pcsAlive s x1) := by
  unfold pcsAlive
  try dsimp only
  refine Only.ite_else ?_ ?_
  · refine Only.then (clearCond_only _ _ _ _ _) rfl ?_
    refine Only.then (setCtl_only _ _ _) rfl ?_
    exact Only.refl _ _
  · refine Only.then (clearCond_only _ _ _ _ _) rfl ?_
    refine Only.upd_lim rfl ?_
    refine Only.then (post_only _ _ _ _) rfl ?_
    exact Only.refl _ _

theorem pcsBusSilentTimeout_only (x0 : Nat) (s : Dev) :
    Only [.lim, .log, .inForce] s (pcsBusSilentTimeout x0 s) := by
  unfold pcsBusSilentTimeout
  try dsimp only
  refine Only.ite_then ?_ ?_
  · exact Only.refl _ _
  · refine Only.ite_else ?_ ?_
    · refine Only.then (setCtl_only _ _ _) rfl ?_
      exact Only.refl _ _
    · refine Only.then (raise_only _ _ _ _ _) rfl ?_
      exact Only.refl _ _

theorem pcsFeedbackReceived_only (x0 : Nat) (x1 : Bool) (x2 : List U8) (s : Dev) :
    Only [.lim, .log, .inForce] s (pcsFeedbackReceived x0 x1 x2 s) := by
  unfold pcsFeedbackReceived
  try dsimp only
  refine Only.ite_then ?_ ?_
  · exact Only.refl _ _
  · refine Only.ite_then ?_ ?_
    · exact Only.refl _ _
    · apply Only.via
      · apply Only.then (dropCopy_only _ _ _) rfl
        exact Only.refl _ _
      · refine Only.then (feedbackJudge_only _) rfl ?_
        refine Only.upd_lim rfl ?_
        refine Only.then (setCtl_only _ _ _) rfl ?_
        exact Only.refl _ _
      · refine Only.then (pcsAlive_only _ _) rfl ?_
        refine Only.then (setCtl_only _ _ _) rfl ?_
        exact Only.refl _ _

theorem pcsHeartbeatReceived_only (x0 : Nat) (x1 : List U8) (s : Dev) :
    Only [.lim, .log, .inForce] s (pcsHeartbeatReceived x0 x1 s) := by
  unfold pcsHeartbeatReceived
  try dsimp only
  refine Only.ite_then ?_ ?_
  · exact Only.refl _ _
  · refine Only.ite_then ?_ ?_
    · exact Only.refl _ _
    · refine Only.upd_lim rfl ?_
      refine Only.then (pcsAlive_only _ _) rfl ?_
      refine Only.then (setCtl_only _ _ _) rfl ?_
      exact Only.refl _ _

theorem pcsOverlimitTimeout_only (x0 : Bool) (s : Dev) :
    Only [.dev, .lim, .strs, .saf, .exe, .can, .log, .inForce] s (pcsOverlimitTimeout x0 s) := by
  unfold pcsOverlimitTimeout
  try dsimp only
  refine Only.ite_then ?_ ?_
  · exact Only.refl _ _
  · refine Only.then (fault3_only _ _ _ _ _ _ _ _) rfl ?_
    exact Only.refl _ _

theorem pcsSilentTimeout_only (s : Dev) :
    Only [.lim, .log, .inForce] s (pcsSilentTimeout s) := by
  unfold pcsSilentTimeout
  try dsimp only
  refine Only.ite_then ?_ ?_
  · exact Only.refl _ _
  · refine Only.then (raise_only _ _ _ _ _) rfl ?_
    refine Only.upd_lim rfl ?_
    refine Only.forL ?_ ?_
    · exact Only.refl _ _
    · intro u x
      try dsimp only
      refine Only.then (setCtl_only _ _ _) rfl ?_
      exact Only.refl _ _

theorem pendingInterim_only (x0 x1 : Nat) (s : Dev) :
    Only [.exe, .host] s (pendingInterim x0 x1 s) := by
  unfold pendingInterim
  try dsimp only
  split
  · exact Only.refl _ _
  · refine Only.ite_then ?_ ?_
    · exact Only.refl _ _
    · refine Only.then (releaseReply_only _ _) rfl ?_
      refine Only.then (updFlight_only _ _ _ _) rfl ?_
      exact Only.refl _ _

theorem periodicSave_only (s : Dev) :
    Only [.mem, .exe, .pwr] s (periodicSave s) := by
  unfold periodicSave
  try dsimp only
  refine Only.ite_then ?_ ?_
  · exact Only.refl _ _
  · refine Only.then (pumpTxns_only _) rfl ?_
    refine Only.upd_pwr rfl ?_
    exact Only.refl _ _

theorem pgoodInFall_only (s : Dev) :
    Only [.dev, .regs, .mem, .strs, .bus, .saf, .exe, .host, .log, .pwr, .inForce, .posts] s (pgoodInFall s) := by
  unfold pgoodInFall
  try dsimp only
  refine Only.ite ?_ ?_
  · refine Only.upd_pwr rfl ?_
    exact Only.refl _ _
  · refine Only.ite_else ?_ ?_
    · refine Only.then (setLatch_only _ _) rfl ?_
      refine Only.ite_else ?_ ?_
      · refine Only.then (wrB_only _ _ _ _) rfl ?_
        refine Only.upd_pwr rfl ?_
        exact Only.refl _ _
      · refine Only.then (note_only _ _ _ _) rfl ?_
        exact Only.refl _ _
    · refine Only.then (flushLog_only _) rfl ?_
      refine Only.then (logIntake_only _) rfl ?_
      exact Only.refl _ _

theorem phaseSyncBroadcast_only (x0 : U32) (s : Dev) :
    Only [.exe, .cl] s (phaseSyncBroadcast x0 s) := by
  unfold phaseSyncBroadcast
  try dsimp only
  refine Only.ite_else ?_ ?_
  · exact Only.refl _ _
  · refine Only.then (sendSync_only _ _) rfl ?_
    exact Only.refl _ _

theorem phaseSyncReceived_only (x0 x1 : Nat) (x2 : SyncFrame) (s : Dev) :
    Only [.regs, .tb, .cl] s (phaseSyncReceived x0 x1 x2 s) := by
  unfold phaseSyncReceived
  try dsimp only
  refine Only.ite ?_ ?_
  · exact Only.refl _ _
  · split
    · refine Only.ite_then ?_ ?_
      · exact Only.refl _ _
      · refine Only.then (wrN_only _ _ _) rfl ?_
        refine Only.upd_cl rfl ?_
        exact Only.refl _ _
    · refine Only.upd_tb_cl rfl ?_
      refine Only.ite_then ?_ ?_
      · exact Only.refl _ _
      · refine Only.then (wrN_only _ _ _) rfl ?_
        refine Only.upd_cl rfl ?_
        exact Only.refl _ _

theorem phaserefBroadcast_only (s : Dev) :
    Only [.regs, .rings, .cnt] s (phaserefBroadcast s) := by
  unfold phaserefBroadcast
  try dsimp only
  refine Only.forL ?_ ?_
  · exact Only.refl _ _
  · intro u x
    try dsimp only
    refine Only.then (ringCast_only _ _ _ _) rfl ?_
    exact Only.refl _ _

theorem phyPoll_only (x0 : Nat) (s : Dev) :
    Only [.regs, .cl, .log, .inForce] s (phyPoll x0 s) := by
  unfold phyPoll
  try dsimp only
  refine Only.ite_then ?_ ?_
  · exact Only.refl _ _
  · refine Only.forL ?_ ?_
    · exact Only.refl _ _
    · intro u x
      try dsimp only
      refine Only.ite_then ?_ ?_
      · refine Only.upd_cl rfl ?_
        exact Only.refl _ _
      · refine Only.then (portDown_only _ _) rfl ?_
        exact Only.refl _ _

theorem pingTimeout_only (x0 : Nat) (x1 : Bool) (s : Dev) :
    Only [.regs, .rings, .exe, .log, .inForce] s (pingTimeout x0 x1 s) := by
  unfold pingTimeout
  try dsimp only
  split
  · refine Only.ite_else ?_ ?_
    · exact Only.refl _ _
    · refine Only.then (declareBreak_only _ _ _) rfl ?_
      exact Only.refl _ _
  · refine Only.ite ?_ ?_
    · refine Only.then (searchStep_only _ _ _) rfl ?_
      exact Only.refl _ _
    · refine Only.ite_else ?_ ?_
      · exact Only.refl _ _
      · refine Only.then (searchStep_only _ _ _) rfl ?_
        exact Only.refl _ _

theorem reduceSend_only (s : Dev) :
    Only [.exe] s (reduceSend s) := by
  unfold reduceSend
  try dsimp only
  refine Only.ite_else ?_ ?_
  · exact Only.refl _ _
  · refine Only.then (emit_only _ _ _) rfl ?_
    exact Only.refl _ _

theorem sendCycle_only (s : Dev) (x1 : Bool) (x2 : List U32) :
    Only [.lim, .exe, .can, .log, .inForce] s (sendCycle s x1 x2) := by
  unfold sendCycle
  try dsimp only
  refine Only.ite_else ?_ ?_
  · apply Only.via
    · apply Only.then (sendFrames_only _ _ _) rfl
      apply Only.upd_lim rfl
      exact Only.refl _ _
    · refine Only.upd_lim rfl ?_
      exact Only.refl _ _
    · refine Only.forL ?_ ?_
      · exact Only.refl _ _
      · intro u x
        try dsimp only
        refine Only.then (cancelProfile_only _ _ _) rfl ?_
        exact Only.refl _ _
  · refine Only.then (feedbackJudge_only _) rfl ?_
    exact Only.refl _ _

theorem publishRun_only (s : Dev) (x1 : Bool) :
    Only [.lim, .exe, .can, .log, .inForce] s (publishRun s x1) := by
  unfold publishRun
  try dsimp only
  refine Only.ite_then ?_ ?_
  · exact Only.refl _ _
  · refine Only.ite_else ?_ ?_
    · refine Only.then (noteNow_only _ _ _) rfl ?_
      refine Only.then (noteNow_only _ _ _) rfl ?_
      refine Only.upd_lim rfl ?_
      exact Only.refl _ _
    · refine Only.then (sendCycle_only _ _ _) rfl ?_
      exact Only.refl _ _

theorem pisteDone_only (x0 x1 : Nat) (s : Dev) :
    Only [.dev, .regs, .mem, .piste, .acq, .est, .chg, .lim, .strs, .saf, .exe, .host, .can, .log, .pwr, .inForce] s (pisteDone x0 x1 s) := by
  unfold pisteDone
  try dsimp only
  split
  · refine Only.then (wrB_only _ _ _ _) rfl ?_
    exact Only.refl _ _
  · refine Only.ite_then ?_ ?_
    · exact Only.refl _ _
    · refine Only.ite_then ?_ ?_
      · exact Only.refl _ _
      · apply Only.via
        · apply Only.then (collectEnd_only _) rfl
          exact Only.refl _ _
        · refine Only.ite ?_ ?_
          · refine Only.then (auditDone_only _) rfl ?_
            exact Only.refl _ _
          · refine Only.ite_else ?_ ?_
            · exact Only.refl _ _
            · refine Only.then (reduceSend_only _) rfl ?_
              refine Only.then (publishRun_only _ _) rfl ?_
              exact Only.refl _ _
        · refine Only.then (publishOpen_only _ _ _) rfl ?_
          refine Only.then (gateComplete_only _ _) rfl ?_
          exact Only.refl _ _

theorem pisteReadBody_only (x0 : HostCmd) (s : Dev) :
    Only [.exe, .host] s (pisteReadBody x0 s) := by
  unfold pisteReadBody
  try dsimp only
  refine Only.ite ?_ ?_
  · refine Only.then (answer_only _ _ _ _) rfl ?_
    exact Only.refl _ _
  · refine Only.ite ?_ ?_
    · refine Only.then (answer_only _ _ _ _) rfl ?_
      exact Only.refl _ _
    · split
      · refine Only.then (answer_only _ _ _ _) rfl ?_
        exact Only.refl _ _
      · refine Only.then (finish_only _ _ _ _ _) rfl ?_
        exact Only.refl _ _

theorem pisteRead_only (x0 : HostCmd) (s : Dev) :
    Only [.exe, .host, .actor] s (pisteRead x0 s) := by
  unfold pisteRead
  try dsimp only
  refine serve_only rfl ?_
  intro u
  refine Only.then (pisteReadBody_only _ _) rfl ?_
  exact Only.refl _ _

theorem pisteSwapReq_only (s : Dev) :
    Only [.regs] s (pisteSwapReq s) := by
  unfold pisteSwapReq
  try dsimp only
  refine Only.then (wrB_only _ _ _ _) rfl ?_
  exact Only.refl _ _

theorem pisteWriteBody_only (x0 : HostCmd) (s : Dev) :
    Only [.exe, .host] s (pisteWriteBody x0 s) := by
  unfold pisteWriteBody
  try dsimp only
  refine Only.ite ?_ ?_
  · refine Only.then (answer_only _ _ _ _) rfl ?_
    exact Only.refl _ _
  · refine Only.ite ?_ ?_
    · refine Only.then (answer_only _ _ _ _) rfl ?_
      exact Only.refl _ _
    · refine Only.ite ?_ ?_
      · refine Only.then (answer_only _ _ _ _) rfl ?_
        exact Only.refl _ _
      · split
        · refine Only.then (finish_only _ _ _ _ _) rfl ?_
          exact Only.refl _ _
        · refine Only.ite ?_ ?_
          · refine Only.then (answer_only _ _ _ _) rfl ?_
            exact Only.refl _ _
          · refine Only.then (answer_only _ _ _ _) rfl ?_
            refine Only.then (setTxn_only _ _) rfl ?_
            exact Only.refl _ _

theorem pisteWrite_only (x0 : HostCmd) (s : Dev) :
    Only [.exe, .host, .actor] s (pisteWrite x0 s) := by
  unfold pisteWrite
  try dsimp only
  refine serve_only rfl ?_
  intro u
  refine Only.then (pisteWriteBody_only _ _) rfl ?_
  exact Only.refl _ _

theorem poleGapExpiry_only (x0 : Nat) (s : Dev) :
    Only [.strs, .exe] s (poleGapExpiry x0 s) := by
  unfold poleGapExpiry
  try dsimp only
  refine Only.ite_else ?_ ?_
  · exact Only.refl _ _
  · refine Only.then (issueCoils_only _ _ _) rfl ?_
    refine Only.then (setStr_only _ _ _) rfl ?_
    exact Only.refl _ _

theorem pongReceived_only (x0 : Nat) (x1 : Bool) (x2 : Nat) (s : Dev) :
    Only [.regs, .rings, .exe, .cnt] s (pongReceived x0 x1 x2 s) := by
  unfold pongReceived
  try dsimp only
  split
  · refine Only.ite_else ?_ ?_
    · refine Only.then (ringGot_only _ _) rfl ?_
      refine Only.then (ringBytes_only _ _ _) rfl ?_
      exact Only.refl _ _
    · refine Only.then (setRing_only _ _ _) rfl ?_
      exact Only.refl _ _
  · apply Only.via
    · apply Only.then (searchStep_only _ _ _) rfl
      exact Only.refl _ _
    · refine Only.ite_else ?_ ?_
      · exact Only.refl _ _
      · refine Only.then (searchStep_only _ _ _) rfl ?_
        exact Only.refl _ _
    · refine Only.then (ringGot_only _ _) rfl ?_
      refine Only.then (ringBytes_only _ _ _) rfl ?_
      exact Only.refl _ _

theorem postOpen_only (s : Dev) (x1 x2 : Nat) (x3 : Bool) (x4 : Nat) :
    Only [.log] s (postOpen s x1 x2 x3 x4) := by
  unfold postOpen
  try dsimp only
  refine Only.then (post_only _ _ _ _) rfl ?_
  exact Only.refl _ _

theorem powerFailReset_only (s : Dev) :
    Only [.dev, .regs, .mem, .win, .parCfg, .parNow, .tb, .piste, .rings, .acq, .est, .chg, .lim, .thm, .strs, .bus, .saf, .exe, .host, .cl, .can, .cnt, .log, .pwr, .inForce, .uptimeMs, .actor, .busErr, .readVal, .posts] s (powerFailReset s) := by
  unfold powerFailReset
  try dsimp only
  refine Only.ite_else ?_ ?_
  · exact Only.refl _ _
  · refine Only.then (enterOff_only _ _) rfl ?_
    refine Only.then (endNow_only _) rfl ?_
    exact Only.refl _ _

theorem prechargeDurationTimeout_only (x0 : Nat) (s : Dev) :
    Only [.dev, .strs, .saf, .exe, .log, .inForce, .actor] s (prechargeDurationTimeout x0 s) := by
  unfold prechargeDurationTimeout
  try dsimp only
  refine Only.ite_else ?_ ?_
  · exact Only.refl _ _
  · refine Only.then (preFail_only _ _ _) rfl ?_
    exact Only.refl _ _

theorem prechargeSnapshot_only (s : Dev) (x1 x2 x3 : Nat) :
    Only [.dev, .strs, .saf, .exe, .log, .pwr, .inForce, .actor] s (prechargeSnapshot s x1 x2 x3) := by
  unfold prechargeSnapshot
  try dsimp only
  refine Only.ite ?_ ?_
  · exact Only.refl _ _
  · refine Only.ite ?_ ?_
    · refine Only.then (preFail_only _ _ _) rfl ?_
      exact Only.refl _ _
    · refine Only.ite ?_ ?_
      · exact Only.refl _ _
      · split
        · refine Only.ite ?_ ?_
          · refine Only.then (preFail_only _ _ _) rfl ?_
            refine Only.then (weldFound_only _ _ _) rfl ?_
            exact Only.refl _ _
          · refine Only.ite ?_ ?_
            · refine Only.then (closeMN_only _ _ _) rfl ?_
              refine Only.then (setStr_only _ _ _) rfl ?_
              exact Only.refl _ _
            · refine Only.then (setStr_only _ _ _) rfl ?_
              exact Only.refl _ _
        · refine Only.ite_then ?_ ?_
          · exact Only.refl _ _
          · refine Only.ite ?_ ?_
            · refine Only.then (preFail_only _ _ _) rfl ?_
              exact Only.refl _ _
            · refine Only.ite ?_ ?_
              · refine Only.ite ?_ ?_
                · refine Only.then (connFail_only _ _ _) rfl ?_
                  refine Only.then (weldFound_only _ _ _) rfl ?_
                  exact Only.refl _ _
                · refine Only.then (preFail_only _ _ _) rfl ?_
                  exact Only.refl _ _
              · refine Only.then (setStr_only _ _ _) rfl ?_
                exact Only.refl _ _
        · refine Only.ite_then ?_ ?_
          · exact Only.refl _ _
          · refine Only.ite ?_ ?_
            · refine Only.then (deriveState_only _ _) rfl ?_
              refine Only.then (setStr_only _ _ _) rfl ?_
              exact Only.refl _ _
            · refine Only.then (preFail_only _ _ _) rfl ?_
              exact Only.refl _ _
        · exact Only.refl _ _

theorem protectedSramStore_only (x0 : Nat) (s : Dev) :
    Only [.regs, .freeCtr, .busErr] s (protectedSramStore x0 s) := by
  unfold protectedSramStore
  try dsimp only [takeBit, takeWord, takeNat]
  refine Only.ite_else ?_ ?_
  · exact Only.refl _ _
  · refine Only.then (barredStore_only _ _ _) rfl ?_
    refine Only.upd_freeCtr rfl ?_
    exact Only.refl _ _

theorem pwrCtrlHibReq_only (x0 : Nat) (s : Dev) :
    Only [.dev, .regs, .mem, .win, .parCfg, .parNow, .tb, .piste, .rings, .acq, .est, .chg, .lim, .thm, .strs, .bus, .saf, .exe, .host, .cl, .can, .cnt, .log, .pwr, .inForce, .uptimeMs, .actor, .busErr, .readVal, .posts] s (pwrCtrlHibReq x0 s) := by
  unfold pwrCtrlHibReq
  try dsimp only
  refine Only.ite ?_ ?_
  · refine Only.then (busErrorTo_only _ _) rfl ?_
    exact Only.refl _ _
  · refine Only.ite_else ?_ ?_
    · exact Only.refl _ _
    · refine Only.then (enterHibernate_only _) rfl ?_
      exact Only.refl _ _

theorem restart_only (s : Dev) (x1 x2 x3 : Nat) :
    Only [.dev, .regs, .mem, .win, .parCfg, .parNow, .tb, .piste, .rings, .acq, .est, .chg, .lim, .thm, .strs, .bus, .saf, .exe, .host, .cl, .can, .cnt, .log, .pwr, .inForce, .uptimeMs, .actor, .busErr, .readVal, .posts] s (restart s x1 x2 x3) := by
  unfold restart
  try dsimp only
  refine Only.then (bootRun_only _ _ _ _) rfl ?_
  refine Only.then (logClose_only _ _) rfl ?_
  refine Only.then (endNow_only _) rfl ?_
  exact Only.refl _ _

theorem pwrCtrlRestart_only (x0 x1 x2 : Nat) (s : Dev) :
    Only [.dev, .regs, .mem, .win, .parCfg, .parNow, .tb, .piste, .rings, .acq, .est, .chg, .lim, .thm, .strs, .bus, .saf, .exe, .host, .cl, .can, .cnt, .log, .pwr, .inForce, .uptimeMs, .actor, .busErr, .readVal, .posts] s (pwrCtrlRestart x0 x1 x2 s) := by
  unfold pwrCtrlRestart
  try dsimp only
  refine Only.ite ?_ ?_
  · refine Only.then (busErrorTo_only _ _) rfl ?_
    exact Only.refl _ _
  · refine Only.ite_else ?_ ?_
    · exact Only.refl _ _
    · refine Only.then (restart_only _ _ _ _) rfl ?_
      exact Only.refl _ _

theorem winWrite_only (s : Dev) (x1 : Nat) (x2 x3 : U32) :
    Only [.regs, .win, .exe, .host, .cl, .cnt, .log, .inForce] s (winWrite s x1 x2 x3) := by
  unfold winWrite
  try dsimp only
  refine Only.ite ?_ ?_
  · refine Only.then (wr_only _ _ _) rfl ?_
    exact Only.refl _ _
  · refine Only.ite ?_ ?_
    · refine Only.then (wr_only _ _ _) rfl ?_
      exact Only.refl _ _
    · refine Only.ite ?_ ?_
      · refine Only.then (hpCmdWpWrite_only _ _) rfl ?_
        exact Only.refl _ _
      · refine Only.ite ?_ ?_
        · refine Only.then (hpRplRpWrite_only _ _) rfl ?_
          exact Only.refl _ _
        · refine Only.ite_else ?_ ?_
          · exact Only.refl _ _
          · refine Only.upd_win rfl (Memory.wf_writeBytes _ _ _) ?_
            exact Only.refl _ _

theorem qspiBytes_only (s : Dev) (x1 : Nat) (x2 : List U8) (x3 : U32) :
    Only [.regs, .win, .exe, .host, .cl, .cnt, .log, .inForce] s (qspiBytes s x1 x2 x3) := by
  unfold qspiBytes
  try dsimp only
  refine Only.ite_then ?_ ?_
  · exact Only.refl _ _
  · refine Only.forL ?_ ?_
    · exact Only.refl _ _
    · intro u x
      try dsimp only
      refine Only.then (winWrite_only _ _ _ _) rfl ?_
      exact Only.refl _ _

theorem qspiRead_only (s : Dev) (x1 x2 : Nat) :
    Only [.regs, .host] s (qspiRead s x1 x2) := by
  unfold qspiRead
  try dsimp only
  refine Only.ite_then ?_ ?_
  · exact Only.refl _ _
  · refine Only.ite_else ?_ ?_
    · refine Only.upd_host rfl ?_
      refine Only.then (syncHp_only _) rfl ?_
      exact Only.refl _ _
    · refine Only.then (wr_only _ _ _) rfl ?_
      exact Only.refl _ _

theorem qspiFastRead_only (x0 : BitVec 24) (x1 : Nat) (s : Dev) :
    Only [.regs, .host] s (qspiFastRead x0 x1 s) := by
  unfold qspiFastRead
  try dsimp only
  refine Only.then (qspiRead_only _ _ _) rfl ?_
  exact Only.refl _ _

theorem qspiQuadIoRead_only (x0 : BitVec 24) (x1 : Nat) (s : Dev) :
    Only [.regs, .host] s (qspiQuadIoRead x0 x1 s) := by
  unfold qspiQuadIoRead
  try dsimp only
  refine Only.then (qspiRead_only _ _ _) rfl ?_
  exact Only.refl _ _

theorem qspiQuadIoWrite_only (x0 : BitVec 24) (x1 : HostWrite) (s : Dev) :
    Only [.regs, .win, .exe, .host, .cl, .cnt, .log, .inForce] s (qspiQuadIoWrite x0 x1 s) := by
  unfold qspiQuadIoWrite
  try dsimp only
  refine Only.then (qspiBytes_only _ _ _ _) rfl ?_
  exact Only.refl _ _

theorem qspiReadStatusByte_only (s : Dev) :
    Only [.host] s (qspiReadStatusByte s) := by
  unfold qspiReadStatusByte
  try dsimp only
  refine Only.ite_then ?_ ?_
  · exact Only.refl _ _
  · refine Only.upd_host rfl ?_
    exact Only.refl _ _

theorem qspiWrite_only (x0 : BitVec 24) (x1 : HostWrite) (s : Dev) :
    Only [.regs, .win, .exe, .host, .cl, .cnt, .log, .inForce] s (qspiWrite x0 x1 s) := by
  unfold qspiWrite
  try dsimp only
  refine Only.then (qspiBytes_only _ _ _ _) rfl ?_
  exact Only.refl _ _

theorem quietWindowComplete_only (x0 : Nat) (s : Dev) :
    Only [.mem, .est, .chg, .exe, .log, .inForce] s (quietWindowComplete x0 s) := by
  unfold quietWindowComplete
  try dsimp only
  refine Only.ite_then ?_ ?_
  · exact Only.refl _ _
  · refine Only.then (post_only _ _ _ _) rfl ?_
    refine Only.then (setConf_only _ _ _) rfl ?_
    refine Only.then (reAnchor_only _ _) rfl ?_
    refine Only.then (confRef_only _ _ _ _) rfl ?_
    exact Only.refl _ _

theorem rampTimeout_only (s : Dev) :
    Only [.strs, .saf, .exe] s (rampTimeout s) := by
  unfold rampTimeout
  try dsimp only
  refine Only.ite_else ?_ ?_
  · exact Only.refl _ _
  · refine Only.then (routeStart_only _) rfl ?_
    exact Only.refl _ _

theorem readEffect_only (x0 x1 : Nat) (s : Dev) :
    Only [.dev, .regs, .acq, .lim, .strs, .saf, .exe, .can, .cnt, .log, .pwr, .inForce, .freeCtr, .readVal] s (readEffect x0 x1 s) := by
  unfold readEffect
  try dsimp only [takeBit, takeWord, takeNat]
  refine Only.ite ?_ ?_
  · refine Only.then (angleTake_only _ _) rfl ?_
    exact Only.refl _ _
  · refine Only.ite ?_ ?_
    · refine Only.then (scrEvtTake_only _) rfl ?_
      exact Only.refl _ _
    · refine Only.ite ?_ ?_
      · refine Only.then (wr_only _ _ _) rfl ?_
        refine Only.upd_freeCtr_readVal rfl ?_
        exact Only.refl _ _
      · refine Only.ite ?_ ?_
        · refine Only.then (cntTake_only _ _ _) rfl ?_
          exact Only.refl _ _
        · refine Only.upd_readVal rfl ?_
          exact Only.refl _ _

theorem readTake_only (x0 x1 : Nat) (x2 : Bool) (x3 : U32) (s : Dev) :
    Only [.dev, .regs, .acq, .lim, .thm, .strs, .saf, .exe, .can, .cnt, .log, .pwr, .inForce, .freeCtr, .readVal] s (readTake x0 x1 x2 x3 s) := by
  unfold readTake
  try dsimp only
  refine Only.ite ?_ ?_
  · refine Only.then (readEffect_only _ _ _) rfl ?_
    exact Only.refl _ _
  · refine Only.ite_else ?_ ?_
    · refine Only.ite ?_ ?_
      · refine Only.upd_thm_readVal rfl ?_
        exact Only.refl _ _
      · refine Only.upd_readVal rfl ?_
        exact Only.refl _ _
    · refine Only.then (wr_only _ _ _) rfl ?_
      exact Only.refl _ _

theorem readClearRegister_only (x0 : Nat) (x1 : RegRead) (s : Dev) :
    Only [.dev, .regs, .acq, .lim, .thm, .strs, .saf, .exe, .can, .cnt, .log, .pwr, .inForce, .freeCtr, .busErr, .readVal] s (readClearRegister x0 x1 s) := by
  unfold readClearRegister
  try dsimp only
  refine Only.ite ?_ ?_
  · exact Only.refl _ _
  · refine Only.ite ?_ ?_
    · refine Only.then (logInput_only _ _ _ _) rfl ?_
      refine Only.then (busErrorTo_only _ _) rfl ?_
      exact Only.refl _ _
    · split
      · refine Only.ite_else ?_ ?_
        · exact Only.refl _ _
        · refine Only.then (logInput_only _ _ _ _) rfl ?_
          refine Only.upd_readVal rfl ?_
          exact Only.refl _ _
      · refine Only.then (logInput_only _ _ _ _) rfl ?_
        refine Only.then (readTake_only _ _ _ _ _) rfl ?_
        exact Only.refl _ _

theorem reassemblyTimeout_only (x0 x1 x2 : Nat) (s : Dev) :
    Only [.regs, .host, .cl, .log] s (reassemblyTimeout x0 x1 x2 s) := by
  unfold reassemblyTimeout
  try dsimp only
  split
  · refine Only.upd_host rfl ?_
    exact Only.refl _ _
  · refine Only.then (clFrameErr_only _ _) rfl ?_
    refine Only.then (dropReasm_only _ _ _ _) rfl ?_
    refine Only.upd_host rfl ?_
    exact Only.refl _ _

theorem recoveryLost_only (s : Dev) (x1 : Nat) (x2 : Bool) :
    Only [.dev, .regs, .lim, .strs, .bus, .saf, .exe, .can, .log, .pwr, .inForce] s (recoveryLost s x1 x2) := by
  unfold recoveryLost
  try dsimp only
  refine Only.then (pairLost_only _ _) rfl ?_
  refine Only.ite_else ?_ ?_
  · refine Only.then (setOutcome_only _ _ _ _) rfl ?_
    exact Only.refl _ _
  · refine Only.then (post_only _ _ _ _) rfl ?_
    exact Only.refl _ _

theorem recoveryTimeout_only (x0 : Nat) (s : Dev) :
    Only [.dev, .regs, .lim, .strs, .bus, .saf, .exe, .can, .log, .pwr, .inForce] s (recoveryTimeout x0 s) := by
  unfold recoveryTimeout
  try dsimp only
  refine Only.ite_then ?_ ?_
  · exact Only.refl _ _
  · refine Only.then (recoveryLost_only _ _ _) rfl ?_
    exact Only.refl _ _

theorem recoveryVote_only (x0 : Nat) (x1 x2 x3 : List Retired) (x4 : RunEnd) (s : Dev) :
    Only [.dev, .regs, .mem, .win, .rings, .acq, .est, .lim, .strs, .bus, .saf, .exe, .host, .cl, .can, .cnt, .log, .pwr, .inForce, .actor, .freeCtr, .busErr] s (recoveryVote x0 x1 x2 x3 x4 s) := by
  unfold recoveryVote
  try dsimp only
  refine Only.ite ?_ ?_
  · exact Only.refl _ _
  · split
    · refine Only.then (recoveryLost_only _ _ _) rfl ?_
      exact Only.refl _ _
    · apply Only.via
      · apply Only.then (recoveryLost_only _ _ _) rfl
        exact Only.refl _ _
      · refine Only.ite ?_ ?_
        · refine Only.then (comparePath_only _ _ _ _) rfl ?_
          refine Only.ite_then ?_ ?_
          · exact Only.refl _ _
          · refine Only.then (testCore_only _ _ _ _ _) rfl ?_
            refine Only.upd_exe rfl ?_
            exact Only.refl _ _
        · refine Only.ite ?_ ?_
          · refine Only.then (outvote_only _ _ _ _ _ _) rfl ?_
            exact Only.refl _ _
          · refine Only.ite ?_ ?_
            · refine Only.then (outvote_only _ _ _ _ _ _) rfl ?_
              exact Only.refl _ _
            · refine Only.then (recoveryLost_only _ _ _) rfl ?_
              exact Only.refl _ _
      · refine Only.then (retired_only _ _ _) rfl ?_
        refine Only.then (retired_only _ _ _) rfl ?_
        refine Only.then (retired_only _ _ _) rfl ?_
        exact Only.refl _ _

theorem reduceCollection_only (s : Dev) :
    Only [.lim, .exe, .cl, .can, .log, .inForce, .freeCtr] s (reduceCollection s) := by
  unfold reduceCollection
  try dsimp only
  refine Only.ite ?_ ?_
  · exact Only.refl _ _
  · refine Only.ite ?_ ?_
    · refine Only.then (sendCycle_only _ _ _) rfl ?_
      refine Only.then (clNotice_only _ _ _) rfl ?_
      refine Only.then (clNotice_only _ _ _) rfl ?_
      refine Only.then (emit_only _ _ _) rfl ?_
      refine Only.then (emit_only _ _ _) rfl ?_
      refine Only.forN ?_ ?_
      · refine Only.then (track_only _ _ _ _ _ _ _) rfl ?_
        refine Only.upd_cl rfl ?_
        exact Only.refl _ _
      · intro u x
        try dsimp only
        refine Only.then (track_only _ _ _ _ _ _ _) rfl ?_
        exact Only.refl _ _
    · refine Only.then (emit_only _ _ _) rfl ?_
      refine Only.then (emit_only _ _ _) rfl ?_
      refine Only.forN ?_ ?_
      · refine Only.then (track_only _ _ _ _ _ _ _) rfl ?_
        refine Only.upd_cl rfl ?_
        exact Only.refl _ _
      · intro u x
        try dsimp only
        refine Only.then (track_only _ _ _ _ _ _ _) rfl ?_
        exact Only.refl _ _

theorem reduceContributionReceived_only (x0 : Nat) (x1 : List U32) (s : Dev) :
    Only [.cl] s (reduceContributionReceived x0 x1 s) := by
  unfold reduceContributionReceived
  try dsimp only
  refine Only.ite_then ?_ ?_
  · exact Only.refl _ _
  · refine Only.upd_cl rfl ?_
    exact Only.refl _ _

theorem reduceResultReceived_only (x0 : Nat) (x1 : List U32) (s : Dev) :
    Only [.cl] s (reduceResultReceived x0 x1 s) := by
  unfold reduceResultReceived
  try dsimp only
  refine Only.ite_then ?_ ?_
  · exact Only.refl _ _
  · refine Only.upd_cl rfl ?_
    exact Only.refl _ _

theorem regTake_only (x0 : Nat) (s : Dev) (x2 : Nat) (x3 x4 : U32) :
    Only [.dev, .regs, .mem, .rings, .acq, .lim, .strs, .bus, .saf, .exe, .host, .can, .log, .pwr, .inForce, .busErr] s (regTake x0 s x2 x3 x4) := by
  unfold regTake
  try dsimp only
  split
  · refine Only.then (canRegWrite_only _ _ _ _) rfl ?_
    exact Only.refl _ _
  · refine Only.ite ?_ ?_
    · refine Only.then (wrB_only _ _ _ _) rfl ?_
      exact Only.refl _ _
    · refine Only.ite ?_ ?_
      · refine Only.ite ?_ ?_
        · refine Only.then (busErrorTo_only _ _) rfl ?_
          exact Only.refl _ _
        · refine Only.ite_then ?_ ?_
          · exact Only.refl _ _
          · refine Only.then (wr_only _ _ _) rfl ?_
            exact Only.refl _ _
      · refine Only.ite ?_ ?_
        · refine Only.ite_else ?_ ?_
          · refine Only.then (wr_only _ _ _) rfl ?_
            exact Only.refl _ _
          · refine Only.then (ringOff_only _ _) rfl ?_
            exact Only.refl _ _
        · refine Only.ite ?_ ?_
          · refine Only.ite_else ?_ ?_
            · refine Only.then (wr_only _ _ _) rfl ?_
              exact Only.refl _ _
            · refine Only.upd_acq rfl ?_
              exact Only.refl _ _
          · refine Only.ite ?_ ?_
            · refine Only.then (sinJudge_only _ _) rfl ?_
              refine Only.then (wr_only _ _ _) rfl ?_
              exact Only.refl _ _
            · refine Only.ite ?_ ?_
              · refine Only.then (exeCtrlWrite_only _ _) rfl ?_
                exact Only.refl _ _
              · refine Only.ite ?_ ?_
                · refine Only.then (feedWrite_only _ _) rfl ?_
                  exact Only.refl _ _
                · refine Only.then (wr_only _ _ _) rfl ?_
                  exact Only.refl _ _

theorem registerWrite_only (x0 x1 : Nat) (x2 : RegWrite) (s : Dev) :
    Only [.dev, .regs, .mem, .rings, .acq, .lim, .strs, .bus, .saf, .exe, .host, .can, .log, .pwr, .inForce, .busErr] s (registerWrite x0 x1 x2 s) := by
  unfold registerWrite
  try dsimp only
  split
  · refine Only.ite_then ?_ ?_
    · exact Only.refl _ _
    · refine Only.ite ?_ ?_
      · refine Only.then (busErrorTo_only _ _) rfl ?_
        exact Only.refl _ _
      · refine Only.then (canRamWrite_only _ _ _ _) rfl ?_
        exact Only.refl _ _
  · refine Only.ite_then ?_ ?_
    · exact Only.refl _ _
    · refine Only.ite ?_ ?_
      · refine Only.then (busErrorTo_only _ _) rfl ?_
        exact Only.refl _ _
      · refine Only.then (regTake_only _ _ _ _ _) rfl ?_
        exact Only.refl _ _

theorem relaxStep_only (s : Dev) (x1 : Nat) (x2 : Bool) :
    Only [.mem, .thm, .log] s (relaxStep s x1 x2) := by
  unfold relaxStep
  try dsimp only
  refine Only.then (thmFlags_only _ _ _) rfl ?_
  refine Only.then (setThm_only _ _ _) rfl ?_
  refine Only.then (post_only _ _ _ _) rfl ?_
  refine Only.then (st8_only _ _ _) rfl ?_
  exact Only.refl _ _

theorem resetNChange_only (x0 : Bool) (s : Dev) :
    Only [.dev, .regs, .mem, .win, .parCfg, .parNow, .tb, .piste, .rings, .acq, .est, .chg, .lim, .thm, .strs, .bus, .saf, .exe, .host, .cl, .can, .cnt, .log, .pwr, .inForce, .uptimeMs, .actor, .freeCtr, .busErr, .readVal, .posts] s (resetNChange x0 s) := by
  unfold resetNChange
  try dsimp only
  refine Only.ite ?_ ?_
  · refine Only.upd_pwr rfl ?_
    exact Only.refl _ _
  · refine Only.upd_pwr rfl ?_
    refine Only.then (enterOff_only _ _) rfl ?_
    refine Only.then (tearTxn_only _) rfl ?_
    exact Only.refl _ _

theorem respTaken_only (s : Dev) (x1 : Nat) (x2 : Exch) (x3 : Nat) (x4 : List U8) :
    Only [.dev, .regs, .rings, .lim, .strs, .saf, .exe, .host, .log, .pwr, .inForce, .actor] s (respTaken s x1 x2 x3 x4) := by
  unfold respTaken
  try dsimp only
  refine Only.ite ?_ ?_
  · apply Only.via
    · apply Only.then (exchFail_only _ _ _ _) rfl
      exact Only.refl _ _
    · refine Only.then (setRing_only _ _ _) rfl ?_
      refine Only.then (sendEnum_only _ _ _ _ _) rfl ?_
      exact Only.refl _ _
    · refine Only.then (note_only _ _ _ _) rfl ?_
      exact Only.refl _ _
  · split
    · refine Only.ite ?_ ?_
      · refine Only.then (exchFail_only _ _ _ _) rfl ?_
        exact Only.refl _ _
      · apply Only.via
        · apply Only.then (contactorSet_only _ _ _) rfl
          exact Only.refl _ _
        · refine Only.then (contactorRead_only _ _ _) rfl ?_
          exact Only.refl _ _
        · refine Only.then (setRing_only _ _ _) rfl ?_
          exact Only.refl _ _
    · split
      · refine Only.then (setRing_only _ _ _) rfl ?_
        exact Only.refl _ _
      · apply Only.via
        · apply Only.then (finish_only _ _ _ _ _) rfl
          exact Only.refl _ _
        · refine Only.then (finish_only _ _ _ _ _) rfl ?_
          exact Only.refl _ _
        · refine Only.then (setRing_only _ _ _) rfl ?_
          exact Only.refl _ _
    · refine Only.ite ?_ ?_
      · refine Only.then (configDone_only _ _ _) rfl ?_
        refine Only.then (setRing_only _ _ _) rfl ?_
        exact Only.refl _ _
      · refine Only.then (exchFail_only _ _ _ _) rfl ?_
        exact Only.refl _ _

theorem respReceived_only (x0 : Nat) (x1 : List U8) (s : Dev) :
    Only [.dev, .regs, .rings, .lim, .strs, .saf, .exe, .host, .cnt, .log, .pwr, .inForce, .actor] s (respReceived x0 x1 s) := by
  unfold respReceived
  try dsimp only
  split
  · refine Only.ite_then ?_ ?_
    · refine Only.ite_else ?_ ?_
      · refine Only.then (ringBytes_only _ _ _) rfl ?_
        exact Only.refl _ _
      · refine Only.then (ringGot_only _ _) rfl ?_
        exact Only.refl _ _
    · refine Only.then (frameErr_only _ _) rfl ?_
      exact Only.refl _ _
  · apply Only.via
    · apply Only.ite_then
      · exact Only.refl _ _
      · apply Only.then (frameErr_only _ _) rfl
        exact Only.refl _ _
    · refine Only.ite ?_ ?_
      · refine Only.then (exchRetry_only _ _ _) rfl ?_
        refine Only.then (frameErr_only _ _) rfl ?_
        exact Only.refl _ _
      · refine Only.ite ?_ ?_
        · refine Only.ite ?_ ?_
          · refine Only.then (exchRetry_only _ _ _) rfl ?_
            refine Only.then (frameErr_only _ _) rfl ?_
            exact Only.refl _ _
          · refine Only.then (respTaken_only _ _ _ _ _) rfl ?_
            exact Only.refl _ _
        · refine Only.then (exchRetry_only _ _ _) rfl ?_
          exact Only.refl _ _
    · refine Only.ite_else ?_ ?_
      · refine Only.then (ringBytes_only _ _ _) rfl ?_
        exact Only.refl _ _
      · refine Only.then (ringGot_only _ _) rfl ?_
        exact Only.refl _ _

theorem retGoWrite_only (x0 : Nat) (x1 : U32) (s : Dev) :
    Only [.regs, .mem, .pwr, .busErr] s (retGoWrite x0 x1 s) := by
  unfold retGoWrite
  try dsimp only
  refine Only.ite ?_ ?_
  · refine Only.then (busErrorTo_only _ _) rfl ?_
    exact Only.refl _ _
  · refine Only.then (retGo_only _ _) rfl ?_
    exact Only.refl _ _

theorem retainedSaveBody_only (x0 : HostCmd) (s : Dev) :
    Only [.mem, .exe, .pwr] s (retainedSaveBody x0 s) := by
  unfold retainedSaveBody
  try dsimp only
  refine Only.then (pumpTxns_only _) rfl ?_
  refine Only.upd_pwr rfl ?_
  exact Only.refl _ _

theorem retainedSave_only (x0 : HostCmd) (s : Dev) :
    Only [.mem, .exe, .host, .pwr, .actor] s (retainedSave x0 s) := by
  unfold retainedSave
  try dsimp only
  refine serve_only rfl ?_
  intro u
  refine Only.then (retainedSaveBody_only _ _) rfl ?_
  exact Only.refl _ _

theorem txnFollow_only (s : Dev) (x1 : Option RetFor) (x2 : U32) :
    Only [.dev, .regs, .mem, .parCfg, .parNow, .piste, .acq, .est, .chg, .lim, .thm, .strs, .bus, .saf, .exe, .host, .cl, .can, .log, .pwr, .inForce] s (txnFollow s x1 x2) := by
  unfold txnFollow
  try dsimp only
  split
  · refine Only.forL ?_ ?_
    · refine Only.upd_pwr rfl ?_
      exact Only.refl _ _
    · intro u x
      try dsimp only
      refine Only.then (finish_only _ _ _ _ _) rfl ?_
      exact Only.refl _ _
  · split
    · refine Only.then (commitDone_only _ _) rfl ?_
      exact Only.refl _ _
    · exact Only.refl _ _
  · refine Only.then (masterDone_only _ _) rfl ?_
    exact Only.refl _ _
  · exact Only.refl _ _

theorem retainedTransactionDone_only (s : Dev) :
    Only [.dev, .regs, .mem, .parCfg, .parNow, .piste, .acq, .est, .chg, .lim, .thm, .strs, .bus, .saf, .exe, .host, .cl, .can, .log, .pwr, .inForce, .posts] s (retainedTransactionDone s) := by
  unfold retainedTransactionDone
  try dsimp only
  split
  · exact Only.refl _ _
  · refine Only.ite_else ?_ ?_
    · refine Only.then (txnEnd_only _ _) rfl ?_
      exact Only.refl _ _
    · refine Only.then (hibAdvance_only _) rfl ?_
      refine Only.then (pumpTxns_only _) rfl ?_
      refine Only.then (txnFollow_only _ _ _) rfl ?_
      exact Only.refl _ _

theorem retryCompare_only (x0 : Nat) (x1 x2 : List Retired) (x3 : RunEnd) (s : Dev) :
    Only [.dev, .regs, .mem, .win, .rings, .acq, .est, .lim, .strs, .bus, .saf, .exe, .host, .cl, .can, .cnt, .log, .pwr, .inForce, .actor, .freeCtr, .busErr] s (retryCompare x0 x1 x2 x3 s) := by
  unfold retryCompare
  try dsimp only
  refine Only.ite_then ?_ ?_
  · exact Only.refl _ _
  · apply Only.via
    · apply Only.then (goOn_only _ _ _ _) rfl
      apply Only.ite_then
      · apply Only.then (note_only _ _ _ _) rfl
        exact Only.refl _ _
      · apply Only.then (setOutcome_only _ _ _ _) rfl
        exact Only.refl _ _
    · apply Only.via
      · apply Only.then (setPair_only _ _ _) rfl
        apply Only.then (loadSpare_only _ _) rfl
        apply Only.then (setCores_only _ _ _) rfl
        exact Only.refl _ _
      · refine Only.then (recoveryLost_only _ _ _) rfl ?_
        exact Only.refl _ _
      · refine Only.then (countMismatch_only _ _) rfl ?_
        exact Only.refl _ _
    · refine Only.then (retired_only _ _ _) rfl ?_
      refine Only.then (retired_only _ _ _) rfl ?_
      exact Only.refl _ _

theorem ringCmdTimeout_only (x0 : Nat) (s : Dev) :
    Only [.dev, .regs, .rings, .strs, .saf, .exe, .host, .log, .pwr, .inForce] s (ringCmdTimeout x0 s) := by
  unfold ringCmdTimeout
  try dsimp only
  split
  · exact Only.refl _ _
  · refine Only.ite_then ?_ ?_
    · exact Only.refl _ _
    · refine Only.then (exchRetry_only _ _ _) rfl ?_
      refine Only.then (setRing_only _ _ _) rfl ?_
      refine Only.then (bumpReg_only _ _ _) rfl ?_
      exact Only.refl _ _

theorem ringEnumerateBody_only (x0 : HostCmd) (s : Dev) :
    Only [.dev, .regs, .rings, .strs, .saf, .exe, .host, .log, .pwr, .inForce] s (ringEnumerateBody x0 s) := by
  unfold ringEnumerateBody
  try dsimp only
  refine Only.ite ?_ ?_
  · refine Only.then (answer_only _ _ _ _) rfl ?_
    exact Only.refl _ _
  · refine Only.ite ?_ ?_
    · refine Only.then (answer_only _ _ _ _) rfl ?_
      exact Only.refl _ _
    · refine Only.ite_else ?_ ?_
      · refine Only.upd_host rfl ?_
        refine Only.forL ?_ ?_
        · exact Only.refl _ _
        · intro u x
          try dsimp only
          refine Only.ite_else ?_ ?_
          · exact Only.refl _ _
          · refine Only.then (enumStart_only _ _) rfl ?_
            exact Only.refl _ _
      · refine Only.then (enumAnswers_only _) rfl ?_
        exact Only.refl _ _

theorem ringEnumerate_only (x0 : HostCmd) (s : Dev) :
    Only [.dev, .regs, .rings, .strs, .saf, .exe, .host, .log, .pwr, .inForce, .actor] s (ringEnumerate x0 s) := by
  unfold ringEnumerate
  try dsimp only
  refine serve_only rfl ?_
  intro u
  refine Only.then (ringEnumerateBody_only _ _) rfl ?_
  exact Only.refl _ _

theorem ringEnumerateRequest_only (x0 : Nat) (s : Dev) :
    Only [.dev, .regs, .rings, .strs, .saf, .exe, .host, .log, .pwr, .inForce, .busErr] s (ringEnumerateRequest x0 s) := by
  unfold ringEnumerateRequest
  try dsimp only
  refine Only.ite ?_ ?_
  · refine Only.then (busErrorTo_only _ _) rfl ?_
    exact Only.refl _ _
  · refine Only.ite_then ?_ ?_
    · exact Only.refl _ _
    · apply Only.via
      · apply Only.then (enumStart_only _ _) rfl
        exact Only.refl _ _
      · refine Only.then (wrB_only _ _ _ _) rfl ?_
        exact Only.refl _ _
      · refine Only.then (wrB_only _ _ _ _) rfl ?_
        exact Only.refl _ _

theorem ringFrameTransmit_only (x0 : Nat) (s : Dev) :
    Only [.dev, .regs, .rings, .strs, .saf, .exe, .host, .cnt, .log, .pwr, .inForce] s (ringFrameTransmit x0 s) := by
  unfold ringFrameTransmit
  try dsimp only
  refine Only.ite ?_ ?_
  · refine Only.then (linkTransmit_only _ _) rfl ?_
    exact Only.refl _ _
  · refine Only.ite ?_ ?_
    · exact Only.refl _ _
    · split
      · refine Only.ite_else ?_ ?_
        · exact Only.refl _ _
        · refine Only.then (resendExch_only _ _ _) rfl ?_
          exact Only.refl _ _
      · split
        · refine Only.then (startTx_only _ _ _) rfl ?_
          refine Only.then (setRing_only _ _ _) rfl ?_
          exact Only.refl _ _
        · refine Only.then (startTx_only _ _ _) rfl ?_
          refine Only.then (setRing_only _ _ _) rfl ?_
          exact Only.refl _ _
        · exact Only.refl _ _

theorem ringLeaveBody_only (x0 : HostCmd) (s : Dev) :
    Only [.regs, .rings, .exe, .host, .log, .inForce] s (ringLeaveBody x0 s) := by
  unfold ringLeaveBody
  try dsimp only
  refine Only.ite ?_ ?_
  · refine Only.then (answer_only _ _ _ _) rfl ?_
    exact Only.refl _ _
  · refine Only.ite ?_ ?_
    · refine Only.then (answer_only _ _ _ _) rfl ?_
      exact Only.refl _ _
    · refine Only.ite ?_ ?_
      · refine Only.then (answer_only _ _ _ _) rfl ?_
        exact Only.refl _ _
      · refine Only.ite ?_ ?_
        · refine Only.then (answer_only _ _ _ _) rfl ?_
          exact Only.refl _ _
        · refine Only.ite_then ?_ ?_
          · exact Only.refl _ _
          · refine Only.then (answer_only _ _ _ _) rfl ?_
            refine Only.then (nodeLeave_only _ _ _) rfl ?_
            exact Only.refl _ _

theorem ringLeave_only (x0 : HostCmd) (s : Dev) :
    Only [.regs, .rings, .exe, .host, .log, .inForce, .actor] s (ringLeave x0 s) := by
  unfold ringLeave
  try dsimp only
  refine serve_only rfl ?_
  intro u
  refine Only.then (ringLeaveBody_only _ _) rfl ?_
  exact Only.refl _ _

theorem ringStatusBody_only (x0 : HostCmd) (s : Dev) :
    Only [.exe, .host] s (ringStatusBody x0 s) := by
  unfold ringStatusBody
  try dsimp only
  refine Only.then (serveRange_only _ _ _ _ _ _ _) rfl ?_
  exact Only.refl _ _

theorem ringStatusGet_only (x0 : HostCmd) (s : Dev) :
    Only [.exe, .host, .actor] s (ringStatusGet x0 s) := by
  unfold ringStatusGet
  try dsimp only
  refine serve_only rfl ?_
  intro u
  refine Only.then (ringStatusBody_only _ _) rfl ?_
  exact Only.refl _ _

theorem rotationEval_only (s : Dev) (x1 x2 : Nat) :
    Only [.regs, .tb, .log, .inForce] s (rotationEval s x1 x2) := by
  unfold rotationEval
  try dsimp only
  refine Only.then (track_only _ _ _ _ _ _ _) rfl ?_
  refine Only.then (wrB_only _ _ _ _) rfl ?_
  refine Only.upd_tb rfl ?_
  exact Only.refl _ _

theorem safCtrlSafe_only (x0 x1 : Nat) (s : Dev) :
    Only [.dev, .regs, .strs, .bus, .saf, .exe, .log, .pwr, .inForce, .busErr] s (safCtrlSafe x0 x1 s) := by
  unfold safCtrlSafe
  try dsimp only
  refine Only.ite ?_ ?_
  · refine Only.then (busErrorTo_only _ _) rfl ?_
    exact Only.refl _ _
  · refine Only.then (setLatch_only _ _) rfl ?_
    exact Only.refl _ _

theorem safResetWrite_only (x0 : Nat) (x1 : U32) (s : Dev) :
    Only [.regs, .strs, .bus, .saf, .exe, .log, .inForce, .busErr] s (safResetWrite x0 x1 s) := by
  unfold safResetWrite
  try dsimp only
  refine Only.ite ?_ ?_
  · refine Only.then (busErrorTo_only _ _) rfl ?_
    exact Only.refl _ _
  · refine Only.then (safResetTake_only _ _) rfl ?_
    exact Only.refl _ _

theorem safRestartWrite_only (x0 : Nat) (x1 : U32) (s : Dev) :
    Only [.regs, .strs, .bus, .saf, .exe, .log, .inForce, .busErr] s (safRestartWrite x0 x1 s) := by
  unfold safRestartWrite
  try dsimp only
  refine Only.ite ?_ ?_
  · refine Only.then (busErrorTo_only _ _) rfl ?_
    exact Only.refl _ _
  · refine Only.then (restartInputs_only _ _) rfl ?_
    exact Only.refl _ _

theorem safSeoReqWrite_only (x0 x1 : Nat) (s : Dev) :
    Only [.regs, .strs, .bus, .saf, .exe, .log, .busErr] s (safSeoReqWrite x0 x1 s) := by
  unfold safSeoReqWrite
  try dsimp only
  refine Only.ite ?_ ?_
  · refine Only.then (busErrorTo_only _ _) rfl ?_
    exact Only.refl _ _
  · refine Only.then (seoRequest_only _ _) rfl ?_
    exact Only.refl _ _

theorem safWdogWrite_only (x0 x1 : Nat) (s : Dev) :
    Only [.regs, .saf, .busErr] s (safWdogWrite x0 x1 s) := by
  unfold safWdogWrite
  try dsimp only
  refine Only.ite ?_ ?_
  · refine Only.then (busErrorTo_only _ _) rfl ?_
    exact Only.refl _ _
  · refine Only.ite_else ?_ ?_
    · exact Only.refl _ _
    · refine Only.upd_saf rfl ?_
      exact Only.refl _ _

theorem safetyReadBody_only (x0 : HostCmd) (s : Dev) :
    Only [.exe, .host] s (safetyReadBody x0 s) := by
  unfold safetyReadBody
  try dsimp only
  refine Only.then (finish_only _ _ _ _ _) rfl ?_
  exact Only.refl _ _

theorem safetyRead_only (x0 : HostCmd) (s : Dev) :
    Only [.exe, .host, .actor] s (safetyRead x0 s) := by
  unfold safetyRead
  try dsimp only
  refine serve_only rfl ?_
  intro u
  refine Only.then (safetyReadBody_only _ _) rfl ?_
  exact Only.refl _ _

theorem settleF4_only (s : Dev) :
    Only [.inForce] s (settleF4 s) := by
  unfold settleF4
  try dsimp only
  refine Only.upd_inForce rfl ?_
  exact Only.refl _ _

theorem unlockStr_only (s : Dev) (x1 : Nat) :
    Only [.strs, .log, .pwr, .inForce] s (unlockStr s x1) := by
  unfold unlockStr
  try dsimp only
  refine Only.then (settleF4_only _) rfl ?_
  refine Only.then (saveSoon_only _) rfl ?_
  refine Only.forL ?_ ?_
  · refine Only.then (clearCond_only _ _ _ _ _) rfl ?_
    refine Only.then (post_only _ _ _ _) rfl ?_
    refine Only.then (setStr_only _ _ _) rfl ?_
    exact Only.refl _ _
  · intro u x
    try dsimp only
    refine Only.then (clearCond_only _ _ _ _ _) rfl ?_
    exact Only.refl _ _

theorem safetyResetBody_only (x0 : HostCmd) (s : Dev) :
    Only [.dev, .strs, .saf, .exe, .host, .log, .pwr, .inForce] s (safetyResetBody x0 s) := by
  unfold safetyResetBody
  try dsimp only
  refine Only.ite ?_ ?_
  · refine Only.then (finish_only _ _ _ _ _) rfl ?_
    exact Only.refl _ _
  · refine Only.then (finish_only _ _ _ _ _) rfl ?_
    refine Only.then (post_only _ _ _ _) rfl ?_
    refine Only.ite_else ?_ ?_
    · refine Only.forL ?_ ?_
      · refine Only.upd_saf_inForce rfl ?_
        refine Only.then (emit_only _ _ _) rfl ?_
        exact Only.refl _ _
      · intro u x
        try dsimp only
        refine Only.then (unlockStr_only _ _) rfl ?_
        exact Only.refl _ _
    · refine Only.then (setDev_only _ _ _ _) rfl ?_
      exact Only.refl _ _

theorem safetyReset_only (x0 : HostCmd) (s : Dev) :
    Only [.dev, .strs, .saf, .exe, .host, .log, .pwr, .inForce, .actor] s (safetyReset x0 s) := by
  unfold safetyReset
  try dsimp only
  refine serve_only rfl ?_
  intro u
  refine Only.then (safetyResetBody_only _ _) rfl ?_
  exact Only.refl _ _

theorem takeBit_only (s : Dev) :
    Only [.freeCtr] s (takeBit s).2 := by
  unfold takeBit
  try dsimp only
  refine Only.upd_freeCtr rfl ?_
  exact Only.refl _ _

theorem tickP2_only (s : Dev) :
    Only [.regs, .mem, .exe, .host, .log, .pwr, .inForce, .freeCtr, .posts] s (tickP2 s) := by
  unfold tickP2
  try dsimp only [takeBit, takeWord, takeNat]
  refine Only.ite_then ?_ ?_
  · exact Only.refl _ _
  · refine Only.then (hibAdvance_only _) rfl ?_
    refine Only.then (pumpTxns_only _) rfl ?_
    refine Only.then (eccReport_only _) rfl ?_
    refine Only.ite_else ?_ ?_
    · refine Only.upd_freeCtr rfl ?_
      exact Only.refl _ _
    · refine Only.then (emit_only _ _ _) rfl ?_
      exact Only.refl _ _

theorem tickP1_only (s : Dev) :
    Only [.acq, .exe] s (tickP1 s) := by
  unfold tickP1
  try dsimp only
  refine Only.ite_else ?_ ?_
  · exact Only.refl _ _
  · refine Only.then (balEnd_only _) rfl ?_
    exact Only.refl _ _

theorem tickP0_only (s : Dev) :
    Only [.dev, .regs, .strs, .saf, .exe, .log, .inForce] s (tickP0 s) := by
  unfold tickP0
  try dsimp only
  refine Only.ite_then ?_ ?_
  · exact Only.refl _ _
  · refine Only.then (deriveState_only _ _) rfl ?_
    refine Only.then (backupTick_only _) rfl ?_
    refine Only.then (busProgress_only _) rfl ?_
    refine Only.then (seoRequests_only _) rfl ?_
    refine Only.then (heartbeats_only _) rfl ?_
    refine Only.then (claimSync_only _) rfl ?_
    exact Only.refl _ _

theorem safetyTick_only (x0 : List (Nat × Int)) (s : Dev) :
    Only [.dev, .regs, .mem, .acq, .lim, .strs, .bus, .saf, .exe, .host, .cl, .can, .cnt, .log, .pwr, .inForce, .uptimeMs, .freeCtr, .posts] s (safetyTick x0 s) := by
  unfold safetyTick
  try dsimp only
  refine Only.ite_else ?_ ?_
  · refine Only.then (tickP2_only _) rfl ?_
    refine Only.then (canTick_only _) rfl ?_
    refine Only.then (tickP1_only _) rfl ?_
    refine Only.then (tickP0_only _) rfl ?_
    refine Only.then (drainPort_only _ _) rfl ?_
    refine Only.then (drainPort_only _ _) rfl ?_
    refine Only.then (syncStarts_only _) rfl ?_
    refine Only.then (directNow_only _ _) rfl ?_
    refine Only.ite_else ?_ ?_
    · refine Only.upd_uptimeMs rfl ?_
      exact Only.refl _ _
    · refine Only.then (wrN_only _ _ _) rfl ?_
      exact Only.refl _ _
  · refine Only.then (bootEnd_only _) rfl ?_
    exact Only.refl _ _

theorem screenDir_only (s : Dev) (x1 x2 x3 x4 : Nat) (x5 : Bool) :
    Only [.regs, .acq] s (screenDir s x1 x2 x3 x4 x5).2 := by
  unfold screenDir
  try dsimp only
  refine Only.ite_snd ?_ ?_
  · dsimp only
    exact Only.refl _ _
  · refine Only.ite_snd ?_ ?_
    · dsimp only
      refine Only.ite_else ?_ ?_
      · exact Only.refl _ _
      · refine Only.then (wrB_only _ _ _ _) rfl ?_
        exact Only.refl _ _
    · refine Only.ite_snd ?_ ?_
      · dsimp only
        refine Only.then (wrB_only _ _ _ _) rfl ?_
        refine Only.upd_acq rfl ?_
        refine Only.ite_else ?_ ?_
        · exact Only.refl _ _
        · refine Only.then (wrB_only _ _ _ _) rfl ?_
          exact Only.refl _ _
      · dsimp only
        refine Only.then (fifoSync_only _) rfl ?_
        refine Only.upd_acq rfl ?_
        refine Only.ite_else ?_ ?_
        · exact Only.refl _ _
        · refine Only.then (wrB_only _ _ _ _) rfl ?_
          exact Only.refl _ _

theorem scrubTick_only (x0 : Bool) (s : Dev) :
    Only [.regs, .exe, .log] s (scrubTick x0 s) := by
  unfold scrubTick
  try dsimp only
  refine Only.ite_then ?_ ?_
  · refine Only.upd_exe rfl ?_
    exact Only.refl _ _
  · refine Only.then (eccReport_only _) rfl ?_
    refine Only.upd_exe rfl ?_
    refine Only.then (countEv_only _ _ _ _) rfl ?_
    refine Only.then (bumpReg_only _ _ _) rfl ?_
    exact Only.refl _ _

theorem segErr_only (s : Dev) (x1 x2 : Nat) :
    Only [.regs, .rings] s (segErr s x1 x2) := by
  unfold segErr
  try dsimp only
  refine Only.then (setRing_only _ _ _) rfl ?_
  refine Only.then (countEv_only _ _ _ _) rfl ?_
  refine Only.then (bumpReg_only _ _ _) rfl ?_
  exact Only.refl _ _

theorem storeString_only (s : Dev) (x1 x2 x3 : Nat) (x4 x5 : Bool) (x6 : List U8) :
    Only [.mem] s (storeString s x1 x2 x3 x4 x5 x6) := by
  unfold storeString
  try dsimp only
  refine Only.then (stN_only _ _ _ _) rfl ?_
  exact Only.refl _ _

theorem storeCell_only (s : Dev) (x1 x2 x3 x4 : Nat) :
    Only [.regs, .mem, .acq] s (storeCell s x1 x2 x3 x4) := by
  unfold storeCell
  try dsimp only
  refine Only.then (st64_only _ _ _) rfl ?_
  refine Only.then (st64_only _ _ _) rfl ?_
  refine Only.ite_snd ?_ ?_
  · refine Only.then (screenDir_only _ _ _ _ _ _) rfl ?_
    refine Only.ite_snd ?_ ?_
    · refine Only.then (screenDir_only _ _ _ _ _ _) rfl ?_
      exact Only.refl _ _
    · dsimp only
      exact Only.refl _ _
  · dsimp only
    refine Only.ite_snd ?_ ?_
    · refine Only.then (screenDir_only _ _ _ _ _ _) rfl ?_
      exact Only.refl _ _
    · dsimp only
      exact Only.refl _ _

theorem storeMonitor_only (s : Dev) (x1 : Nat) (x2 x3 : U32) (x4 x5 : Nat) (x6 x7 : Bool) (x8 : List U8) :
    Only [.regs, .mem, .acq, .exe] s (storeMonitor s x1 x2 x3 x4 x5 x6 x7 x8) := by
  unfold storeMonitor
  try dsimp only
  refine Only.ite_else ?_ ?_
  · refine Only.forN ?_ ?_
    · exact Only.refl _ _
    · intro u x
      try dsimp only
      refine Only.then (storeCell_only _ _ _ _ _) rfl ?_
      exact Only.refl _ _
  · refine Only.forN ?_ ?_
    · refine Only.upd_exe rfl ?_
      refine Only.forN ?_ ?_
      · exact Only.refl _ _
      · intro u x
        try dsimp only
        refine Only.then (st32_only _ _ _) rfl ?_
        refine Only.upd_acq rfl ?_
        exact Only.refl _ _
    · intro u x
      try dsimp only
      refine Only.then (st16_only _ _ _) rfl ?_
      exact Only.refl _ _

theorem unitFresh_only (s : Dev) (x1 x2 x3 : Nat) :
    Only [.acq, .log, .inForce] s (unitFresh s x1 x2 x3) := by
  unfold unitFresh
  try dsimp only
  refine Only.then (staleSync_only _ _) rfl ?_
  refine Only.upd_acq rfl ?_
  exact Only.refl _ _

theorem segStore_only (s : Dev) (x1 x2 x3 x4 : Nat) (x5 : List U8) :
    Only [.regs, .mem, .rings, .acq, .exe, .log, .inForce] s (segStore s x1 x2 x3 x4 x5) := by
  unfold segStore
  try dsimp only
  refine Only.ite ?_ ?_
  · refine Only.then (segErr_only _ _ _) rfl ?_
    exact Only.refl _ _
  · refine Only.ite_then ?_ ?_
    · exact Only.refl _ _
    · refine Only.ite_then ?_ ?_
      · refine Only.ite_else ?_ ?_
        · refine Only.ite ?_ ?_
          · refine Only.then (storeString_only _ _ _ _ _ _ _) rfl ?_
            exact Only.refl _ _
          · refine Only.then (storeMonitor_only _ _ _ _ _ _ _ _ _) rfl ?_
            exact Only.refl _ _
        · refine Only.then (lateMarks_only _ _ _) rfl ?_
          exact Only.refl _ _
      · refine Only.then (unitFresh_only _ _ _ _) rfl ?_
        exact Only.refl _ _

theorem trainUndo_only (s : Dev) (x1 : Nat) (x2 : Bool) :
    Only [.mem, .rings, .acq, .log, .inForce] s (trainUndo s x1 x2) := by
  unfold trainUndo
  try dsimp only
  refine Only.then (setRing_only _ _ _) rfl ?_
  refine Only.forL ?_ ?_
  · refine Only.forL ?_ ?_
    · exact Only.refl _ _
    · intro u x
      try dsimp only
      refine Only.then (stBytes_only _ _ _) rfl ?_
      exact Only.refl _ _
  · intro u x
    try dsimp only
    refine Only.then (staleSync_only _ _) rfl ?_
    refine Only.upd_acq rfl ?_
    exact Only.refl _ _

theorem trainError_only (s : Dev) (x1 : Nat) (x2 : Bool) :
    Only [.regs, .mem, .rings, .acq, .log, .inForce] s (trainError s x1 x2) := by
  unfold trainError
  try dsimp only
  refine Only.then (endParse_only _ _ _) rfl ?_
  refine Only.then (frameErr_only _ _) rfl ?_
  refine Only.then (trainUndo_only _ _ _) rfl ?_
  exact Only.refl _ _

theorem undoNote_only (s : Dev) (x1 : Nat) (x2 : Bool) (x3 x4 x5 x6 : Nat) :
    Only [.rings] s (undoNote s x1 x2 x3 x4 x5 x6) := by
  unfold undoNote
  try dsimp only
  refine Only.then (setRing_only _ _ _) rfl ?_
  exact Only.refl _ _

theorem unitGot_only (s : Dev) (x1 x2 x3 : Nat) :
    Only [.rings, .log, .inForce] s (unitGot s x1 x2 x3) := by
  unfold unitGot
  try dsimp only
  refine Only.then (clearCond_only _ _ _ _ _) rfl ?_
  refine Only.then (setRing_only _ _ _) rfl ?_
  exact Only.refl _ _

theorem segTake_only (s : Dev) (x1 : Nat) (x2 : Bool) (x3 : List U8) :
    Only [.regs, .mem, .rings, .acq, .exe, .log, .inForce] s (segTake s x1 x2 x3) := by
  unfold segTake
  try dsimp only
  refine Only.ite ?_ ?_
  · refine Only.then (trainError_only _ _ _) rfl ?_
    exact Only.refl _ _
  · split
    · refine Only.then (endParse_only _ _ _) rfl ?_
      refine Only.then (segErr_only _ _ _) rfl ?_
      exact Only.refl _ _
    · apply Only.via
      · apply Only.then (segErr_only _ _ _) rfl
        exact Only.refl _ _
      · refine Only.ite ?_ ?_
        · refine Only.then (trainError_only _ _ _) rfl ?_
          exact Only.refl _ _
        · refine Only.then (segStore_only _ _ _ _ _ _) rfl ?_
          refine Only.then (unitGot_only _ _ _ _) rfl ?_
          refine Only.then (undoNote_only _ _ _ _ _ _ _) rfl ?_
          exact Only.refl _ _
      · refine Only.then (setRing_only _ _ _) rfl ?_
        exact Only.refl _ _

theorem trainEnd_only (s : Dev) (x1 : Nat) (x2 : Bool) :
    Only [.rings, .log, .inForce] s (trainEnd s x1 x2) := by
  unfold trainEnd
  try dsimp only
  refine Only.ite ?_ ?_
  · refine Only.then (setRing_only _ _ _) rfl ?_
    exact Only.refl _ _
  · refine Only.forL ?_ ?_
    · refine Only.then (setRing_only _ _ _) rfl ?_
      exact Only.refl _ _
    · intro u x
      try dsimp only
      refine Only.ite_else ?_ ?_
      · refine Only.then (setRing_only _ _ _) rfl ?_
        exact Only.refl _ _
      · refine Only.then (raise_only _ _ _ _ _) rfl ?_
        exact Only.refl _ _

theorem segmentReceived_only (x0 : Nat) (x1 : Bool) (x2 : TrainPart) (x3 : Bool) (s : Dev) :
    Only [.regs, .mem, .rings, .acq, .exe, .cnt, .log, .inForce] s (segmentReceived x0 x1 x2 x3 s) := by
  unfold segmentReceived
  try dsimp only
  refine Only.ite_then ?_ ?_
  · refine Only.ite_else ?_ ?_
    · refine Only.ite_else ?_ ?_
      · exact Only.refl _ _
      · refine Only.then (ringGot_only _ _) rfl ?_
        exact Only.refl _ _
    · refine Only.then (countBytes_only _ _ _) rfl ?_
      exact Only.refl _ _
  · refine Only.ite_else ?_ ?_
    · refine Only.ite_then ?_ ?_
      · exact Only.refl _ _
      · refine Only.ite ?_ ?_
        · refine Only.then (trainError_only _ _ _) rfl ?_
          exact Only.refl _ _
        · refine Only.ite_then ?_ ?_
          · exact Only.refl _ _
          · refine Only.then (segTake_only _ _ _ _) rfl ?_
            exact Only.refl _ _
    · refine Only.then (trainEnd_only _ _ _) rfl ?_
      exact Only.refl _ _

theorem sensorReadBody_only (x0 : HostCmd) (s : Dev) :
    Only [.exe, .host] s (sensorReadBody x0 s) := by
  unfold sensorReadBody
  try dsimp only
  refine Only.ite ?_ ?_
  · refine Only.then (answer_only _ _ _ _) rfl ?_
    exact Only.refl _ _
  · refine Only.ite ?_ ?_
    · refine Only.then (answer_only _ _ _ _) rfl ?_
      exact Only.refl _ _
    · refine Only.ite ?_ ?_
      · refine Only.then (answer_only _ _ _ _) rfl ?_
        exact Only.refl _ _
      · refine Only.then (finish_only _ _ _ _ _) rfl ?_
        exact Only.refl _ _

theorem sensorRead_only (x0 : HostCmd) (s : Dev) :
    Only [.exe, .host, .actor] s (sensorRead x0 s) := by
  unfold sensorRead
  try dsimp only
  refine serve_only rfl ?_
  intro u
  refine Only.then (sensorReadBody_only _ _) rfl ?_
  exact Only.refl _ _

theorem seoMismatch_only (s : Dev) (x1 : Nat) (x2 x3 x4 : Bool) :
    Only [.dev, .regs, .strs, .bus, .saf, .exe, .log, .pwr, .inForce] s (seoMismatch s x1 x2 x3 x4) := by
  unfold seoMismatch
  try dsimp only
  refine Only.then (wrB_only _ _ _ _) rfl ?_
  refine Only.then (react4_only _ _ _ _ _) rfl ?_
  refine Only.then (seoFollow_only _ _) rfl ?_
  refine Only.then (raise_only _ _ _ _ _) rfl ?_
  refine Only.ite_else ?_ ?_
  · refine Only.then (wrB_only _ _ _ _) rfl ?_
    refine Only.then (wrB_only _ _ _ _) rfl ?_
    exact Only.refl _ _
  · refine Only.forL ?_ ?_
    · exact Only.refl _ _
    · intro u x
      try dsimp only
      refine Only.then (setReact_only _ _ _ _ _) rfl ?_
      exact Only.refl _ _

theorem seoTestFail_only (s : Dev) (x1 : Nat) (x2 x3 x4 : Bool) :
    Only [.dev, .regs, .strs, .bus, .saf, .exe, .log, .pwr, .inForce] s (seoTestFail s x1 x2 x3 x4) := by
  unfold seoTestFail
  try dsimp only
  refine Only.then (seoMismatch_only _ _ _ _ _) rfl ?_
  refine Only.then (wrB_only _ _ _ _) rfl ?_
  refine Only.then (wrB_only _ _ _ _) rfl ?_
  refine Only.then (setSeo_only _ _ _) rfl ?_
  exact Only.refl _ _

theorem seoReadbackMismatch_only (x0 : Nat) (x1 x2 : Bool) (s : Dev) :
    Only [.dev, .regs, .strs, .bus, .saf, .exe, .log, .pwr, .inForce] s (seoReadbackMismatch x0 x1 x2 s) := by
  unfold seoReadbackMismatch
  try dsimp only
  refine Only.ite ?_ ?_
  · refine Only.then (wrB_only _ _ _ _) rfl ?_
    exact Only.refl _ _
  · refine Only.ite ?_ ?_
    · refine Only.then (seoTestFail_only _ _ _ _ _) rfl ?_
      exact Only.refl _ _
    · refine Only.then (seoMismatch_only _ _ _ _ _) rfl ?_
      exact Only.refl _ _

theorem seoTestPulse_only (x0 : Nat) (s : Dev) :
    Only [.regs, .saf] s (seoTestPulse x0 s) := by
  unfold seoTestPulse
  try dsimp only
  refine Only.ite_then ?_ ?_
  · exact Only.refl _ _
  · refine Only.then (wrB_only _ _ _ _) rfl ?_
    refine Only.then (wrB_only _ _ _ _) rfl ?_
    refine Only.then (setSeo_only _ _ _) rfl ?_
    exact Only.refl _ _

theorem seoTestPulseEnd_only (x0 : Nat) (x1 x2 : Bool) (s : Dev) :
    Only [.dev, .regs, .strs, .bus, .saf, .exe, .log, .pwr, .inForce] s (seoTestPulseEnd x0 x1 x2 s) := by
  unfold seoTestPulseEnd
  try dsimp only
  split
  · exact Only.refl _ _
  · refine Only.ite ?_ ?_
    · refine Only.then (seoFollow_only _ _) rfl ?_
      refine Only.then (wrB_only _ _ _ _) rfl ?_
      refine Only.then (setSeo_only _ _ _) rfl ?_
      exact Only.refl _ _
    · refine Only.ite ?_ ?_
      · refine Only.then (seoTestFail_only _ _ _ _ _) rfl ?_
        exact Only.refl _ _
      · refine Only.ite ?_ ?_
        · refine Only.then (seoTestFail_only _ _ _ _ _) rfl ?_
          exact Only.refl _ _
        · refine Only.ite_else ?_ ?_
          · refine Only.then (wrB_only _ _ _ _) rfl ?_
            refine Only.then (wrB_only _ _ _ _) rfl ?_
            refine Only.then (setSeo_only _ _ _) rfl ?_
            exact Only.refl _ _
          · refine Only.then (wrB_only _ _ _ _) rfl ?_
            exact Only.refl _ _

theorem serviceEnterBody_only (x0 : HostCmd) (s : Dev) :
    Only [.dev, .exe, .host, .log] s (serviceEnterBody x0 s) := by
  unfold serviceEnterBody
  try dsimp only
  refine Only.then (answer_only _ _ _ _) rfl ?_
  refine Only.then (setDev_only _ _ _ _) rfl ?_
  exact Only.refl _ _

theorem serviceEnter_only (x0 : HostCmd) (s : Dev) :
    Only [.dev, .exe, .host, .log, .actor] s (serviceEnter x0 s) := by
  unfold serviceEnter
  try dsimp only
  refine serve_only rfl ?_
  intro u
  refine Only.then (serviceEnterBody_only _ _) rfl ?_
  exact Only.refl _ _

theorem serviceLeaveBody_only (x0 : HostCmd) (s : Dev) :
    Only [.dev, .exe, .host, .log] s (serviceLeaveBody x0 s) := by
  unfold serviceLeaveBody
  try dsimp only
  refine Only.ite ?_ ?_
  · refine Only.then (answer_only _ _ _ _) rfl ?_
    exact Only.refl _ _
  · refine Only.then (answer_only _ _ _ _) rfl ?_
    refine Only.then (setDev_only _ _ _ _) rfl ?_
    exact Only.refl _ _

theorem serviceLeave_only (x0 : HostCmd) (s : Dev) :
    Only [.dev, .exe, .host, .log, .actor] s (serviceLeave x0 s) := by
  unfold serviceLeave
  try dsimp only
  refine serve_only rfl ?_
  intro u
  refine Only.then (serviceLeaveBody_only _ _) rfl ?_
  exact Only.refl _ _

theorem sessionAuthBody_only (x0 : HostCmd) (s : Dev) :
    Only [.regs, .exe, .host, .log, .pwr, .inForce] s (sessionAuthBody x0 s) := by
  unfold sessionAuthBody
  try dsimp only
  refine Only.ite ?_ ?_
  · refine Only.then (answer_only _ _ _ _) rfl ?_
    exact Only.refl _ _
  · split
    · refine Only.then (answer_only _ _ _ _) rfl ?_
      exact Only.refl _ _
    · refine Only.ite ?_ ?_
      · refine Only.then (dropSession_only _ _) rfl ?_
        refine Only.then (answerBare_only _ _ _ _) rfl ?_
        refine Only.then (authFail_only _ _ _ _) rfl ?_
        exact Only.refl _ _
      · refine Only.then (finish_only _ _ _ _ _) rfl ?_
        refine Only.ite_else ?_ ?_
        · refine Only.then (postOpen_only _ _ _ _ _) rfl ?_
          refine Only.then (syncHp_only _) rfl ?_
          refine Only.then (setSess_only _ _ _) rfl ?_
          exact Only.refl _ _
        · refine Only.then (deliverHeld_only _ _) rfl ?_
          exact Only.refl _ _

theorem sessionAuth_only (x0 : HostCmd) (s : Dev) :
    Only [.regs, .exe, .host, .log, .pwr, .inForce, .actor] s (sessionAuth x0 s) := by
  unfold sessionAuth
  try dsimp only
  refine serve_only rfl ?_
  intro u
  refine Only.then (sessionAuthBody_only _ _) rfl ?_
  exact Only.refl _ _

theorem sessionCloseBody_only (x0 : HostCmd) (s : Dev) :
    Only [.regs, .exe, .host, .log, .pwr, .inForce] s (sessionCloseBody x0 s) := by
  unfold sessionCloseBody
  try dsimp only
  refine Only.then (closeSession_only _ _ _) rfl ?_
  refine Only.then (finish_only _ _ _ _ _) rfl ?_
  refine Only.then (dropFlight_only _ _) rfl ?_
  exact Only.refl _ _

theorem sessionClose_only (x0 : HostCmd) (s : Dev) :
    Only [.regs, .exe, .host, .log, .pwr, .inForce, .actor] s (sessionClose x0 s) := by
  unfold sessionClose
  try dsimp only
  refine serve_only rfl ?_
  intro u
  refine Only.then (sessionCloseBody_only _ _) rfl ?_
  exact Only.refl _ _

theorem sessionExpiry_only (x0 : Nat) (s : Dev) :
    Only [.regs, .win, .host, .cl, .cnt, .log, .inForce] s (sessionExpiry x0 s) := by
  unfold sessionExpiry
  try dsimp only
  refine Only.ite_then ?_ ?_
  · exact Only.refl _ _
  · refine Only.then (holdSession_only _ _) rfl ?_
    refine Only.then (note_only _ _ _ _) rfl ?_
    exact Only.refl _ _

theorem sessionHoldExpiry_only (x0 : Nat) (s : Dev) :
    Only [.regs, .exe, .host, .log, .pwr, .inForce] s (sessionHoldExpiry x0 s) := by
  unfold sessionHoldExpiry
  try dsimp only
  refine Only.ite_then ?_ ?_
  · exact Only.refl _ _
  · refine Only.then (note_only _ _ _ _) rfl ?_
    refine Only.then (dropSession_only _ _) rfl ?_
    exact Only.refl _ _

theorem takeNonce_only (s : Dev) :
    Only [.freeCtr] s (takeNonce s).2 := by
  unfold takeNonce
  try dsimp only [takeBit, takeWord, takeNat]
  refine Only.upd_freeCtr rfl ?_
  exact Only.refl _ _

theorem sessionOpenBody_only (x0 : HostCmd) (s : Dev) :
    Only [.regs, .exe, .host, .log, .inForce, .freeCtr] s (sessionOpenBody x0 s) := by
  unfold sessionOpenBody
  try dsimp only
  refine Only.ite ?_ ?_
  · refine Only.then (answer_only _ _ _ _) rfl ?_
    exact Only.refl _ _
  · refine Only.ite ?_ ?_
    · refine Only.then (answer_only _ _ _ _) rfl ?_
      exact Only.refl _ _
    · refine Only.ite ?_ ?_
      · refine Only.then (answer_only _ _ _ _) rfl ?_
        exact Only.refl _ _
      · refine Only.ite ?_ ?_
        · refine Only.then (answer_only _ _ _ _) rfl ?_
          exact Only.refl _ _
        · split
          · refine Only.then (answer_only _ _ _ _) rfl ?_
            exact Only.refl _ _
          · refine Only.ite ?_ ?_
            · refine Only.then (answer_only _ _ _ _) rfl ?_
              exact Only.refl _ _
            · refine Only.ite ?_ ?_
              · refine Only.then (answer_only _ _ _ _) rfl ?_
                exact Only.refl _ _
              · refine Only.then (finish_only _ _ _ _ _) rfl ?_
                refine Only.ite_else ?_ ?_
                · refine Only.ite_else ?_ ?_
                  · refine Only.then (syncHp_only _) rfl ?_
                    refine Only.then (setSess_only _ _ _) rfl ?_
                    refine Only.then (takeNonce_only _) rfl ?_
                    exact Only.refl _ _
                  · refine Only.then (postOpen_only _ _ _ _ _) rfl ?_
                    exact Only.refl _ _
                · refine Only.then (deliverHeld_only _ _) rfl ?_
                  exact Only.refl _ _

theorem sessionOpen_only (x0 : HostCmd) (s : Dev) :
    Only [.regs, .exe, .host, .log, .inForce, .actor, .freeCtr] s (sessionOpen x0 s) := by
  unfold sessionOpen
  try dsimp only
  refine serve_only rfl ?_
  intro u
  refine Only.then (sessionOpenBody_only _ _) rfl ?_
  exact Only.refl _ _

theorem sessionPingBody_only (x0 : HostCmd) (s : Dev) :
    Only [.exe, .host] s (sessionPingBody x0 s) := by
  unfold sessionPingBody
  try dsimp only
  refine Only.then (answer_only _ _ _ _) rfl ?_
  exact Only.refl _ _

theorem sessionPing_only (x0 : HostCmd) (s : Dev) :
    Only [.exe, .host, .actor] s (sessionPing x0 s) := by
  unfold sessionPing
  try dsimp only
  refine serve_only rfl ?_
  intro u
  refine Only.then (sessionPingBody_only _ _) rfl ?_
  exact Only.refl _ _

theorem sinChannelChange_only (x0 : Nat) (x1 x2 : Bool) (s : Dev) :
    Only [.dev, .regs, .lim, .strs, .bus, .saf, .exe, .can, .log, .pwr, .inForce] s (sinChannelChange x0 x1 x2 s) := by
  unfold sinChannelChange
  try dsimp only
  refine Only.ite_then ?_ ?_
  · refine Only.then (wrB_only _ _ _ _) rfl ?_
    exact Only.refl _ _
  · apply Only.via
    · apply Only.then (demandBegin_only _ _ _) rfl
      exact Only.refl _ _
    · refine Only.ite_else ?_ ?_
      · exact Only.refl _ _
      · refine Only.then (demandEnd_only _ _) rfl ?_
        exact Only.refl _ _
    · refine Only.ite_else ?_ ?_
      · refine Only.ite_then ?_ ?_
        · exact Only.refl _ _
        · refine Only.ite ?_ ?_
          · refine Only.then (setSin_only _ _ _) rfl ?_
            exact Only.refl _ _
          · refine Only.then (setSin_only _ _ _) rfl ?_
            exact Only.refl _ _
      · refine Only.then (setSin_only _ _ _) rfl ?_
        exact Only.refl _ _

theorem sinFault_only (s : Dev) (x1 : Nat) (x2 : Bool) (x3 x4 : Nat) :
    Only [.dev, .regs, .lim, .strs, .bus, .saf, .exe, .can, .log, .pwr, .inForce] s (sinFault s x1 x2 x3 x4) := by
  unfold sinFault
  try dsimp only
  refine Only.then (demandBegin_only _ _ _) rfl ?_
  refine Only.then (raise_only _ _ _ _ _) rfl ?_
  refine Only.then (setSin_only _ _ _) rfl ?_
  refine Only.then (wrB_only _ _ _ _) rfl ?_
  refine Only.then (wrB_only _ _ _ _) rfl ?_
  exact Only.refl _ _

theorem sinDiscrepancyTimeout_only (x0 : Nat) (s : Dev) :
    Only [.dev, .regs, .lim, .strs, .bus, .saf, .exe, .can, .log, .pwr, .inForce] s (sinDiscrepancyTimeout x0 s) := by
  unfold sinDiscrepancyTimeout
  try dsimp only
  refine Only.ite_then ?_ ?_
  · exact Only.refl _ _
  · refine Only.then (sinFault_only _ _ _ _ _) rfl ?_
    refine Only.then (setSin_only _ _ _) rfl ?_
    exact Only.refl _ _

theorem sinResetBody_only (x0 : HostCmd) (s : Dev) :
    Only [.regs, .strs, .bus, .saf, .exe, .host, .log, .inForce] s (sinResetBody x0 s) := by
  unfold sinResetBody
  try dsimp only
  refine Only.ite ?_ ?_
  · refine Only.then (answer_only _ _ _ _) rfl ?_
    exact Only.refl _ _
  · refine Only.ite ?_ ?_
    · refine Only.then (answer_only _ _ _ _) rfl ?_
      exact Only.refl _ _
    · refine Only.then (finish_only _ _ _ _ _) rfl ?_
      refine Only.then (emit_only _ _ _) rfl ?_
      exact Only.refl _ _

theorem sinReset_only (x0 : HostCmd) (s : Dev) :
    Only [.regs, .strs, .bus, .saf, .exe, .host, .log, .inForce, .actor] s (sinReset x0 s) := by
  unfold sinReset
  try dsimp only
  refine serve_only rfl ?_
  intro u
  refine Only.then (sinResetBody_only _ _) rfl ?_
  exact Only.refl _ _

theorem sswSnapshot_only (s : Dev) (x1 x2 : Nat) :
    Only [.strs, .log, .inForce] s (sswSnapshot s x1 x2) := by
  unfold sswSnapshot
  try dsimp only
  split
  · exact Only.refl _ _
  · refine Only.ite_else ?_ ?_
    · refine Only.ite_else ?_ ?_
      · refine Only.then (setStr_only _ _ _) rfl ?_
        exact Only.refl _ _
      · refine Only.then (raise_only _ _ _ _ _) rfl ?_
        exact Only.refl _ _
    · refine Only.then (raise_only _ _ _ _ _) rfl ?_
      exact Only.refl _ _

theorem statusCheck_only (s : Dev) (x1 x2 : Nat) :
    Only [.dev, .strs, .saf, .exe, .log, .pwr, .inForce] s (statusCheck s x1 x2) := by
  unfold statusCheck
  try dsimp only
  refine Only.ite_then ?_ ?_
  · exact Only.refl _ _
  · apply Only.via
    · apply Only.then (fault4_only _ _ _ _ _ _ _ _) rfl
      exact Only.refl _ _
    · refine Only.ite ?_ ?_
      · refine Only.then (setStr_only _ _ _) rfl ?_
        exact Only.refl _ _
      · refine Only.ite_then ?_ ?_
        · refine Only.ite_else ?_ ?_
          · refine Only.ite_else ?_ ?_
            · refine Only.then (setStr_only _ _ _) rfl ?_
              exact Only.refl _ _
            · refine Only.then (fault4_only _ _ _ _ _ _ _ _) rfl ?_
              exact Only.refl _ _
          · refine Only.then (fault4_only _ _ _ _ _ _ _ _) rfl ?_
            exact Only.refl _ _
        · apply Only.via
          · apply Only.then (weldStr_only _ _) rfl
            exact Only.refl _ _
          · refine Only.ite_else ?_ ?_
            · exact Only.refl _ _
            · refine Only.then (connFail_only _ _ _) rfl ?_
              exact Only.refl _ _
          · refine Only.then (weldFound_only _ _ _) rfl ?_
            exact Only.refl _ _
    · refine Only.then (setStr_only _ _ _) rfl ?_
      exact Only.refl _ _

theorem weldSnapshot_only (s : Dev) (x1 x2 : Nat) :
    Only [.strs, .log, .pwr, .inForce] s (weldSnapshot s x1 x2) := by
  unfold weldSnapshot
  try dsimp only
  refine Only.ite_then ?_ ?_
  · exact Only.refl _ _
  · refine Only.ite ?_ ?_
    · refine Only.ite ?_ ?_
      · refine Only.then (unlockStr_only _ _) rfl ?_
        exact Only.refl _ _
      · refine Only.then (setStr_only _ _ _) rfl ?_
        exact Only.refl _ _
    · refine Only.then (setStr_only _ _ _) rfl ?_
      exact Only.refl _ _

theorem stringSnapshot_only (s : Dev) (x1 x2 x3 : Nat) :
    Only [.dev, .strs, .saf, .exe, .log, .pwr, .inForce, .actor] s (stringSnapshot s x1 x2 x3) := by
  unfold stringSnapshot
  try dsimp only
  refine Only.then (joinSnapshot_only _ _ _) rfl ?_
  refine Only.then (weldSnapshot_only _ _ _) rfl ?_
  refine Only.then (prechargeSnapshot_only _ _ _ _) rfl ?_
  refine Only.then (statusCheck_only _ _ _) rfl ?_
  refine Only.then (setStr_only _ _ _) rfl ?_
  exact Only.refl _ _

theorem weldReply_only (s : Dev) (x1 : HostCmd) (x2 : List (Nat × Nat)) :
    Only [.bus, .exe, .host, .log, .inForce] s (weldReply s x1 x2) := by
  unfold weldReply
  try dsimp only
  refine Only.then (finish_only _ _ _ _ _) rfl ?_
  refine Only.then (fbkRelease_only _ _) rfl ?_
  exact Only.refl _ _

theorem weldAnswers_only (s : Dev) :
    Only [.bus, .exe, .host, .log, .inForce] s (weldAnswers s) := by
  unfold weldAnswers
  try dsimp only
  refine Only.forL ?_ ?_
  · refine Only.upd_host rfl ?_
    exact Only.refl _ _
  · intro u x
    try dsimp only
    refine Only.ite ?_ ?_
    · refine Only.then (weldReply_only _ _ _) rfl ?_
      exact Only.refl _ _
    · refine Only.upd_host rfl ?_
      exact Only.refl _ _

theorem snapshotSafetyCheck_only (x0 : Nat) (s : Dev) :
    Only [.dev, .lim, .strs, .bus, .saf, .exe, .host, .can, .log, .pwr, .inForce, .actor] s (snapshotSafetyCheck x0 s) := by
  unfold snapshotSafetyCheck
  try dsimp only
  split
  · exact Only.refl _ _
  · refine Only.ite_then ?_ ?_
    · exact Only.refl _ _
    · refine Only.then (deriveState_only _ _) rfl ?_
      refine Only.then (routeCheck_only _) rfl ?_
      refine Only.then (weldAnswers_only _) rfl ?_
      refine Only.forL ?_ ?_
      · refine Only.then (currentSum_only _ _) rfl ?_
        refine Only.forL ?_ ?_
        · exact Only.refl _ _
        · intro u x
          try dsimp only
          refine Only.then (currentChecks_only _ _ _) rfl ?_
          refine Only.then (sswSnapshot_only _ _ _) rfl ?_
          exact Only.refl _ _
      · intro u x
        try dsimp only
        refine Only.then (stringSnapshot_only _ _ _ _) rfl ?_
        exact Only.refl _ _

theorem spareTest_only (s : Dev) :
    Only [.exe] s (spareTest s) := by
  unfold spareTest
  try dsimp only
  split
  · refine Only.ite_then ?_ ?_
    · exact Only.refl _ _
    · refine Only.upd_exe rfl ?_
      exact Only.refl _ _
  · exact Only.refl _ _

theorem spareSelftestTimer_only (s : Dev) :
    Only [.exe] s (spareSelftestTimer s) := by
  unfold spareSelftestTimer
  try dsimp only
  refine Only.ite_else ?_ ?_
  · exact Only.refl _ _
  · refine Only.then (spareTest_only _) rfl ?_
    exact Only.refl _ _

theorem spareTestRequest_only (x0 : Nat) (s : Dev) :
    Only [.regs, .exe, .busErr] s (spareTestRequest x0 s) := by
  unfold spareTestRequest
  try dsimp only
  refine Only.ite ?_ ?_
  · refine Only.then (busErrorTo_only _ _) rfl ?_
    exact Only.refl _ _
  · refine Only.then (spareTest_only _) rfl ?_
    exact Only.refl _ _

theorem sswDwellExpiry_only (x0 : Nat) (x1 : Bool) (s : Dev) :
    Only [.strs, .log, .inForce] s (sswDwellExpiry x0 x1 s) := by
  unfold sswDwellExpiry
  try dsimp only
  refine Only.ite_then ?_ ?_
  · exact Only.refl _ _
  · refine Only.ite ?_ ?_
    · refine Only.ite_else ?_ ?_
      · exact Only.refl _ _
      · refine Only.then (directionSync_only _ _) rfl ?_
        refine Only.then (clearCond_only _ _ _ _ _) rfl ?_
        refine Only.then (setStr_only _ _ _) rfl ?_
        exact Only.refl _ _
    · refine Only.ite_else ?_ ?_
      · exact Only.refl _ _
      · refine Only.then (directionSync_only _ _) rfl ?_
        refine Only.then (clearCond_only _ _ _ _ _) rfl ?_
        refine Only.then (setStr_only _ _ _) rfl ?_
        exact Only.refl _ _

theorem statusGetBody_only (x0 : HostCmd) (s : Dev) :
    Only [.exe, .host] s (statusGetBody x0 s) := by
  unfold statusGetBody
  try dsimp only
  refine Only.then (finish_only _ _ _ _ _) rfl ?_
  exact Only.refl _ _

theorem statusGet_only (x0 : HostCmd) (s : Dev) :
    Only [.exe, .host, .actor] s (statusGet x0 s) := by
  unfold statusGet
  try dsimp only
  refine serve_only rfl ?_
  intro u
  refine Only.then (statusGetBody_only _ _) rfl ?_
  exact Only.refl _ _

theorem stepInput_only (s : Dev) (x1 : Nat) (x2 : List Nat) (x3 : Nat) :
    Only [.mem, .thm, .log, .inForce] s (stepInput s x1 x2 x3) := by
  unfold stepInput
  try dsimp only
  apply Only.via
  · apply Only.ite
    · apply Only.then (failInput_only _ _ _ _) rfl
      exact Only.refl _ _
    · apply Only.ite_else
      · exact Only.refl _ _
      · apply Only.then (setIn_only _ _ _) rfl
        exact Only.refl _ _
  · refine Only.ite ?_ ?_
    · refine Only.then (setIn_only _ _ _) rfl ?_
      exact Only.refl _ _
    · refine Only.ite_then ?_ ?_
      · exact Only.refl _ _
      · refine Only.ite ?_ ?_
        · refine Only.then (post_only _ _ _ _) rfl ?_
          refine Only.then (clearCond_only _ _ _ _ _) rfl ?_
          refine Only.then (setIn_only _ _ _) rfl ?_
          refine Only.then (setInState_only _ _ _) rfl ?_
          exact Only.refl _ _
        · refine Only.then (setIn_only _ _ _) rfl ?_
          exact Only.refl _ _
  · refine Only.ite_else ?_ ?_
    · exact Only.refl _ _
    · refine Only.then (setIn_only _ _ _) rfl ?_
      exact Only.refl _ _

theorem storeDirect_only (s : Dev) (x1 : Nat) (x2 : Nat × Int × Int × Int × Bool) :
    Only [.mem, .log, .inForce] s (storeDirect s x1 x2) := by
  unfold storeDirect
  try dsimp only
  refine Only.ite_then ?_ ?_
  · exact Only.refl _ _
  · refine Only.ite_else ?_ ?_
    · refine Only.then (stN_only _ _ _ _) rfl ?_
      exact Only.refl _ _
    · refine Only.then (track_only _ _ _ _ _ _ _) rfl ?_
      exact Only.refl _ _

theorem stringConnectBody_only (x0 : HostCmd) (s : Dev) :
    Only [.dev, .strs, .saf, .exe, .host, .log, .inForce] s (stringConnectBody x0 s) := by
  unfold stringConnectBody
  try dsimp only
  refine Only.ite ?_ ?_
  · refine Only.then (answer_only _ _ _ _) rfl ?_
    exact Only.refl _ _
  · refine maskCmd_only rfl ?_
    intro u x
    refine Only.then (connectFor_only _ _ _ _) rfl ?_
    exact Only.refl _ _

theorem stringConnect_only (x0 : HostCmd) (s : Dev) :
    Only [.dev, .strs, .saf, .exe, .host, .log, .inForce, .actor] s (stringConnect x0 s) := by
  unfold stringConnect
  try dsimp only
  refine serve_only rfl ?_
  intro u
  refine Only.then (stringConnectBody_only _ _) rfl ?_
  exact Only.refl _ _

theorem stringDataLostTimeout_only (x0 : Nat) (s : Dev) :
    Only [.dev, .lim, .strs, .saf, .exe, .can, .log, .inForce] s (stringDataLostTimeout x0 s) := by
  unfold stringDataLostTimeout
  try dsimp only
  refine Only.ite_else ?_ ?_
  · exact Only.refl _ _
  · refine Only.then (fault3_only _ _ _ _ _ _ _ _) rfl ?_
    exact Only.refl _ _

theorem stringDisconnectBody_only (x0 : HostCmd) (s : Dev) :
    Only [.dev, .lim, .strs, .saf, .exe, .host, .can, .log] s (stringDisconnectBody x0 s) := by
  unfold stringDisconnectBody
  try dsimp only
  refine Only.ite ?_ ?_
  · refine Only.then (answer_only _ _ _ _) rfl ?_
    exact Only.refl _ _
  · refine Only.ite ?_ ?_
    · refine Only.then (answer_only _ _ _ _) rfl ?_
      exact Only.refl _ _
    · refine Only.then (finish_only _ _ _ _ _) rfl ?_
      refine Only.then (deriveState_only _ _) rfl ?_
      refine Only.ite_then ?_ ?_
      · refine Only.then (routeBegin_only _ _ _ _) rfl ?_
        refine Only.forL ?_ ?_
        · refine Only.trans ?_ (judgeAll_only ?_ _ _)
          · refine Only.ite_else ?_ ?_
            · refine Only.then (cutConnects_only _ _) rfl ?_
              exact Only.refl _ _
            · refine Only.upd_saf rfl ?_
              exact Only.refl _ _
          · intro u x
            refine Only.then (disconnectOne_only _ _) rfl ?_
            exact Only.refl _ _
        · intro u x
          try dsimp only
          refine Only.then (post_only _ _ _ _) rfl ?_
          exact Only.refl _ _
      · refine Only.then (urgentRamp_only _) rfl ?_
        exact Only.refl _ _

theorem stringDisconnect_only (x0 : HostCmd) (s : Dev) :
    Only [.dev, .lim, .strs, .saf, .exe, .host, .can, .log, .actor] s (stringDisconnect x0 s) := by
  unfold stringDisconnect
  try dsimp only
  refine serve_only rfl ?_
  intro u
  refine Only.then (stringDisconnectBody_only _ _) rfl ?_
  exact Only.refl _ _

theorem stringEstReadBody_only (x0 : HostCmd) (s : Dev) :
    Only [.exe, .host] s (stringEstReadBody x0 s) := by
  unfold stringEstReadBody
  try dsimp only
  refine Only.then (serveRange_only _ _ _ _ _ _ _) rfl ?_
  exact Only.refl _ _

theorem stringEstRead_only (x0 : HostCmd) (s : Dev) :
    Only [.exe, .host, .actor] s (stringEstRead x0 s) := by
  unfold stringEstRead
  try dsimp only
  refine serve_only rfl ?_
  intro u
  refine Only.then (stringEstReadBody_only _ _) rfl ?_
  exact Only.refl _ _

theorem stringLockBody_only (x0 : HostCmd) (s : Dev) :
    Only [.strs, .exe, .host, .log, .pwr, .inForce] s (stringLockBody x0 s) := by
  unfold stringLockBody
  try dsimp only
  refine maskCmd_only rfl ?_
  intro u x
  refine Only.then (lockOne_only _ _) rfl ?_
  exact Only.refl _ _

theorem stringLock_only (x0 : HostCmd) (s : Dev) :
    Only [.strs, .exe, .host, .log, .pwr, .inForce, .actor] s (stringLock x0 s) := by
  unfold stringLock
  try dsimp only
  refine serve_only rfl ?_
  intro u
  refine Only.then (stringLockBody_only _ _) rfl ?_
  exact Only.refl _ _

theorem stringReadBody_only (x0 : HostCmd) (s : Dev) :
    Only [.exe, .host] s (stringReadBody x0 s) := by
  unfold stringReadBody
  try dsimp only
  refine Only.then (serveRange_only _ _ _ _ _ _ _) rfl ?_
  exact Only.refl _ _

theorem stringRead_only (x0 : HostCmd) (s : Dev) :
    Only [.exe, .host, .actor] s (stringRead x0 s) := by
  unfold stringRead
  try dsimp only
  refine serve_only rfl ?_
  intro u
  refine Only.then (stringReadBody_only _ _) rfl ?_
  exact Only.refl _ _

theorem stringSampleReadBody_only (x0 : HostCmd) (s : Dev) :
    Only [.exe, .host] s (stringSampleReadBody x0 s) := by
  unfold stringSampleReadBody
  try dsimp only
  refine Only.then (serveSlot_only _ _ _ _ _ _) rfl ?_
  exact Only.refl _ _

theorem stringSampleRead_only (x0 : HostCmd) (s : Dev) :
    Only [.exe, .host, .actor] s (stringSampleRead x0 s) := by
  unfold stringSampleRead
  try dsimp only
  refine serve_only rfl ?_
  intro u
  refine Only.then (stringSampleReadBody_only _ _) rfl ?_
  exact Only.refl _ _

theorem unlockOne_only (s : Dev) (x1 : Nat) :
    Only [.strs, .log, .pwr, .inForce] s (unlockOne s x1).2.2 := by
  unfold unlockOne
  dsimp only
  refine Only.ite_snd2 (Only.refl _ _) (Only.ite_snd2 (Only.refl _ _) (Only.ite_snd2 (Only.refl _ _) (Only.ite_snd2 (Only.refl _ _) ?_)))
  exact Only.then (unlockStr_only _ _) rfl (Only.refl _ _)

theorem stringUnlockBody_only (x0 : HostCmd) (s : Dev) :
    Only [.strs, .exe, .host, .log, .pwr, .inForce] s (stringUnlockBody x0 s) := by
  unfold stringUnlockBody
  try dsimp only
  refine maskCmd_only rfl ?_
  intro u x
  refine Only.then (unlockOne_only _ _) rfl ?_
  exact Only.refl _ _

theorem stringUnlock_only (x0 : HostCmd) (s : Dev) :
    Only [.strs, .exe, .host, .log, .pwr, .inForce, .actor] s (stringUnlock x0 s) := by
  unfold stringUnlock
  try dsimp only
  refine serve_only rfl ?_
  intro u
  refine Only.then (stringUnlockBody_only _ _) rfl ?_
  exact Only.refl _ _

theorem stringWeldReleaseBody_only (x0 : HostCmd) (s : Dev) :
    Only [.strs, .bus, .exe, .host, .log, .inForce] s (stringWeldReleaseBody x0 s) := by
  unfold stringWeldReleaseBody
  try dsimp only
  refine Only.ite ?_ ?_
  · refine Only.then (answer_only _ _ _ _) rfl ?_
    exact Only.refl _ _
  · refine Only.ite ?_ ?_
    · refine Only.then (answer_only _ _ _ _) rfl ?_
      exact Only.refl _ _
    · apply Only.via
      · apply Only.then (weldReply_only _ _ _) rfl
        exact Only.refl _ _
      · refine Only.upd_host rfl ?_
        exact Only.refl _ _
      · refine Only.forL ?_ ?_
        · exact Only.refl _ _
        · intro u x
          try dsimp only
          refine Only.then (setStr_only _ _ _) rfl ?_
          exact Only.refl _ _

theorem stringWeldRelease_only (x0 : HostCmd) (s : Dev) :
    Only [.strs, .bus, .exe, .host, .log, .inForce, .actor] s (stringWeldRelease x0 s) := by
  unfold stringWeldRelease
  try dsimp only
  refine serve_only rfl ?_
  intro u
  refine Only.then (stringWeldReleaseBody_only _ _) rfl ?_
  exact Only.refl _ _

theorem stubEndsSet_only (x0 : Nat) (s : Dev) :
    Only [.dev, .regs, .rings, .strs, .saf, .exe, .host, .cnt, .log, .pwr, .inForce] s (stubEndsSet x0 s) := by
  unfold stubEndsSet
  try dsimp only
  split
  · exact Only.refl _ _
  · refine Only.ite ?_ ?_
    · exact Only.refl _ _
    · refine Only.ite_else ?_ ?_
      · split
        · split
          · refine Only.then (raise_only _ _ _ _ _) rfl ?_
            refine Only.then (wrB_only _ _ _ _) rfl ?_
            refine Only.then (setMode_only _ _ _) rfl ?_
            refine Only.then (wrF_only _ _ _ _ _) rfl ?_
            refine Only.then (wrF_only _ _ _ _ _) rfl ?_
            refine Only.then (setRing_only _ _ _) rfl ?_
            exact Only.refl _ _
          · refine Only.then (unreachSync_only _ _ _) rfl ?_
            refine Only.then (setMode_only _ _ _) rfl ?_
            refine Only.then (wrF_only _ _ _ _ _) rfl ?_
            refine Only.then (wrF_only _ _ _ _ _) rfl ?_
            refine Only.then (setRing_only _ _ _) rfl ?_
            exact Only.refl _ _
        · split
          · refine Only.then (setRing_only _ _ _) rfl ?_
            refine Only.then (setRing_only _ _ _) rfl ?_
            split
            · refine Only.then (raise_only _ _ _ _ _) rfl ?_
              refine Only.then (wrB_only _ _ _ _) rfl ?_
              refine Only.then (setMode_only _ _ _) rfl ?_
              refine Only.then (wrF_only _ _ _ _ _) rfl ?_
              refine Only.then (wrF_only _ _ _ _ _) rfl ?_
              refine Only.then (setRing_only _ _ _) rfl ?_
              exact Only.refl _ _
            · refine Only.then (unreachSync_only _ _ _) rfl ?_
              refine Only.then (setMode_only _ _ _) rfl ?_
              refine Only.then (wrF_only _ _ _ _ _) rfl ?_
              refine Only.then (wrF_only _ _ _ _ _) rfl ?_
              refine Only.then (setRing_only _ _ _) rfl ?_
              exact Only.refl _ _
          · refine Only.then (exchDead_only _ _ _) rfl ?_
            refine Only.then (setRing_only _ _ _) rfl ?_
            split
            · refine Only.then (raise_only _ _ _ _ _) rfl ?_
              refine Only.then (wrB_only _ _ _ _) rfl ?_
              refine Only.then (setMode_only _ _ _) rfl ?_
              refine Only.then (wrF_only _ _ _ _ _) rfl ?_
              refine Only.then (wrF_only _ _ _ _ _) rfl ?_
              refine Only.then (setRing_only _ _ _) rfl ?_
              exact Only.refl _ _
            · refine Only.then (unreachSync_only _ _ _) rfl ?_
              refine Only.then (setMode_only _ _ _) rfl ?_
              refine Only.then (wrF_only _ _ _ _ _) rfl ?_
              refine Only.then (wrF_only _ _ _ _ _) rfl ?_
              refine Only.then (setRing_only _ _ _) rfl ?_
              exact Only.refl _ _
      · refine Only.then (launchTrain_only _ _ _ _) rfl ?_
        exact Only.refl _ _

theorem tableStep_only (s : Dev) (x1 : Nat) (x2 : Bool) (x3 : Nat) :
    Only [.mem, .thm, .log] s (tableStep s x1 x2 x3) := by
  unfold tableStep
  try dsimp only
  refine Only.ite ?_ ?_
  · refine Only.then (setThm_only _ _ _) rfl ?_
    refine Only.then (post_only _ _ _ _) rfl ?_
    refine Only.then (st8_only _ _ _) rfl ?_
    exact Only.refl _ _
  · refine Only.ite ?_ ?_
    · refine Only.then (setThm_only _ _ _) rfl ?_
      exact Only.refl _ _
    · refine Only.ite_else ?_ ?_
      · exact Only.refl _ _
      · refine Only.then (setThm_only _ _ _) rfl ?_
        exact Only.refl _ _

theorem tagQueryBody_only (x0 : HostCmd) (s : Dev) :
    Only [.exe, .host] s (tagQueryBody x0 s) := by
  unfold tagQueryBody
  try dsimp only
  refine Only.ite ?_ ?_
  · refine Only.then (answer_only _ _ _ _) rfl ?_
    exact Only.refl _ _
  · refine Only.ite ?_ ?_
    · refine Only.then (answer_only _ _ _ _) rfl ?_
      exact Only.refl _ _
    · split
      · refine Only.then (answer_only _ _ _ _) rfl ?_
        exact Only.refl _ _
      · split
        · refine Only.then (answer_only _ _ _ _) rfl ?_
          exact Only.refl _ _
        · refine Only.ite ?_ ?_
          · refine Only.then (answer_only _ _ _ _) rfl ?_
            exact Only.refl _ _
          · refine Only.then (finish_only _ _ _ _ _) rfl ?_
            exact Only.refl _ _

theorem tagQuery_only (x0 : HostCmd) (s : Dev) :
    Only [.exe, .host, .actor] s (tagQuery x0 s) := by
  unfold tagQuery
  try dsimp only
  refine serve_only rfl ?_
  intro u
  refine Only.then (tagQueryBody_only _ _) rfl ?_
  exact Only.refl _ _

theorem tbAngleRead_only (x0 : U32) (s : Dev) :
    Only [.regs, .exe, .freeCtr, .readVal] s (tbAngleRead x0 s) := by
  unfold tbAngleRead
  try dsimp only [takeBit, takeWord, takeNat]
  refine Only.then (logFree_only _ _ _) rfl ?_
  refine Only.then (angleTake_only _ _) rfl ?_
  refine Only.upd_freeCtr rfl ?_
  exact Only.refl _ _

theorem tbTransition_only (s : Dev) (x1 x2 x3 : Bool) (x4 : Int) :
    Only [.regs, .tb, .log, .inForce] s (tbTransition s x1 x2 x3 x4) := by
  unfold tbTransition
  try dsimp only
  split
  · refine Only.ite_else ?_ ?_
    · exact Only.refl _ _
    · refine Only.then (setTb_only _ _ _) rfl ?_
      refine Only.upd_tb rfl ?_
      exact Only.refl _ _
  · refine Only.ite_else ?_ ?_
    · refine Only.then (wrB_only _ _ _ _) rfl ?_
      refine Only.upd_tb rfl ?_
      exact Only.refl _ _
    · refine Only.then (post_only _ _ _ _) rfl ?_
      refine Only.then (setTb_only _ _ _) rfl ?_
      refine Only.then (wrB_only _ _ _ _) rfl ?_
      refine Only.upd_tb rfl ?_
      exact Only.refl _ _
  · refine Only.ite ?_ ?_
    · refine Only.then (raise_only _ _ _ _ _) rfl ?_
      refine Only.then (setTb_only _ _ _) rfl ?_
      refine Only.then (wrN_only _ _ _) rfl ?_
      refine Only.then (wrB_only _ _ _ _) rfl ?_
      refine Only.upd_tb rfl ?_
      exact Only.refl _ _
    · refine Only.upd_tb rfl ?_
      exact Only.refl _ _
  · refine Only.ite ?_ ?_
    · refine Only.then (post_only _ _ _ _) rfl ?_
      refine Only.then (setTb_only _ _ _) rfl ?_
      refine Only.upd_tb rfl ?_
      exact Only.refl _ _
    · refine Only.ite ?_ ?_
      · refine Only.then (setTb_only _ _ _) rfl ?_
        refine Only.upd_tb rfl ?_
        exact Only.refl _ _
      · refine Only.upd_tb rfl ?_
        exact Only.refl _ _

theorem thSnapshot_only (s : Dev) :
    Only [.thm, .log, .inForce] s (thSnapshot s) := by
  unfold thSnapshot
  try dsimp only
  split
  · exact Only.refl _ _
  · refine Only.forN ?_ ?_
    · exact Only.refl _ _
    · intro u x
      try dsimp only
      refine Only.ite ?_ ?_
      · refine Only.upd_thm rfl ?_
        exact Only.refl _ _
      · refine Only.ite ?_ ?_
        · refine Only.then (raise_only _ _ _ _ _) rfl ?_
          refine Only.upd_thm rfl ?_
          exact Only.refl _ _
        · refine Only.then (track_only _ _ _ _ _ _ _) rfl ?_
          refine Only.then (track_only _ _ _ _ _ _ _) rfl ?_
          refine Only.upd_thm rfl ?_
          refine Only.then (clearCond_only _ _ _ _ _) rfl ?_
          exact Only.refl _ _

theorem thermalDwellExpiry_only (x0 : Nat) (x1 : Bool) (s : Dev) :
    Only [.mem, .thm, .log] s (thermalDwellExpiry x0 x1 s) := by
  unfold thermalDwellExpiry
  try dsimp only
  refine Only.ite_then ?_ ?_
  · exact Only.refl _ _
  · refine Only.ite ?_ ?_
    · refine Only.then (setThm_only _ _ _) rfl ?_
      exact Only.refl _ _
    · refine Only.then (relaxStep_only _ _ _) rfl ?_
      exact Only.refl _ _

theorem tripFlag_only (s : Dev) (x1 : Nat) :
    Only [.thm] s (tripFlag s x1) := by
  unfold tripFlag
  try dsimp only
  refine Only.ite_then ?_ ?_
  · exact Only.refl _ _
  · refine Only.ite ?_ ?_
    · refine Only.ite ?_ ?_
      · refine Only.then (setThm_only _ _ _) rfl ?_
        exact Only.refl _ _
      · refine Only.ite_else ?_ ?_
        · exact Only.refl _ _
        · refine Only.then (setThm_only _ _ _) rfl ?_
          exact Only.refl _ _
    · refine Only.then (setThm_only _ _ _) rfl ?_
      exact Only.refl _ _

theorem thmString_only (s : Dev) (x1 : Nat) :
    Only [.mem, .thm, .log, .inForce] s (thmString s x1) := by
  unfold thmString
  try dsimp only
  refine Only.then (thmFlags_only _ _ _) rfl ?_
  refine Only.then (nodeHot_only _ _) rfl ?_
  refine Only.then (tripFlag_only _ _) rfl ?_
  refine Only.then (blindStep_only _ _) rfl ?_
  refine Only.then (tableStep_only _ _ _ _) rfl ?_
  refine Only.then (tableStep_only _ _ _ _) rfl ?_
  split
  · refine Only.then (st16_only _ _ _) rfl ?_
    split
    · refine Only.then (setThm_only _ _ _) rfl ?_
      refine Only.then (st16_only _ _ _) rfl ?_
      refine Only.then (st16_only _ _ _) rfl ?_
      refine Only.forL ?_ ?_
      · refine Only.forL ?_ ?_
        · exact Only.refl _ _
        · intro u x
          try dsimp only
          refine Only.forL ?_ ?_
          · exact Only.refl _ _
          · intro u x
            try dsimp only
            refine Only.then (stepInput_only _ _ _ _) rfl ?_
            exact Only.refl _ _
      · intro u x
        try dsimp only
        refine Only.then (setInState_only _ _ _) rfl ?_
        refine Only.ite_else ?_ ?_
        · exact Only.refl _ _
        · refine Only.then (setIn_only _ _ _) rfl ?_
          exact Only.refl _ _
    · refine Only.forL ?_ ?_
      · refine Only.forL ?_ ?_
        · exact Only.refl _ _
        · intro u x
          try dsimp only
          refine Only.forL ?_ ?_
          · exact Only.refl _ _
          · intro u x
            try dsimp only
            refine Only.then (stepInput_only _ _ _ _) rfl ?_
            exact Only.refl _ _
      · intro u x
        try dsimp only
        refine Only.then (setInState_only _ _ _) rfl ?_
        refine Only.ite_else ?_ ?_
        · exact Only.refl _ _
        · refine Only.then (setIn_only _ _ _) rfl ?_
          exact Only.refl _ _
  · split
    · refine Only.then (setThm_only _ _ _) rfl ?_
      refine Only.then (st16_only _ _ _) rfl ?_
      refine Only.then (st16_only _ _ _) rfl ?_
      refine Only.forL ?_ ?_
      · refine Only.forL ?_ ?_
        · exact Only.refl _ _
        · intro u x
          try dsimp only
          refine Only.forL ?_ ?_
          · exact Only.refl _ _
          · intro u x
            try dsimp only
            refine Only.then (stepInput_only _ _ _ _) rfl ?_
            exact Only.refl _ _
      · intro u x
        try dsimp only
        refine Only.then (setInState_only _ _ _) rfl ?_
        refine Only.ite_else ?_ ?_
        · exact Only.refl _ _
        · refine Only.then (setIn_only _ _ _) rfl ?_
          exact Only.refl _ _
    · refine Only.forL ?_ ?_
      · refine Only.forL ?_ ?_
        · exact Only.refl _ _
        · intro u x
          try dsimp only
          refine Only.forL ?_ ?_
          · exact Only.refl _ _
          · intro u x
            try dsimp only
            refine Only.then (stepInput_only _ _ _ _) rfl ?_
            exact Only.refl _ _
      · intro u x
        try dsimp only
        refine Only.then (setInState_only _ _ _) rfl ?_
        refine Only.ite_else ?_ ?_
        · exact Only.refl _ _
        · refine Only.then (setIn_only _ _ _) rfl ?_
          exact Only.refl _ _

theorem thermalEvaluation_only (s : Dev) :
    Only [.mem, .thm, .log, .inForce] s (thermalEvaluation s) := by
  unfold thermalEvaluation
  try dsimp only
  refine Only.ite_then ?_ ?_
  · exact Only.refl _ _
  · refine Only.then (clearCond_only _ _ _ _ _) rfl ?_
    refine Only.upd_thm rfl ?_
    refine Only.then (thSnapshot_only _) rfl ?_
    refine Only.forL ?_ ?_
    · exact Only.refl _ _
    · intro u x
      try dsimp only
      refine Only.then (thmString_only _ _) rfl ?_
      exact Only.refl _ _

theorem thermalHoldExpiry_only (x0 : Nat) (s : Dev) :
    Only [.mem, .thm, .log] s (thermalHoldExpiry x0 s) := by
  unfold thermalHoldExpiry
  try dsimp only
  refine Only.ite_then ?_ ?_
  · exact Only.refl _ _
  · refine Only.then (thmFlags_only _ _ _) rfl ?_
    refine Only.ite_else ?_ ?_
    · refine Only.ite_else ?_ ?_
      · refine Only.then (setThm_only _ _ _) rfl ?_
        exact Only.refl _ _
      · refine Only.then (relaxStep_only _ _ _) rfl ?_
        exact Only.refl _ _
    · refine Only.then (relaxStep_only _ _ _) rfl ?_
      exact Only.refl _ _

theorem thermalReadBody_only (x0 : HostCmd) (s : Dev) :
    Only [.exe, .host] s (thermalReadBody x0 s) := by
  unfold thermalReadBody
  try dsimp only
  refine Only.then (serveRange_only _ _ _ _ _ _ _) rfl ?_
  exact Only.refl _ _

theorem thermalRead_only (x0 : HostCmd) (s : Dev) :
    Only [.exe, .host, .actor] s (thermalRead x0 s) := by
  unfold thermalRead
  try dsimp only
  refine serve_only rfl ?_
  intro u
  refine Only.then (thermalReadBody_only _ _) rfl ?_
  exact Only.refl _ _

theorem thermalStall_only (s : Dev) :
    Only [.log, .inForce] s (thermalStall s) := by
  unfold thermalStall
  try dsimp only
  refine Only.ite_then ?_ ?_
  · exact Only.refl _ _
  · refine Only.then (raise_only _ _ _ _ _) rfl ?_
    exact Only.refl _ _

theorem timebaseAlignBody_only (x0 : HostCmd) (s : Dev) :
    Only [.tb, .exe, .host] s (timebaseAlignBody x0 s) := by
  unfold timebaseAlignBody
  try dsimp only
  refine Only.ite ?_ ?_
  · refine Only.then (answer_only _ _ _ _) rfl ?_
    exact Only.refl _ _
  · refine Only.ite ?_ ?_
    · refine Only.then (answer_only _ _ _ _) rfl ?_
      exact Only.refl _ _
    · refine Only.ite ?_ ?_
      · refine Only.then (answer_only _ _ _ _) rfl ?_
        exact Only.refl _ _
      · refine Only.ite ?_ ?_
        · refine Only.then (answer_only _ _ _ _) rfl ?_
          exact Only.refl _ _
        · refine Only.ite ?_ ?_
          · refine Only.then (finish_only _ _ _ _ _) rfl ?_
            exact Only.refl _ _
          · refine Only.upd_tb_host rfl ?_
            exact Only.refl _ _

theorem timebaseAlign_only (x0 : HostCmd) (s : Dev) :
    Only [.tb, .exe, .host, .actor] s (timebaseAlign x0 s) := by
  unfold timebaseAlign
  try dsimp only
  refine serve_only rfl ?_
  intro u
  refine Only.then (timebaseAlignBody_only _ _) rfl ?_
  exact Only.refl _ _

theorem timebaseEvaluation_only (x0 : Bool) (x1 : Nat) (x2 : Int) (x3 x4 : Nat) (s : Dev) :
    Only [.regs, .tb, .log, .inForce] s (timebaseEvaluation x0 x1 x2 x3 x4 s) := by
  unfold timebaseEvaluation
  try dsimp only
  refine Only.ite_then ?_ ?_
  · exact Only.refl _ _
  · refine Only.then (offsetSlew_only _) rfl ?_
    refine Only.ite_then ?_ ?_
    · refine Only.then (tbTransition_only _ _ _ _ _) rfl ?_
      refine Only.upd_tb rfl ?_
      apply Only.via
      · apply Only.then (wrN_only _ _ _) rfl
        exact Only.refl _ _
      · refine Only.ite_else ?_ ?_
        · exact Only.refl _ _
        · refine Only.then (wrN_only _ _ _) rfl ?_
          exact Only.refl _ _
      · refine Only.ite_else ?_ ?_
        · refine Only.then (wrB_only _ _ _ _) rfl ?_
          refine Only.upd_tb rfl ?_
          refine Only.then (rotationEval_only _ _ _) rfl ?_
          refine Only.then (wr_only _ _ _) rfl ?_
          refine Only.then (wr_only _ _ _) rfl ?_
          refine Only.then (wrN_only _ _ _) rfl ?_
          exact Only.refl _ _
        · refine Only.upd_tb rfl ?_
          refine Only.then (wrN_only _ _ _) rfl ?_
          exact Only.refl _ _
    · refine Only.then (wrB_only _ _ _ _) rfl ?_
      exact Only.refl _ _

theorem timebaseGetBody_only (x0 : HostCmd) (s : Dev) :
    Only [.regs, .exe, .host] s (timebaseGetBody x0 s) := by
  unfold timebaseGetBody
  try dsimp only
  refine Only.then (finish_only _ _ _ _ _) rfl ?_
  refine Only.then (latchCycle_only _) rfl ?_
  exact Only.refl _ _

theorem timebaseGet_only (x0 : HostCmd) (s : Dev) :
    Only [.regs, .exe, .host, .actor] s (timebaseGet x0 s) := by
  unfold timebaseGet
  try dsimp only
  refine serve_only rfl ?_
  intro u
  refine Only.then (timebaseGetBody_only _ _) rfl ?_
  exact Only.refl _ _

theorem tpoPulse_only (x0 : Nat) (s : Dev) :
    Only [.regs, .saf] s (tpoPulse x0 s) := by
  unfold tpoPulse
  try dsimp only
  refine Only.ite_then ?_ ?_
  · exact Only.refl _ _
  · refine Only.then (wrB_only _ _ _ _) rfl ?_
    refine Only.upd_saf rfl ?_
    exact Only.refl _ _

theorem tpoPulseEnd_only (x0 : Nat) (x1 x2 : List Nat) (s : Dev) :
    Only [.dev, .regs, .lim, .strs, .bus, .saf, .exe, .can, .log, .pwr, .inForce] s (tpoPulseEnd x0 x1 x2 s) := by
  unfold tpoPulseEnd
  try dsimp only
  refine Only.ite_then ?_ ?_
  · exact Only.refl _ _
  · refine Only.forN ?_ ?_
    · refine Only.then (wrB_only _ _ _ _) rfl ?_
      refine Only.upd_saf rfl ?_
      exact Only.refl _ _
    · intro u x
      try dsimp only
      refine Only.ite_then ?_ ?_
      · exact Only.refl _ _
      · refine Only.ite ?_ ?_
        · refine Only.then (sinFault_only _ _ _ _ _) rfl ?_
          exact Only.refl _ _
        · refine Only.ite_else ?_ ?_
          · exact Only.refl _ _
          · refine Only.then (sinFault_only _ _ _ _ _) rfl ?_
            exact Only.refl _ _

theorem trainLaunch_only (x0 : List (Nat × Int × Int × Int × Bool)) (s : Dev) :
    Only [.regs, .mem, .rings, .acq, .cnt, .log, .inForce] s (trainLaunch x0 s) := by
  unfold trainLaunch
  try dsimp only
  split
  · exact Only.refl _ _
  · refine Only.forN ?_ ?_
    · refine Only.forL ?_ ?_
      · refine Only.then (wrN_only _ _ _) rfl ?_
        refine Only.then (wrN_only _ _ _) rfl ?_
        refine Only.then (wrN_only _ _ _) rfl ?_
        refine Only.then (wrN_only _ _ _) rfl ?_
        refine Only.upd_acq rfl ?_
        exact Only.refl _ _
      · intro u x
        try dsimp only
        refine Only.then (storeDirect_only _ _ _) rfl ?_
        exact Only.refl _ _
    · intro u x
      try dsimp only
      refine Only.ite ?_ ?_
      · refine Only.ite ?_ ?_
        · refine Only.then (setRing_only _ _ _) rfl ?_
          exact Only.refl _ _
        · refine Only.then (launchTrain_only _ _ _ _) rfl ?_
          exact Only.refl _ _
      · refine Only.then (setRing_only _ _ _) rfl ?_
        exact Only.refl _ _

theorem trainReturnTimeout_only (x0 : Nat) (x1 : Bool) (s : Dev) :
    Only [.regs, .rings, .exe, .log, .inForce] s (trainReturnTimeout x0 x1 s) := by
  unfold trainReturnTimeout
  try dsimp only
  refine Only.ite_else ?_ ?_
  · exact Only.refl _ _
  · refine Only.then (declareBreak_only _ _ _) rfl ?_
    exact Only.refl _ _

theorem trialConfirmTimeout_only (s : Dev) :
    Only [.mem, .exe, .log, .pwr] s (trialConfirmTimeout s) := by
  unfold trialConfirmTimeout
  try dsimp only
  refine Only.ite_then ?_ ?_
  · exact Only.refl _ _
  · refine Only.then (pumpTxns_only _) rfl ?_
    refine Only.then (post_only _ _ _ _) rfl ?_
    refine Only.then (setBootRec_only _ _) rfl ?_
    refine Only.upd_pwr rfl ?_
    exact Only.refl _ _

theorem trialRollbackRestart_only (x0 x1 : Nat) (s : Dev) :
    Only [.dev, .regs, .mem, .win, .parCfg, .parNow, .tb, .piste, .rings, .acq, .est, .chg, .lim, .thm, .strs, .bus, .saf, .exe, .host, .cl, .can, .cnt, .log, .pwr, .inForce, .uptimeMs, .actor, .busErr, .readVal, .posts] s (trialRollbackRestart x0 x1 s) := by
  unfold trialRollbackRestart
  try dsimp only
  refine Only.ite_then ?_ ?_
  · exact Only.refl _ _
  · refine Only.then (restart_only _ _ _ _) rfl ?_
    refine Only.then (bootNow_only _) rfl ?_
    refine Only.upd_pwr rfl ?_
    refine Only.then (note_only _ _ _ _) rfl ?_
    exact Only.refl _ _

theorem triggerArrivalCheck_only (x0 : Nat) (x1 : Bool) (s : Dev) :
    Only [.regs, .rings, .exe, .cnt, .log, .inForce] s (triggerArrivalCheck x0 x1 s) := by
  unfold triggerArrivalCheck
  try dsimp only
  refine Only.ite ?_ ?_
  · refine Only.ite_else ?_ ?_
    · exact Only.refl _ _
    · refine Only.then (ringGot_only _ _) rfl ?_
      refine Only.then (ringBytes_only _ _ _) rfl ?_
      exact Only.refl _ _
  · split
    · refine Only.then (declareBreak_only _ _ _) rfl ?_
      refine Only.ite_else ?_ ?_
      · exact Only.refl _ _
      · refine Only.then (ringGot_only _ _) rfl ?_
        refine Only.then (ringBytes_only _ _ _) rfl ?_
        exact Only.refl _ _
    · refine Only.then (sendEnum_only _ _ _ _ _) rfl ?_
      refine Only.then (setRing_only _ _ _) rfl ?_
      refine Only.ite_else ?_ ?_
      · exact Only.refl _ _
      · refine Only.then (ringGot_only _ _) rfl ?_
        refine Only.then (ringBytes_only _ _ _) rfl ?_
        exact Only.refl _ _

theorem txb2HoldStart_only (s : Dev) :
    Only [.regs, .can] s (txb2HoldStart s) := by
  unfold txb2HoldStart
  try dsimp only
  refine Only.forL ?_ ?_
  · exact Only.refl _ _
  · intro u x
    try dsimp only
    refine Only.ite_then ?_ ?_
    · exact Only.refl _ _
    · refine Only.then (wrB_only _ _ _ _) rfl ?_
      refine Only.then (setCan_only _ _ _) rfl ?_
      exact Only.refl _ _

theorem unexcitedTimeout_only (x0 : Nat) (s : Dev) :
    Only [.mem, .est, .log, .inForce] s (unexcitedTimeout x0 s) := by
  unfold unexcitedTimeout
  try dsimp only
  refine Only.ite_then ?_ ?_
  · exact Only.refl _ _
  · refine Only.then (raise_only _ _ _ _ _) rfl ?_
    refine Only.then (st16_only _ _ _) rfl ?_
    refine Only.then (setConf_only _ _ _) rfl ?_
    exact Only.refl _ _

theorem unitMapGetBody_only (x0 : HostCmd) (s : Dev) :
    Only [.exe, .host] s (unitMapGetBody x0 s) := by
  unfold unitMapGetBody
  try dsimp only
  refine Only.then (serveRange_only _ _ _ _ _ _ _) rfl ?_
  exact Only.refl _ _

theorem unitMapGet_only (x0 : HostCmd) (s : Dev) :
    Only [.exe, .host, .actor] s (unitMapGet x0 s) := by
  unfold unitMapGet
  try dsimp only
  refine serve_only rfl ?_
  intro u
  refine Only.then (unitMapGetBody_only _ _) rfl ?_
  exact Only.refl _ _

theorem unitMapSetBody_only (x0 : HostCmd) (s : Dev) :
    Only [.exe, .host] s (unitMapSetBody x0 s) := by
  unfold unitMapSetBody
  try dsimp only
  refine Only.ite ?_ ?_
  · refine Only.then (answer_only _ _ _ _) rfl ?_
    exact Only.refl _ _
  · refine Only.ite ?_ ?_
    · refine Only.then (answer_only _ _ _ _) rfl ?_
      exact Only.refl _ _
    · refine Only.ite ?_ ?_
      · refine Only.then (answer_only _ _ _ _) rfl ?_
        exact Only.refl _ _
      · refine Only.ite ?_ ?_
        · refine Only.then (answer_only _ _ _ _) rfl ?_
          exact Only.refl _ _
        · split
          · refine Only.then (answer_only _ _ _ _) rfl ?_
            exact Only.refl _ _
          · split
            · refine Only.then (finish_only _ _ _ _ _) rfl ?_
              exact Only.refl _ _
            · refine Only.then (answer_only _ _ _ _) rfl ?_
              refine Only.then (setTxn_only _ _) rfl ?_
              exact Only.refl _ _

theorem unitMapSet_only (x0 : HostCmd) (s : Dev) :
    Only [.exe, .host, .actor] s (unitMapSet x0 s) := by
  unfold unitMapSet
  try dsimp only
  refine serve_only rfl ?_
  intro u
  refine Only.then (unitMapSetBody_only _ _) rfl ?_
  exact Only.refl _ _

theorem vaonPowerOn_only (x0 : Bool) (s : Dev) :
    Only [.dev, .regs, .mem, .win, .parCfg, .parNow, .tb, .piste, .rings, .acq, .est, .chg, .lim, .thm, .strs, .bus, .saf, .exe, .host, .cl, .can, .cnt, .log, .pwr, .inForce, .uptimeMs, .actor, .freeCtr, .busErr, .readVal, .posts] s (vaonPowerOn x0 s) := by
  unfold vaonPowerOn
  try dsimp only
  refine Only.ite ?_ ?_
  · refine Only.upd_pwr rfl ?_
    exact Only.refl _ _
  · refine Only.upd_pwr rfl ?_
    refine Only.then (enterOff_only _ _) rfl ?_
    refine Only.then (tearTxn_only _) rfl ?_
    exact Only.refl _ _

theorem viewIndex_only (s : Dev) (x1 : Nat) :
    Only [.cl, .log, .inForce] s (viewIndex s x1) := by
  unfold viewIndex
  try dsimp only
  refine Only.ite_then ?_ ?_
  · refine Only.ite_then ?_ ?_
    · apply Only.via
      · apply Only.then (post_only _ _ _ _) rfl
        apply Only.then (clearCond_only _ _ _ _ _) rfl
        exact Only.refl _ _
      · refine Only.ite_else ?_ ?_
        · exact Only.refl _ _
        · refine Only.then (raise_only _ _ _ _ _) rfl ?_
          exact Only.refl _ _
      · refine Only.then (setMem_only _ _ _) rfl ?_
        exact Only.refl _ _
    · refine Only.then (clearCond_only _ _ _ _ _) rfl ?_
      exact Only.refl _ _
  · refine Only.then (clearCond_only _ _ _ _ _) rfl ?_
    exact Only.refl _ _

theorem viewEvaluation_only (s : Dev) :
    Only [.regs, .lim, .cl, .log, .inForce] s (viewEvaluation s) := by
  unfold viewEvaluation
  try dsimp only
  refine Only.ite_then ?_ ?_
  · exact Only.refl _ _
  · refine Only.then (track_only _ _ _ _ _ _ _) rfl ?_
    refine Only.then (wrB_only _ _ _ _) rfl ?_
    refine Only.then (wrN_only _ _ _) rfl ?_
    refine Only.then (wrN_only _ _ _) rfl ?_
    refine Only.then (newHead_only _ _) rfl ?_
    refine Only.forL ?_ ?_
    · exact Only.refl _ _
    · intro u x
      try dsimp only
      refine Only.then (viewIndex_only _ _) rfl ?_
      exact Only.refl _ _

theorem vitReqWrite_only (x0 : Nat) (s : Dev) :
    Only [.regs, .busErr] s (vitReqWrite x0 s) := by
  unfold vitReqWrite
  try dsimp only
  refine Only.ite ?_ ?_
  · refine Only.then (busErrorTo_only _ _) rfl ?_
    exact Only.refl _ _
  · refine Only.ite_else ?_ ?_
    · exact Only.refl _ _
    · refine Only.then (wrB_only _ _ _ _) rfl ?_
      exact Only.refl _ _

theorem vitrineTakeBody_only (x0 : HostCmd) (s : Dev) :
    Only [.exe, .host, .cnt] s (vitrineTakeBody x0 s) := by
  unfold vitrineTakeBody
  try dsimp only
  refine Only.ite ?_ ?_
  · refine Only.then (answer_only _ _ _ _) rfl ?_
    exact Only.refl _ _
  · refine Only.then (emit_only _ _ _) rfl ?_
    refine Only.upd_cnt rfl ?_
    exact Only.refl _ _

theorem vitrineTake_only (x0 : HostCmd) (s : Dev) :
    Only [.exe, .host, .cnt, .actor] s (vitrineTake x0 s) := by
  unfold vitrineTake
  try dsimp only
  refine serve_only rfl ?_
  intro u
  refine Only.then (vitrineTakeBody_only _ _) rfl ?_
  exact Only.refl _ _

theorem wakeSourceFired_only (x0 x1 x2 : Nat) (s : Dev) :
    Only [.dev, .regs, .mem, .win, .parCfg, .parNow, .tb, .piste, .rings, .acq, .est, .chg, .lim, .thm, .strs, .bus, .saf, .exe, .host, .cl, .can, .cnt, .log, .pwr, .inForce, .uptimeMs, .actor, .busErr, .readVal, .posts] s (wakeSourceFired x0 x1 x2 s) := by
  unfold wakeSourceFired
  try dsimp only
  refine Only.ite_then ?_ ?_
  · exact Only.refl _ _
  · refine Only.ite_else ?_ ?_
    · refine Only.upd_pwr rfl ?_
      exact Only.refl _ _
    · refine Only.then (bootRun_only _ _ _ _) rfl ?_
      exact Only.refl _ _

theorem watchdogExpiry_only (s : Dev) :
    Only [.dev, .regs, .strs, .bus, .saf, .exe, .log, .pwr, .inForce] s (watchdogExpiry s) := by
  unfold watchdogExpiry
  try dsimp only
  refine Only.ite_then ?_ ?_
  · exact Only.refl _ _
  · refine Only.then (fault5_only _ _ _ _) rfl ?_
    refine Only.then (wrB_only _ _ _ _) rfl ?_
    refine Only.upd_saf rfl ?_
    exact Only.refl _ _

end Sys2Proof.Machine
end

