-- ==== Sys2Proof/Laws/PerInstr.lean ====
section
/-!
SUPPORT. Sys2Proof/Laws/PerInstr.lean: what holds of every command as syntax: the list of parts it may change (Safety.lean) never names
the canonical form of registers, memory and host window.
-/
namespace Sys2Proof.Laws.KeepsForm

open Sys2Proof Sys2Proof.Machine

/-- No command may break the canonical form. -/
def Statement (i : Instr) : Prop := (changes i).contains .form = false

theorem angleZero (tsc : U32) : Statement (.angleZero tsc) := rfl
theorem timebaseEvaluation (half : Bool) (freq : Nat) (e : Int) (pos neg : Nat) : Statement (.timebaseEvaluation half freq e pos neg) := rfl
theorem holdoverTimerExpiry : Statement (.holdoverTimerExpiry) := rfl
theorem tbAngleRead (a : U32) : Statement (.tbAngleRead a) := rfl
theorem gateStart (k : Nat) : Statement (.gateStart k) := rfl
theorem gateDeadline (k : Nat) : Statement (.gateDeadline k) := rfl
theorem pisteDone (p k : Nat) : Statement (.pisteDone p k) := rfl
theorem pisteSwapReq : Statement (.pisteSwapReq) := rfl
theorem ringFrameTransmit (n : Nat) : Statement (.ringFrameTransmit n) := rfl
theorem phaserefBroadcast : Statement (.phaserefBroadcast) := rfl
theorem trainLaunch (direct : List (Nat × Int × Int × Int × Bool)) : Statement (.trainLaunch direct) := rfl
theorem segmentReceived (n : Nat) (sideB : Bool) (x : TrainPart) (last : Bool) : Statement (.segmentReceived n sideB x last) := rfl
theorem respReceived (n : Nat) (frame : List U8) : Statement (.respReceived n frame) := rfl
theorem ringCmdTimeout (n : Nat) : Statement (.ringCmdTimeout n) := rfl
theorem cmdEchoCheck (n : Nat) (frame : List U8) : Statement (.cmdEchoCheck n frame) := rfl
theorem triggerArrivalCheck (n : Nat) (ok : Bool) : Statement (.triggerArrivalCheck n ok) := rfl
theorem trainReturnTimeout (n : Nat) (sideB : Bool) : Statement (.trainReturnTimeout n sideB) := rfl
theorem stubEndsSet (n : Nat) : Statement (.stubEndsSet n) := rfl
theorem pongReceived (n : Nat) (sideB : Bool) (addr : Nat) : Statement (.pongReceived n sideB addr) := rfl
theorem enumAckReceived (n rtt id serial c0 c1 : Nat) : Statement (.enumAckReceived n rtt id serial c0 c1) := rfl
theorem assignAckTimeout (n : Nat) (arrived : Bool) (lat : Nat) : Statement (.assignAckTimeout n arrived lat) := rfl
theorem closureProbeTimer : Statement (.closureProbeTimer) := rfl
theorem closeProbeArrived (n lat : Nat) : Statement (.closeProbeArrived n lat) := rfl
theorem ringEnumerateRequest (n : Nat) : Statement (.ringEnumerateRequest n) := rfl
theorem stringDataLostTimeout (x : Nat) : Statement (.stringDataLostTimeout x) := rfl
theorem acqScrEvt3Read : Statement (.acqScrEvt3Read) := rfl
theorem acqScrApply (p : Nat) (v : U32) : Statement (.acqScrApply p v) := rfl
theorem focComparatorTrip (n : Nat) (chg : Bool) : Statement (.focComparatorTrip n chg) := rfl
theorem focTripClear (p : Nat) (v held : U32) : Statement (.focTripClear p v held) := rfl
theorem focComparatorTest (n : Nat) (chg : Bool) : Statement (.focComparatorTest n chg) := rfl
theorem protectedSramStore (a : Nat) : Statement (.protectedSramStore a) := rfl
theorem estGo (p k gate : Nat) : Statement (.estGo p k gate) := rfl
theorem estimatorPassComplete (clk : Nat) (upsets : List (Nat × Nat × Nat)) : Statement (.estimatorPassComplete clk upsets) := rfl
theorem estCurJob (p x : Nat) : Statement (.estCurJob p x) := rfl
theorem curatorJobComplete (atGo : Bool) : Statement (.curatorJobComplete atGo) := rfl
theorem laneTestRequest (p : Nat) : Statement (.laneTestRequest p) := rfl
theorem laneTestComplete (mask : U32) : Statement (.laneTestComplete mask) := rfl
theorem estLaneFenceWrite (p : Nat) (v : U32) : Statement (.estLaneFenceWrite p v) := rfl
theorem estWtDescWrite (p x b w : Nat) (v : U32) : Statement (.estWtDescWrite p x b w v) := rfl
theorem quietWindowComplete (x : Nat) : Statement (.quietWindowComplete x) := rfl
theorem unexcitedTimeout (x : Nat) : Statement (.unexcitedTimeout x) := rfl
theorem capLearnArmTimeout (x : Nat) : Statement (.capLearnArmTimeout x) := rfl
theorem pcsFeedbackReceived (n : Nat) (fdf : Bool) (data : List U8) : Statement (.pcsFeedbackReceived n fdf data) := rfl
theorem pcsHeartbeatReceived (n : Nat) (data : List U8) : Statement (.pcsHeartbeatReceived n data) := rfl
theorem pcsSilentTimeout : Statement (.pcsSilentTimeout) := rfl
theorem pcsBusSilentTimeout (n : Nat) : Statement (.pcsBusSilentTimeout n) := rfl
theorem pcsOverlimitTimeout (chg : Bool) : Statement (.pcsOverlimitTimeout chg) := rfl
theorem thermalEvaluation : Statement (.thermalEvaluation) := rfl
theorem thermalDwellExpiry (x : Nat) (low : Bool) : Statement (.thermalDwellExpiry x low) := rfl
theorem thermalHoldExpiry (x : Nat) : Statement (.thermalHoldExpiry x) := rfl
theorem thermalStall : Statement (.thermalStall) := rfl
theorem dieTemperatureUpdate (l : List Int) : Statement (.dieTemperatureUpdate l) := rfl
theorem dieStateDwellExpiry : Statement (.dieStateDwellExpiry) := rfl
theorem dieSensorExclusion (k : Nat) : Statement (.dieSensorExclusion k) := rfl
theorem compensationUpdate : Statement (.compensationUpdate) := rfl
theorem snapshotSafetyCheck (tUs : Nat) : Statement (.snapshotSafetyCheck tUs) := rfl
theorem contactorPoll (x : Nat) : Statement (.contactorPoll x) := rfl
theorem contactorFbTimeout (x mask : Nat) : Statement (.contactorFbTimeout x mask) := rfl
theorem poleGapExpiry (x : Nat) : Statement (.poleGapExpiry x) := rfl
theorem rampTimeout : Statement (.rampTimeout) := rfl
theorem joinWaitTimeout (x : Nat) : Statement (.joinWaitTimeout x) := rfl
theorem prechargeDurationTimeout (x : Nat) : Statement (.prechargeDurationTimeout x) := rfl
theorem fbkInputChange (n : Nat) (high : Bool) : Statement (.fbkInputChange n high) := rfl
theorem busContactorFbTimeout (n : Nat) : Statement (.busContactorFbTimeout n) := rfl
theorem safetyTick (direct : List (Nat × Int)) : Statement (.safetyTick direct) := rfl
theorem sinChannelChange (n : Nat) (chB high : Bool) : Statement (.sinChannelChange n chB high) := rfl
theorem sinDiscrepancyTimeout (n : Nat) : Statement (.sinDiscrepancyTimeout n) := rfl
theorem tpoPulse (k : Nat) : Statement (.tpoPulse k) := rfl
theorem tpoPulseEnd (k : Nat) (low crossed : List Nat) : Statement (.tpoPulseEnd k low crossed) := rfl
theorem sswDwellExpiry (x : Nat) (chg : Bool) : Statement (.sswDwellExpiry x chg) := rfl
theorem directionSettleExpiry (x : Nat) (chg : Bool) : Statement (.directionSettleExpiry x chg) := rfl
theorem seoReadbackMismatch (n : Nat) (chB back : Bool) : Statement (.seoReadbackMismatch n chB back) := rfl
theorem seoTestPulse (n : Nat) : Statement (.seoTestPulse n) := rfl
theorem seoTestPulseEnd (n : Nat) (off on : Bool) : Statement (.seoTestPulseEnd n off on) := rfl
theorem safWdogWrite (p v : Nat) : Statement (.safWdogWrite p v) := rfl
theorem watchdogExpiry : Statement (.watchdogExpiry) := rfl
theorem safCtrlSafe (p ev : Nat) : Statement (.safCtrlSafe p ev) := rfl
theorem safSeoReqWrite (p v : Nat) : Statement (.safSeoReqWrite p v) := rfl
theorem safResetWrite (p : Nat) (v : U32) : Statement (.safResetWrite p v) := rfl
theorem safRestartWrite (p : Nat) (v : U32) : Statement (.safRestartWrite p v) := rfl
theorem compareWindowClose (p : Nat) (prim shad : List Retired) (bad : Bool) (inputs : List (Nat × U32)) (ckpt : List U32) : Statement (.compareWindowClose p prim shad bad inputs ckpt) := rfl
theorem recoveryVote (p : Nat) (prim shad spr : List Retired) (x : RunEnd) : Statement (.recoveryVote p prim shad spr x) := rfl
theorem retryCompare (p : Nat) (prim shad : List Retired) (x : RunEnd) : Statement (.retryCompare p prim shad x) := rfl
theorem recoveryTimeout (p : Nat) : Statement (.recoveryTimeout p) := rfl
theorem coreSelftestComplete (core : Nat) (ok : Bool) : Statement (.coreSelftestComplete core ok) := rfl
theorem spareSelftestTimer : Statement (.spareSelftestTimer) := rfl
theorem spareTestRequest (p : Nat) : Statement (.spareTestRequest p) := rfl
theorem pairHeartbeatTimeout (p : Nat) : Statement (.pairHeartbeatTimeout p) := rfl
theorem exeRestartWrite (p : Nat) (v : U32) : Statement (.exeRestartWrite p v) := rfl
theorem pairRestartTimeout (p : Nat) : Statement (.pairRestartTimeout p) := rfl
theorem debugHalt (core : Nat) : Statement (.debugHalt core) := rfl
theorem scrubTick (err : Bool) : Statement (.scrubTick err) := rfl
theorem eccUncorrectableRead (req a : Nat) : Statement (.eccUncorrectableRead req a) := rfl
theorem busTransactionTimeout : Statement (.busTransactionTimeout) := rfl
theorem qspiFastRead (a : BitVec 24) (len : Nat) : Statement (.qspiFastRead a len) := rfl
theorem qspiQuadIoRead (a : BitVec 24) (len : Nat) : Statement (.qspiQuadIoRead a len) := rfl
theorem qspiWrite (a : BitVec 24) (x : HostWrite) : Statement (.qspiWrite a x) := rfl
theorem qspiQuadIoWrite (a : BitVec 24) (x : HostWrite) : Statement (.qspiQuadIoWrite a x) := rfl
theorem qspiReadStatusByte : Statement (.qspiReadStatusByte) := rfl
theorem hpCmdWpWrite (v : U32) : Statement (.hpCmdWpWrite v) := rfl
theorem hpRplRpWrite (v : U32) : Statement (.hpRplRpWrite v) := rfl
theorem packetIntake : Statement (.packetIntake) := rfl
theorem clusterCommandFragment (p mac : Nat) (body : List U8) : Statement (.clusterCommandFragment p mac body) := rfl
theorem reassemblyTimeout (mac sn tag : Nat) : Statement (.reassemblyTimeout mac sn tag) := rfl
theorem commandTimeout (sn tag : Nat) : Statement (.commandTimeout sn tag) := rfl
theorem pendingInterim (sn tag : Nat) : Statement (.pendingInterim sn tag) := rfl
theorem sessionExpiry (n : Nat) : Statement (.sessionExpiry n) := rfl
theorem sessionHoldExpiry (n : Nat) : Statement (.sessionHoldExpiry n) := rfl
theorem authDeadlineExpiry (n : Nat) : Statement (.authDeadlineExpiry n) := rfl
theorem authLockoutExpiry (p : Nat) : Statement (.authLockoutExpiry p) := rfl
theorem configIdleTimeout : Statement (.configIdleTimeout) := rfl
theorem identify (c : HostCmd) : Statement (.identify c) := rfl
theorem statusGet (c : HostCmd) : Statement (.statusGet c) := rfl
theorem serviceEnter (c : HostCmd) : Statement (.serviceEnter c) := rfl
theorem serviceLeave (c : HostCmd) : Statement (.serviceLeave c) := rfl
theorem configBegin (c : HostCmd) : Statement (.configBegin c) := rfl
theorem paramSet (c : HostCmd) : Statement (.paramSet c) := rfl
theorem paramGet (c : HostCmd) : Statement (.paramGet c) := rfl
theorem configCommit (c : HostCmd) : Statement (.configCommit c) := rfl
theorem configAbort (c : HostCmd) : Statement (.configAbort c) := rfl
theorem timebaseGet (c : HostCmd) : Statement (.timebaseGet c) := rfl
theorem timebaseAlign (c : HostCmd) : Statement (.timebaseAlign c) := rfl
theorem pisteRead (c : HostCmd) : Statement (.pisteRead c) := rfl
theorem pisteWrite (c : HostCmd) : Statement (.pisteWrite c) := rfl
theorem ringStatus (c : HostCmd) : Statement (.ringStatus c) := rfl
theorem ringEnumerate (c : HostCmd) : Statement (.ringEnumerate c) := rfl
theorem ringLeave (c : HostCmd) : Statement (.ringLeave c) := rfl
theorem nodeRead (c : HostCmd) : Statement (.nodeRead c) := rfl
theorem unitMapSet (c : HostCmd) : Statement (.unitMapSet c) := rfl
theorem unitMapGet (c : HostCmd) : Statement (.unitMapGet c) := rfl
theorem historyRead (c : HostCmd) : Statement (.historyRead c) := rfl
theorem stringSampleRead (c : HostCmd) : Statement (.stringSampleRead c) := rfl
theorem directRead (c : HostCmd) : Statement (.directRead c) := rfl
theorem balClear (c : HostCmd) : Statement (.balClear c) := rfl
theorem catalogueRead (c : HostCmd) : Statement (.catalogueRead c) := rfl
theorem stringEstRead (c : HostCmd) : Statement (.stringEstRead c) := rfl
theorem capacityWrite (c : HostCmd) : Statement (.capacityWrite c) := rfl
theorem masterTableLoad (c : HostCmd) : Statement (.masterTableLoad c) := rfl
theorem limitsRead (c : HostCmd) : Statement (.limitsRead c) := rfl
theorem thermalRead (c : HostCmd) : Statement (.thermalRead c) := rfl
theorem sensorRead (c : HostCmd) : Statement (.sensorRead c) := rfl
theorem stringConnect (c : HostCmd) : Statement (.stringConnect c) := rfl
theorem stringDisconnect (c : HostCmd) : Statement (.stringDisconnect c) := rfl
theorem stringLock (c : HostCmd) : Statement (.stringLock c) := rfl
theorem stringUnlock (c : HostCmd) : Statement (.stringUnlock c) := rfl
theorem stringWeldRelease (c : HostCmd) : Statement (.stringWeldRelease c) := rfl
theorem stringRead (c : HostCmd) : Statement (.stringRead c) := rfl
theorem safetyReset (c : HostCmd) : Statement (.safetyReset c) := rfl
theorem sinReset (c : HostCmd) : Statement (.sinReset c) := rfl
theorem safetyRead (c : HostCmd) : Statement (.safetyRead c) := rfl
theorem execRead (c : HostCmd) : Statement (.execRead c) := rfl
theorem coreUnfence (c : HostCmd) : Statement (.coreUnfence c) := rfl
theorem debugSet (c : HostCmd) : Statement (.debugSet c) := rfl
theorem sessionOpen (c : HostCmd) : Statement (.sessionOpen c) := rfl
theorem sessionAuth (c : HostCmd) : Statement (.sessionAuth c) := rfl
theorem sessionClose (c : HostCmd) : Statement (.sessionClose c) := rfl
theorem sessionPing (c : HostCmd) : Statement (.sessionPing c) := rfl
theorem cmdCancel (c : HostCmd) : Statement (.cmdCancel c) := rfl
theorem tagQuery (c : HostCmd) : Statement (.tagQuery c) := rfl
theorem noticeSubscribe (c : HostCmd) : Statement (.noticeSubscribe c) := rfl
theorem keyProvision (c : HostCmd) : Statement (.keyProvision c) := rfl
theorem clusterRead (c : HostCmd) : Statement (.clusterRead c) := rfl
theorem canTx (c : HostCmd) : Statement (.canTx c) := rfl
theorem canRxRead (c : HostCmd) : Statement (.canRxRead c) := rfl
theorem canStatus (c : HostCmd) : Statement (.canStatus c) := rfl
theorem canRecover (c : HostCmd) : Statement (.canRecover c) := rfl
theorem logRead (c : HostCmd) : Statement (.logRead c) := rfl
theorem counterRead (c : HostCmd) : Statement (.counterRead c) := rfl
theorem vitrineTake (c : HostCmd) : Statement (.vitrineTake c) := rfl
theorem dumpRead (c : HostCmd) : Statement (.dumpRead c) := rfl
theorem fwStageBegin (c : HostCmd) : Statement (.fwStageBegin c) := rfl
theorem fwStageData (c : HostCmd) : Statement (.fwStageData c) := rfl
theorem fwStageVerify (c : HostCmd) : Statement (.fwStageVerify c) := rfl
theorem fwActivate (c : HostCmd) : Statement (.fwActivate c) := rfl
theorem fwInfo (c : HostCmd) : Statement (.fwInfo c) := rfl
theorem hibernate (c : HostCmd) : Statement (.hibernate c) := rfl
theorem retainedSave (c : HostCmd) : Statement (.retainedSave c) := rfl
theorem helloBroadcast : Statement (.helloBroadcast) := rfl
theorem helloReceived (p : Nat) (body : List U8) : Statement (.helloReceived p body) := rfl
theorem viewEvaluation : Statement (.viewEvaluation) := rfl
theorem phaseSyncBroadcast (angle : U32) : Statement (.phaseSyncBroadcast angle) := rfl
theorem phaseSyncReceived (p src : Nat) (x : SyncFrame) : Statement (.phaseSyncReceived p src x) := rfl
theorem delayReqSend (t1 : Nat) : Statement (.delayReqSend t1) := rfl
theorem delayReqReceived (p src seq corr t2 t3 : Nat) : Statement (.delayReqReceived p src seq corr t2 t3) := rfl
theorem delayRespReceived (seq corr corrReq t2 t3 t4 : Nat) : Statement (.delayRespReceived seq corr corrReq t2 t3 t4) := rfl
theorem reduceContributionReceived (src : Nat) (words : List U32) : Statement (.reduceContributionReceived src words) := rfl
theorem reduceCollection : Statement (.reduceCollection) := rfl
theorem reduceResultReceived (src : Nat) (words : List U32) : Statement (.reduceResultReceived src words) := rfl
theorem clusterFrameArrival (p : Nat) (h : ClHead) (h1 h2 : U32) (body : List U8) (fcsOk : Bool) (residence : Nat) (busy : Bool) : Statement (.clusterFrameArrival p h h1 h2 body fcsOk residence busy) := rfl
theorem clusterPortDown (p : Nat) : Statement (.clusterPortDown p) := rfl
theorem phyPoll (links : Nat) : Statement (.phyPoll links) := rfl
theorem canAttemptStart (n : Nat) (tsc : U32) : Statement (.canAttemptStart n tsc) := rfl
theorem canTransmitComplete (n : Nat) (edges : List Nat) : Statement (.canTransmitComplete n edges) := rfl
theorem txb2HoldStart : Statement (.txb2HoldStart) := rfl
theorem canFrameReceived (n : Nat) (f : CanFrame) (tsc : U32) : Statement (.canFrameReceived n f tsc) := rfl
theorem canBusError (n : Nat) (e : CanError) : Statement (.canBusError n e) := rfl
theorem canRecoveryComplete (n : Nat) : Statement (.canRecoveryComplete n) := rfl
theorem canTxbPutWrite (p n k v : Nat) : Statement (.canTxbPutWrite p n k v) := rfl
theorem canTxCancelWrite (p n : Nat) (v : U32) (win : Bool) : Statement (.canTxCancelWrite p n v win) := rfl
theorem canTxResumeWrite (p n : Nat) (v : U32) : Statement (.canTxResumeWrite p n v) := rfl
theorem canTxevAckWrite (p n v : Nat) : Statement (.canTxevAckWrite p n v) := rfl
theorem canRxfAckWrite (p n k v : Nat) : Statement (.canRxfAckWrite p n k v) := rfl
theorem canFltSwapReq (p n : Nat) : Statement (.canFltSwapReq p n) := rfl
theorem canFilterSwap (n : Nat) : Statement (.canFilterSwap n) := rfl
theorem canCtrlRecover (p n : Nat) : Statement (.canCtrlRecover p n) := rfl
theorem canObjSend (p n w : Nat) (v : U32) : Statement (.canObjSend p n w v) := rfl
theorem canRamUncorrectable (n off : Nat) : Statement (.canRamUncorrectable n off) := rfl
theorem canWakePattern : Statement (.canWakePattern) := rfl
theorem cntLoRead (p n : Nat) : Statement (.cntLoRead p n) := rfl
theorem cntLoWrite (p n : Nat) (v : U32) : Statement (.cntLoWrite p n v) := rfl
theorem cntHiWrite (p n : Nat) (v : U32) : Statement (.cntHiWrite p n v) := rfl
theorem dumpRecordWritten : Statement (.dumpRecordWritten) := rfl
theorem vitReqWrite (p : Nat) : Statement (.vitReqWrite p) := rfl
theorem bwWindowEnd (k bytes : Nat) : Statement (.bwWindowEnd k bytes) := rfl
theorem bwCfgWrite (p k : Nat) (v : U32) : Statement (.bwCfgWrite p k v) := rfl
theorem logIntake : Statement (.logIntake) := rfl
theorem logSecondBoundary : Statement (.logSecondBoundary) := rfl
theorem resetNChange (high : Bool) : Statement (.resetNChange high) := rfl
theorem vaonPowerOn (above : Bool) : Statement (.vaonPowerOn above) := rfl
theorem brownOut : Statement (.brownOut) := rfl
theorem pgoodInFall : Statement (.pgoodInFall) := rfl
theorem powerFailReset : Statement (.powerFailReset) := rfl
theorem bootStart (bootsel failed : Nat) : Statement (.bootStart bootsel failed) := rfl
theorem bootWatchdogExpiry (bootsel failed : Nat) : Statement (.bootWatchdogExpiry bootsel failed) := rfl
theorem retGoWrite (p : Nat) (v : U32) : Statement (.retGoWrite p v) := rfl
theorem retainedTransactionDone : Statement (.retainedTransactionDone) := rfl
theorem periodicSave : Statement (.periodicSave) := rfl
theorem pwrCtrlHibReq (p : Nat) : Statement (.pwrCtrlHibReq p) := rfl
theorem pwrCtrlRestart (p bootsel failed : Nat) : Statement (.pwrCtrlRestart p bootsel failed) := rfl
theorem hibernateAbortTimeout : Statement (.hibernateAbortTimeout) := rfl
theorem wakeSourceFired (srcs bootsel failed : Nat) : Statement (.wakeSourceFired srcs bootsel failed) := rfl
theorem trialConfirmTimeout : Statement (.trialConfirmTimeout) := rfl
theorem trialRollbackRestart (bootsel failed : Nat) : Statement (.trialRollbackRestart bootsel failed) := rfl
theorem registerWrite (p a : Nat) (x : RegWrite) : Statement (.registerWrite p a x) := rfl
theorem readClearRegister (p : Nat) (x : RegRead) : Statement (.readClearRegister p x) := rfl
theorem pingTimeout (n : Nat) (sideB : Bool) : Statement (.pingTimeout n sideB) := rfl
theorem focTestEnd (changed : Bool) : Statement (.focTestEnd changed) := rfl
theorem busoffRecoveryStart (n : Nat) : Statement (.busoffRecoveryStart n) := rfl
theorem canIntegrationComplete (n : Nat) : Statement (.canIntegrationComplete n) := rfl
theorem activationRestart (bootsel failed : Nat) : Statement (.activationRestart bootsel failed) := rfl
theorem jtagInstructionUpdate (ins : JtagIns) : Statement (.jtagInstructionUpdate ins) := rfl
theorem headEntrySync (angle : U32) : Statement (.headEntrySync angle) := rfl

end Sys2Proof.Laws.KeepsForm
end

