-- ==== Sys2Proof/Laws/Posted.lean ====
section
/-!
SUPPORT. Sys2Proof/Laws/Posted.lean: event records: who posts one, and that it stays posted until P2 takes it.
-/
namespace Sys2Proof.Machine

theorem posted_mono {l : List Part} {s t : Dev} (h : Only l s t) (hl : Part.posts ∉ l) {p c a : Nat} (k : posted s p c a) :
    posted t p c a := by
  obtain ⟨r, hr, e⟩ := k
  exact ⟨r, h .posts hl p r hr, e⟩

theorem post_posted (s : Dev) (p c a : Nat) : posted (post s p c a) p c a := by
  unfold posted post
  exact ⟨_, by rw [Tbl.get_set_same]; exact List.mem_append_right _ (List.mem_singleton.mpr rfl), rfl, rfl⟩

theorem note_posted (s : Dev) (p c a : Nat) : posted (note s p c a) p c a := by
  unfold note
  dsimp only
  split
  · exact post_posted s p c a
  · exact post_posted s p c a

theorem raise_posted (s : Dev) (p c a sc : Nat) (h : inForceB s c sc = false) : posted (raise s p c a sc) p c a := by
  unfold raise
  rw [if_neg (by simp [h])]
  dsimp only
  split
  · exact post_posted s p c a
  · exact post_posted s p c a

theorem clearCond_posted (s : Dev) (p c sc str : Nat) (h : inForceB s c sc = true) (hc : 1 ≤ Ev.cls c ∧ Ev.cls c ≤ 3) :
    posted (clearCond s p c sc str) p Ev.CONDITION_CLEARED (c + str * 0x10000) := by
  unfold clearCond
  rw [if_pos h]
  dsimp only
  rw [if_pos hc]
  exact post_posted _ _ _ _

/-- An event in force just raised. -/
theorem raise_inForce (s : Dev) (p c a sc : Nat) (hc : Ev.cls c ≠ 0) : inForceB (raise s p c a sc) c sc = true := by
  unfold raise
  split
  · assumption
  · simp [inForceB]

end Sys2Proof.Machine
end

