-- ==== Sys2Proof/WellFormed.lean ====
section
/-!
DEFINITION. Sys2Proof/WellFormed.lean: the operands that the spec's ranges admit. A command outside them is no command of the block;
the machine gives it a meaning all the same, and nothing rests on it.
-/
namespace Sys2Proof

/-- A host command's fields are within the packet's (R364, R369): the session number is 0 to 7, or 0xF outside one; 16 queues, 16-bit
tags, at most 4,096 payload words; three transports. -/
def Machine.HostCmd.wf (c : Machine.HostCmd) : Bool :=
  decide (c.sess < 8 ∨ c.sess = 15) && decide (c.queue < 16) && decide (c.tag < 65536) && decide (c.payload.length ≤ 4096) && decide (c.port < 3)

/-- The command is well formed. -/
def Instr.wf (i : Instr) : Bool :=
  match i with
  | .angleZero _ => true
  | .timebaseEvaluation _ freq e pos neg => decide (freq < 2 ^ 32) && decide (-(2 ^ 31) ≤ e ∧ e < 2 ^ 31) && decide (pos < 65536) && decide (neg < 65536)
  | .holdoverTimerExpiry => true
  | .tbAngleRead _ => true
  | .gateStart k => decide (k < 256)
  | .gateDeadline k => decide (k < 256)
  | .pisteDone p k => decide (p < 4) && decide (k < 256)
  | .pisteSwapReq => true
  | .ringFrameTransmit n => decide (n < 32)
  | .phaserefBroadcast => true
  | .trainLaunch direct => direct.all (fun d => decide (d.1 < 40))
  | .segmentReceived n _ x _ => decide (n < 32) && decide (x.head.length ≤ 16) && decide (x.seg.length ≤ 128)
  | .respReceived n frame => decide (n < 32) && decide (frame.length ≤ 2048)
  | .ringCmdTimeout n => decide (n < 32)
  | .cmdEchoCheck n frame => decide (n < 32) && decide (frame.length ≤ 2048)
  | .triggerArrivalCheck n _ => decide (n < 32)
  | .trainReturnTimeout n _ => decide (n < 32)
  | .stubEndsSet n => decide (n < 32)
  | .pongReceived n _ addr => decide (n < 32) && decide (addr < 128)
  | .enumAckReceived n _ id serial c0 c1 => decide (n < 32) && decide (id < 2 ^ 32) && decide (serial < 2 ^ 64) && decide (c0 < 65536) && decide (c1 < 65536)
  | .assignAckTimeout n _ _ => decide (n < 32)
  | .closureProbeTimer => true
  | .closeProbeArrived n _ => decide (n < 32)
  | .ringEnumerateRequest n => decide (n < 32)
  | .stringDataLostTimeout x => decide (x < 128)
  | .acqScrEvt3Read => true
  | .acqScrApply p _ => decide (p < 4)
  | .focComparatorTrip n _ => decide (n < 16)
  | .focTripClear p _ _ => decide (p < 4)
  | .focComparatorTest n _ => decide (n < 16)
  | .protectedSramStore a => decide (0x20000000 ≤ a ∧ a < 0x22000000)
  | .estGo p k gate => decide (p < 4) && decide (k < 8) && decide (gate < 256)
  | .estimatorPassComplete clk upsets => decide (clk < 2 ^ 32) && upsets.all (fun u => decide (u.1 < 65536 ∧ 8 ≤ u.2.1 ∧ u.2.1 < 0x50 ∧ u.2.2 < 256))
  | .estCurJob p x => decide (p < 4) && decide (x < 128)
  | .curatorJobComplete _ => true
  | .laneTestRequest p => decide (p < 4)
  | .laneTestComplete _ => true
  | .estLaneFenceWrite p _ => decide (p < 4)
  | .estWtDescWrite p x b w _ => decide (p < 4) && decide (x < 128) && decide (b < 2) && decide (w < 2)
  | .quietWindowComplete x => decide (x < 128)
  | .unexcitedTimeout x => decide (x < 128)
  | .capLearnArmTimeout x => decide (x < 128)
  | .pcsFeedbackReceived n _ data => decide (n < 8) && decide (data.length ≤ 64)
  | .pcsHeartbeatReceived n data => decide (n < 8) && decide (data.length ≤ 64)
  | .pcsSilentTimeout => true
  | .pcsBusSilentTimeout n => decide (n < 8)
  | .pcsOverlimitTimeout _ => true
  | .thermalEvaluation => true
  | .thermalDwellExpiry x _ => decide (x < 128)
  | .thermalHoldExpiry x => decide (x < 128)
  | .thermalStall => true
  | .dieTemperatureUpdate l => decide (l.length = 8) && l.all (fun t => decide (-32768 ≤ t ∧ t < 32768))
  | .dieStateDwellExpiry => true
  | .dieSensorExclusion k => decide (k < 8)
  | .compensationUpdate => true
  | .snapshotSafetyCheck _ => true
  | .contactorPoll x => decide (x < 128)
  | .contactorFbTimeout x mask => decide (x < 128) && decide (mask < 8)
  | .poleGapExpiry x => decide (x < 128)
  | .rampTimeout => true
  | .joinWaitTimeout x => decide (x < 128)
  | .prechargeDurationTimeout x => decide (x < 128)
  | .fbkInputChange n _ => decide (n < 16)
  | .busContactorFbTimeout n => decide (n < 16)
  | .safetyTick direct => direct.all (fun d => decide (d.1 < 40))
  | .sinChannelChange n _ _ => decide (n < 16)
  | .sinDiscrepancyTimeout n => decide (n < 16)
  | .tpoPulse k => decide (k < 4)
  | .tpoPulseEnd k low crossed => decide (k < 4) && low.all (fun c => decide (c < 32)) && crossed.all (fun c => decide (c < 32))
  | .sswDwellExpiry x _ => decide (x < 128)
  | .directionSettleExpiry x _ => decide (x < 128)
  | .seoReadbackMismatch n _ _ => decide (n < 8)
  | .seoTestPulse n => decide (n < 8)
  | .seoTestPulseEnd n _ _ => decide (n < 8)
  | .safWdogWrite p v => decide (p < 4) && decide (v < 2 ^ 32)
  | .watchdogExpiry => true
  | .safCtrlSafe p ev => decide (p < 4) && decide (ev < 65536)
  | .safSeoReqWrite p v => decide (p < 4) && decide (v < 2 ^ 32)
  | .safResetWrite p _ => decide (p < 4)
  | .safRestartWrite p _ => decide (p < 4)
  | .compareWindowClose p prim shad _ inputs ckpt => decide (p < 4) && decide (prim.length ≤ 512) && decide (shad.length ≤ 512) && decide (inputs.length ≤ 1024) && decide (ckpt.length = 97)
  | .recoveryVote p prim shad spr x => decide (p < 4) && decide (prim.length ≤ 512) && decide (shad.length ≤ 512) && decide (spr.length ≤ 512) && decide (x.ckpt.length = 97)
  | .retryCompare p prim shad x => decide (p < 4) && decide (prim.length ≤ 512) && decide (shad.length ≤ 512) && decide (x.ckpt.length = 97)
  | .recoveryTimeout p => decide (p < 4)
  | .coreSelftestComplete core _ => decide (core < 9)
  | .spareSelftestTimer => true
  | .spareTestRequest p => decide (p < 4)
  | .pairHeartbeatTimeout p => decide (p < 4)
  | .exeRestartWrite p _ => decide (p < 4)
  | .pairRestartTimeout p => decide (p < 4)
  | .debugHalt core => decide (core < 9)
  | .scrubTick _ => true
  | .eccUncorrectableRead req a => decide (req < 6) && decide ((0x20000000 ≤ a ∧ a < 0x22000000) ∨ (0x10000000 ≤ a ∧ a < 0x10400000))
  | .busTransactionTimeout => true
  | .qspiFastRead _ _ => true
  | .qspiQuadIoRead _ _ => true
  | .qspiWrite _ x => decide (x.bytes.length % 4 = 0)
  | .qspiQuadIoWrite _ x => decide (x.bytes.length % 4 = 0)
  | .qspiReadStatusByte => true
  | .hpCmdWpWrite _ => true
  | .hpRplRpWrite _ => true
  | .packetIntake => true
  | .clusterCommandFragment p mac _ => decide (p < 2) && decide (mac < 2 ^ 48)
  | .reassemblyTimeout mac sn tag => decide (mac < 2 ^ 48) && decide (sn < 16) && decide (tag < 65536)
  | .commandTimeout sn tag => decide (sn < 8) && decide (tag < 65536)
  | .pendingInterim sn tag => decide (sn < 8) && decide (tag < 65536)
  | .sessionExpiry n => decide (n < 8)
  | .sessionHoldExpiry n => decide (n < 8)
  | .authDeadlineExpiry n => decide (n < 8)
  | .authLockoutExpiry p => decide (p < 4)
  | .configIdleTimeout => true
  | .identify c => c.wf
  | .statusGet c => c.wf
  | .serviceEnter c => c.wf
  | .serviceLeave c => c.wf
  | .configBegin c => c.wf
  | .paramSet c => c.wf
  | .paramGet c => c.wf
  | .configCommit c => c.wf
  | .configAbort c => c.wf
  | .timebaseGet c => c.wf
  | .timebaseAlign c => c.wf
  | .pisteRead c => c.wf
  | .pisteWrite c => c.wf
  | .ringStatus c => c.wf
  | .ringEnumerate c => c.wf
  | .ringLeave c => c.wf
  | .nodeRead c => c.wf
  | .unitMapSet c => c.wf
  | .unitMapGet c => c.wf
  | .historyRead c => c.wf
  | .stringSampleRead c => c.wf
  | .directRead c => c.wf
  | .balClear c => c.wf
  | .catalogueRead c => c.wf
  | .stringEstRead c => c.wf
  | .capacityWrite c => c.wf
  | .masterTableLoad c => c.wf
  | .limitsRead c => c.wf
  | .thermalRead c => c.wf
  | .sensorRead c => c.wf
  | .stringConnect c => c.wf
  | .stringDisconnect c => c.wf
  | .stringLock c => c.wf
  | .stringUnlock c => c.wf
  | .stringWeldRelease c => c.wf
  | .stringRead c => c.wf
  | .safetyReset c => c.wf
  | .sinReset c => c.wf
  | .safetyRead c => c.wf
  | .execRead c => c.wf
  | .coreUnfence c => c.wf
  | .debugSet c => c.wf
  | .sessionOpen c => c.wf
  | .sessionAuth c => c.wf
  | .sessionClose c => c.wf
  | .sessionPing c => c.wf
  | .cmdCancel c => c.wf
  | .tagQuery c => c.wf
  | .noticeSubscribe c => c.wf
  | .keyProvision c => c.wf
  | .clusterRead c => c.wf
  | .canTx c => c.wf
  | .canRxRead c => c.wf
  | .canStatus c => c.wf
  | .canRecover c => c.wf
  | .logRead c => c.wf
  | .counterRead c => c.wf
  | .vitrineTake c => c.wf
  | .dumpRead c => c.wf
  | .fwStageBegin c => c.wf
  | .fwStageData c => c.wf
  | .fwStageVerify c => c.wf
  | .fwActivate c => c.wf
  | .fwInfo c => c.wf
  | .hibernate c => c.wf
  | .retainedSave c => c.wf
  | .helloBroadcast => true
  | .helloReceived p _ => decide (p < 2)
  | .viewEvaluation => true
  | .phaseSyncBroadcast _ => true
  | .phaseSyncReceived p src _ => decide (p < 2) && decide (src < 16384)
  | .delayReqSend _ => true
  | .delayReqReceived p src seq _ _ _ => decide (p < 2) && decide (src < 16384) && decide (seq < 65536)
  | .delayRespReceived seq _ _ _ _ _ => decide (seq < 65536)
  | .reduceContributionReceived src _ => decide (src < 16384)
  | .reduceCollection => true
  | .reduceResultReceived src _ => decide (src < 16384)
  | .clusterFrameArrival p h _ _ _ _ _ _ => decide (p < 2) && decide (h.dst < 2 ^ 48) && decide (h.src < 2 ^ 48)
  | .clusterPortDown p => decide (p < 2)
  | .phyPoll links => decide (links < 4)
  | .canAttemptStart n _ => decide (n < 8)
  | .canTransmitComplete n edges => decide (n < 8) && edges.all (fun e => decide (e < 4096))
  | .txb2HoldStart => true
  | .canFrameReceived n f _ => decide (n < 8) && decide (f.dlc < 16) && decide (f.id < (if f.xtd then 2 ^ 29 else 2 ^ 11)) && decide (f.data.length ≤ 64) && !(f.rtr && f.fdf)
  | .canBusError n e => decide (n < 8) && decide (1 ≤ e.kind ∧ e.kind ≤ 6) && e.edges.all (fun x => decide (x < 4096))
  | .canRecoveryComplete n => decide (n < 8)
  | .canTxbPutWrite p n k v => decide (p < 4) && decide (n < 8) && decide (k < 3) && decide (v < 32)
  | .canTxCancelWrite p n _ _ => decide (p < 4) && decide (n < 8)
  | .canTxResumeWrite p n _ => decide (p < 4) && decide (n < 8)
  | .canTxevAckWrite p n v => decide (p < 4) && decide (n < 8) && decide (v < 128)
  | .canRxfAckWrite p n k v => decide (p < 4) && decide (n < 8) && decide (k < 2) && decide (v < 128)
  | .canFltSwapReq p n => decide (p < 4) && decide (n < 8)
  | .canFilterSwap n => decide (n < 8)
  | .canCtrlRecover p n => decide (p < 4) && decide (n < 8)
  | .canObjSend p n w _ => decide (p < 4) && decide (n < 8) && decide (w < 2)
  | .canRamUncorrectable n off => decide (n < 8) && decide (off < 65536)
  | .canWakePattern => true
  | .cntLoRead p n => decide (p < 4) && decide (n < 2048)
  | .cntLoWrite p n _ => decide (p < 4) && decide (n < 2048)
  | .cntHiWrite p n _ => decide (p < 4) && decide (n < 2048)
  | .dumpRecordWritten => true
  | .vitReqWrite p => decide (p < 4)
  | .bwWindowEnd k bytes => decide (k < 16) && decide (bytes < 2 ^ 32)
  | .bwCfgWrite p k _ => decide (p < 4) && decide (k < 16)
  | .logIntake => true
  | .logSecondBoundary => true
  | .resetNChange _ => true
  | .vaonPowerOn _ => true
  | .brownOut => true
  | .pgoodInFall => true
  | .powerFailReset => true
  | .bootStart bootsel failed => decide (bootsel < 4) && decide (failed < 512)
  | .bootWatchdogExpiry bootsel failed => decide (bootsel < 4) && decide (failed < 512)
  | .retGoWrite p _ => decide (p < 4)
  | .retainedTransactionDone => true
  | .periodicSave => true
  | .pwrCtrlHibReq p => decide (p < 4)
  | .pwrCtrlRestart p bootsel failed => decide (p < 4) && decide (bootsel < 4) && decide (failed < 512)
  | .hibernateAbortTimeout => true
  | .wakeSourceFired srcs bootsel failed => decide (srcs < 16) && decide (bootsel < 4) && decide (failed < 512)
  | .trialConfirmTimeout => true
  | .trialRollbackRestart bootsel failed => decide (bootsel < 4) && decide (failed < 512)
  | .registerWrite p a _ => decide (p < 4) && ((Machine.regRow a).isSome && Machine.ownBits a != 0xFFFFFFFF || decide (0x30000000 ≤ a ∧ a < 0x30080000))
  | .readClearRegister p x => decide (p < 4) && (Machine.regRow x.addr).isSome && decide (x.idx < 512)
  | .pingTimeout n _ => decide (n < 32)
  | .focTestEnd _ => true
  | .busoffRecoveryStart n => decide (n < 8)
  | .canIntegrationComplete n => decide (n < 8)
  | .activationRestart bootsel failed => decide (bootsel < 4) && decide (failed < 512)
  | .jtagInstructionUpdate _ => true
  | .headEntrySync _ => true

end Sys2Proof
end

