-- ==== Sys2Proof/Tests/Slice0.lean ====
section
/-!
SUPPORT. Sys2Proof/Tests/Slice0.lean: witnesses for the hypotheses of every statement, ill-formed terms that WellFormed refuses, and the
spec's worked figures. Every expected figure is the spec's own.
-/
open Sys2Proof Sys2Proof.Machine
namespace Sys2Proof.Tests
set_option Elab.async false

/-! ## States and commands -/

def pr (k : Nat) : Pair := { primary := 2 * k, shadow := 2 * k + 1, lane := k, formed := true }
/-- Standby, with all pairs running and core 8 as the spare. -/
def up0 : Dev := { dev := .standby, exe := { p0 := pr 0, p1 := pr 1, p2 := pr 2, p3 := pr 3, spare := some 8 } }
def on (f : Dev → Dev) : State := { toDev := f up0, pins := State.reset.pins, pending := [] }
def up : State := on id
def c0 : HostCmd := { sess := 1, queue := 0, tag := 5, payload := [] }
def tbRun : State := on (fun d => { d with tb := { d.tb with running := true } })
def tbHold : State := on (fun d => wrF { d with tb := { d.tb with running := true, holdTimer := true } } TB_STATUS 2 3 3)
def gate1 : State := on (fun d => wr { d with tb := { d.tb with running := true } } (PISTE_BANK + 8) 0x80000500)
def gOpen : State := on (fun d => { d with piste := { d.piste with open_ := [{ idx := 1, deadline := 100, w2 := 0x80000500, arg := 0, cyc := 0, local_ := 0 }] } })
def nd1 : RingNode := { present := true, active := true, cfg0 := 0x2000 }
def nd2 : RingNode := { present := true, active := true, cfg0 := 0x1010 }
def rg (m : Nat) (r : Ring) (d : Dev) : Dev := setRing (wrF (wrB d (ringReg 0 0) 0 true) (ringReg 0 4) 0 2 m) 0 r
def rBase : Ring := { nodes := [(1, nd1), (2, nd2)] }
def ring1 : State := on (rg 1 rBase)
def ring2 : State := on (rg 2 rBase)
def ringQ0 : State := on (rg 1 { rBase with q0 := [.enm 1 [1] false], q1 := [.bal 0 true []] })
def ringQ1 : State := on (rg 1 { rBase with q1 := [.bal 0 true []] })
def ex1 : Exch := { pair := 0, addr := 1, unit := 0, opcode := 0x41, args := [], seq := 1, who := .contactor 0 }
def ringEx : State := on (rg 1 { rBase with exch := some ex1 })
def fSent : RingFrameOut := { ftype := 3, addr := 1, sideB := false, retry := false, payload := [0x41, 0, 0, 1] }
def ringSent : State := on (rg 1 { rBase with exch := some ex1, sent := [fSent] })
def ringEnm : State := on (rg 1 { rBase with enm := some { addr := some 3 } })
def ringJoin : State := on (rg 2 { rBase with enm := some { addr := some 3, join := true } })
def ringTrain : State := on (rg 1 { rBase with trainOut := true })
def ringSearch : State := on (rg 1 { rBase with search := some { loA := 0, hiA := 2, loB := 1, hiB := 3, pingA := some 1, pingB := some 2 } })
def ringFound : State := on (rg 1 { rBase with search := some { loA := 1, hiA := 1, loB := 2, hiB := 2 } })
def withCrc (l : List U8) : List U8 := l ++ [BitVec.ofNat 8 (crc16 l / 256), BitVec.ofNat 8 (crc16 l)]
def respOk : List U8 := withCrc [0x40, 0x20, 0, 4, 0x41, 0, 0, 1]
def segStr : List U8 := withCrc (BitVec.ofNat 8 2 :: 0x60 :: List.replicate 14 0)
def segCell : List U8 := withCrc (BitVec.ofNat 8 4 :: 0x20 :: List.replicate 66 0)
def mapd (d : Dev) : Dev := wr (wr (wr d (ACQ_UMAP + 0) 0xC0000000) (ACQ_UMAP + 16) 0x80100000) (ACQ_SCR_EN) 1
def segSt : State := on (fun d => mapd (rg 1 { rBase with trainOut := true } d))
def winSt : State := on (fun d => rg 1 rBase { d with acq := { d.acq with windows := [{ snap := 7, cycHi := 0, half := true, incoh := false, dense := false, local_ := 0 }] } })
def stale : State := on (fun d => mapd { rg 1 rBase d with acq := { d.acq with staleAt := [(0, 5)], age := [(0, 5)] } })
def fifoSt : State := on (fun d => { d with acq := { d.acq with fifo := [(1, 2, 3, 4)] } })
def scrSt : State := on (fun d => wr (wr d ACQ_SCR_A 0x00040001) ACQ_SCR_B (~~~0x00040001))
def passSt : State := on (fun d => { d with est := { d.est with pass := some { slot := 1, gate := 2, lam := 3, snap := 4, half := false, freq := 50000000, regs := [], fallback := [], coef := [] } } })
def focSt : State := on (fun d => { d with parNow := [(0x3110, 1), (0x3120, 1)] })
def focTest : State := on (fun d => { d with acq := { d.acq with focTest := some (15, true) } })
def estOn : State := on (fun d => wr (wrB (wrB d EST_CTRL 0 true) (ACQ_HIST_SLOT + 4) 10 true) EST_STATUS 0)
def jobReady : State := on (fun d => wr d (wtDesc 0 1) 0x00018000)
def jobRun : State := on (fun d => { d with est := { d.est with jobs := [0] } })
def laneTesting : State := on (fun d => wrB { d with est := { d.est with testing := true } } EST_CTRL 1 true)
def confSt : State := on (fun d => { d with est := { d.est with conf := [(0, { quietAt := 5, floorAt := 3, quietReq := true })] } })
def learnSt : State := on (fun d => st8 d (chgAddr 0 + 0x2C) 1)
def overSt : State := on (fun d => { d with lim := { d.lim with dis := { d.lim.dis with overAt := 4, excess := 9 } } })
def dwellSt : State := on (fun d => wrF { d with thm := { d.thm with str := [(0, { dwHi := 5 })], posted := true } } (THM_STATUS) 0 0 0)
def holdSt : State := on (fun d => { d with thm := { d.thm with str := [(0, { dwHi := 5, hold := 9 })] } })
def die (k : Nat) (t : Nat) : State := on (fun d => wrF (wrB { d with thm := { d.thm with dieTimer := true, departed := [7] } } THM_STATUS 0 (k == 0)) THM_STATUS 3 2 k |> fun d => wr (wr (wr d THM_DIE (w32 t)) (THM_DIE + 4) (w32 t)) (THM_DIE + 8) (w32 t))
def die0 : State := die 0 0
def die1 : State := die 1 0
def die2 : State := die 2 0
def die2h : State := die 2 8640
def die3 : State := die 3 0
def st1 (x : Str) (d : Dev) : Dev := setStr (mapd (rg 1 rBase d)) 0 x
def strPoll : State := on (st1 { st := .sClosed, polling := true, coils := 6 })
def strUn : State := on (st1 { st := .sClosed, unconf := 1 })
def strPre : State := on (st1 { st := .sPrecharging, unconf := 1, coils := 1, conn := .closePC })
def strGap : State := on (st1 { st := .sOpening, opn := .gap, gapDue := true })
def strJoin : State := on (st1 { st := .sJoining, conn := .joinWait })
def strTau : State := on (st1 { st := .sPrecharging, conn := .tau1 })
def busSt (w : Bool) : State := on (fun d => { d with parNow := [(0x7300, 1)], bus := [(0, { timer := true, wantClosed := w })] })
def busC : State := busSt true
def busO : State := busSt false
def slcSt : State := on (fun d => st32 (stN (wr (wr (st1 { st := .sClosed, coils := 6, aux := 6 } d) ACQ_HIST_HEAD 8) (ACQ_HIST_SLOT + 4) 0x400) (strEnt 0 0 + 0xE) 2 0x8000) (strEnt 0 0) 0x7FFFFFFF)
def sswSt : State := on (st1 { st := .sClosed, sswChg := true, sswDis := true, sswChgAt := 4, sswDisAt := 4 })
def sinSt (f : Nat) : State := on (fun d => wrF { d with saf := { d.saf with sin := [(0, { discRun := true })] } } SAF_SIN_CFG 29 3 f)
def sin1 : State := sinSt 1
def sin2 : State := sinSt 2
def sin3 : State := sinSt 3
def sin4 : State := sinSt 4
def tpoSt : State := on (fun d => wrF { d with saf := { d.saf with tpoPulse := some 3 } } SAF_SIN_CFG 29 3 2 |> fun d => wrF d SAF_SIN_CFG 24 3 4)
def seoSt : State := on (fun d => wrB d SAF_SEO_STATE 31 true)
def seoPulse : State := on (fun d => wrB { d with saf := { d.saf with seo := [(7, { pulse := some false })] } } SAF_SEO_STATE 31 true)
def rstSt : State := on (fun d => wr (wrB { d with saf := { d.saf with wdogAt := 1 } } SAF_STATUS 0 true) SAF_SIN_LEVEL 0xFFFFFFFF)
def setP (p : Nat) (x : Pair) (d : Dev) : Dev := setPair d p x
def rt1 : List Retired := [{ pc := 4, wr := [(1, 5, 7)] }]
def voteSt : State := on (setP 1 { pr 1 with recov := .vote, win := 3, count := 1 })
def retrySt : State := on (fun d => { setP 1 { pr 1 with recov := .retry, win := 3 } d with exe := { (setP 1 { pr 1 with recov := .retry, win := 3 } d).exe with spare := none } })
def testing : State := on (fun d => { d with exe := { d.exe with testing := 256, spare := none } })
def hbSt : State := on (fun d => { d with uptimeMs := 10 })
def restartSt : State := on (setP 3 { pr 3 with restarting := true })
def liveDbg : State := on (fun d => { d with exe := { d.exe with debug := .live } })
def svcDbg : State := on (fun d => { d with dev := .service, exe := { d.exe with debug := .service } })
def clD (d : Dev) : Dev := { d with parNow := [(0xB001, 1), (0xB002, 5)] }
def clSt : State := on clD
def haltHost : State := on (fun d => wrB { clD d with host := { d.host with ends := [8] } } HP_STATUS 1 true)
def reasmSt : State := on (fun d => { clD d with host := { d.host with reasm := [{ port := 0, src := 7, sess := 1, tag := 5, nfrag := 2 }] } })
def sesD (d : Dev) : Dev := { d with host := { d.host with sess := [(1, { st := .active, priv := 3, auth := false })] } }
def ses : State := on sesD
def cm (l : List U32) : HostCmd := { sess := 1, queue := 0, tag := 5, payload := l }
def c1 : HostCmd := cm [0x00010000]
def c2 : HostCmd := cm [0x000100FF]
def c3 : HostCmd := cm [0xFFFF0000]
def c4 : HostCmd := cm [0x00800000]
def c5 : HostCmd := cm [0x00010000, 0]
def c6 : HostCmd := cm [0x00010000, 1]
def c7 : HostCmd := cm [0x00010000, 0, 0]
def c8 : HostCmd := cm [0x00010000, 0, 0x80000000]
def c9 : HostCmd := cm [7]
def c10 : HostCmd := cm [1, 0x9001]
def c11 : HostCmd := cm [0x00010005]
def c12 : HostCmd := cm [1, 0]
def c13 : HostCmd := cm [0, 0]
def c14 : HostCmd := cm [1]
def c15 : HostCmd := cm [2]
def c17 : HostCmd := cm [0x10000000]
def flightD (o : Nat) (d : Dev) : Dev := { sesD d with host := { (sesD d).host with flight := [{ op := o, cmd := c0, begun := true }] } }
def flightSt : State := on (flightD 0x0001)
def sesHeld : State := on (fun d => { d with host := { d.host with sess := [(7, { st := .held, priv := 1 }), (0, { st := .authWait, priv := 3 })] } })
def sesTxn (o : Nat) : State := on (fun d => { sesD d with host := { (sesD d).host with txn := some { owner := o } } })
def txnOwn : State := sesTxn 1
def txnOther : State := sesTxn 2
def sesCl : State := on (fun d => { sesD (clD d) with cl := { d.cl with result := List.replicate 32 7, head := some 3 } })
def sesLim : State := on (fun d => { sesD d with lim := { d.lim with frames := List.replicate 36 9 } })
def sesHist : State := on (fun d => wr (wr (sesD d) ACQ_HIST_HEAD 8) (ACQ_HIST_SLOT + 4) 0x400)
def sesAudit : State := on (fun d => { sesD d with pwr := { d.pwr with saveOk := false } })
def sesOut : State := on (fun d => { sesD d with host := { (sesD d).host with outcomes := [{ sess := 1, tag := 5, op := 1, status := 0, cyc := 9, priv := 0 }] } })
def sesSvc : State := on (fun d => { sesD d with dev := .service })
def sesSvcDbg : State := on (fun d => { sesD d with dev := .service, exe := { d.exe with debug := .service } })
def cSet : HostCmd := cm [1, 0x1006, 20]
def cSetBad : HostCmd := cm [1, 0x1006, 0xFFFFFFFF]
def cPiste : HostCmd := cm [0x00010000, 0, 0, 0, 0, 0]
def cUmap : HostCmd := cm [1, 0, 0, 0x100, 0, 0]
def sesAlign : State := on (fun d => { sesD d with tb := { d.tb with alignDue := some 4 } })
def pl5 (p : U32) : List U32 := [p, 1, 2, 3, 4]
def co0 : HostCmd := { sess := 9, queue := 0, tag := 5, payload := pl5 0 }
def co1 : HostCmd := { sess := 9, queue := 0, tag := 5, payload := pl5 1 }
def kd : List U8 := List.replicate 32 7
def keySt : State := on (fun d => { sesD d with host := { (sesD d).host with kdev := some kd } })
def lockSt : State := on (fun d => { d with host := { d.host with lockout := [(0, 9), (1, 4), (2, 4), (3, 4)] } })
def authSt : State := on (fun d => { d with host := { d.host with kdev := some kd, sess := [(1, { st := .authWait, priv := 2 })] } })
def cm8 : HostCmd := cm (List.replicate 8 5)
def flightQ : State := on (fun d => { sesD d with host := { (sesD d).host with flight := [{ op := 0x0001, cmd := { c0 with tag := 7 } }], places := [(0, [{ sess := 1, tag := 7 }])] } })
def flightB : State := on (fun d => { sesD d with host := { (sesD d).host with flight := [{ op := 0x0001, cmd := { c0 with tag := 7 }, begun := true }] } })
def cs4 : HostCmd := cm [1, 0, 0, 0]
def cs5 : HostCmd := cm [1, 0, 0, 0, 0]
def sstr (x : Str) (d : Dev) : Dev := sesD (setStr (wr (wr (wr (rg 1 rBase d) (ACQ_UMAP + 0) 0xC0000000) (ACQ_UMAP + 16) 0x80010000) (ACQ_SCR_EN) 1) 0 x)
def readyD (v : Nat) (d : Dev) : Dev := stN (st32 (st32 (stN (wr (wr (wr (sstr {} d) SAF_STATUS 0) ACQ_HIST_HEAD 8) (ACQ_HIST_SLOT + 4) 0x400) (strEnt 0 0 + 0xE) 2 0x8000) (cellRec 0 + 0x50) 0x80000000) (cellHist 0 0) 0x08000000) (strEnt 0 0 + 8) 2 v
def ready0 : State := on (readyD 0)
def readyV : State := on (readyD 0x1000)
def readyB : State := on (fun d => { readyD 0x1000 d with parNow := [(0x7003, 1), (0x7001, 2000000)] })
def strNot : State := on (sstr { st := .sOpening })
def strWaitBus : State := on (sstr { conn := .waitBus })
def strLock : State := on (sstr { st := .sLockedOut, lockEvt := 1 })
def strLockF : State := on (sstr { st := .sLockedOut, lockEvt := Ev.SIN_TRIP_F4 })
def strWeld : State := on (sstr { st := .sWeldSuspect, welds := 4 })
def sesRst : State := on (fun d => wr (wrB { sesD d with saf := { d.saf with wdogAt := 1 }, dev := .safeHold } SAF_STATUS 0 true) SAF_SIN_LEVEL 0xFFFFFFFF)
def sinLat : State := on (fun d => wr (wr (wr (sesD d) SAF_SIN_LEVEL 0xFFFFFFFF) SAF_SIN_LATCH 1) SAF_SIN_DEMAND 1)
def sesP1 : State := on (fun d => { d with host := { d.host with sess := [(1, { st := .active, priv := 2 })] } })
def cLeave : HostCmd := cm [0x100]
def cBal : HostCmd := cm [0x80000000]
def cap (x v : U32) : HostCmd := cm [x + 0x100, 0, v]
def sesCap : State := on (fun d => { sesD d with parNow := [(0x4300, 1000)] })
def capOk : HostCmd := cap 0 500
def sesLoad : State := on (fun d => { sesD d with pwr := { d.pwr with load := some (0, 1) } })
def sesCan : State := on (fun d => { sesD d with parNow := [(0xC000, 1), (0x5081, 1)] })
def sesCanR : State := on (fun d => wrB { sesD d with parNow := [(0xC000, 1), (0x5081, 1)] } (canReg 0 0) 4 true)
def sesCanS : State := on (fun d => { sesD d with parNow := [(0xC000, 1), (0x5081, 1)], can := [(0, { susp := 4 })] })
def sesCanB : State := on (fun d => wrB { sesD d with parNow := [(0xC000, 1)], can := [(0, { busoff := true, fill1 := 3 })] } (canReg 0 0) 5 true)
def cRes : HostCmd := cm [0x200]
def vitSt : State := on (fun d => { sesD d with cnt := { d.cnt with vitrine := true } })
def sesStage : State := on (fun d => { sesD d with dev := .service, pwr := { d.pwr with stage := some (1, 260) } })
def sesStaged : State := on (fun d => { sesD d with dev := .service, pwr := { d.pwr with stage := some (1, 260), staged := [(0, 260)] } })
def sesAct : State := on (fun d => { sesD d with pwr := { d.pwr with boot := { d.pwr.boot with flags := 12, verA := 7, verB := 7 } } })
def held : State := on (fun d => { d with pwr := { d.pwr with saveHold := true } })
def sesEng : State := on (fun d => { sesD d with pwr := { d.pwr with starts := [0, 0, 0, 0] } })
def c18 : HostCmd := cm [0]
def keySvc : State := on (fun d => { sesD d with dev := .service, host := { (sesD d).host with kdev := some kd } })
def sesCan0 : State := on (fun d => { sesD d with parNow := [(0xC000, 0)] })
def clR (d : Dev) : Dev := wr (wr (clD d) CL_CTRL 1) CL_STATUS 0x300
def clRun : State := on clR
def clHead : State := on (fun d => { clD d with cl := { d.cl with head := some (par (clD d) 0xB003), entrySync := true } })
def clMem : State := on (fun d => { clR d with cl := { d.cl with head := some 3, syncPort := some 1, delays := [700], req := some (4, 100) } })
def hello : List U8 := 3 :: 5 :: List.replicate 38 0
def helloOwn : List U8 := 0 :: 5 :: 0 :: 0 :: 9 :: List.replicate 35 0
def helloOwn8 : List U8 := 0 :: 5 :: 0 :: 0 :: 8 :: List.replicate 35 0
def sync : List U8 := List.replicate 16 0 ++ [1, 0, 0, 0] ++ List.replicate 28 0
def canR (x : Can) (d : Dev) : Dev := { wr d (canReg 0 0) 0 with parNow := [(0xC000, 1)], can := [(0, x)] }
def canUp : State := on (canR {})
def canTx : State := on (fun d => wrF (canR {} d) (canReg 0 0x50) 0 5 1)
def canTxA : State := on (fun d => wrF (canR { attempt := some { buf := 0, idx := 0, sof := 9 } } d) (canReg 0 0x50) 0 5 1)
def canOff1 : State := on (canR { busoff := true, recWait := true })
def canOffR : State := on (canR { busoff := true, recov := true })
def canInt : State := on (canR { integ := true })
def canEv : State := on (canR { evFill := 3, fill0 := 2, fill1 := 64 })
def canRest : State := on (fun d => wrB (canR {} d) (canReg 0 0) 4 true)
def canFlt : State := on (fun d => wr (canR { fltNow := 0x40000000, fill1 := 0 } d) (canReg 0 0x20) 0x00010000)
def canFltF : State := on (canR { fltNow := 0x40000000, fill0 := rxfSize 0 })
def cntStage : State := on (fun d => { d with cnt := { d.cnt with staged := [(2, some 5)], vitrine := true, dumpBuf := [1, 2, 3] } })
def dumpSt : State := on (fun d => wrB { d with cnt := { d.cnt with dumpBuf := [1, 2, 3], dseq := 97 } } CNT_STATUS 0 true)
def bwSt : State := on (fun d => wrB (wrB d (BW_CFG) 31 true) (BW_CFG + 0xF0) 31 true)
def lost2 : State := on (fun d => { d with exe := { d.exe with p2 := { d.exe.p2 with lost := true } } })
def suppSt : State := on (fun d => { d with log := { d.log with supp := 3, suppFst := 0x1234, taken := 4096 } })
def offSt : State := State.reset
def slp (f : Dev → Dev) : State := on (fun d => f { d with dev := .hibernate, exe := {} })
def hib0 : State := slp id
def hibW : State := slp (fun d => { d with pwr := { d.pwr with woken := 2, marker := true } })
def hibP : State := slp (fun d => { d with pwr := { d.pwr with woken := 2, pgood := false } })
def hibC : State := slp (fun d => wrB (wrB d CAN_WAKE 0 true) PWR_WAKE_CFG 1 true)
def noVaon : State := { State.reset with pwr := { vaon := false } }
def failing : State := on (fun d => { d with pwr := { d.pwr with failing := true } })
def booting : State := on (fun d => { d with pwr := { d.pwr with booting := true } })
def actSt : State := on (fun d => { d with pwr := { d.pwr with activate := some true } })
def trialBad : State := on (fun d => { d with pwr := { d.pwr with trial := true, trialBad := true } })
def trialOk : State := on (fun d => { d with uptimeMs := 1000000000, pwr := { d.pwr with trial := true } })
def hibStep : State := on (fun d => { d with pwr := { d.pwr with hibStep := 3 } })
def sesMaster : State := on (fun d => { sesD d with pwr := { d.pwr with masterAt := 1 } })
def cLast : HostCmd := cm [0x80000000, 0, 5]
def txnBad : State := on (fun d => { sesD d with host := { (sesD d).host with txn := some { owner := 1, vals := [(0x1006, 1), (0x1007, 900), (0x9001, 1)] } } })
def txnSvc : State := on (fun d => { sesD d with dev := .service, host := { (sesD d).host with txn := some { owner := 1, vals := [(0x9001, 1)] } } })
def txn1 : RetTxn := { kind := 1, tseq := 4, snap := 0, segs := [(0x20000000, 0x10000000, 8)], dcrc := 0 }
def txnRun : State := on (fun d => { d with pwr := { d.pwr with txn := some txn1 } })
def segSt1 : State := on (fun d => wr (wr (wr d (segReg 0 0) 0x20000000) (segReg 0 4) 0x10000000) (segReg 0 8) 8)
def holdSeo : State := on (fun d => wrB d SAF_SEO_HOLD 7 true)
def cfgSt : State := on (fun d => { d with parCfg := [(0x9001, 1)] })
def seg16 : List U8 := [0x10, 0x20, 0, 0]
def canTdcA : State := on (fun d => st32 (wrF (wrB (wrF (canR { attempt := some { buf := 0, idx := 0, sof := 9 } } d) (canReg 0 0x50) 0 5 1) (canReg 0 0x10) 31 true) (canReg 0 0) 2 2 1) (canRam 0 + 0x4C00) 0x08000000)
def flightCan : State := on (fun d => { sesD d with host := { (sesD d).host with flight := [{ op := OP_CAN_TX, cmd := { c0 with tag := 7 }, begun := true }] }, exe := { d.exe with p3 := { d.exe.p3 with rel := [{ win := 0, eff := .can 0 2 [] (some { c0 with tag := 7 }) }] } } })
def ringPing : State := on (rg 1 { rBase with breakPing := true, q1 := [.enm 4 [2] false] })
def strJoin2 : State := on (st1 { st := .sJoining, conn := .joinWait, joinOk := 2 })
def armSt : State := on (fun d => { d with pwr := { d.pwr with hibStep := 5, hibSrc := 8, hibTimer := 60 } })
def retry1 : State := on (fun d => { setP 1 { pr 1 with recov := .retry, win := 3, count := 1 } d with exe := { (setP 1 { pr 1 with recov := .retry, win := 3, count := 1 } d).exe with spare := none, legacy := true } })

/-! ## Witnesses: a state and operands that meet the hypotheses of each clause together -/

/-- The checks of `admitted`, computed. -/
def admittedCheck (s : Dev) (op : Nat) (c : HostCmd) : Bool :=
  pairUp s 2 && !hasBegun s c && !urgentAhead s c && (match opRow op with
    | some r => (cmdCheck (begun s op c) r c (flightOf s c).isSome).isNone
    | none => false)
theorem admitted_of {s : Dev} {op : Nat} {c : HostCmd} (h : admittedCheck s op c = true) : admitted s op c := by
  unfold admittedCheck at h
  cases ho : opRow op with
  | none => simp [ho] at h
  | some r => simp [ho] at h; exact ⟨h.1.1.1, h.1.1.2, h.1.2, r, ho, h.2⟩

theorem wit_TimebaseRows :
    (∃ (s : State), Awake s ∧ s.tb.running = true ∧ s.tb.step = none ∧ s.tb.alignDue = none ∧ s.acq.umapPend = [] ∧ s.pwr.hibStep = 0 ∧ (∀ (n : Nat), n < 32 → ringOn s.toDev n = true → nbit (par (promote s.toDev Params.Takes.nextCycle) 8193) n = true)) ∧
    (∃ (s : State), Awake s ∧ tbState s.toDev = TbState.holdover ∧ s.tb.holdTimer = true) :=
  ⟨⟨tbRun, by decide +kernel⟩,
   ⟨tbHold, by decide +kernel⟩⟩

theorem wit_PisteRows :
    (∃ (s : State) (k : Nat), Awake s ∧ s.pwr.booting = false ∧ s.pwr.recovery = false ∧ gateSelected s.toDev k = true ∧ gateAction (bankWord s.toDev (pubBank s.toDev) k 2) ≠ 1) ∧
    (∃ (s : State) (k : Nat) (g : OpenGate), dueGate? s.toDev k = some g ∧ Awake s) ∧
    (∃ (s : State) (p : Nat) (k : Nat) (g : OpenGate), openGate? s.toDev k = some g ∧ Awake s ∧ pairUp s.toDev p = true ∧ (gateAction g.w2 = 12289 → s.acq.filling = none ∨ collectDone s.toDev = true)) ∧
    (∃ (s : State) (k : Nat), Awake s ∧ openGate? s.toDev k = none) :=
  ⟨⟨gate1, 0, by decide +kernel⟩,
   ⟨gOpen, 1, _, rfl, by decide +kernel⟩,
   ⟨gOpen, 0, 1, _, rfl, by decide +kernel⟩,
   ⟨up, 0, by decide +kernel⟩⟩

theorem wit_RingTrafficRows :
    (∃ (s : State) (n : Nat) (x : RingTx) (q : List RingTx), Awake s ∧ (liveRings s.toDev).contains n = true ∧ (getRing s.toDev n).trainOut = false ∧ (getRing s.toDev n).search = none ∧ (getRing s.toDev n).breakPing = false ∧ (getRing s.toDev n).exch = none ∧ (getRing s.toDev n).q0 = x :: q) ∧
    (∃ (s : State) (n : Nat) (x : RingTx) (q : List RingTx), Awake s ∧ (liveRings s.toDev).contains n = true ∧ (getRing s.toDev n).trainOut = false ∧ (getRing s.toDev n).search = none ∧ (getRing s.toDev n).breakPing = false ∧ (getRing s.toDev n).exch = none ∧ (getRing s.toDev n).q0 = [] ∧ (getRing s.toDev n).q1 = x :: q) ∧
    (∃ (s : State) (n : Nat) (a : Nat), (nodeAddrs s.toDev n).getLast? = some a ∧ Awake s ∧ ringMode s.toDev n = 1 ∧ (getRing s.toDev n).search = none ∧ (getRing s.toDev n).breakPing = false) ∧
    (∃ (s : State) (n : Nat) (a : Nat) (q : List RingTx), Awake s ∧ ringOn s.toDev n = true ∧ (getRing s.toDev n).breakPing = true ∧ (getRing s.toDev n).search = none ∧ (getRing s.toDev n).q1 = RingTx.enm 4 [a] false :: q) ∧
    (∃ (s : State) (n : Nat) (frame : List U8) (e : Exch), (getRing s.toDev n).exch = some e ∧ Awake s ∧ e.resend = false ∧ frameOk frame = true ∧ frameHead frame / 4096 = 4 ∧ frameHead frame / 32 % 128 = e.addr ∧ (framePay frame).length ≥ 4 ∧ BitVec.toNat ((framePay frame).getD 0 0) = e.opcode ∧ BitVec.toNat ((framePay frame).getD 1 0) = e.unit * 128 ∧ beNat (List.take 2 (List.drop 2 (framePay frame))) = e.seq ∧ respReserved e 0 (List.drop 4 (framePay frame)) = false) ∧
    (∃ (s : State) (n : Nat) (frame : List U8) (e : Exch), (getRing s.toDev n).exch = some e ∧ Awake s ∧ e.resend = false ∧ frameOk frame = false ∧ e.retries < par s.toDev 8194) ∧
    (∃ (s : State) (n : Nat) (frame : List U8) (f : RingFrameOut), (List.find? (fun (f : RingFrameOut) => f.ftype == 3) (getRing s.toDev n).sent.reverse = some f) ∧ Awake s ∧ ringMode s.toDev n = 1 ∧ frameBytes f ≠ frame) :=
  ⟨⟨ringQ0, 0, (.enm 1 [1] false), [], by decide +kernel⟩,
   ⟨ringQ1, 0, (.bal 0 true []), [], by decide +kernel⟩,
   ⟨ring1, 0, _, rfl, by decide +kernel⟩,
   ⟨ringPing, 0, 2, [], by decide +kernel⟩,
   ⟨ringEx, 0, respOk, _, rfl, by decide +kernel⟩,
   ⟨ringEx, 0, segStr, _, rfl, by decide +kernel⟩,
   ⟨ringSent, 0, respOk, _, rfl, by decide +kernel⟩⟩

theorem wit_RingTopology :
    (∃ (s : State) (n : Nat), Awake s ∧ n < 32 ∧ pairUp s.toDev 1 = true ∧ ringOn s.toDev n = true ∧ (s.dev = DevState.standby ∨ s.dev = DevState.service ∨ s.dev = DevState.boot) ∧ (getRing s.toDev n).enm = none) ∧
    (∃ (s : State) (n : Nat), Awake s ∧ n ≥ 32) ∧
    (∃ (s : State) (n : Nat) (e : EnumProg) (a : Nat), (getRing s.toDev n).enm = some e ∧ e.addr = some a ∧ Awake s ∧ e.join = false) ∧
    (∃ (s : State) (n : Nat) (e : EnumProg) (a : Nat), (getRing s.toDev n).enm = some e ∧ e.addr = some a ∧ Awake s ∧ e.join = true) ∧
    (∃ (s : State) (n : Nat) (e : EnumProg), (getRing s.toDev n).enm = some e ∧ Awake s ∧ e.addr.isSome = true ∧ e.join = true) ∧
    (∃ (s : State) (n : Nat) (e : EnumProg), (getRing s.toDev n).enm = some e ∧ Awake s ∧ e.addr.isSome = true ∧ e.join = false ∧ e.sideB = false) ∧
    (∃ (s : State) (n : Nat), Awake s ∧ (getRing s.toDev n).trainOut = true ∧ (getRing s.toDev n).search = none ∧ (getRing s.toDev n).enm = none ∧ ringMode s.toDev n = 1) ∧
    (∃ (s : State) (n : Nat) (x : StubSearch) (addr : Nat), (getRing s.toDev n).search = some x ∧ x.pingA = some addr ∧ Awake s) ∧
    (∃ (s : State) (n : Nat) (x : StubSearch), (getRing s.toDev n).search = some x ∧ Awake s ∧ x.pingB.isSome = true) ∧
    (∃ (s : State) (n : Nat) (x : StubSearch), (getRing s.toDev n).search = some x ∧ Awake s ∧ searchOver x = true ∧ stubWriteOpen s.toDev n = false) ∧
    (∃ (s : State) (n : Nat), Awake s ∧ (liveRings s.toDev).contains n = true ∧ ringMode s.toDev n = 2 ∧ (getRing s.toDev n).search = none ∧ (getRing s.toDev n).enm = none) :=
  ⟨⟨ring1, 0, by decide +kernel⟩,
   ⟨up, 32, by decide +kernel⟩,
   ⟨ringEnm, 0, _, _, rfl, rfl, by decide +kernel⟩,
   ⟨ringJoin, 0, _, _, rfl, rfl, by decide +kernel⟩,
   ⟨ringJoin, 0, _, rfl, by decide +kernel⟩,
   ⟨ringEnm, 0, _, rfl, by decide +kernel⟩,
   ⟨ringTrain, 0, by decide +kernel⟩,
   ⟨ringSearch, 0, _, _, rfl, rfl, by decide +kernel⟩,
   ⟨ringSearch, 0, _, rfl, by decide +kernel⟩,
   ⟨ringFound, 0, _, rfl, by decide +kernel⟩,
   ⟨ring2, 0, by decide +kernel⟩⟩

theorem wit_RingTopologyComplete :
    (∃ (s : State) (n : Nat), Awake s ∧ n < 32 ∧ pairUp s.toDev 1 = true ∧ ringOn s.toDev n = true ∧ (s.dev = DevState.standby ∨ s.dev = DevState.service) ∧ (getRing s.toDev n).enm = none) ∧
    (∃ (s : State) (n : Nat) (e : EnumProg) (a : Nat), (getRing s.toDev n).enm = some e ∧ e.addr = some a ∧ Awake s ∧ n < 32 ∧ e.join = false) ∧
    (∃ (s : State) (n : Nat) (e : EnumProg), (getRing s.toDev n).enm = some e ∧ Awake s ∧ n < 32 ∧ e.addr.isSome = true ∧ e.join = false ∧ e.sideB = false) ∧
    (∃ (s : State) (n : Nat), Awake s ∧ n < 32 ∧ (getRing s.toDev n).trainOut = true ∧ (getRing s.toDev n).search = none ∧ (getRing s.toDev n).enm = none ∧ ringMode s.toDev n = 1) ∧
    (∃ (s : State) (n : Nat) (x : StubSearch) (addr : Nat), (getRing s.toDev n).search = some x ∧ x.pingA = some addr ∧ Awake s ∧ n < 32) ∧
    (∃ (s : State) (n : Nat) (x : StubSearch), (getRing s.toDev n).search = some x ∧ Awake s ∧ n < 32 ∧ x.pingA.isSome = true) ∧
    (∃ (s : State) (n : Nat) (x : StubSearch), (getRing s.toDev n).search = some x ∧ Awake s ∧ n < 32 ∧ searchOver x = true ∧ stubWriteOpen s.toDev n = false) ∧
    (∃ (s : State) (n : Nat), Awake s ∧ n < 32 ∧ (liveRings s.toDev).contains n = true ∧ ringMode s.toDev n = 2 ∧ (getRing s.toDev n).search = none ∧ (getRing s.toDev n).enm = none) :=
  ⟨⟨ring1, 0, by decide +kernel⟩,
   ⟨ringEnm, 0, _, _, rfl, rfl, by decide +kernel⟩,
   ⟨ringEnm, 0, _, rfl, by decide +kernel⟩,
   ⟨ringTrain, 0, by decide +kernel⟩,
   ⟨ringSearch, 0, _, _, rfl, rfl, by decide +kernel⟩,
   ⟨ringSearch, 0, _, rfl, by decide +kernel⟩,
   ⟨ringFound, 0, _, rfl, by decide +kernel⟩,
   ⟨ring2, 0, by decide +kernel⟩⟩

theorem wit_SegmentRows :
    (∃ (s : State) (w : Window) (l : List Window), Awake s ∧ s.acq.windows = w :: l) ∧
    (∃ (s : State) (n : Nat) (sideB : Bool) (head : List U8), Awake s ∧ (getRing s.toDev n).trainOut = true ∧ (getRing s.toDev n).search = none ∧ (if (Decidable.decide (ringMode s.toDev n = 2) && sideB) = true then (getRing s.toDev n).endedB else (getRing s.toDev n).endedA) = false ∧ head ≠ [] ∧ trainHeadOk head = false) ∧
    (∃ (s : State) (n : Nat) (sideB : Bool) (head : List U8) (seg : List U8), Awake s ∧ (getRing s.toDev n).trainOut = true ∧ (getRing s.toDev n).search = none ∧ (if (Decidable.decide (ringMode s.toDev n = 2) && sideB) = true then (getRing s.toDev n).endedB else (getRing s.toDev n).endedA) = false ∧ (head = [] ∨ trainHeadOk head = true) ∧ seg ≠ [] ∧ (if (Decidable.decide (ringMode s.toDev n = 2) && sideB) = true then (getRing s.toDev n).bodyB else (getRing s.toDev n).bodyA) + seg.length + 8 ≤ 16384 ∧ (List.findIdx? (fun (u : Nat × Nat) => u == (beNat (List.take 2 seg) / 512, beNat (List.take 2 seg) / 256 % 2)) (List.drop (if (Decidable.decide (ringMode s.toDev n = 2) && sideB) = true then (getRing s.toDev n).nextB else (getRing s.toDev n).nextA) (trainUnits s.toDev n (Decidable.decide (ringMode s.toDev n = 2) && sideB))) = none)) ∧
    (∃ (s : State) (n : Nat) (sideB : Bool) (head : List U8) (seg : List U8) (j : Nat), (List.findIdx? (fun (u : Nat × Nat) => u == (beNat (List.take 2 seg) / 512, beNat (List.take 2 seg) / 256 % 2)) (List.drop (if (Decidable.decide (ringMode s.toDev n = 2) && sideB) = true then (getRing s.toDev n).nextB else (getRing s.toDev n).nextA) (trainUnits s.toDev n (Decidable.decide (ringMode s.toDev n = 2) && sideB))) = some j) ∧ Awake s ∧ (getRing s.toDev n).trainOut = true ∧ (getRing s.toDev n).search = none ∧ (if (Decidable.decide (ringMode s.toDev n = 2) && sideB) = true then (getRing s.toDev n).endedB else (getRing s.toDev n).endedA) = false ∧ (head = [] ∨ trainHeadOk head = true) ∧ (if (Decidable.decide (ringMode s.toDev n = 2) && sideB) = true then (getRing s.toDev n).bodyB else (getRing s.toDev n).bodyA) + seg.length + 8 ≤ 16384 ∧ segReserved (beNat (List.take 2 seg) / 32 % 4) (List.take (seg.length - 4) (List.drop 2 seg)) = false ∧ seg.length ≥ 6 ∧ crc16 (List.take (seg.length - 2) seg) = beNat (List.drop (seg.length - 2) seg) ∧ bodyLenOk (unitCfg s.toDev n (beNat (List.take 2 seg) / 512) (beNat (List.take 2 seg) / 256 % 2)) (beNat (List.take 2 seg) / 32 % 4) (List.take (seg.length - 4) (List.drop 2 seg)).length = true ∧ bitOf (rd s.toDev (ACQ_UMAP + umapIdx n (beNat (List.take 2 seg) / 512) (beNat (List.take 2 seg) / 256 % 2) * 8)) 31 = true ∧ bitOf (rd s.toDev (ACQ_UMAP + umapIdx n (beNat (List.take 2 seg) / 512) (beNat (List.take 2 seg) / 256 % 2) * 8)) 30 = (cfgKind (unitCfg s.toDev n (beNat (List.take 2 seg) / 512) (beNat (List.take 2 seg) / 256 % 2)) == 2) ∧ (bitOf (rd s.toDev (ACQ_UMAP + umapIdx n (beNat (List.take 2 seg) / 512) (beNat (List.take 2 seg) / 256 % 2) * 8)) 30 = true ∨ fld (rd s.toDev (ACQ_UMAP + umapIdx n (beNat (List.take 2 seg) / 512) (beNat (List.take 2 seg) / 256 % 2) * 8)) 16 5 = cfgCells (unitCfg s.toDev n (beNat (List.take 2 seg) / 512) (beNat (List.take 2 seg) / 256 % 2))) ∧ scrOn s.toDev (fld (rd s.toDev (ACQ_UMAP + umapIdx n (beNat (List.take 2 seg) / 512) (beNat (List.take 2 seg) / 256 % 2) * 8)) 23 7) = true ∧ beNat (List.take 2 seg) / 32 % 4 ≠ 0) :=
  ⟨⟨winSt, { snap := 7, cycHi := 0, half := true, incoh := false, dense := false, local_ := 0 }, [], by decide +kernel⟩,
   ⟨ringTrain, 0, false, respOk, by decide +kernel⟩,
   ⟨ringTrain, 0, false, [], respOk, by decide +kernel⟩,
   ⟨segSt, 0, false, [], segStr, _, rfl, by decide +kernel⟩⟩

theorem wit_ScreenAndFocRows :
    (∃ (s : State) (x : Nat), Awake s ∧ Tbl.get 0 s.acq.staleAt x ≠ 0 ∧ strStale s.toDev x = true ∧ pairUp s.toDev 0 = true) ∧
    (∃ (s : State) (e : U32 × U32 × U32 × U32) (l : List (U32 × U32 × U32 × U32)), Awake s ∧ s.acq.fifo = e :: l ∧ rdB s.toDev ACQ_STATUS 4 = false ∧ (getPair s.toDev 0).recov = Recov.run) ∧
    (∃ (s : State) (v : U32), Awake s ∧ rd s.toDev (ACQ_SCR_B + fld v 0 7 * 4) = ~~~rd s.toDev (ACQ_SCR_A + fld v 0 7 * 4) ∧ fld (rd s.toDev (ACQ_SCR_A + fld v 0 7 * 4)) 16 16 ≥ fld (rd s.toDev (ACQ_SCR_A + fld v 0 7 * 4)) 0 16 + 2) ∧
    (∃ (s : State) (v : U32), Awake s ∧ ¬(rd s.toDev (ACQ_SCR_B + fld v 0 7 * 4) = ~~~rd s.toDev (ACQ_SCR_A + fld v 0 7 * 4) ∧ fld (rd s.toDev (ACQ_SCR_A + fld v 0 7 * 4)) 16 16 ≥ fld (rd s.toDev (ACQ_SCR_A + fld v 0 7 * 4)) 0 16 + 2)) ∧
    (∃ (s : State) (p : Nat), Awake s ∧ p ≠ 0) ∧
    (∃ (s : State) (a : Nat), Awake s ∧ (545259520 ≤ a ∧ a < 549453824 ∨ 551026688 ≤ a ∧ a < 551231488)) ∧
    (∃ (s : State) (a : Nat), Awake s ∧ 536870912 ≤ a ∧ a < 545259520 ∧ 8 ≤ a % 128 ∧ a % 128 < 80 ∧ s.est.pass.isSome = true) ∧
    (∃ (s : State) (n : Nat) (chg : Bool), Awake s ∧ n < 16 ∧ focOn s.toDev n chg = true ∧ s.acq.focTest = none) ∧
    (∃ (s : State) (n : Nat) (chg : Bool), Awake s ∧ n < 16 ∧ s.acq.focTest = some (n, chg)) :=
  ⟨⟨stale, 0, by decide +kernel⟩,
   ⟨fifoSt, ((1, 2, 3, 4)), [], by decide +kernel⟩,
   ⟨scrSt, 0, by decide +kernel⟩,
   ⟨up, 0, by decide +kernel⟩,
   ⟨up, 1, by decide +kernel⟩,
   ⟨up, 0x20BFFFFC, by decide +kernel⟩,
   ⟨passSt, 0x20000008, by decide +kernel⟩,
   ⟨focSt, 0, false, by decide +kernel⟩,
   ⟨focTest, 15, true, by decide +kernel⟩⟩

theorem wit_EstimatorPassRows :
    (∃ (s : State) (k : Nat), Awake s ∧ rdB s.toDev EST_CTRL 0 = true ∧ s.est.pass = none ∧ bitOf (slotWord s.toDev (k % 8) 1) 10 = true) ∧
    (∃ (s : State) (k : Nat), Awake s ∧ rdB s.toDev EST_CTRL 0 = true ∧ (s.est.pass.isSome = true ∨ bitOf (slotWord s.toDev (k % 8) 1) 10 = false)) ∧
    (∃ (s : State), Awake s ∧ rdB s.toDev EST_CTRL 0 = false) ∧
    (∃ (s : State) (p : Nat), Awake s ∧ p ≠ 1) ∧
    (∃ (s : State) (ps : Pass), s.est.pass = some ps ∧ Awake s) ∧
    (∃ (s : State) (x : Nat), Awake s ∧ x < 128 ∧ rdB s.toDev (wtDesc x (1 - pubWt s.toDev x)) 15 = true ∧ descVer s.toDev x (1 - pubWt s.toDev x) ≠ 0 ∧ descVer s.toDev x (1 - pubWt s.toDev x) ≠ descVer s.toDev x (pubWt s.toDev x) ∧ descLo s.toDev x (1 - pubWt s.toDev x) ≤ descHi s.toDev x (1 - pubWt s.toDev x) ∧ descHi s.toDev x (1 - pubWt s.toDev x) - descLo s.toDev x (1 - pubWt s.toDev x) ≤ 1280 ∧ descSet s.toDev x (1 - pubWt s.toDev x) = cfgSet s.toDev x ∧ jobPending s.toDev x = false) ∧
    (∃ (s : State) (x : Nat), Awake s ∧ jobPending s.toDev (x % 128) = true) ∧
    (∃ (s : State) (x : Nat) (l : List Nat) (atGo : Bool), Awake s ∧ s.est.jobs = x :: l ∧ (s.est.pass = none ∨ atGo = true)) ∧
    (∃ (s : State), Awake s ∧ s.est.pass.isSome = true) :=
  ⟨⟨estOn, 0, by decide +kernel⟩,
   ⟨estOn, 1, by decide +kernel⟩,
   ⟨up, by decide +kernel⟩,
   ⟨up, 0, by decide +kernel⟩,
   ⟨passSt, _, rfl, by decide +kernel⟩,
   ⟨jobReady, 0, by decide +kernel⟩,
   ⟨jobRun, 0, by decide +kernel⟩,
   ⟨jobRun, 0, [], false, by decide +kernel⟩,
   ⟨passSt, by decide +kernel⟩⟩

theorem wit_EngineRegisterRows :
    (∃ (s : State), Awake s ∧ s.est.testing = true ∧ s.est.pass = none) ∧
    (∃ (s : State), Awake s ∧ s.est.pass.isSome = true) ∧
    (∃ (s : State) (v : U32), Awake s ∧ popCount v ≤ 2) ∧
    (∃ (s : State) (v : U32), Awake s ∧ popCount v > 2) ∧
    (∃ (s : State) (x : Nat) (b : Nat) (w : Nat), b = 1 - pubWt s.toDev x ∧ Awake s ∧ x < 128 ∧ w < 2 ∧ jobPending s.toDev x = false) ∧
    (∃ (s : State) (p : Nat), Awake s ∧ p ≠ 1) ∧
    (∃ (s : State) (x : Nat), Awake s ∧ pairUp s.toDev 1 = true ∧ (getConf s.toDev x).quietAt ≠ 0) ∧
    (∃ (s : State) (x : Nat), Awake s ∧ pairUp s.toDev 1 = true ∧ (getConf s.toDev x).floorAt ≠ 0 ∧ (getConf s.toDev x).unexc = false) ∧
    (∃ (s : State) (x : Nat), Awake s ∧ pairUp s.toDev 1 = true ∧ lstate s.toDev x = 1) :=
  ⟨⟨laneTesting, by decide +kernel⟩,
   ⟨passSt, by decide +kernel⟩,
   ⟨up, 0, by decide +kernel⟩,
   ⟨up, 0xFFFFFFFF, by decide +kernel⟩,
   ⟨up, 0, _, 0, rfl, by decide +kernel⟩,
   ⟨up, 0, by decide +kernel⟩,
   ⟨confSt, 0, by decide +kernel⟩,
   ⟨confSt, 0, by decide +kernel⟩,
   ⟨learnSt, 0, by decide +kernel⟩⟩

theorem wit_PcsRows :
    (∃ (s : State) (n : Nat) (data : List U8), Awake s ∧ pcsRules s.toDev = true ∧ isPcs s.toDev n = true ∧ data.length = 16 ∧ BitVec.toNat (data.getD 1 0) < 16 ∧ data.getD 10 0 = 0 ∧ data.getD 11 0 = 0 ∧ (getCtl s.toDev n).fb ≠ some (BitVec.toNat (data.getD 2 0))) ∧
    (∃ (s : State) (n : Nat) (data : List U8), Awake s ∧ pcsRules s.toDev = true ∧ isPcs s.toDev n = true ∧ data.length = 8 ∧ data.getD 1 0 = 2 ∧ data.getD 3 0 = 0 ∧ (getCtl s.toDev n).hb ≠ some (BitVec.toNat (data.getD 0 0))) ∧
    (∃ (s : State), Awake s ∧ pcsRules s.toDev = true ∧ (s.lim.frozen = false ∨ s.lim.thaw = true)) ∧
    (∃ (s : State) (chg : Bool), Awake s ∧ pcsRules s.toDev = true ∧ (getWin s.toDev chg).overAt ≠ 0) :=
  ⟨⟨up, 0, (List.replicate 16 0), by decide +kernel⟩,
   ⟨up, 0, [0, 2, 0, 0, 0, 0, 0, 0], by decide +kernel⟩,
   ⟨up, by decide +kernel⟩,
   ⟨overSt, false, by decide +kernel⟩⟩

theorem wit_ThermalRows :
    (∃ (s : State) (x : Nat) (low : Bool), Awake s ∧ pairUp s.toDev 3 = true ∧ dwellOf (getThm s.toDev x) low ≠ 0 ∧ (getThm s.toDev x).hold = 0) ∧
    (∃ (s : State) (x : Nat) (low : Bool), Awake s ∧ pairUp s.toDev 3 = true ∧ dwellOf (getThm s.toDev x) low ≠ 0 ∧ (getThm s.toDev x).hold ≠ 0) ∧
    (∃ (s : State), Awake s ∧ pairUp s.toDev 2 = true ∧ s.thm.posted = false) ∧
    (∃ (s : State), Awake s ∧ s.thm.dieTimer = true ∧ dstate s.toDev = 1) ∧
    (∃ (s : State), Awake s ∧ s.thm.dieTimer = true ∧ dstate s.toDev = 3) ∧
    (∃ (s : State), Awake s ∧ s.thm.dieTimer = true ∧ dstate s.toDev = 2 ∧ dieMax s.toDev < 8640) ∧
    (∃ (s : State), Awake s ∧ s.thm.dieTimer = true ∧ dstate s.toDev = 2 ∧ dieMax s.toDev ≥ 8640) ∧
    (∃ (s : State) (k : Nat), Awake s ∧ k < 8 ∧ s.thm.departed.contains k = true ∧ dieExcl s.toDev k = false) ∧
    (∃ (s : State), Awake s ∧ rdB s.toDev THM_STATUS 0 = true) ∧
    (∃ (s : State), Awake s ∧ -2147483638 ≤ Params.toS32 (rdN s.toDev THM_OSC_CORR) ∧ Params.toS32 (rdN s.toDev THM_OSC_CORR) ≤ 2147483637) :=
  ⟨⟨dwellSt, 0, false, by decide +kernel⟩,
   ⟨holdSt, 0, false, by decide +kernel⟩,
   ⟨up, by decide +kernel⟩,
   ⟨die1, by decide +kernel⟩,
   ⟨die3, by decide +kernel⟩,
   ⟨die2, by decide +kernel⟩,
   ⟨die2h, by decide +kernel⟩,
   ⟨die0, 7, by decide +kernel⟩,
   ⟨die0, by decide +kernel⟩,
   ⟨up, by decide +kernel⟩⟩

theorem wit_ContactorRows :
    (∃ (s : State) (x : Nat) (k : Nat), suOf s.toDev x = some k ∧ Awake s ∧ pairUp s.toDev 0 = true ∧ (getStr s.toDev x).polling = true ∧ (getStr s.toDev x).cmdOut = none) ∧
    (∃ (s : State) (x : Nat) (mask : Nat), Awake s ∧ pairUp s.toDev 0 = true ∧ (getStr s.toDev x).unconf &&& mask &&& 7 = 1 ∧ (getStr s.toDev x).coils &&& 1 = 0 ∧ (getStr s.toDev x).welds &&& 1 = 0) ∧
    (∃ (s : State) (x : Nat) (mask : Nat), Awake s ∧ pairUp s.toDev 0 = true ∧ (getStr s.toDev x).unconf &&& mask &&& 7 ≠ 0 ∧ (getStr s.toDev x).unconf &&& mask &&& 7 &&& (getStr s.toDev x).coils = (getStr s.toDev x).unconf &&& mask &&& 7 ∧ (getStr s.toDev x).conn ≠ ConnPhase.none ∧ (getStr s.toDev x).opn = OpenPhase.none ∧ (getStr s.toDev x).st = StrState.sPrecharging) ∧
    (∃ (s : State) (x : Nat), Awake s ∧ pairUp s.toDev 0 = true ∧ (getStr s.toDev x).opn = OpenPhase.gap ∧ (getStr s.toDev x).gapDue = true) ∧
    (∃ (s : State) (x : Nat), Awake s ∧ pairUp s.toDev 0 = true ∧ (getStr s.toDev x).conn = ConnPhase.joinWait ∧ firstInLine s.toDev x = true ∧ (getStr s.toDev x).joinOk < 2) ∧
    (∃ (s : State) (x : Nat), Awake s ∧ pairUp s.toDev 0 = true ∧ (getStr s.toDev x).conn = ConnPhase.joinWait ∧ (getStr s.toDev x).joinOk ≥ 2) ∧
    (∃ (s : State) (x : Nat), Awake s ∧ pairUp s.toDev 0 = true ∧ (getStr s.toDev x).opn = OpenPhase.none ∧ ((getStr s.toDev x).conn = ConnPhase.tau1 ∨ (getStr s.toDev x).conn = ConnPhase.tau5 ∨ (getStr s.toDev x).conn = ConnPhase.joinWait ∧ (getStr s.toDev x).passed5 = true ∧ (getStr s.toDev x).joinOk = 0)) :=
  ⟨⟨strPoll, 0, _, rfl, by decide +kernel⟩,
   ⟨strUn, 0, 1, by decide +kernel⟩,
   ⟨strPre, 0, 1, by decide +kernel⟩,
   ⟨strGap, 0, by decide +kernel⟩,
   ⟨strJoin, 0, by decide +kernel⟩,
   ⟨strJoin2, 0, by decide +kernel⟩,
   ⟨strTau, 0, by decide +kernel⟩⟩

theorem wit_FeedbackAndDirectionRows :
    (∃ (s : State) (n : Nat), Awake s ∧ pairUp s.toDev 0 = true ∧ n < 16) ∧
    (∃ (s : State) (n : Nat), Awake s ∧ pairUp s.toDev 0 = true ∧ fbkUsed s.toDev n = true ∧ (getBus s.toDev n).timer = true ∧ (getBus s.toDev n).wantClosed = true) ∧
    (∃ (s : State) (n : Nat), Awake s ∧ pairUp s.toDev 0 = true ∧ fbkUsed s.toDev n = true ∧ (getBus s.toDev n).timer = true ∧ (getBus s.toDev n).wantClosed = false ∧ (getBus s.toDev n).weld = false) ∧
    (∃ (s : State) (k : Nat) (x : Nat) (l : List Nat), newestSlot s.toDev = some k ∧ Awake s ∧ pairUp s.toDev 0 = true ∧ confStrs s.toDev = x :: l ∧ connected s.toDev x = true ∧ strValid s.toDev k x = true ∧ (strCur s.toDev k x).natAbs > par s.toDev 32774 * 1000) ∧
    (∃ (s : State), Awake s ∧ pairUp s.toDev 0 = true ∧ newestSlot s.toDev = none) ∧
    (∃ (s : State) (x : Nat), Awake s ∧ pairUp s.toDev 0 = true ∧ (getStr s.toDev x).sswChg = true ∧ (getStr s.toDev x).sswChgAt ≠ 0) ∧
    (∃ (s : State) (x : Nat), Awake s ∧ pairUp s.toDev 0 = true ∧ (getStr s.toDev x).sswDis = true ∧ (getStr s.toDev x).sswDisAt ≠ 0) :=
  ⟨⟨up, 0, by decide +kernel⟩,
   ⟨busC, 0, by decide +kernel⟩,
   ⟨busO, 0, by decide +kernel⟩,
   ⟨slcSt, _, 0, [], rfl, by decide +kernel⟩,
   ⟨up, by decide +kernel⟩,
   ⟨sswSt, 0, by decide +kernel⟩,
   ⟨sswSt, 0, by decide +kernel⟩⟩

theorem wit_SafeInputRows :
    (∃ (s : State) (n : Nat), Awake s ∧ n < 16 ∧ sinFunc s.toDev n = 0) ∧
    (∃ (s : State) (n : Nat), Awake s ∧ n < 16 ∧ rdB s.toDev SAF_SIN_DEMAND n = false ∧ sinFunc s.toDev n = 1) ∧
    (∃ (s : State) (n : Nat), Awake s ∧ n < 16 ∧ rdB s.toDev SAF_SIN_DEMAND n = false ∧ sinFunc s.toDev n = 2) ∧
    (∃ (s : State) (n : Nat), Awake s ∧ n < 16 ∧ rdB s.toDev SAF_SIN_DEMAND n = false ∧ sinFunc s.toDev n = 3) ∧
    (∃ (s : State) (n : Nat), Awake s ∧ n < 16 ∧ rdB s.toDev SAF_SIN_DEMAND n = false ∧ (sinFunc s.toDev n = 4 ∨ sinFunc s.toDev n = 5)) ∧
    (∃ (s : State) (n : Nat), Awake s ∧ n < 16 ∧ (getSin s.toDev n).discRun = true ∧ sinFunc s.toDev n ≠ 0) ∧
    (∃ (s : State) (n : Nat) (k : Nat), Awake s ∧ n < 16 ∧ k < 4 ∧ s.saf.tpoPulse = none ∧ (∀ (m : Nat), m < 16 → excited s.toDev m k = true → (getSin s.toDev m).changed = 0 ∨ (getSin s.toDev m).changed - 1 + 50 ≤ s.uptimeMs)) ∧
    (∃ (s : State) (n : Nat) (k : Nat) (low : List Nat), s.saf.tpoPulse = some k ∧ Awake s ∧ n < 16 ∧ k < 4 ∧ (∀ (j : Nat), j < 32 → sinTpo s.toDev (j / 2) (j % 2 == 1) = k + 1 → low.contains j = true)) ∧
    (∃ (s : State) (n : Nat) (k : Nat) (low : List Nat), s.saf.tpoPulse = some k ∧ Awake s ∧ n < 16 ∧ k < 4 ∧ sinFunc s.toDev 0 ≠ 0 ∧ sinTpo s.toDev 0 false = k + 1 ∧ low.contains 0 = false) :=
  ⟨⟨up, 0, by decide +kernel⟩,
   ⟨sin1, 0, by decide +kernel⟩,
   ⟨sin2, 0, by decide +kernel⟩,
   ⟨sin3, 0, by decide +kernel⟩,
   ⟨sin4, 0, by decide +kernel⟩,
   ⟨sin1, 0, by decide +kernel⟩,
   ⟨up, 0, 0, by decide +kernel⟩,
   ⟨tpoSt, 0, _, [0], rfl, by decide +kernel⟩,
   ⟨tpoSt, 0, _, [], rfl, by decide +kernel⟩⟩

theorem wit_SeoRows :
    (∃ (s : State) (n : Nat), Awake s ∧ n < 8 ∧ seoOn s.toDev n = true ∧ (getSeo s.toDev n).pulse = none ∧ ((getSeo s.toDev n).changed = 0 ∨ (getSeo s.toDev n).changed - 1 + 50 ≤ s.uptimeMs)) ∧
    (∃ (s : State) (n : Nat) (chB : Bool), (getSeo s.toDev n).pulse = some chB ∧ Awake s ∧ n < 8 ∧ seoOn s.toDev n = true) :=
  ⟨⟨seoSt, 7, by decide +kernel⟩,
   ⟨seoPulse, 7, _, rfl, by decide +kernel⟩⟩

theorem wit_SafetyRegisterRows :
    (∃ (s : State) (v : Nat), Awake s ∧ v % 256 = 90 ∧ primHalted s.toDev 0 = false) ∧
    (∃ (s : State) (v : Nat), Awake s ∧ (v % 256 ≠ 90 ∨ primHalted s.toDev 0 = true)) ∧
    (∃ (s : State) (n : Nat), Awake s ∧ n < 8) ∧
    (∃ (s : State), Awake s ∧ resetBars s.toDev ≠ 0) ∧
    (∃ (s : State) (v : U32), Awake s ∧ resetBars s.toDev = 0 ∧ bitOf v 15 = true) ∧
    (∃ (s : State) (v : U32) (n : Nat), Awake s ∧ n < 16 ∧ bitOf v n = true ∧ sinReleased s.toDev n = true ∧ rdB s.toDev SAF_SIN_LATCH (16 + n) = false) ∧
    (∃ (s : State) (p : Nat), Awake s ∧ p ≠ 0) :=
  ⟨⟨up, 90, by decide +kernel⟩,
   ⟨up, 0, by decide +kernel⟩,
   ⟨up, 0, by decide +kernel⟩,
   ⟨up, by decide +kernel⟩,
   ⟨rstSt, 0xFFFFFFFF, by decide +kernel⟩,
   ⟨rstSt, 1, 0, by decide +kernel⟩,
   ⟨up, 1, by decide +kernel⟩⟩

theorem wit_CompareAndRecovery :
    (∃ (s : State) (p : Nat) (prim : List Retired) (shad : List Retired), Awake s ∧ p < 4 ∧ pairUp s.toDev p = true ∧ (getPair s.toDev p).recov = Recov.run ∧ (getPair s.toDev p).broken = false ∧ prim.length ≤ 512 ∧ agree prim shad = true) ∧
    (∃ (s : State) (p : Nat) (prim : List Retired) (shad : List Retired) (bad : Bool), Awake s ∧ p < 4 ∧ pairUp s.toDev p = true ∧ (getPair s.toDev p).recov = Recov.run ∧ (getPair s.toDev p).broken = false ∧ prim.length ≤ 512 ∧ (agree prim shad = false ∨ bad = true) ∧ s.exe.legacy = false) ∧
    (∃ (s : State) (p : Nat) (prim : List Retired) (shad : List Retired) (spr : List Retired) (c : Nat), s.exe.spare = some c ∧ Awake s ∧ p < 4 ∧ pairUp s.toDev p = true ∧ (getPair s.toDev p).recov = Recov.vote ∧ (getPair s.toDev p).primary ≠ (getPair s.toDev p).shadow ∧ agree prim shad = false ∧ spr.length = (getPair s.toDev p).count ∧ agree spr prim = true) ∧
    (∃ (s : State) (p : Nat) (prim : List Retired) (shad : List Retired), Awake s ∧ p < 4 ∧ pairUp s.toDev p = true ∧ (getPair s.toDev p).recov = Recov.retry ∧ prim.length = (getPair s.toDev p).count ∧ agree prim shad = true) ∧
    (∃ (s : State) (p : Nat) (prim : List Retired), Awake s ∧ p < 4 ∧ pairUp s.toDev p = true ∧ (getPair s.toDev p).recov = Recov.retry ∧ prim.length ≠ (getPair s.toDev p).count ∧ s.exe.legacy = true) ∧
    (∃ (s : State) (p : Nat), Awake s ∧ p < 4 ∧ pairUp s.toDev p = true ∧ (getPair s.toDev p).recov ≠ Recov.run) :=
  ⟨⟨up, 0, rt1, rt1, by decide +kernel⟩,
   ⟨up, 0, rt1, rt1, true, by decide +kernel⟩,
   ⟨voteSt, 1, rt1, [], rt1, _, rfl, by decide +kernel⟩,
   ⟨retrySt, 1, [], [], by decide +kernel⟩,
   ⟨retry1, 1, [], by decide +kernel⟩,
   ⟨voteSt, 1, by decide +kernel⟩⟩

theorem wit_CoreRows :
    (∃ (s : State) (core : Nat), Awake s ∧ core < 9 ∧ nbit s.exe.testing core = true ∧ (List.find? (fun (e : Nat × Nat × Nat × Nat) => e.fst == core) s.exe.votes = none)) ∧
    (∃ (s : State) (c : Nat), s.exe.spare = some c ∧ Awake s ∧ nbit s.exe.halted c = false ∧ voting s.toDev = false ∧ anyFormed s.toDev = true) ∧
    (∃ (s : State) (p : Nat), Awake s ∧ p ≠ 0) ∧
    (∃ (s : State) (p : Nat), Awake s ∧ 1 ≤ p ∧ p ≤ 3 ∧ pairUp s.toDev p = true ∧ pairUp s.toDev 0 = true ∧ (getPair s.toDev p).restarting = false ∧ (getPair s.toDev p).broken = false ∧ (getPair s.toDev p).hbAt + 10 ≤ s.uptimeMs) ∧
    (∃ (s : State) (p : Nat), Awake s ∧ 1 ≤ p ∧ p ≤ 3 ∧ pairUp s.toDev p = true ∧ within s.toDev (getPair s.toDev p).restartAt 3600000 = false) ∧
    (∃ (s : State) (p : Nat) (k : Nat), Awake s ∧ 1 ≤ p ∧ p ≤ 3 ∧ k ≠ 0) ∧
    (∃ (s : State) (p : Nat), Awake s ∧ 1 ≤ p ∧ p ≤ 3 ∧ pairUp s.toDev p = true ∧ (getPair s.toDev p).restarting = true) ∧
    (∃ (s : State) (p : Nat) (core : Nat) (k : Nat), pairOfCore s.toDev core = some k ∧ Awake s ∧ 1 ≤ p ∧ p ≤ 3 ∧ core < 9 ∧ mayHalt s.toDev core = true ∧ nbit s.exe.halted core = false ∧ (getPair s.toDev k).broken = false) :=
  ⟨⟨testing, 8, by decide +kernel⟩,
   ⟨up, _, rfl, by decide +kernel⟩,
   ⟨up, 1, by decide +kernel⟩,
   ⟨hbSt, 1, by decide +kernel⟩,
   ⟨up, 1, by decide +kernel⟩,
   ⟨up, 1, 1, by decide +kernel⟩,
   ⟨restartSt, 3, by decide +kernel⟩,
   ⟨liveDbg, 1, 2, _, rfl, by decide +kernel⟩⟩

theorem wit_EccAndBusRows :
    (∃ (s : State) (a : Nat), Awake s ∧ 536870912 ≤ a ∧ a < 570425344) ∧
    (∃ (s : State) (a : Nat), Awake s ∧ 268435456 ≤ a ∧ a < 272629760) :=
  ⟨⟨up, 0x20000008, by decide +kernel⟩,
   ⟨up, 0x10000000, by decide +kernel⟩⟩

theorem wit_QspiRows :
    (∃ (s : State) (a : BitVec 24), Awake s ∧ 65536 ≤ a.toNat ∧ a.toNat < 131072 ∧ a.toNat % 4 = 0) ∧
    (∃ (s : State) (v : U32), Awake s ∧ fld v 0 16 % 4 = 0 ∧ (fld v 0 16 + 65536 - rdF s.toDev HP_CMD_WP 0 16) % 65536 ≤ ringFree (rdF s.toDev HP_CMD_RP 0 16) (rdF s.toDev HP_CMD_WP 0 16)) ∧
    (∃ (s : State) (v : U32), Awake s ∧ fld v 0 16 % 4 ≠ 0) ∧
    (∃ (s : State) (v : U32), Awake s ∧ fld v 0 16 % 4 = 0 ∧ (fld v 0 16 + 65536 - rdF s.toDev HP_RPL_RP 0 16) % 65536 ≤ (rdF s.toDev HP_RPL_WP 0 16 + 65536 - rdF s.toDev HP_RPL_RP 0 16) % 65536) :=
  ⟨⟨up, 0x010000, by decide +kernel⟩,
   ⟨up, 0, by decide +kernel⟩,
   ⟨up, 1, by decide +kernel⟩,
   ⟨up, 0, by decide +kernel⟩⟩

theorem wit_IntakeRows :
    (∃ (s : State) (e : Nat) (l : List Nat), Awake s ∧ s.host.ends = e :: l ∧ pairUp s.toDev 2 = true ∧ rdB s.toDev HP_STATUS 1 = true ∧ e < 65536) ∧
    (∃ (s : State) (p : Nat) (body : List U8), Awake s ∧ p < 2 ∧ pairUp s.toDev 2 = true ∧ clOn s.toDev = true ∧ rdB s.toDev HP_STATUS 1 = true ∧ body.length < 8) ∧
    (∃ (s : State) (p : Nat) (mac : Nat) (w0 : U32) (w1 : U32) (data : List U8), Awake s ∧ p < 2 ∧ pairUp s.toDev 2 = true ∧ clOn s.toDev = true ∧ rdB s.toDev HP_STATUS 1 = true ∧ fld w0 16 4 = 0 ∧ fld w1 16 16 = 0 ∧ 1 ≤ fld w0 24 4 ∧ fld w0 24 4 < 12 ∧ fld w0 28 4 ≤ fld w0 24 4 ∧ fld w1 0 16 = data.length ∧ data.length % 4 = 0 ∧ 4 ≤ data.length ∧ data.length ≤ 1440 ∧ (fld w0 28 4 < fld w0 24 4 → data.length = 1440) ∧ List.find? (isReasm mac (fld w0 20 4) (fld w0 0 16)) s.host.reasm = none ∧ s.host.reasm.length < 16 ∧ ¬(mac, fld w0 20 4, fld w0 0 16) ∈ s.host.refused) ∧
    (∃ (s : State) (mac : Nat) (sn : Nat) (tag : Nat) (r : Reasm), List.find? (isReasm mac sn tag) s.host.reasm = some r ∧ Awake s) :=
  ⟨⟨haltHost, 8, [], by decide +kernel⟩,
   ⟨haltHost, 0, seg16, by decide +kernel⟩,
   ⟨haltHost, 0, 0, 0x11000000, 4, seg16, by decide +kernel⟩,
   ⟨reasmSt, 7, 1, 5, _, rfl, by decide +kernel⟩⟩

theorem wit_HostTimerRows :
    (∃ (s : State) (sn : Nat) (tag : Nat) (f : InFlight), inFlight? s.toDev sn tag = some f ∧ Awake s ∧ pairUp s.toDev 2 = true ∧ f.begun = true ∧ f.op ≠ OP_CAN_TX) ∧
    (∃ (s : State) (sn : Nat) (tag : Nat) (f : InFlight) (r : OpRow), inFlight? s.toDev sn tag = some f ∧ opRow f.op = some r ∧ Awake s ∧ pairUp s.toDev 2 = true ∧ f.begun = true ∧ f.interim = false ∧ r.timeout > par s.toDev 40963) ∧
    (∃ (s : State) (n : Nat), Awake s ∧ pairUp s.toDev 2 = true ∧ n < 8 ∧ (getSess s.toDev n).st = SessSt.active) ∧
    (∃ (s : State) (n : Nat), Awake s ∧ pairUp s.toDev 2 = true ∧ n < 8 ∧ (getSess s.toDev n).st = SessSt.held) ∧
    (∃ (s : State) (n : Nat), Awake s ∧ pairUp s.toDev 2 = true ∧ n < 8 ∧ (getSess s.toDev n).st = SessSt.authWait) ∧
    (∃ (s : State) (p : Nat), Awake s ∧ pairUp s.toDev 2 = true ∧ p < 4) ∧
    (∃ (s : State) (x : Txn), s.host.txn = some x ∧ Awake s ∧ pairUp s.toDev 2 = true) :=
  ⟨⟨flightSt, 1, 5, _, rfl, by decide +kernel⟩,
   ⟨flightSt, 1, 5, _, _, rfl, rfl, by decide +kernel⟩,
   ⟨ses, 1, by decide +kernel⟩,
   ⟨sesHeld, 7, by decide +kernel⟩,
   ⟨sesHeld, 0, by decide +kernel⟩,
   ⟨up, 0, by decide +kernel⟩,
   ⟨txnOwn, _, rfl, by decide +kernel⟩⟩

theorem wit_FixedReads :
    (∃ (s : State) (c : HostCmd), admitted s.toDev OP_IDENTIFY c ∧ Awake s) ∧
    (∃ (s : State) (c : HostCmd), admitted s.toDev OP_STATUS_GET c ∧ Awake s) ∧
    (∃ (s : State) (c : HostCmd), admitted s.toDev OP_TIMEBASE_GET c ∧ Awake s) ∧
    (∃ (s : State) (c : HostCmd), admitted s.toDev OP_DIRECT_READ c ∧ Awake s) ∧
    (∃ (s : State) (c : HostCmd), admitted s.toDev OP_SAFETY_READ c ∧ Awake s) ∧
    (∃ (s : State) (c : HostCmd), admitted s.toDev OP_EXEC_READ c ∧ Awake s) ∧
    (∃ (s : State) (c : HostCmd), admitted s.toDev OP_LIMITS_READ c ∧ Awake s ∧ s.lim.frames.length = 36) ∧
    (∃ (s : State) (c : HostCmd), admitted s.toDev OP_CLUSTER_READ c ∧ Awake s ∧ clOn s.toDev = false) ∧
    (∃ (s : State) (c : HostCmd), admitted s.toDev OP_CLUSTER_READ c ∧ Awake s ∧ clOn s.toDev = true ∧ par s.toDev 45058 < 256 ∧ par s.toDev 45059 < 64 ∧ s.cl.result.length = 32) ∧
    (∃ (s : State) (c : HostCmd), admitted s.toDev OP_FW_INFO c ∧ Awake s) ∧
    (∃ (s : State) (c : HostCmd), admitted s.toDev OP_SESSION_PING c ∧ Awake s) :=
  ⟨⟨ses, c0, admitted_of (by decide +kernel), by decide +kernel⟩,
   ⟨ses, c0, admitted_of (by decide +kernel), by decide +kernel⟩,
   ⟨ses, c0, admitted_of (by decide +kernel), by decide +kernel⟩,
   ⟨ses, c0, admitted_of (by decide +kernel), by decide +kernel⟩,
   ⟨ses, c0, admitted_of (by decide +kernel), by decide +kernel⟩,
   ⟨ses, c0, admitted_of (by decide +kernel), by decide +kernel⟩,
   ⟨sesLim, c0, admitted_of (by decide +kernel), by decide +kernel⟩,
   ⟨ses, c0, admitted_of (by decide +kernel), by decide +kernel⟩,
   ⟨sesCl, c0, admitted_of (by decide +kernel), by decide +kernel⟩,
   ⟨ses, c0, admitted_of (by decide +kernel), by decide +kernel⟩,
   ⟨ses, c0, admitted_of (by decide +kernel), by decide +kernel⟩⟩

theorem wit_RangeReads :
    (∃ (s : State) (c : HostCmd), admitted s.toDev OP_RING_STATUS c ∧ Awake s ∧ c.payload.length = 1 ∧ rangeFirst c 0 + rangeCount c 0 ≤ 32 ∧ 0 + rangeCount c 0 * 8 ≤ 4096) ∧
    (∃ (s : State) (c : HostCmd), admitted s.toDev OP_RING_STATUS c ∧ Awake s ∧ c.payload.length = 1 ∧ 32 < rangeFirst c 0 + rangeCount c 0) ∧
    (∃ (s : State) (c : HostCmd), admitted s.toDev OP_UNIT_MAP_GET c ∧ Awake s ∧ c.payload.length = 1 ∧ rangeFirst c 0 + rangeCount c 0 ≤ 8128 ∧ 0 + rangeCount c 0 * 5 ≤ 4096) ∧
    (∃ (s : State) (c : HostCmd), admitted s.toDev OP_UNIT_MAP_GET c ∧ Awake s ∧ c.payload.length = 1 ∧ 8128 < rangeFirst c 0 + rangeCount c 0) ∧
    (∃ (s : State) (c : HostCmd), admitted s.toDev OP_STRING_EST_READ c ∧ Awake s ∧ c.payload.length = 1 ∧ rangeFirst c 0 + rangeCount c 0 ≤ 128 ∧ 0 + rangeCount c 0 * 21 ≤ 4096) ∧
    (∃ (s : State) (c : HostCmd), admitted s.toDev OP_STRING_EST_READ c ∧ Awake s ∧ c.payload.length = 1 ∧ 128 < rangeFirst c 0 + rangeCount c 0) ∧
    (∃ (s : State) (c : HostCmd), admitted s.toDev OP_THERMAL_READ c ∧ Awake s ∧ c.payload.length = 1 ∧ rangeFirst c 0 + rangeCount c 0 ≤ 128 ∧ 0 + rangeCount c 0 * 8 ≤ 4096) ∧
    (∃ (s : State) (c : HostCmd), admitted s.toDev OP_THERMAL_READ c ∧ Awake s ∧ c.payload.length = 1 ∧ 128 < rangeFirst c 0 + rangeCount c 0) ∧
    (∃ (s : State) (c : HostCmd), admitted s.toDev OP_STRING_READ c ∧ Awake s ∧ c.payload.length = 1 ∧ rangeFirst c 0 + rangeCount c 0 ≤ 128 ∧ 0 + rangeCount c 0 * 18 ≤ 4096) ∧
    (∃ (s : State) (c : HostCmd), admitted s.toDev OP_STRING_READ c ∧ Awake s ∧ c.payload.length = 1 ∧ 128 < rangeFirst c 0 + rangeCount c 0) ∧
    (∃ (s : State) (c : HostCmd), admitted s.toDev OP_DUMP_READ c ∧ Awake s ∧ c.payload.length = 1 ∧ rangeFirst c 0 + rangeCount c 0 ≤ 128 ∧ 0 + rangeCount c 0 * 1024 ≤ 4096) ∧
    (∃ (s : State) (c : HostCmd), admitted s.toDev OP_DUMP_READ c ∧ Awake s ∧ c.payload.length = 1 ∧ 128 < rangeFirst c 0 + rangeCount c 0) ∧
    (∃ (s : State) (c : HostCmd), admitted s.toDev OP_UNIT_MAP_GET c ∧ Awake s ∧ c.payload.length = 1 ∧ rangeFirst c 0 + rangeCount c 0 ≤ 8128 ∧ 4096 < rangeCount c 0 * 5) ∧
    (∃ (s : State) (c : HostCmd), admitted s.toDev OP_DUMP_READ c ∧ Awake s ∧ c.payload.length = 1 ∧ rangeFirst c 0 + rangeCount c 0 ≤ 128 ∧ 4096 < rangeCount c 0 * 1024) ∧
    (∃ (s : State) (c : HostCmd), admitted s.toDev OP_CATALOGUE_READ c ∧ Awake s ∧ c.payload.length = 1 ∧ rangeFirst c 0 + rangeCount c 0 ≤ 65536 ∧ 4096 < 2 + rangeCount c 0 * 32) :=
  ⟨⟨ses, c1, admitted_of (by decide +kernel), by decide +kernel⟩,
   ⟨ses, c2, admitted_of (by decide +kernel), by decide +kernel⟩,
   ⟨ses, c1, admitted_of (by decide +kernel), by decide +kernel⟩,
   ⟨ses, c3, admitted_of (by decide +kernel), by decide +kernel⟩,
   ⟨ses, c1, admitted_of (by decide +kernel), by decide +kernel⟩,
   ⟨ses, c2, admitted_of (by decide +kernel), by decide +kernel⟩,
   ⟨ses, c1, admitted_of (by decide +kernel), by decide +kernel⟩,
   ⟨ses, c2, admitted_of (by decide +kernel), by decide +kernel⟩,
   ⟨ses, c1, admitted_of (by decide +kernel), by decide +kernel⟩,
   ⟨ses, c2, admitted_of (by decide +kernel), by decide +kernel⟩,
   ⟨ses, c1, admitted_of (by decide +kernel), by decide +kernel⟩,
   ⟨ses, c2, admitted_of (by decide +kernel), by decide +kernel⟩,
   ⟨ses, c17, admitted_of (by decide +kernel), by decide +kernel⟩,
   ⟨ses, c4, admitted_of (by decide +kernel), by decide +kernel⟩,
   ⟨ses, c3, admitted_of (by decide +kernel), by decide +kernel⟩⟩

theorem wit_SelectedReads :
    (∃ (s : State) (c : HostCmd), admitted s.toDev OP_PISTE_READ c ∧ Awake s ∧ c.payload.length = 2 ∧ pwN c 1 < 2 ∧ rangeFirst c 0 + rangeCount c 0 ≤ 256) ∧
    (∃ (s : State) (c : HostCmd) (k : Nat), admitted s.toDev OP_HISTORY_READ c ∧ slotFor s.toDev c = Except.ok k ∧ Awake s ∧ c.payload.length = 3 ∧ fld (pw c 2) 0 30 = 0 ∧ rangeFirst c 0 + rangeCount c 0 ≤ 65536 ∧ 4 + rangeCount c 0 * 2 ≤ 4096) ∧
    (∃ (s : State) (c : HostCmd) (k : Nat), admitted s.toDev OP_STRING_SAMPLE_READ c ∧ slotFor s.toDev c = Except.ok k ∧ Awake s ∧ c.payload.length = 3 ∧ fld (pw c 2) 0 30 = 0 ∧ rangeFirst c 0 + rangeCount c 0 ≤ 128) ∧
    (∃ (s : State) (c : HostCmd), admitted s.toDev OP_HISTORY_READ c ∧ Awake s ∧ c.payload.length = 3 ∧ fld (pw c 2) 0 30 = 0 ∧ rangeFirst c 0 + rangeCount c 0 ≤ 65536 ∧ 4 + rangeCount c 0 * 2 ≤ 4096 ∧ bitOf (pw c 2) 31 = true ∧ newestSlot s.toDev = none) ∧
    (∃ (s : State) (c : HostCmd), admitted s.toDev OP_HISTORY_READ c ∧ Awake s ∧ c.payload.length = 3 ∧ fld (pw c 2) 0 30 ≠ 0) ∧
    (∃ (s : State) (c : HostCmd), admitted s.toDev OP_STRING_SAMPLE_READ c ∧ Awake s ∧ c.payload.length = 3 ∧ fld (pw c 2) 0 30 ≠ 0) ∧
    (∃ (s : State) (c : HostCmd), admitted s.toDev OP_SENSOR_READ c ∧ Awake s ∧ c.payload.length = 1 ∧ rangeCount c 0 ≤ 16384 ∧ rangeFirst c 0 + rangeCount c 0 ≤ 32768) ∧
    (∃ (s : State) (c : HostCmd), admitted s.toDev OP_CATALOGUE_READ c ∧ Awake s ∧ c.payload.length = 1 ∧ rangeFirst c 0 + rangeCount c 0 ≤ 65536 ∧ 2 + rangeCount c 0 * 32 ≤ 4096 ∧ s.pwr.saveOk = true) ∧
    (∃ (s : State) (c : HostCmd), admitted s.toDev OP_CATALOGUE_READ c ∧ Awake s ∧ c.payload.length = 1 ∧ rangeFirst c 0 + rangeCount c 0 ≤ 65536 ∧ 2 + rangeCount c 0 * 32 ≤ 4096 ∧ s.pwr.saveOk = false) ∧
    (∃ (s : State) (c : HostCmd), admitted s.toDev OP_COUNTER_READ c ∧ Awake s ∧ c.payload.length = 2 ∧ pwN c 1 = 0 ∧ rangeFirst c 0 + rangeCount c 0 ≤ 2048) ∧
    (∃ (s : State) (c : HostCmd), admitted s.toDev OP_COUNTER_READ c ∧ Awake s ∧ c.payload.length = 2 ∧ pwN c 1 = 1 ∧ rangeFirst c 0 + rangeCount c 0 ≤ 2048) ∧
    (∃ (s : State) (c : HostCmd), admitted s.toDev OP_LOG_READ c ∧ Awake s ∧ c.payload.length = 3 ∧ pwN c 2 ≤ 511) ∧
    (∃ (s : State) (c : HostCmd), admitted s.toDev OP_CAN_STATUS c ∧ Awake s ∧ c.payload.length = 1 ∧ pwN c 0 < 8) ∧
    (∃ (s : State) (c : HostCmd), admitted s.toDev OP_PARAM_GET c ∧ Awake s ∧ c.payload.length = 2 ∧ pwN c 0 = 1 ∧ pwN c 1 < 65536) ∧
    (∃ (s : State) (c : HostCmd), admitted s.toDev OP_TAG_QUERY c ∧ Awake s ∧ c.payload.length = 1 ∧ fld (pw c 0) 20 12 = 0 ∧ (∀ (f : InFlight), f ∈ s.host.flight → ¬(f.cmd.sess = fld (pw c 0) 16 4 ∧ f.cmd.tag = fld (pw c 0) 0 16)) ∧ (List.find? (fun (e : Outcome382) => e.sess == fld (pw c 0) 16 4 && e.tag == fld (pw c 0) 0 16) s.host.outcomes = none)) ∧
    (∃ (s : State) (c : HostCmd) (e : Outcome382), admitted s.toDev OP_TAG_QUERY c ∧ (List.find? (fun (e : Outcome382) => e.sess == fld (pw c 0) 16 4 && e.tag == fld (pw c 0) 0 16) s.host.outcomes = some e) ∧ Awake s ∧ c.payload.length = 1 ∧ fld (pw c 0) 20 12 = 0 ∧ (∀ (f : InFlight), f ∈ s.host.flight → ¬(f.cmd.sess = fld (pw c 0) 16 4 ∧ f.cmd.tag = fld (pw c 0) 0 16)) ∧ e.priv ≤ privOf s.toDev c.sess) :=
  ⟨⟨ses, c5, admitted_of (by decide +kernel), by decide +kernel⟩,
   ⟨sesHist, c7, _, admitted_of (by decide +kernel), rfl, by decide +kernel⟩,
   ⟨sesHist, c7, _, admitted_of (by decide +kernel), rfl, by decide +kernel⟩,
   ⟨ses, c8, admitted_of (by decide +kernel), by decide +kernel⟩,
   ⟨ses, cSet, admitted_of (by decide +kernel), by decide +kernel⟩,
   ⟨ses, cSet, admitted_of (by decide +kernel), by decide +kernel⟩,
   ⟨ses, c1, admitted_of (by decide +kernel), by decide +kernel⟩,
   ⟨ses, c1, admitted_of (by decide +kernel), by decide +kernel⟩,
   ⟨sesAudit, c1, admitted_of (by decide +kernel), by decide +kernel⟩,
   ⟨ses, c5, admitted_of (by decide +kernel), by decide +kernel⟩,
   ⟨ses, c6, admitted_of (by decide +kernel), by decide +kernel⟩,
   ⟨ses, c7, admitted_of (by decide +kernel), by decide +kernel⟩,
   ⟨ses, c9, admitted_of (by decide +kernel), by decide +kernel⟩,
   ⟨ses, c10, admitted_of (by decide +kernel), by decide +kernel⟩,
   ⟨ses, c1, admitted_of (by decide +kernel), by decide +kernel⟩,
   ⟨sesOut, c11, _, admitted_of (by decide +kernel), rfl, by decide +kernel⟩⟩

theorem wit_ConfigurationCommands :
    (∃ (s : State) (c : HostCmd), admitted s.toDev OP_SERVICE_ENTER c ∧ Awake s) ∧
    (∃ (s : State) (c : HostCmd), admitted s.toDev OP_SERVICE_LEAVE c ∧ Awake s ∧ s.exe.debug ≠ DebugMode.service) ∧
    (∃ (s : State) (c : HostCmd), admitted s.toDev OP_SERVICE_LEAVE c ∧ Awake s ∧ s.exe.debug = DebugMode.service) ∧
    (∃ (s : State) (c : HostCmd), admitted s.toDev OP_CONFIG_BEGIN c ∧ Awake s ∧ s.host.txn = none) ∧
    (∃ (s : State) (c : HostCmd), admitted s.toDev OP_CONFIG_BEGIN c ∧ Awake s ∧ s.host.txn.isSome = true) ∧
    (∃ (s : State) (c : HostCmd) (x : Txn), admitted s.toDev OP_CONFIG_ABORT c ∧ s.host.txn = some x ∧ Awake s ∧ x.owner = c.sess) ∧
    (∃ (s : State) (c : HostCmd) (x : Txn), admitted s.toDev OP_PARAM_SET c ∧ s.host.txn = some x ∧ Awake s ∧ x.owner = c.sess ∧ 1 ≤ pwN c 0 ∧ pwN c 0 ≤ 512 ∧ c.payload.length = 1 + 2 * pwN c 0 ∧ (∀ (e : Nat × Nat), e ∈ setPairs c → e.fst < 65536 ∧ ∃ (r : Params.ParamRow), Params.paramRow e.fst = some r ∧ r.admits e.snd = true ∧ (r.safety = true → 3 ≤ privOf s.toDev c.sess)) ∧ (List.foldl stageVal x.vals (setPairs c)).length ≤ 4096) ∧
    (∃ (s : State) (c : HostCmd) (x : Txn) (r : Params.ParamRow), admitted s.toDev OP_PARAM_SET c ∧ s.host.txn = some x ∧ Params.paramRow (pwN c 1) = some r ∧ Awake s ∧ x.owner = c.sess ∧ pwN c 0 = 1 ∧ c.payload.length = 3 ∧ pwN c 1 < 65536 ∧ r.safety = false ∧ r.admits (pwN c 2) = false) ∧
    (∃ (s : State) (c : HostCmd) (x : Txn), admitted s.toDev OP_CONFIG_COMMIT c ∧ s.host.txn = some x ∧ Awake s ∧ x.owner = c.sess ∧ s.host.commit = none ∧ within s.toDev s.host.commitAt 1000 = false ∧ (crossFail s.toDev (txnVal s.toDev x) (parC s.toDev) (List.map (fun (x : Nat × Nat) => x.fst) x.vals) = none) ∧ pisteFail s.toDev x.pistes = none ∧ umapFail s.toDev x.umap = none) ∧
    (∃ (s : State) (c : HostCmd) (x : Txn), s.host.txn = some x ∧ admitted s.toDev OP_PARAM_SET c ∧ Awake s ∧ x.owner ≠ c.sess) ∧
    (∃ (s : State) (c : HostCmd) (x : Txn), s.host.txn = some x ∧ admitted s.toDev OP_CONFIG_COMMIT c ∧ Awake s ∧ x.owner ≠ c.sess) ∧
    (∃ (s : State) (c : HostCmd) (x : Txn), s.host.txn = some x ∧ admitted s.toDev OP_CONFIG_ABORT c ∧ Awake s ∧ x.owner ≠ c.sess) ∧
    (∃ (s : State) (c : HostCmd) (x : Txn), s.host.txn = some x ∧ admitted s.toDev OP_PISTE_WRITE c ∧ Awake s ∧ x.owner ≠ c.sess) ∧
    (∃ (s : State) (c : HostCmd) (x : Txn), s.host.txn = some x ∧ admitted s.toDev OP_UNIT_MAP_SET c ∧ Awake s ∧ x.owner ≠ c.sess) ∧
    (∃ (s : State) (c : HostCmd) (x : Txn), admitted s.toDev OP_PISTE_WRITE c ∧ s.host.txn = some x ∧ Awake s ∧ x.owner = c.sess ∧ c.payload.length = 2 + 4 * rangeCount c 0 ∧ pwN c 1 < 2 ∧ rangeFirst c 0 + rangeCount c 0 ≤ 256 ∧ 3 ≤ privOf s.toDev c.sess ∧ (∀ (i : Nat), i < rangeCount c 0 → gateEn (pw c (4 * i + 4)) = true → gateBad (pw c (4 * i + 2)) (pw c (4 * i + 3)) (pw c (4 * i + 4)) = false)) ∧
    (∃ (s : State) (c : HostCmd) (x : Txn) (i : Nat), admitted s.toDev OP_UNIT_MAP_SET c ∧ s.host.txn = some x ∧ entryIdx (pw c 3) = some i ∧ Awake s ∧ x.owner = c.sess ∧ pwN c 0 = 1 ∧ c.payload.length = 6 ∧ (umapFail s.toDev (List.filter (fun (e : Nat × List U32) => e.fst != i) x.umap ++ [(i, [pw c 1, pw c 2, pw c 3, pw c 4, pw c 5])]) = none)) ∧
    (∃ (s : State) (c : HostCmd) (d : Int), admitted s.toDev OP_TIMEBASE_ALIGN c ∧ Awake s ∧ c.payload.length = 2 ∧ d.natAbs ≤ 2 ^ 47 - 1 ∧ d % 2 ^ 64 = ((pwN c 0 + pwN c 1 * 2 ^ 32 : Nat) : Int) ∧ isReference s.toDev = true ∧ s.tb.alignDue = none ∧ d ≠ 0) ∧
    (∃ (s : State) (c : HostCmd) (d : Int), admitted s.toDev OP_TIMEBASE_ALIGN c ∧ d = 0 ∧ Awake s ∧ c.payload.length = 2 ∧ d.natAbs ≤ 2 ^ 47 - 1 ∧ d % 2 ^ 64 = ((pwN c 0 + pwN c 1 * 2 ^ 32 : Nat) : Int) ∧ isReference s.toDev = true ∧ s.tb.alignDue = none) ∧
    (∃ (s : State) (c : HostCmd) (d : Int), admitted s.toDev OP_TIMEBASE_ALIGN c ∧ Awake s ∧ c.payload.length = 2 ∧ d.natAbs ≤ 2 ^ 47 - 1 ∧ d % 2 ^ 64 = ((pwN c 0 + pwN c 1 * 2 ^ 32 : Nat) : Int) ∧ isReference s.toDev = false) ∧
    (∃ (s : State) (c : HostCmd) (d : Int), admitted s.toDev OP_TIMEBASE_ALIGN c ∧ Awake s ∧ c.payload.length = 2 ∧ d.natAbs ≤ 2 ^ 47 - 1 ∧ d % 2 ^ 64 = ((pwN c 0 + pwN c 1 * 2 ^ 32 : Nat) : Int) ∧ isReference s.toDev = true ∧ s.tb.alignDue.isSome = true) :=
  ⟨⟨ses, c0, admitted_of (by decide +kernel), by decide +kernel⟩,
   ⟨sesSvc, c0, admitted_of (by decide +kernel), by decide +kernel⟩,
   ⟨sesSvcDbg, c0, admitted_of (by decide +kernel), by decide +kernel⟩,
   ⟨ses, c0, admitted_of (by decide +kernel), by decide +kernel⟩,
   ⟨txnOwn, c0, admitted_of (by decide +kernel), by decide +kernel⟩,
   ⟨txnOwn, c0, _, admitted_of (by decide +kernel), rfl, by decide +kernel⟩,
   ⟨txnOwn, cSet, _, admitted_of (by decide +kernel), rfl, by decide +kernel⟩,
   ⟨txnOwn, cSetBad, _, _, admitted_of (by decide +kernel), rfl, rfl, by decide +kernel⟩,
   ⟨txnOwn, c0, _, admitted_of (by decide +kernel), rfl, by decide +kernel⟩,
   ⟨txnOther, c0, _, rfl, admitted_of (by decide +kernel), by decide +kernel⟩,
   ⟨txnOther, c0, _, rfl, admitted_of (by decide +kernel), by decide +kernel⟩,
   ⟨txnOther, c0, _, rfl, admitted_of (by decide +kernel), by decide +kernel⟩,
   ⟨txnOther, c0, _, rfl, admitted_of (by decide +kernel), by decide +kernel⟩,
   ⟨txnOther, c0, _, rfl, admitted_of (by decide +kernel), by decide +kernel⟩,
   ⟨txnOwn, c12, _, admitted_of (by decide +kernel), rfl, by decide +kernel⟩,
   ⟨txnOwn, cUmap, _, _, admitted_of (by decide +kernel), rfl, rfl, by decide +kernel⟩,
   ⟨ses, c12, (1 : Int), admitted_of (by decide +kernel), by decide +kernel⟩,
   ⟨ses, c13, _, admitted_of (by decide +kernel), rfl, by decide +kernel⟩,
   ⟨sesCl, c12, (1 : Int), admitted_of (by decide +kernel), by decide +kernel⟩,
   ⟨sesAlign, c12, (1 : Int), admitted_of (by decide +kernel), by decide +kernel⟩⟩

theorem wit_SessionCommands :
    (∃ (s : State) (c : HostCmd) (n : Nat), admitted s.toDev OP_SESSION_OPEN c ∧ (List.find? (fun (k : Nat) => (getSess s.toDev k).st == SessSt.free) (List.range 8) = some n) ∧ Awake s ∧ c.payload.length = 5 ∧ pw c 0 = 0 ∧ parB s.toDev 40961 = true ∧ Tbl.get 0 s.host.lockout 0 = 0) ∧
    (∃ (s : State) (c : HostCmd) (n : Nat) (p : Nat), admitted s.toDev OP_SESSION_OPEN c ∧ pwN c 0 = p ∧ (List.find? (fun (k : Nat) => (getSess s.toDev k).st == SessSt.free) (List.range 8) = some n) ∧ Awake s ∧ c.payload.length = 5 ∧ 1 ≤ p ∧ p < 4 ∧ s.host.kdev.isSome = true ∧ Tbl.get 0 s.host.lockout p = 0 ∧ (p = 3 → ∀ (k : Nat), k < 8 → (getSess s.toDev k).st = SessSt.free ∨ (getSess s.toDev k).priv ≠ 3)) ∧
    (∃ (s : State) (c : HostCmd), admitted s.toDev OP_SESSION_OPEN c ∧ Awake s ∧ c.payload.length = 5 ∧ pwN c 0 < 4 ∧ Tbl.get 0 s.host.lockout (pwN c 0) ≠ 0) ∧
    (∃ (s : State) (c : HostCmd), admitted s.toDev OP_SESSION_OPEN c ∧ Awake s ∧ c.payload.length = 5 ∧ pwN c 0 < 4 ∧ Tbl.get 0 s.host.lockout (pwN c 0) = 0 ∧ pwN c 0 ≠ 0 ∧ s.host.kdev = none) ∧
    (∃ (s : State) (c : HostCmd) (k : List U8) (x : Session), admitted s.toDev OP_SESSION_AUTH c ∧ getSess s.toDev c.sess = x ∧ s.host.kdev = some k ∧ Awake s ∧ c.payload.length = 8 ∧ c.sess < 8 ∧ x.st = SessSt.authWait ∧ x.resume = false) ∧
    (∃ (s : State) (c : HostCmd), admitted s.toDev OP_SESSION_CLOSE c ∧ Awake s ∧ c.sess < 8) ∧
    (∃ (s : State) (c : HostCmd) (f : InFlight), admitted s.toDev OP_CMD_CANCEL c ∧ (List.find? (fun (f : InFlight) => f.cmd.sess == c.sess && f.cmd.tag == pwN c 0 && !f.timedOut && f.cmd != c) s.host.flight = some f) ∧ Awake s ∧ c.payload.length = 1 ∧ pwN c 0 < 65536 ∧ f.begun = false) ∧
    (∃ (s : State) (c : HostCmd) (f : InFlight), admitted s.toDev OP_CMD_CANCEL c ∧ (List.find? (fun (f : InFlight) => f.cmd.sess == c.sess && f.cmd.tag == pwN c 0 && !f.timedOut && f.cmd != c) s.host.flight = some f) ∧ Awake s ∧ c.payload.length = 1 ∧ pwN c 0 < 65536 ∧ f.begun = true ∧ f.op ≠ OP_CAN_TX) ∧
    (∃ (s : State) (c : HostCmd) (f : InFlight), admitted s.toDev OP_CMD_CANCEL c ∧ (List.find? (fun (f : InFlight) => f.cmd.sess == c.sess && f.cmd.tag == pwN c 0 && !f.timedOut && f.cmd != c) s.host.flight = some f) ∧ Awake s ∧ c.payload.length = 1 ∧ pwN c 0 < 65536 ∧ f.begun = true ∧ f.op = OP_CAN_TX ∧ canPending s.toDev f.cmd = true ∧ pairUp s.toDev 3 = true) ∧
    (∃ (s : State) (c : HostCmd), admitted s.toDev OP_CMD_CANCEL c ∧ Awake s ∧ c.payload.length = 1 ∧ pwN c 0 < 65536 ∧ (List.find? (fun (f : InFlight) => f.cmd.sess == c.sess && f.cmd.tag == pwN c 0 && !f.timedOut && f.cmd != c) s.host.flight = none)) ∧
    (∃ (s : State) (c : HostCmd), admitted s.toDev OP_NOTICE_SUBSCRIBE c ∧ Awake s ∧ c.payload.length = 1 ∧ pwN c 0 < 64 ∧ c.sess < 8) ∧
    (∃ (s : State) (c : HostCmd), admitted s.toDev OP_KEY_PROVISION c ∧ Awake s ∧ c.payload.length = 8 ∧ ((c.payload.all fun (w : U32) => w == 0) = false) ∧ s.host.kdev = none) ∧
    (∃ (s : State) (c : HostCmd), admitted s.toDev OP_KEY_PROVISION c ∧ Awake s ∧ c.payload.length = 8 ∧ ((c.payload.all fun (w : U32) => w == 0) = false) ∧ s.host.kdev.isSome = true) :=
  ⟨⟨up, co0, _, admitted_of (by decide +kernel), rfl, by decide +kernel⟩,
   ⟨keySt, co1, _, _, admitted_of (by decide +kernel), rfl, rfl, by decide +kernel⟩,
   ⟨lockSt, co0, admitted_of (by decide +kernel), by decide +kernel⟩,
   ⟨up, co1, admitted_of (by decide +kernel), by decide +kernel⟩,
   ⟨authSt, cm8, _, _, admitted_of (by decide +kernel), rfl, rfl, by decide +kernel⟩,
   ⟨ses, c0, admitted_of (by decide +kernel), by decide +kernel⟩,
   ⟨flightQ, c9, _, admitted_of (by decide +kernel), rfl, by decide +kernel⟩,
   ⟨flightB, c9, _, admitted_of (by decide +kernel), rfl, by decide +kernel⟩,
   ⟨flightCan, c9, _, admitted_of (by decide +kernel), rfl, by decide +kernel⟩,
   ⟨ses, c9, admitted_of (by decide +kernel), by decide +kernel⟩,
   ⟨ses, c9, admitted_of (by decide +kernel), by decide +kernel⟩,
   ⟨ses, cm8, admitted_of (by decide +kernel), by decide +kernel⟩,
   ⟨keySvc, cm8, admitted_of (by decide +kernel), by decide +kernel⟩⟩

theorem wit_ConfigurationCommandsComplete :
    (∃ (s : State) (c : HostCmd), admitted s.toDev OP_SERVICE_ENTER c ∧ Awake s) ∧
    (∃ (s : State) (c : HostCmd), admitted s.toDev OP_SERVICE_LEAVE c ∧ Awake s ∧ s.exe.debug ≠ DebugMode.service) ∧
    (∃ (s : State) (c : HostCmd), admitted s.toDev OP_CONFIG_BEGIN c ∧ Awake s ∧ s.host.txn = none) ∧
    (∃ (s : State) (c : HostCmd) (x : Txn) (r : Params.ParamRow), s.host.txn = some x ∧ admitted s.toDev OP_PARAM_SET c ∧ Params.paramRow (pwN c 1) = some r ∧ Awake s ∧ x.owner = c.sess ∧ pwN c 0 = 1 ∧ c.payload.length = 3 ∧ pwN c 1 < 65536 ∧ r.admits (pwN c 2) = true ∧ (r.safety = true → 3 ≤ privOf s.toDev c.sess) ∧ x.vals.length < 4096) ∧
    (∃ (s : State) (c : HostCmd) (x : Txn), s.host.txn = some x ∧ admitted s.toDev OP_CONFIG_COMMIT c ∧ Awake s ∧ x.owner = c.sess ∧ s.host.commit = none ∧ within s.toDev s.host.commitAt 1000 = false ∧ (crossFail s.toDev (txnVal s.toDev x) (parC s.toDev) (List.map (fun (x : Nat × Nat) => x.fst) x.vals) = none) ∧ pisteFail s.toDev x.pistes = none ∧ umapFail s.toDev x.umap = none) ∧
    (∃ (s : State) (c : HostCmd) (x : Txn), s.host.txn = some x ∧ admitted s.toDev OP_CONFIG_ABORT c ∧ Awake s ∧ x.owner = c.sess) ∧
    (∃ (s : State) (c : HostCmd) (x : Txn) (k : Nat), s.host.txn = some x ∧ admitted s.toDev OP_PISTE_WRITE c ∧ Awake s ∧ x.owner = c.sess ∧ c.payload.length = 6 ∧ pwN c 0 = 65536 + k ∧ k < 256 ∧ pwN c 1 < 2 ∧ 3 ≤ privOf s.toDev c.sess ∧ (gateEn (pw c 4) = true → gateBad (pw c 2) (pw c 3) (pw c 4) = false)) ∧
    (∃ (s : State) (c : HostCmd) (x : Txn) (i : Nat), s.host.txn = some x ∧ admitted s.toDev OP_UNIT_MAP_SET c ∧ entryIdx (pw c 3) = some i ∧ Awake s ∧ x.owner = c.sess ∧ pwN c 0 = 1 ∧ c.payload.length = 6 ∧ (umapFail s.toDev (List.filter (fun (e : Nat × List U32) => e.fst != i) x.umap ++ [(i, [pw c 1, pw c 2, pw c 3, pw c 4, pw c 5])]) = none)) ∧
    (∃ (s : State) (c : HostCmd) (d : Int), admitted s.toDev OP_TIMEBASE_ALIGN c ∧ Awake s ∧ c.payload.length = 2 ∧ d ≠ 0 ∧ d.natAbs ≤ 2 ^ 47 - 1 ∧ d % 2 ^ 64 = ((pwN c 0 + pwN c 1 * 2 ^ 32 : Nat) : Int) ∧ isReference s.toDev = true ∧ s.tb.alignDue = none) :=
  ⟨⟨ses, c0, admitted_of (by decide +kernel), by decide +kernel⟩,
   ⟨sesSvc, c0, admitted_of (by decide +kernel), by decide +kernel⟩,
   ⟨ses, c0, admitted_of (by decide +kernel), by decide +kernel⟩,
   ⟨txnOwn, cSet, _, _, rfl, admitted_of (by decide +kernel), rfl, by decide +kernel⟩,
   ⟨txnOwn, c0, _, rfl, admitted_of (by decide +kernel), by decide +kernel⟩,
   ⟨txnOwn, c0, _, rfl, admitted_of (by decide +kernel), by decide +kernel⟩,
   ⟨txnOwn, cPiste, _, 0, rfl, admitted_of (by decide +kernel), by decide +kernel⟩,
   ⟨txnOwn, cUmap, _, _, rfl, admitted_of (by decide +kernel), rfl, by decide +kernel⟩,
   ⟨ses, c12, (1 : Int), admitted_of (by decide +kernel), by decide +kernel⟩⟩

theorem wit_StringCommands :
    (∃ (s : State) (c : HostCmd) (x : Nat) (dv : Int), admitted s.toDev OP_STRING_CONNECT c ∧ dv = dvNow s.toDev x ∧ Awake s ∧ maskStrs c = [x] ∧ c.payload.length = 4 ∧ s.pwr.hibStep = 0 ∧ (∀ (f : InFlight), flightOf s.toDev c = some f → f.cut = []) ∧ (suOf s.toDev x).isSome = true ∧ connectOk s.toDev x = true ∧ busLive s.toDev x = false ∧ fbkOfBus s.toDev (busOf s.toDev x) = [] ∧ dv.natAbs ≤ par s.toDev 28677 * 2) ∧
    (∃ (s : State) (c : HostCmd) (x : Nat) (dv : Int), admitted s.toDev OP_STRING_CONNECT c ∧ dv = dvNow s.toDev x ∧ Awake s ∧ maskStrs c = [x] ∧ c.payload.length = 4 ∧ s.pwr.hibStep = 0 ∧ (∀ (f : InFlight), flightOf s.toDev c = some f → f.cut = []) ∧ (suOf s.toDev x).isSome = true ∧ connectOk s.toDev x = true ∧ busLive s.toDev x = false ∧ fbkOfBus s.toDev (busOf s.toDev x) = [] ∧ par s.toDev 28677 * 2 < dv.natAbs ∧ (getStr s.toDev x).eacc + predicted s.toDev dv ≤ par s.toDev 28675 * 1000) ∧
    (∃ (s : State) (c : HostCmd) (x : Nat) (dv : Int), admitted s.toDev OP_STRING_CONNECT c ∧ dv = dvNow s.toDev x ∧ Awake s ∧ maskStrs c = [x] ∧ c.payload.length = 4 ∧ s.pwr.hibStep = 0 ∧ (∀ (f : InFlight), flightOf s.toDev c = some f → f.cut = []) ∧ (suOf s.toDev x).isSome = true ∧ connectOk s.toDev x = true ∧ busLive s.toDev x = false ∧ fbkOfBus s.toDev (busOf s.toDev x) = [] ∧ (∀ (e : Nat × Str), e ∈ s.strs → e.fst ≠ x → e.snd.conn ≠ ConnPhase.waitBus) ∧ par s.toDev 28677 * 2 < dv.natAbs ∧ par s.toDev 28675 * 1000 < (getStr s.toDev x).eacc + predicted s.toDev dv) ∧
    (∃ (s : State) (c : HostCmd) (x : Nat), admitted s.toDev OP_STRING_CONNECT c ∧ Awake s ∧ maskStrs c = [x] ∧ c.payload.length = 4 ∧ s.pwr.hibStep = 0 ∧ (∀ (f : InFlight), flightOf s.toDev c = some f → f.cut = []) ∧ (suOf s.toDev x).isSome = true ∧ (getStr s.toDev x).st ≠ StrState.sClosed ∧ connectOk s.toDev x = false) ∧
    (∃ (s : State) (c : HostCmd) (x : Nat), admitted s.toDev OP_STRING_DISCONNECT c ∧ Awake s ∧ maskStrs c = [x] ∧ c.payload.length = 4 ∧ connected s.toDev x = true ∧ (getStr s.toDev x).conn ≠ ConnPhase.waitBus ∧ (getStr s.toDev x).opn = OpenPhase.none) ∧
    (∃ (s : State) (c : HostCmd) (x : Nat), admitted s.toDev OP_STRING_DISCONNECT c ∧ Awake s ∧ maskStrs c = [x] ∧ c.payload.length = 4 ∧ (suOf s.toDev x).isSome = true ∧ connected s.toDev x = false ∧ (getStr s.toDev x).conn = ConnPhase.waitBus) ∧
    (∃ (s : State) (c : HostCmd) (x : Nat), admitted s.toDev OP_STRING_LOCK c ∧ Awake s ∧ maskStrs c = [x] ∧ c.payload.length = 4 ∧ (suOf s.toDev x).isSome = true ∧ (getStr s.toDev x).st = StrState.sOpen) ∧
    (∃ (s : State) (c : HostCmd) (x : Nat), admitted s.toDev OP_STRING_LOCK c ∧ Awake s ∧ maskStrs c = [x] ∧ c.payload.length = 4 ∧ (suOf s.toDev x).isSome = true ∧ connected s.toDev x = true) ∧
    (∃ (s : State) (c : HostCmd) (x : Nat), admitted s.toDev OP_STRING_UNLOCK c ∧ Awake s ∧ maskStrs c = [x] ∧ c.payload.length = 4 ∧ (suOf s.toDev x).isSome = true ∧ (getStr s.toDev x).st = StrState.sLockedOut ∧ safetyLock (getStr s.toDev x).lockEvt = false ∧ causeGone s.toDev x = true) ∧
    (∃ (s : State) (c : HostCmd) (x : Nat), admitted s.toDev OP_STRING_UNLOCK c ∧ Awake s ∧ maskStrs c = [x] ∧ c.payload.length = 4 ∧ (suOf s.toDev x).isSome = true ∧ (getStr s.toDev x).st = StrState.sLockedOut ∧ safetyLock (getStr s.toDev x).lockEvt = true) ∧
    (∃ (s : State) (c : HostCmd) (x : Nat), admitted s.toDev OP_STRING_WELD_RELEASE c ∧ Awake s ∧ maskStrs c = [x] ∧ c.payload.length = 5 ∧ pw c 4 = 0 ∧ (suOf s.toDev x).isSome = true ∧ (getStr s.toDev x).st = StrState.sWeldSuspect) ∧
    (∃ (s : State) (c : HostCmd) (x : Nat), admitted s.toDev OP_STRING_WELD_RELEASE c ∧ Awake s ∧ maskStrs c = [x] ∧ c.payload.length = 5 ∧ pw c 4 = 0 ∧ (suOf s.toDev x).isSome = true ∧ (getStr s.toDev x).st ≠ StrState.sWeldSuspect) :=
  ⟨⟨ready0, cs4, 0, _, admitted_of (by decide +kernel), rfl, by decide +kernel⟩,
   ⟨readyV, cs4, 0, _, admitted_of (by decide +kernel), rfl, by decide +kernel⟩,
   ⟨readyB, cs4, 0, _, admitted_of (by decide +kernel), rfl, by decide +kernel⟩,
   ⟨strNot, cs4, 0, admitted_of (by decide +kernel), by decide +kernel⟩,
   ⟨strNot, cs4, 0, admitted_of (by decide +kernel), by decide +kernel⟩,
   ⟨strWaitBus, cs4, 0, admitted_of (by decide +kernel), by decide +kernel⟩,
   ⟨ready0, cs4, 0, admitted_of (by decide +kernel), by decide +kernel⟩,
   ⟨strNot, cs4, 0, admitted_of (by decide +kernel), by decide +kernel⟩,
   ⟨strLock, cs4, 0, admitted_of (by decide +kernel), by decide +kernel⟩,
   ⟨strLockF, cs4, 0, admitted_of (by decide +kernel), by decide +kernel⟩,
   ⟨strWeld, cs5, 0, admitted_of (by decide +kernel), by decide +kernel⟩,
   ⟨ready0, cs5, 0, admitted_of (by decide +kernel), by decide +kernel⟩⟩

theorem wit_SafetyAndExecCommands :
    (∃ (s : State) (c : HostCmd), admitted s.toDev OP_SAFETY_RESET c ∧ Awake s ∧ resetBars s.toDev ≠ 0) ∧
    (∃ (s : State) (c : HostCmd), admitted s.toDev OP_SAFETY_RESET c ∧ Awake s ∧ resetBars s.toDev = 0) ∧
    (∃ (s : State) (c : HostCmd) (n : Nat), admitted s.toDev OP_SIN_RESET c ∧ Awake s ∧ c.payload.length = 1 ∧ n < 16 ∧ pwN c 0 = 2 ^ n ∧ pairUp s.toDev 0 = true ∧ rdB s.toDev SAF_SIN_LATCH n = true ∧ sinReleased s.toDev n = true) ∧
    (∃ (s : State) (c : HostCmd) (n : Nat), admitted s.toDev OP_SIN_RESET c ∧ Awake s ∧ c.payload.length = 1 ∧ n < 16 ∧ pwN c 0 = 2 ^ n ∧ (rdB s.toDev SAF_SIN_LATCH n = false ∨ sinReleased s.toDev n = false)) ∧
    (∃ (s : State) (c : HostCmd), admitted s.toDev OP_CORE_UNFENCE c ∧ Awake s ∧ c.payload.length = 1 ∧ 1 ≤ pwN c 0 ∧ pwN c 0 < 512) ∧
    (∃ (s : State) (c : HostCmd), admitted s.toDev OP_DEBUG_SET c ∧ Awake s ∧ c.payload.length = 1 ∧ pwN c 0 = 1) ∧
    (∃ (s : State) (c : HostCmd), admitted s.toDev OP_DEBUG_SET c ∧ Awake s ∧ c.payload.length = 1 ∧ pwN c 0 = 0) ∧
    (∃ (s : State) (c : HostCmd), admitted s.toDev OP_DEBUG_SET c ∧ Awake s ∧ c.payload.length = 1 ∧ pwN c 0 = 2 ∧ 3 ≤ privOf s.toDev c.sess ∧ s.dev = DevState.service ∧ stringsOff s.toDev = true) ∧
    (∃ (s : State) (c : HostCmd), admitted s.toDev OP_DEBUG_SET c ∧ Awake s ∧ c.payload.length = 1 ∧ pwN c 0 = 2 ∧ privOf s.toDev c.sess < 3) ∧
    (∃ (s : State) (c : HostCmd), admitted s.toDev OP_DEBUG_SET c ∧ Awake s ∧ c.payload.length = 1 ∧ pwN c 0 = 2 ∧ 3 ≤ privOf s.toDev c.sess ∧ (s.dev ≠ DevState.service ∨ stringsOff s.toDev = false)) :=
  ⟨⟨ses, c0, admitted_of (by decide +kernel), by decide +kernel⟩,
   ⟨sesRst, c0, admitted_of (by decide +kernel), by decide +kernel⟩,
   ⟨sinLat, c14, 0, admitted_of (by decide +kernel), by decide +kernel⟩,
   ⟨ses, c14, 0, admitted_of (by decide +kernel), by decide +kernel⟩,
   ⟨sesSvc, c9, admitted_of (by decide +kernel), by decide +kernel⟩,
   ⟨ses, c14, admitted_of (by decide +kernel), by decide +kernel⟩,
   ⟨ses, c18, admitted_of (by decide +kernel), by decide +kernel⟩,
   ⟨sesSvc, c15, admitted_of (by decide +kernel), by decide +kernel⟩,
   ⟨sesP1, c15, admitted_of (by decide +kernel), by decide +kernel⟩,
   ⟨ses, c15, admitted_of (by decide +kernel), by decide +kernel⟩⟩

theorem wit_RingCommands :
    (∃ (s : State) (c : HostCmd) (n : Nat), admitted s.toDev OP_RING_ENUMERATE c ∧ Awake s ∧ c.payload.length = 1 ∧ n < 32 ∧ pwN c 0 = 2 ^ n ∧ pairUp s.toDev 1 = true ∧ ringOn s.toDev n = true ∧ (getRing s.toDev n).enm = none ∧ (getRing s.toDev n).exch = none ∧ (getRing s.toDev n).held = none) ∧
    (∃ (s : State) (c : HostCmd) (n : Nat) (a : Nat), admitted s.toDev OP_RING_LEAVE c ∧ fld (pw c 0) 0 5 = n ∧ fld (pw c 0) 8 7 = a ∧ Awake s ∧ c.payload.length = 1 ∧ fld (pw c 0) 5 3 = 0 ∧ fld (pw c 0) 15 17 = 0 ∧ (liveRings s.toDev).contains n = true ∧ (nodeAddrs s.toDev n).contains a = true ∧ leaveBarred s.toDev n a = false ∧ pairUp s.toDev 1 = true) ∧
    (∃ (s : State) (c : HostCmd) (n : Nat) (a : Nat), admitted s.toDev OP_RING_LEAVE c ∧ fld (pw c 0) 0 5 = n ∧ fld (pw c 0) 8 7 = a ∧ Awake s ∧ c.payload.length = 1 ∧ fld (pw c 0) 5 3 = 0 ∧ fld (pw c 0) 15 17 = 0 ∧ (liveRings s.toDev).contains n = true ∧ (nodeAddrs s.toDev n).contains a = true ∧ leaveBarred s.toDev n a = true) ∧
    (∃ (s : State) (c : HostCmd) (n : Nat) (a : Nat), admitted s.toDev OP_RING_LEAVE c ∧ fld (pw c 0) 0 5 = n ∧ fld (pw c 0) 8 7 = a ∧ Awake s ∧ c.payload.length = 1 ∧ fld (pw c 0) 5 3 = 0 ∧ fld (pw c 0) 15 17 = 0 ∧ ((liveRings s.toDev).contains n = false ∨ (nodeAddrs s.toDev n).contains a = false)) ∧
    (∃ (s : State) (c : HostCmd), admitted s.toDev OP_RING_LEAVE c ∧ Awake s ∧ c.payload.length = 1 ∧ (fld (pw c 0) 5 3 ≠ 0 ∨ fld (pw c 0) 15 17 ≠ 0)) ∧
    (∃ (s : State) (c : HostCmd), admitted s.toDev OP_NODE_READ c ∧ Awake s ∧ c.payload.length = 2 ∧ (fld (pw c 0) 5 3 ≠ 0 ∨ fld (pw c 0) 15 9 ≠ 0 ∨ fld (pw c 0) 25 6 ≠ 0)) ∧
    (∃ (s : State) (c : HostCmd) (n : Nat), admitted s.toDev OP_NODE_READ c ∧ fld (pw c 0) 0 5 = n ∧ Awake s ∧ c.payload.length = 2 ∧ fld (pw c 0) 5 3 = 0 ∧ fld (pw c 0) 15 9 = 0 ∧ fld (pw c 0) 25 6 = 0 ∧ fld (pw c 1) 8 24 = 0 ∧ bitOf (pw c 0) 31 = false ∧ (liveRings s.toDev).contains n = true ∧ pairUp s.toDev 1 = true) ∧
    (∃ (s : State) (c : HostCmd) (n : Nat), admitted s.toDev OP_NODE_READ c ∧ fld (pw c 0) 0 5 = n ∧ Awake s ∧ c.payload.length = 2 ∧ fld (pw c 0) 5 3 = 0 ∧ fld (pw c 0) 15 9 = 0 ∧ fld (pw c 0) 25 6 = 0 ∧ fld (pw c 1) 8 24 = 0 ∧ bitOf (pw c 0) 31 = false ∧ (liveRings s.toDev).contains n = false) ∧
    (∃ (s : State) (c : HostCmd), admitted s.toDev OP_BAL_CLEAR c ∧ Awake s ∧ c.payload.length = 1 ∧ fld (pw c 0) 16 15 ≠ 0) ∧
    (∃ (s : State) (c : HostCmd), admitted s.toDev OP_BAL_CLEAR c ∧ Awake s ∧ c.payload.length = 1 ∧ fld (pw c 0) 16 15 = 0 ∧ bitOf (pw c 0) 31 = true) ∧
    (∃ (s : State) (c : HostCmd), admitted s.toDev OP_BAL_CLEAR c ∧ Awake s ∧ c.payload.length = 1 ∧ fld (pw c 0) 16 15 = 0 ∧ bitOf (pw c 0) 31 = false) :=
  ⟨⟨ready0, c14, 0, admitted_of (by decide +kernel), by decide +kernel⟩,
   ⟨ready0, cLeave, _, _, admitted_of (by decide +kernel), rfl, rfl, by decide +kernel⟩,
   ⟨strNot, cLeave, _, _, admitted_of (by decide +kernel), rfl, rfl, by decide +kernel⟩,
   ⟨ses, c9, _, _, admitted_of (by decide +kernel), rfl, rfl, by decide +kernel⟩,
   ⟨ses, c1, admitted_of (by decide +kernel), by decide +kernel⟩,
   ⟨ses, c5, admitted_of (by decide +kernel), by decide +kernel⟩,
   ⟨ready0, c13, _, admitted_of (by decide +kernel), rfl, by decide +kernel⟩,
   ⟨ses, c12, _, admitted_of (by decide +kernel), rfl, by decide +kernel⟩,
   ⟨ses, c1, admitted_of (by decide +kernel), by decide +kernel⟩,
   ⟨ses, cBal, admitted_of (by decide +kernel), by decide +kernel⟩,
   ⟨ses, c9, admitted_of (by decide +kernel), by decide +kernel⟩⟩

theorem wit_EstimationCommands :
    (∃ (s : State) (c : HostCmd) (x : Nat) (v : U32), admitted s.toDev OP_CAPACITY_WRITE c ∧ Awake s ∧ x < 128 ∧ c.payload = [w32 (x + 256), 0, v] ∧ ratedCap s.toDev x ≤ 2 * BitVec.toNat v ∧ 2 * BitVec.toNat v ≤ 3 * ratedCap s.toDev x) ∧
    (∃ (s : State) (c : HostCmd) (x : Nat) (v : U32), admitted s.toDev OP_CAPACITY_WRITE c ∧ Awake s ∧ x < 128 ∧ c.payload = [w32 (x + 256), 0, v] ∧ (2 * BitVec.toNat v < ratedCap s.toDev x ∨ 3 * ratedCap s.toDev x < 2 * BitVec.toNat v)) ∧
    (∃ (s : State) (c : HostCmd) (k : Nat) (x : Nat), admitted s.toDev OP_MASTER_TABLE_LOAD c ∧ pwN c 0 = k ∧ pwN c 1 = x ∧ Awake s ∧ 2 ≤ c.payload.length ∧ k < 8 ∧ x % 4 = 0 ∧ x + 4 * (c.payload.length - 2) ≤ 65536 ∧ s.pwr.loadWait = none ∧ s.pwr.load = some (k, c.sess)) ∧
    (∃ (s : State) (c : HostCmd) (k : Nat) (x : Nat), admitted s.toDev OP_MASTER_TABLE_LOAD c ∧ pwN c 0 = k ∧ pwN c 1 = x ∧ Awake s ∧ 2 ≤ c.payload.length ∧ k < 8 ∧ x % 4 = 0 ∧ x + 4 * (c.payload.length - 2) ≤ 65536 ∧ s.pwr.loadWait = none ∧ s.pwr.load = none) ∧
    (∃ (s : State) (c : HostCmd) (k : Nat) (x : Nat) (e : Nat × Nat), admitted s.toDev OP_MASTER_TABLE_LOAD c ∧ pwN c 0 = k ∧ pwN c 1 = x ∧ s.pwr.load = some e ∧ Awake s ∧ 2 ≤ c.payload.length ∧ k < 8 ∧ x % 4 = 0 ∧ x + 4 * (c.payload.length - 2) ≤ 65536 ∧ s.pwr.loadWait = none ∧ e ≠ (k, c.sess)) :=
  ⟨⟨sesCap, capOk, 0, 500, admitted_of (by decide +kernel), by decide +kernel⟩,
   ⟨ses, capOk, 0, 500, admitted_of (by decide +kernel), by decide +kernel⟩,
   ⟨sesLoad, c13, _, _, admitted_of (by decide +kernel), rfl, rfl, by decide +kernel⟩,
   ⟨ses, c12, _, _, admitted_of (by decide +kernel), rfl, rfl, by decide +kernel⟩,
   ⟨sesLoad, c12, _, _, _, admitted_of (by decide +kernel), rfl, rfl, rfl, by decide +kernel⟩⟩

theorem wit_CanCommands :
    (∃ (s : State) (c : HostCmd) (n : Nat), fld (pw c 0) 0 3 = n ∧ admitted s.toDev OP_CAN_TX c ∧ Awake s ∧ canTxBad c = false ∧ 2 ≤ c.payload.length ∧ canObject s.toDev n = false ∧ fld (pw c 0) 24 8 = 0 ∧ canPar s.toDev n 0 ≠ 0 ∧ canRestricted s.toDev n = false ∧ isPcs s.toDev n = false ∧ txbSusp s.toDev n 2 = false ∧ pairUp s.toDev 3 = true) ∧
    (∃ (s : State) (c : HostCmd) (n : Nat), fld (pw c 0) 0 3 = n ∧ admitted s.toDev OP_CAN_TX c ∧ Awake s ∧ canTxBad c = false ∧ 2 ≤ c.payload.length ∧ canObject s.toDev n = false ∧ fld (pw c 0) 24 8 = 0 ∧ canPar s.toDev n 0 = 0) ∧
    (∃ (s : State) (c : HostCmd) (n : Nat), fld (pw c 0) 0 3 = n ∧ admitted s.toDev OP_CAN_TX c ∧ Awake s ∧ canTxBad c = false ∧ 2 ≤ c.payload.length ∧ canObject s.toDev n = false ∧ fld (pw c 0) 24 8 = 0 ∧ canPar s.toDev n 0 ≠ 0 ∧ canRestricted s.toDev n = true) ∧
    (∃ (s : State) (c : HostCmd) (n : Nat), fld (pw c 0) 0 3 = n ∧ admitted s.toDev OP_CAN_TX c ∧ Awake s ∧ canTxBad c = false ∧ 2 ≤ c.payload.length ∧ canObject s.toDev n = false ∧ fld (pw c 0) 24 8 = 0 ∧ canPar s.toDev n 0 ≠ 0 ∧ canRestricted s.toDev n = false ∧ txbSusp s.toDev n 2 = true) ∧
    (∃ (s : State) (c : HostCmd) (n : Nat) (k : Nat), fld (pw c 0) 0 3 = n ∧ admitted s.toDev OP_CAN_RX_READ c ∧ fld (pw c 0) 16 16 = k ∧ Awake s ∧ c.payload.length = 1 ∧ fld (pw c 0) 3 13 = 0 ∧ k < 216 ∧ canPar s.toDev n 0 ≠ 0 ∧ canObject s.toDev n = false) ∧
    (∃ (s : State) (c : HostCmd) (n : Nat) (k : Nat), fld (pw c 0) 0 3 = n ∧ admitted s.toDev OP_CAN_RX_READ c ∧ fld (pw c 0) 16 16 = k ∧ Awake s ∧ c.payload.length = 1 ∧ fld (pw c 0) 3 13 = 0 ∧ k < 216 ∧ canPar s.toDev n 0 = 0) ∧
    (∃ (s : State) (c : HostCmd) (n : Nat), fld (pw c 0) 0 3 = n ∧ admitted s.toDev OP_CAN_RECOVER c ∧ Awake s ∧ c.payload.length = 1 ∧ pwN c 0 = n + 256 ∧ canSupervised s.toDev n = true ∧ (getCan s.toDev n).busoff = true ∧ pairUp s.toDev 3 = true) ∧
    (∃ (s : State) (c : HostCmd) (n : Nat), fld (pw c 0) 0 3 = n ∧ admitted s.toDev OP_CAN_RECOVER c ∧ Awake s ∧ c.payload.length = 1 ∧ pwN c 0 = n + 256 ∧ (canSupervised s.toDev n = false ∨ (getCan s.toDev n).busoff = false)) ∧
    (∃ (s : State) (c : HostCmd) (n : Nat), fld (pw c 0) 0 3 = n ∧ admitted s.toDev OP_CAN_RECOVER c ∧ Awake s ∧ c.payload.length = 1 ∧ pwN c 0 = n + 512 ∧ pairUp s.toDev 3 = true) :=
  ⟨⟨sesCan, c7, _, rfl, admitted_of (by decide +kernel), by decide +kernel⟩,
   ⟨sesCan0, c7, _, rfl, admitted_of (by decide +kernel), by decide +kernel⟩,
   ⟨sesCanR, c7, _, rfl, admitted_of (by decide +kernel), by decide +kernel⟩,
   ⟨sesCanS, c7, _, rfl, admitted_of (by decide +kernel), by decide +kernel⟩,
   ⟨ses, c1, _, _, rfl, admitted_of (by decide +kernel), rfl, by decide +kernel⟩,
   ⟨ses, c9, _, _, rfl, admitted_of (by decide +kernel), rfl, by decide +kernel⟩,
   ⟨sesCanB, cLeave, _, rfl, admitted_of (by decide +kernel), by decide +kernel⟩,
   ⟨ses, cLeave, _, rfl, admitted_of (by decide +kernel), by decide +kernel⟩,
   ⟨ses, cRes, _, rfl, admitted_of (by decide +kernel), by decide +kernel⟩⟩

theorem wit_SystemCommands :
    (∃ (s : State) (c : HostCmd), admitted s.toDev OP_VITRINE_TAKE c ∧ Awake s ∧ s.cnt.vitrine = true) ∧
    (∃ (s : State) (c : HostCmd), admitted s.toDev OP_VITRINE_TAKE c ∧ Awake s ∧ s.cnt.vitrine = false) ∧
    (∃ (s : State) (c : HostCmd) (z : Nat), admitted s.toDev OP_FW_STAGE_BEGIN c ∧ pwN c 0 = z ∧ Awake s ∧ c.payload.length = 1 ∧ z % 4 = 0 ∧ 4 ≤ z ∧ z ≤ 8388608 ∧ stageTaken s.toDev c = false) ∧
    (∃ (s : State) (c : HostCmd), admitted s.toDev OP_FW_STAGE_BEGIN c ∧ Awake s ∧ c.payload.length = 1 ∧ 8388608 < pwN c 0) ∧
    (∃ (s : State) (c : HostCmd) (z : Nat), admitted s.toDev OP_FW_STAGE_DATA c ∧ Awake s ∧ 2 ≤ c.payload.length ∧ pwN c 0 % 4 = 0 ∧ s.pwr.stage = some (c.sess, z) ∧ pwN c 0 + 4 * (c.payload.length - 1) ≤ z) ∧
    (∃ (s : State) (c : HostCmd) (z : Nat), admitted s.toDev OP_FW_STAGE_DATA c ∧ Awake s ∧ 2 ≤ c.payload.length ∧ pwN c 0 % 4 = 0 ∧ s.pwr.stage = some (c.sess, z) ∧ z < pwN c 0 + 4 * (c.payload.length - 1)) ∧
    (∃ (s : State) (c : HostCmd) (z : Nat), admitted s.toDev OP_FW_STAGE_VERIFY c ∧ Awake s ∧ s.pwr.stage = some (c.sess, z) ∧ firstGap s.pwr.staged (s.pwr.staged.length + 1) 0 < z) ∧
    (∃ (s : State) (c : HostCmd) (z : Nat), admitted s.toDev OP_FW_STAGE_VERIFY c ∧ Awake s ∧ s.pwr.stage = some (c.sess, z) ∧ z ≤ firstGap s.pwr.staged (s.pwr.staged.length + 1) 0) ∧
    (∃ (s : State) (c : HostCmd), admitted s.toDev OP_FW_ACTIVATE c ∧ Awake s ∧ c.payload.length = 1 ∧ s.pwr.recovery = false ∧ s.pwr.selBoot = 0 ∧ nbit s.pwr.boot.flags (okBit (stageBank s.toDev)) = true ∧ s.pwr.stage = none ∧ recVer s.pwr.boot (stageBank s.toDev) = pwN c 0) ∧
    (∃ (s : State) (c : HostCmd), admitted s.toDev OP_FW_ACTIVATE c ∧ Awake s ∧ c.payload.length = 1 ∧ s.pwr.recovery = false ∧ s.pwr.selBoot = 0 ∧ nbit s.pwr.boot.flags (okBit (stageBank s.toDev)) = true ∧ s.pwr.stage = none ∧ recVer s.pwr.boot (stageBank s.toDev) ≠ pwN c 0) ∧
    (∃ (s : State) (c : HostCmd), admitted s.toDev OP_FW_ACTIVATE c ∧ Awake s ∧ c.payload.length = 1 ∧ s.pwr.recovery = false ∧ s.pwr.selBoot = 0 ∧ nbit s.pwr.boot.flags (okBit (stageBank s.toDev)) = false) ∧
    (∃ (s : State) (c : HostCmd), admitted s.toDev OP_HIBERNATE c ∧ Awake s ∧ c.payload.length = 2 ∧ 1 ≤ pwN c 0 ∧ pwN c 0 < 16 ∧ (nbit (pwN c 0) 3 = true ↔ pwN c 1 ≠ 0) ∧ (nbit (pwN c 0) 2 = true → par s.toDev 57348 ≠ 0) ∧ s.pwr.hibStep = 0) ∧
    (∃ (s : State) (c : HostCmd), admitted s.toDev OP_RETAINED_SAVE c ∧ Awake s ∧ engineFree s.toDev = false) ∧
    (∃ (s : State) (c : HostCmd), admitted s.toDev OP_RETAINED_SAVE c ∧ Awake s ∧ engineFree s.toDev = true) :=
  ⟨⟨vitSt, c0, admitted_of (by decide +kernel), by decide +kernel⟩,
   ⟨ses, c0, admitted_of (by decide +kernel), by decide +kernel⟩,
   ⟨ses, c1, _, admitted_of (by decide +kernel), rfl, by decide +kernel⟩,
   ⟨ses, c3, admitted_of (by decide +kernel), by decide +kernel⟩,
   ⟨sesStage, c13, 260, admitted_of (by decide +kernel), by decide +kernel⟩,
   ⟨sesStage, c5, 260, admitted_of (by decide +kernel), by decide +kernel⟩,
   ⟨sesStage, c0, 260, admitted_of (by decide +kernel), by decide +kernel⟩,
   ⟨sesStaged, c0, 260, admitted_of (by decide +kernel), by decide +kernel⟩,
   ⟨sesAct, c9, admitted_of (by decide +kernel), by decide +kernel⟩,
   ⟨sesAct, c1, admitted_of (by decide +kernel), by decide +kernel⟩,
   ⟨ses, c1, admitted_of (by decide +kernel), by decide +kernel⟩,
   ⟨ses, c12, admitted_of (by decide +kernel), by decide +kernel⟩,
   ⟨sesEng, c0, admitted_of (by decide +kernel), by decide +kernel⟩,
   ⟨ses, c0, admitted_of (by decide +kernel), by decide +kernel⟩⟩

theorem wit_ClusterFrames :
    (∃ (s : State) (p : Nat) (h0 : U32) (h1 : U32) (h2 : U32) (body : List U8) (res : Nat), Awake s ∧ p < 2 ∧ rdB s.toDev CL_CTRL 0 = true ∧ clFrameBad h0 h1 h2 body = false ∧ clForwards s.toDev h0 h1 = true ∧ (List.map frameLen (getEgress s.toDev (1 - p))).sum + Max.max 64 (30 + (if fld h0 24 4 = 4 then addCorr body res else body).length) ≤ 65536) ∧
    (∃ (s : State) (p : Nat) (h0 : U32) (h1 : U32) (h2 : U32) (body : List U8), Awake s ∧ p < 2 ∧ rdB s.toDev CL_CTRL 0 = true ∧ clFrameBad h0 h1 h2 body = false ∧ clForwards s.toDev h0 h1 = false) ∧
    (∃ (s : State) (p : Nat) (h0 : U32) (h1 : U32) (h2 : U32) (body : List U8), Awake s ∧ p < 2 ∧ rdB s.toDev CL_CTRL 0 = true ∧ clFrameBad h0 h1 h2 body = true) ∧
    (∃ (s : State) (p : Nat), Awake s ∧ p < 2 ∧ rdB s.toDev CL_CTRL 0 = false) ∧
    (∃ (s : State) (p : Nat), Awake s ∧ p < 2 ∧ cpUp s.toDev p = true) ∧
    (∃ (s : State) (p : Nat), Awake s ∧ p < 2 ∧ clOn s.toDev = true ∧ pairUp s.toDev 3 = true) :=
  ⟨⟨clRun, 0, 0x15080005, 0, 40, segCell, 0, by decide +kernel⟩,
   ⟨clRun, 0, 0x11000000, 0, 0, respOk, by decide +kernel⟩,
   ⟨clRun, 0, 0, 0, 0, respOk, by decide +kernel⟩,
   ⟨up, 0, by decide +kernel⟩,
   ⟨clRun, 0, by decide +kernel⟩,
   ⟨clSt, 0, by decide +kernel⟩⟩

theorem wit_MembershipRows :
    (∃ (s : State) (p : Nat) (body : List U8), (Awake s ∧ clOn s.toDev = true ∧ pairUp s.toDev 3 = true ∧ p < 2 ∧ leNat (body.take 1) < 64 ∧ body.length = 40 ∧ leNat ((body.drop 3).take 1) < 64 ∧ leNat ((body.drop 19).take 1) = 0 ∧ leNat ((body.drop 32).take 8) = 0 ∧ leNat ((body.drop 1).take 1) = par s.toDev 0xB002 ∧ leNat (body.take 1) ≠ ownIdx s.toDev ∧ present s.toDev (leNat (body.take 1)) = false)) ∧
    (∃ (s : State) (p : Nat) (body : List U8), (Awake s ∧ clOn s.toDev = true ∧ pairUp s.toDev 3 = true ∧ p < 2 ∧ leNat (body.take 1) < 64 ∧ body.length = 40 ∧ leNat ((body.drop 3).take 1) < 64 ∧ leNat ((body.drop 19).take 1) = 0 ∧ leNat ((body.drop 32).take 8) = 0 ∧ leNat ((body.drop 1).take 1) = par s.toDev 0xB002 ∧ leNat (body.take 1) = ownIdx s.toDev) ∧ leNat ((body.drop 4).take 8) ≠ Config.serial.toNat) := by
  refine ⟨⟨clSt, 0, hello, by decide +kernel⟩, ?_⟩
  by_cases h : (9 : Nat) = Config.serial.toNat
  · exact ⟨clSt, 0, helloOwn8, by decide +kernel, by rw [← h]; decide +kernel⟩
  · exact ⟨clSt, 0, helloOwn, by decide +kernel, fun e => h (by rw [← e]; decide +kernel)⟩

theorem wit_PhaseRows :
    (∃ (s : State), Awake s ∧ pairUp s.toDev 3 = true ∧ isHead s.toDev = true ∧ s.cl.entrySync = true) ∧
    (∃ (s : State) (p : Nat) (src : Nat) (body : List U8) (d : Nat), s.cl.syncPort = some p ∧ pathDelay s.toDev = some d ∧ Awake s ∧ pairUp s.toDev 3 = true ∧ p < 2 ∧ clOn s.toDev = true ∧ isHead s.toDev = false ∧ s.cl.head = some (src % 64) ∧ body.length = 48 ∧ leNat (List.take 1 (List.drop 0 body)) = 0 ∧ leNat (List.take 1 (List.drop 1 body)) < 4 ∧ leNat (List.take 2 (List.drop 14 body)) = 0 ∧ leNat (List.take 4 (List.drop 20 body)) = 0 ∧ leNat (List.take 4 (List.drop 16 body)) ≠ 0) ∧
    (∃ (s : State) (p : Nat) (src : Nat) (body : List U8), Awake s ∧ pairUp s.toDev 3 = true ∧ p < 2 ∧ clOn s.toDev = true ∧ isHead s.toDev = false ∧ s.cl.head = some (src % 64) ∧ body.length = 48 ∧ leNat (List.take 1 (List.drop 0 body)) = 0 ∧ leNat (List.take 1 (List.drop 1 body)) < 4 ∧ leNat (List.take 2 (List.drop 14 body)) = 0 ∧ leNat (List.take 4 (List.drop 20 body)) = 0 ∧ leNat (List.take 4 (List.drop 16 body)) ≠ 0 ∧ s.cl.syncPort ≠ some p) ∧
    (∃ (s : State) (h : Nat), s.cl.head = some h ∧ Awake s ∧ pairUp s.toDev 3 = true ∧ clOn s.toDev = true ∧ isHead s.toDev = false) ∧
    (∃ (s : State) (seq : Nat) (corr : Nat) (corrReq : Nat) (t1 : Nat) (t2 : Nat) (t3 : Nat) (t4 : Nat), Awake s ∧ pairUp s.toDev 3 = true ∧ clOn s.toDev = true ∧ s.cl.req = some (seq, t1) ∧ 0 ≤ 16 * ((t4 : Int) - (t1 : Int) - ((t3 : Int) - (t2 : Int))) - ((corrReq + corr : Nat) : Int) ∧ 16 * ((t4 : Int) - (t1 : Int) - ((t3 : Int) - (t2 : Int))) - ((corrReq + corr : Nat) : Int) ≤ 16000000) ∧
    (∃ (s : State) (seq : Nat) (corr : Nat) (corrReq : Nat) (t1 : Nat) (t2 : Nat) (t3 : Nat) (t4 : Nat), Awake s ∧ pairUp s.toDev 3 = true ∧ clOn s.toDev = true ∧ s.cl.req = some (seq, t1) ∧ (16 * ((t4 : Int) - (t1 : Int) - ((t3 : Int) - (t2 : Int))) - ((corrReq + corr : Nat) : Int) < 0 ∨ 16000000 < 16 * ((t4 : Int) - (t1 : Int) - ((t3 : Int) - (t2 : Int))) - ((corrReq + corr : Nat) : Int))) ∧
    (∃ (s : State), Awake s ∧ pairUp s.toDev 3 = true ∧ s.cl.req = none) :=
  ⟨⟨clHead, by decide +kernel⟩,
   ⟨clMem, _, 3, sync, _, rfl, rfl, by decide +kernel⟩,
   ⟨sesCl, 0, 3, sync, by decide +kernel⟩,
   ⟨sesCl, _, rfl, by decide +kernel⟩,
   ⟨clMem, 4, 0, 0, 100, 0, 0, 100, by decide +kernel⟩,
   ⟨clMem, 4, 0, 0, 100, 0, 0, 0, by decide +kernel⟩,
   ⟨up, by decide +kernel⟩⟩

theorem wit_ReduceRows :
    (∃ (s : State) (src : Nat) (words : List U32), Awake s ∧ pairUp s.toDev 3 = true ∧ clOn s.toDev = true ∧ words.length = 32 ∧ src / 64 = par s.toDev 45058 ∧ fld (words.getD 12 0) 24 8 = 0 ∧ fld (words.getD 12 0) 8 8 ≤ 4 ∧ fld (words.getD 12 0) 16 8 ≤ 4 ∧ fld (words.getD 12 0) 0 8 = 0) ∧
    (∃ (s : State) (src : Nat) (words : List U32), Awake s ∧ pairUp s.toDev 3 = true ∧ clOn s.toDev = true ∧ words.length = 32 ∧ src / 64 = par s.toDev 45058 ∧ fld (words.getD 12 0) 24 8 = 0 ∧ fld (words.getD 12 0) 8 8 ≤ 4 ∧ fld (words.getD 12 0) 16 8 ≤ 4 ∧ fld (words.getD 12 0) 0 8 = 1) ∧
    (∃ (s : State) (words : List U32), Awake s ∧ pairUp s.toDev 3 = true ∧ (4 < fld (words.getD 12 0) 8 8 ∨ 4 < fld (words.getD 12 0) 16 8)) ∧
    (∃ (s : State), Awake s ∧ pairUp s.toDev 3 = true ∧ isHead s.toDev = true) ∧
    (∃ (s : State), Awake s ∧ pairUp s.toDev 3 = true ∧ isHead s.toDev = false) :=
  ⟨⟨clSt, 320, (List.replicate 32 0), by decide +kernel⟩,
   ⟨clSt, 320, (List.replicate 12 0 ++ [1] ++ List.replicate 19 0), by decide +kernel⟩,
   ⟨up, (List.replicate 12 0 ++ [0x500] ++ List.replicate 19 0), by decide +kernel⟩,
   ⟨clHead, by decide +kernel⟩,
   ⟨up, by decide +kernel⟩⟩

theorem wit_CanTrafficRows :
    (∃ (s : State) (n : Nat) (buf : Nat) (k : Nat), Awake s ∧ n < 8 ∧ canOnBus s.toDev n = true ∧ canRestricted s.toDev n = false ∧ (getCan s.toDev n).attempt = none ∧ (getCan s.toDev n).rx = false ∧ evFull s.toDev n = false ∧ offer s.toDev n = some (buf, k) ∧ buf < 3 ∧ elemInvalid s.toDev n ((elemWords s.toDev n buf k).getD 0 0 &&& 4278255615#32) ((elemWords s.toDev n buf k).getD 1 0) = false) ∧
    (∃ (s : State) (n : Nat), Awake s ∧ n < 8 ∧ canOnBus s.toDev n = true ∧ canRestricted s.toDev n = false ∧ (getCan s.toDev n).attempt = none ∧ (getCan s.toDev n).rx = false ∧ evFull s.toDev n = false ∧ offer s.toDev n = none) ∧
    (∃ (s : State) (n : Nat), Awake s ∧ n < 8 ∧ ((getCan s.toDev n).attempt.isSome = true ∨ (getCan s.toDev n).rx = false ∧ (canOnBus s.toDev n = false ∨ canRestricted s.toDev n = true ∨ evFull s.toDev n = true))) ∧
    (∃ (s : State) (n : Nat) (a : Attempt) (edges : List Nat) (d : Nat), (getCan s.toDev n).attempt = some a ∧ loopDelay s.toDev n edges = some d ∧ Awake s ∧ n < 8 ∧ a.buf < 3 ∧ a.idx < 64 ∧ (getCan s.toDev n).tec ≤ 255 ∧ (getCan s.toDev n).initDue = false ∧ rdB s.toDev (canReg n 40) 1 = false ∧ rdB s.toDev (canReg n 16) 31 = true ∧ bitOf ((elemWords s.toDev n a.buf a.idx).getD 0 0) 27 = true) ∧
    (∃ (s : State) (n : Nat) (f : CanFrame), Awake s ∧ n < 8 ∧ canOnBus s.toDev n = true ∧ (getCan s.toDev n).attempt = none ∧ (getCan s.toDev n).rx = false ∧ f.fdf = true ∧ (f.res = true ∨ canFormat s.toDev n = 0 ∨ canFormat s.toDev n = 3)) ∧
    (∃ (s : State) (n : Nat) (f : CanFrame) (k : Nat) (j : Nat) (nm : Bool), Awake s ∧ n < 8 ∧ canOnBus s.toDev n = true ∧ (getCan s.toDev n).attempt = none ∧ (getCan s.toDev n).rx = false ∧ (f.fdf = false ∨ f.res = false ∧ (canFormat s.toDev n = 1 ∨ canFormat s.toDev n = 2)) ∧ canObject s.toDev n = false ∧ (getCan s.toDev n).tec ≤ 255 ∧ (getCan s.toDev n).rec_ ≤ 127 ∧ fltDecide s.toDev n f = some (k, j, nm) ∧ rxfFill s.toDev n k < rxfSize k) ∧
    (∃ (s : State) (n : Nat) (f : CanFrame) (k : Nat) (j : Nat) (nm : Bool), Awake s ∧ n < 8 ∧ canOnBus s.toDev n = true ∧ (getCan s.toDev n).attempt = none ∧ (getCan s.toDev n).rx = false ∧ (f.fdf = false ∨ f.res = false ∧ (canFormat s.toDev n = 1 ∨ canFormat s.toDev n = 2)) ∧ canObject s.toDev n = false ∧ (getCan s.toDev n).tec ≤ 255 ∧ (getCan s.toDev n).rec_ ≤ 127 ∧ fltDecide s.toDev n f = some (k, j, nm) ∧ rxfSize k ≤ rxfFill s.toDev n k) ∧
    (∃ (s : State) (n : Nat) (f : CanFrame), Awake s ∧ n < 8 ∧ canOnBus s.toDev n = true ∧ (getCan s.toDev n).attempt = none ∧ (getCan s.toDev n).rx = false ∧ (f.fdf = false ∨ f.res = false ∧ (canFormat s.toDev n = 1 ∨ canFormat s.toDev n = 2)) ∧ canObject s.toDev n = false ∧ (getCan s.toDev n).tec ≤ 255 ∧ (getCan s.toDev n).rec_ ≤ 127 ∧ fltDecide s.toDev n f = none) :=
  ⟨⟨canTx, 0, 0, 0, by decide +kernel⟩,
   ⟨canUp, 0, by decide +kernel⟩,
   ⟨up, 0, by decide +kernel⟩,
   ⟨canTdcA, 0, _, [0], _, rfl, rfl, by decide +kernel⟩,
   ⟨canUp, 0, { dlc := 8, id := 5, fdf := true }, by decide +kernel⟩,
   ⟨canFlt, 0, { dlc := 8, id := 5, data := List.replicate 8 1 }, 0, 0, true, by decide +kernel⟩,
   ⟨canFltF, 0, { dlc := 8, id := 5, data := List.replicate 8 1 }, 0, 0, true, by decide +kernel⟩,
   ⟨canUp, 0, { dlc := 8, id := 5, data := List.replicate 8 1 }, by decide +kernel⟩⟩

theorem wit_CanConfinementRows :
    (∃ (s : State) (n : Nat) (e : CanError), Awake s ∧ n < 8 ∧ (canOnBus s.toDev n = false ∨ canSees s.toDev n e = false)) ∧
    (∃ (s : State) (n : Nat) (e : CanError), Awake s ∧ n < 8 ∧ canOnBus s.toDev n = true ∧ canRestricted s.toDev n = true ∧ e.tx = false ∧ canBusy s.toDev n = false) ∧
    (∃ (s : State) (n : Nat) (e : CanError), Awake s ∧ n < 8 ∧ canOnBus s.toDev n = true ∧ canRestricted s.toDev n = false ∧ e.tx = false ∧ canBusy s.toDev n = false ∧ (getCan s.toDev n).tec ≤ 255) ∧
    (∃ (s : State) (n : Nat) (e : CanError) (a : Attempt), (getCan s.toDev n).attempt = some a ∧ Awake s ∧ n < 8 ∧ canOnBus s.toDev n = true ∧ e.tx = false ∧ a.buf < 3 ∧ (getCan s.toDev n).initDue = false ∧ rdB s.toDev (canReg n 40) 1 = false ∧ (getCan s.toDev n).evWait = []) ∧
    (∃ (s : State) (n : Nat) (e : CanError), Awake s ∧ n < 8 ∧ canOnBus s.toDev n = true ∧ canSees s.toDev n e = true ∧ canRestricted s.toDev n = false ∧ e.tx = true ∧ canBusy s.toDev n = false) ∧
    (∃ (s : State) (n : Nat) (e : CanError) (a : Attempt) (d : Nat), (getCan s.toDev n).attempt = some a ∧ loopDelay s.toDev n e.edges = some d ∧ Awake s ∧ n < 8 ∧ canOnBus s.toDev n = true ∧ canSees s.toDev n e = true ∧ e.tx = true ∧ a.buf < 3 ∧ (getCan s.toDev n).initDue = false ∧ rdB s.toDev (canReg n 40) 1 = false ∧ (getCan s.toDev n).evWait = [] ∧ rdB s.toDev (canReg n 16) 31 = true ∧ bitOf ((elemWords s.toDev n a.buf a.idx).getD 0 0) 27 = true) ∧
    (∃ (s : State) (n : Nat), Awake s ∧ n < 8 ∧ (getCan s.toDev n).recov = true) ∧
    (∃ (s : State) (n : Nat), Awake s ∧ n < 8 ∧ (getCan s.toDev n).busoff = true ∧ (getCan s.toDev n).recov = false ∧ (canSupervised s.toDev n = false ∨ (getCan s.toDev n).recWait = true)) ∧
    (∃ (s : State) (n : Nat), Awake s ∧ n < 8 ∧ canInit s.toDev n = false ∧ (getCan s.toDev n).integ = true) :=
  ⟨⟨up, 0, { kind := 3, tx := false }, by decide +kernel⟩,
   ⟨canRest, 0, { kind := 3, tx := false }, by decide +kernel⟩,
   ⟨canUp, 0, { kind := 3, tx := false }, by decide +kernel⟩,
   ⟨canTxA, 0, { kind := 3, tx := false }, _, rfl, by decide +kernel⟩,
   ⟨canUp, 0, { kind := 1, tx := true, won := true, preAck := true, edges := [3, 40] }, by decide +kernel⟩,
   ⟨canTdcA, 0, { kind := 1, tx := true, won := true, preAck := true, edges := [3, 40] }, _, _, rfl, rfl, by decide +kernel⟩,
   ⟨canOffR, 0, by decide +kernel⟩,
   ⟨canOff1, 0, by decide +kernel⟩,
   ⟨canInt, 0, by decide +kernel⟩⟩

theorem wit_CanRegisterRows :
    (∃ (s : State) (n : Nat) (p : Nat) (k : Nat) (v : U32) (b : Bool) (c : Instr), Awake s ∧ n < 8 ∧ p ≠ 3 ∧ c ∈ [Instr.canTxbPutWrite p n k (BitVec.toNat v), Instr.canTxCancelWrite p n v b, Instr.canTxResumeWrite p n v, Instr.canTxevAckWrite p n (BitVec.toNat v), Instr.canRxfAckWrite p n k (BitVec.toNat v), Instr.canFltSwapReq p n, Instr.canCtrlRecover p n, Instr.canObjSend p n k v]) ∧
    (∃ (s : State) (n : Nat) (k : Nat) (v : Nat), Awake s ∧ n < 8 ∧ k < 3 ∧ v < txbSize k ∧ (v + txbSize k - txbPut s.toDev n k) % txbSize k ≤ (txbGet s.toDev n k + txbSize k - 1 - txbPut s.toDev n k + txbSize k) % txbSize k) ∧
    (∃ (s : State) (n : Nat) (k : Nat) (v : Nat), Awake s ∧ n < 8 ∧ k < 3 ∧ v < txbSize k ∧ (txbGet s.toDev n k + txbSize k - 1 - txbPut s.toDev n k + txbSize k) % txbSize k < (v + txbSize k - txbPut s.toDev n k) % txbSize k) ∧
    (∃ (s : State) (n : Nat) (v : U32), Awake s ∧ n < 8 ∧ fld v 8 2 < 3 ∧ elemQueued s.toDev n (fld v 8 2) (fld v 0 6) = false) ∧
    (∃ (s : State) (n : Nat) (v : U32), Awake s ∧ n < 8 ∧ fld v 8 2 < 3 ∧ elemQueued s.toDev n (fld v 8 2) (fld v 0 6) = true ∧ cancelPending s.toDev n (fld v 8 2) (fld v 0 6) = false ∧ (getCan s.toDev n).attempt = none ∧ (getHead s.toDev n (fld v 8 2) (fld v 0 6)).won = false ∧ evFull s.toDev n = false) ∧
    (∃ (s : State) (n : Nat) (v : U32) (a : Attempt), (getCan s.toDev n).attempt = some a ∧ Awake s ∧ n < 8 ∧ fld v 8 2 < 3 ∧ elemQueued s.toDev n (fld v 8 2) (fld v 0 6) = true ∧ cancelPending s.toDev n (fld v 8 2) (fld v 0 6) = false ∧ a.buf = fld v 8 2 ∧ a.idx = fld v 0 6 ∧ (txbQueued s.toDev n (fld v 8 2)).head? = some (fld v 0 6)) ∧
    (∃ (s : State) (n : Nat) (v : Nat), Awake s ∧ n < 8 ∧ v < 96 ∧ (getCan s.toDev n).evFill ≤ 96 ∧ (v + 96 - rdF s.toDev (canReg n 120) 16 7) % 96 < (getCan s.toDev n).evFill ∧ (getCan s.toDev n).evWait = [] ∧ s.lim.defer = []) ∧
    (∃ (s : State) (n : Nat) (v : Nat), Awake s ∧ n < 8 ∧ v < 96 ∧ (getCan s.toDev n).evFill ≤ 96 ∧ (getCan s.toDev n).evFill ≤ (v + 96 - rdF s.toDev (canReg n 120) 16 7) % 96) ∧
    (∃ (s : State) (n : Nat) (k : Nat) (v : Nat), Awake s ∧ n < 8 ∧ k < 2 ∧ v < rxfSize k ∧ rxfFill s.toDev n k ≤ rxfSize k ∧ (v + rxfSize k - rdF s.toDev (rxfReg n k) 16 7) % rxfSize k < rxfFill s.toDev n k) ∧
    (∃ (s : State) (n : Nat) (k : Nat) (v : Nat), Awake s ∧ n < 8 ∧ k < 2 ∧ v < rxfSize k ∧ rxfFill s.toDev n k ≤ rxfSize k ∧ rxfFill s.toDev n k ≤ (v + rxfSize k - rdF s.toDev (rxfReg n k) 16 7) % rxfSize k) ∧
    (∃ (s : State) (n : Nat) (c : Instr), Awake s ∧ n < 8 ∧ (c = Instr.canFltSwapReq 3 n ∨ c = Instr.canFilterSwap n ∧ rdB s.toDev (canReg n 40) 1 = true) ∧ frameFree s.toDev n = true ∧ fltFault s.toDev n = none) ∧
    (∃ (s : State) (n : Nat) (c : Instr) (k : Nat), fltFault s.toDev n = some k ∧ Awake s ∧ n < 8 ∧ (c = Instr.canFltSwapReq 3 n ∨ c = Instr.canFilterSwap n ∧ rdB s.toDev (canReg n 40) 1 = true) ∧ frameFree s.toDev n = true) ∧
    (∃ (s : State) (n : Nat), Awake s ∧ n < 8 ∧ frameFree s.toDev n = false) ∧
    (∃ (s : State) (n : Nat), Awake s ∧ n < 8 ∧ canSupervised s.toDev n = true ∧ (getCan s.toDev n).busoff = true ∧ (getCan s.toDev n).recov = false ∧ (lastMinute s.toDev (getCan s.toDev n).recAt).length < 3) ∧
    (∃ (s : State) (n : Nat), Awake s ∧ n < 8 ∧ canSupervised s.toDev n = false) ∧
    (∃ (s : State) (n : Nat) (w : Nat), Awake s ∧ n < 8 ∧ w < 2) :=
  ⟨⟨up, 0, 0, 0, 0, false, (.canObjSend 0 0 0 0), by decide +kernel⟩,
   ⟨up, 0, 0, 0, by decide +kernel⟩,
   ⟨canTx, 0, 0, 0, by decide +kernel⟩,
   ⟨up, 0, 0, by decide +kernel⟩,
   ⟨canTx, 0, 0, by decide +kernel⟩,
   ⟨canTxA, 0, 0, _, rfl, by decide +kernel⟩,
   ⟨canEv, 0, 0, by decide +kernel⟩,
   ⟨up, 0, 0, by decide +kernel⟩,
   ⟨sesCanB, 0, 1, 0, by decide +kernel⟩,
   ⟨up, 0, 0, 0, by decide +kernel⟩,
   ⟨canFlt, 0, (.canFltSwapReq 3 0), by decide +kernel⟩,
   ⟨up, 0, (.canFltSwapReq 3 0), _, rfl, by decide +kernel⟩,
   ⟨canTxA, 0, by decide +kernel⟩,
   ⟨sesCanB, 0, by decide +kernel⟩,
   ⟨up, 0, by decide +kernel⟩,
   ⟨up, 0, 0, by decide +kernel⟩⟩

theorem wit_CounterReadLatches :
    (∃ (s : State) (p : Nat) (n : Nat), Awake s ∧ p < 4 ∧ n < 2048 ∧ pairUp s.toDev p = true ∧ (getPair s.toDev p).recov = Recov.run) ∧
    (∃ (s : State) (p : Nat) (n : Nat), Awake s ∧ p < 4 ∧ n < 2048 ∧ pairUp s.toDev p = true ∧ (getPair s.toDev p).recov ≠ Recov.run) :=
  ⟨⟨up, 0, 0, by decide +kernel⟩,
   ⟨voteSt, 1, 0, by decide +kernel⟩⟩

theorem wit_CounterRows :
    (∃ (s : State) (n : Nat) (lo : U32), Tbl.get none s.cnt.staged 2 = some lo ∧ Awake s ∧ n < 2048) ∧
    (∃ (s : State) (n : Nat) (p : Nat), Awake s ∧ n < 2048 ∧ p ≠ 2) ∧
    (∃ (s : State), Awake s ∧ rdB s.toDev CNT_STATUS 0 = true) ∧
    (∃ (s : State), Awake s ∧ rdB s.toDev CNT_STATUS 0 = false) ∧
    (∃ (s : State), Awake s ∧ s.cnt.vitrine = true) ∧
    (∃ (s : State), Awake s ∧ s.cnt.vitrine = false) ∧
    (∃ (s : State) (k : Nat), Awake s ∧ k < 16 ∧ rdB s.toDev (BW_CFG + k * 16) 31 = true) ∧
    (∃ (s : State) (k : Nat), Awake s ∧ k < 16 ∧ rdB s.toDev (BW_CFG + k * 16) 31 = false) ∧
    (∃ (s : State) (k : Nat) (v : U32), Awake s ∧ k < 16 ∧ v &&& 2164260863#32 ≠ rd s.toDev (BW_CFG + k * 16)) ∧
    (∃ (s : State) (k : Nat) (v : U32), Awake s ∧ k < 16 ∧ v &&& 2164260863#32 = rd s.toDev (BW_CFG + k * 16)) :=
  ⟨⟨cntStage, 0, _, rfl, by decide +kernel⟩,
   ⟨up, 0, 0, by decide +kernel⟩,
   ⟨dumpSt, by decide +kernel⟩,
   ⟨up, by decide +kernel⟩,
   ⟨vitSt, by decide +kernel⟩,
   ⟨up, by decide +kernel⟩,
   ⟨bwSt, 0, by decide +kernel⟩,
   ⟨up, 0, by decide +kernel⟩,
   ⟨up, 0, 1, by decide +kernel⟩,
   ⟨up, 0, 0, by decide +kernel⟩⟩

theorem wit_LogRows :
    (∃ (s : State), Awake s ∧ pairUp s.toDev 2 = false) ∧
    (∃ (s : State), Awake s ∧ pairUp s.toDev 2 = true ∧ s.log.supp = 0) ∧
    (∃ (s : State), Awake s ∧ pairUp s.toDev 2 = true ∧ s.log.supp ≠ 0) :=
  ⟨⟨lost2, by decide +kernel⟩,
   ⟨up, by decide +kernel⟩,
   ⟨suppSt, by decide +kernel⟩⟩

theorem wit_SupplyRows :
    (∃ (s : State), s.dev ≠ DevState.off) ∧
    (∃ (s : State), s.dev = DevState.off) ∧
    (∃ (s : State), asleep s.toDev = true) ∧
    (∃ (s : State), asleep s.toDev = false ∧ s.pwr.failing = false) ∧
    (∃ (s : State), s.pwr.failing = true ∧ s.pwr.txn = none) :=
  ⟨⟨up, by decide +kernel⟩,
   ⟨offSt, by decide +kernel⟩,
   ⟨offSt, by decide +kernel⟩,
   ⟨up, by decide +kernel⟩,
   ⟨failing, by decide +kernel⟩⟩

theorem wit_StartRows :
    (∃ (s : State) (sel : Nat), s.pwr.resetN = true ∧ s.pwr.vaon = true ∧ s.dev = DevState.off ∧ s.pwr.reason ≠ 4 ∧ sel % 4 = 3) ∧
    (∃ (s : State) (sel : Nat), s.pwr.resetN = true ∧ s.pwr.vaon = true ∧ s.dev = DevState.hibernate ∧ s.pwr.woken ≠ 0 ∧ sel % 4 = 3) ∧
    (∃ (s : State), s.pwr.resetN = true ∧ s.pwr.vaon = true ∧ asleep s.toDev = false) ∧
    (∃ (s : State), (s.pwr.resetN = false ∨ s.pwr.vaon = false)) ∧
    (∃ (s : State) (sel : Nat) (srcs : Nat), s.dev = DevState.hibernate ∧ srcs % 16 &&& rdF s.toDev PWR_WAKE_CFG 0 4 ||| s.pwr.woken ≠ 0 ∧ s.pwr.pgood = true ∧ sel % 4 = 3) ∧
    (∃ (s : State) (srcs : Nat), s.dev = DevState.hibernate ∧ srcs % 16 &&& rdF s.toDev PWR_WAKE_CFG 0 4 ||| s.pwr.woken ≠ 0 ∧ s.pwr.pgood = false) ∧
    (∃ (s : State) (srcs : Nat), s.dev = DevState.hibernate ∧ srcs % 16 &&& rdF s.toDev PWR_WAKE_CFG 0 4 ||| s.pwr.woken = 0) ∧
    (∃ (s : State), s.dev ≠ DevState.hibernate) ∧
    (∃ (s : State), s.dev = DevState.hibernate ∧ rdB s.toDev CAN_WAKE 0 = true ∧ rdB s.toDev PWR_WAKE_CFG 1 = true) ∧
    (∃ (s : State), rdB s.toDev CAN_WAKE 0 = false) ∧
    (∃ (s : State) (sel : Nat), Awake s ∧ s.pwr.booting = true ∧ sel % 4 = 3) ∧
    (∃ (s : State), Awake s ∧ s.pwr.booting = false) ∧
    (∃ (s : State) (p : Nat), Awake s ∧ p ≠ 2) ∧
    (∃ (s : State) (sel : Nat), Awake s ∧ s.pwr.activate.isSome = true ∧ activateReady s.toDev = true ∧ sel % 4 = 3) ∧
    (∃ (s : State), Awake s ∧ (s.pwr.activate = none ∨ activateReady s.toDev = false)) ∧
    (∃ (s : State) (sel : Nat), Awake s ∧ s.pwr.trial = true ∧ s.pwr.trialBad = true ∧ (s.dev = DevState.standby ∨ s.dev = DevState.safeHold) ∧ pairUp s.toDev 2 = true ∧ s.pwr.txn = none ∧ retPending s.toDev = false ∧ (startsNow s.toDev).length < 4 ∧ sel % 4 = 3) ∧
    (∃ (s : State), Awake s ∧ s.pwr.trial = false) :=
  ⟨⟨offSt, 3, by decide +kernel⟩,
   ⟨hibW, 3, by decide +kernel⟩,
   ⟨up, by decide +kernel⟩,
   ⟨noVaon, by decide +kernel⟩,
   ⟨hibW, 3, 0, by decide +kernel⟩,
   ⟨hibP, 0, by decide +kernel⟩,
   ⟨hib0, 0, by decide +kernel⟩,
   ⟨up, by decide +kernel⟩,
   ⟨hibC, by decide +kernel⟩,
   ⟨up, by decide +kernel⟩,
   ⟨booting, 3, by decide +kernel⟩,
   ⟨up, by decide +kernel⟩,
   ⟨up, 0, by decide +kernel⟩,
   ⟨actSt, 3, by decide +kernel⟩,
   ⟨up, by decide +kernel⟩,
   ⟨trialBad, 3, by decide +kernel⟩,
   ⟨up, by decide +kernel⟩⟩

theorem wit_HibernateRows :
    (∃ (s : State), Awake s ∧ pairUp s.toDev 2 = true ∧ s.pwr.txn = none ∧ armWaits s.toDev = false) ∧
    (∃ (s : State), Awake s ∧ armWaits s.toDev = true) ∧
    (∃ (s : State) (p : Nat), Awake s ∧ p ≠ 2) ∧
    (∃ (s : State), Awake s ∧ pairUp s.toDev 2 = true ∧ s.pwr.hibStep ≠ 0) ∧
    (∃ (s : State), Awake s ∧ s.pwr.hibStep = 0) ∧
    (∃ (s : State), Awake s ∧ s.pwr.trial = true ∧ s.pwr.trialBad = false ∧ s.pwr.booting = false ∧ pairUp s.toDev 2 = true ∧ s.pwr.bootEnd + par s.toDev 57346 * 1000 ≤ s.uptimeMs) ∧
    (∃ (s : State), Awake s ∧ (s.pwr.trial = false ∨ s.uptimeMs < s.pwr.bootEnd + par s.toDev 57346 * 1000)) ∧
    (∃ (s : State) (ins : JtagIns), Awake s ∧ s.exe.debug = DebugMode.service ∧ (ins = JtagIns.extest ∨ ins = JtagIns.clamp)) ∧
    (∃ (s : State) (ins : JtagIns), Awake s ∧ (s.exe.debug ≠ DebugMode.service ∨ ins ≠ JtagIns.extest ∧ ins ≠ JtagIns.clamp)) :=
  ⟨⟨up, by decide +kernel⟩,
   ⟨armSt, by decide +kernel⟩,
   ⟨up, 0, by decide +kernel⟩,
   ⟨hibStep, by decide +kernel⟩,
   ⟨up, by decide +kernel⟩,
   ⟨trialOk, by decide +kernel⟩,
   ⟨up, by decide +kernel⟩,
   ⟨svcDbg, (.extest), by decide +kernel⟩,
   ⟨up, (.extest), by decide +kernel⟩⟩

theorem wit_RetainedRows :
    (∃ (s : State) (p : Nat), Awake s ∧ p ≠ 2) ∧
    (∃ (s : State) (v : U32), Awake s ∧ goRejected s.toDev v = true) ∧
    (∃ (s : State) (v : U32), Awake s ∧ goRejected s.toDev v = false) ∧
    (∃ (s : State), Awake s ∧ s.pwr.txn = none) ∧
    (∃ (s : State) (x : RetTxn) (e : Nat × Nat × Nat), s.pwr.txn = some x ∧ Awake s ∧ x.segs = [e] ∧ e.snd.fst + e.snd.snd ≤ 271859712 ∧ 536870912 ≤ e.fst ∧ s.pwr.txnFor = none ∧ s.pwr.bootDue = false ∧ s.pwr.cfgDue = false ∧ s.pwr.loadDue = false ∧ s.exe.healthDue = false ∧ s.pwr.saveDue = false ∧ s.pwr.hibStep = 0) ∧
    (∃ (s : State), Awake s ∧ pairUp s.toDev 2 = true ∧ s.pwr.booting = false ∧ s.pwr.recovery = false ∧ engineFree s.toDev = false) ∧
    (∃ (s : State), Awake s ∧ pairUp s.toDev 2 = true ∧ s.pwr.booting = false ∧ s.pwr.recovery = false ∧ engineFree s.toDev = true ∧ s.pwr.saveHold = true ∧ s.pwr.bootDue = false ∧ s.pwr.cfgDue = false ∧ s.pwr.loadDue = false ∧ s.exe.healthDue = false) ∧
    (∃ (s : State), Awake s ∧ pairUp s.toDev 2 = true ∧ s.pwr.booting = false ∧ s.pwr.recovery = false ∧ engineFree s.toDev = true ∧ s.pwr.saveHold = false ∧ saveNow s.toDev = true ∧ s.pwr.bootDue = false ∧ s.pwr.cfgDue = false ∧ s.pwr.loadDue = false ∧ s.exe.healthDue = false) ∧
    (∃ (s : State), Awake s ∧ (pairUp s.toDev 2 = false ∨ s.pwr.booting = true ∨ s.pwr.recovery = true)) :=
  ⟨⟨up, 0, by decide +kernel⟩,
   ⟨up, 0, by decide +kernel⟩,
   ⟨segSt1, 1, by decide +kernel⟩,
   ⟨up, by decide +kernel⟩,
   ⟨txnRun, _, ((0x20000000, 0x10000000, 8)), rfl, by decide +kernel⟩,
   ⟨sesEng, by decide +kernel⟩,
   ⟨held, by decide +kernel⟩,
   ⟨up, by decide +kernel⟩,
   ⟨lost2, by decide +kernel⟩⟩

theorem wit_RegisterRows :
    (∃ (s : State) (p : Nat) (a : Nat) (r : RegRow), regRow a = some r ∧ Awake s ∧ ownBits a ≠ 0xFFFFFFFF#32 ∧ pairUp s.toDev p = true ∧ nbit r.owners p = false) ∧
    (∃ (s : State) (p : Nat) (a : Nat) (v : U32) (set : U32) (r : RegRow), regRow a = some r ∧ Awake s ∧ ownBits a ≠ 0xFFFFFFFF#32 ∧ pairUp s.toDev p = true ∧ nbit r.owners p = true ∧ canOff a = none ∧ a ∉ [ACQ_STATUS, EXE_CTRL, EXE_FEED] ∧ (a < PISTE_BANK ∨ PISTE_BANK + 0x2000 ≤ a) ∧ (a < SAF_SIN_CFG ∨ SAF_SIN_CFG + 0x80 ≤ a) ∧ ACQ_UMAP ≤ a ∧ a < ACQ_UMAP + 0xFE00 ∧ umapWordBad (nbit (a - ACQ_UMAP) 2) (regMerge r (rd s.toDev a) (v &&& ~~~ownBits a) ||| (set &&& w32 r.w1c)) = true) ∧
    (∃ (s : State) (p : Nat) (a : Nat) (v : U32) (set : U32) (r : RegRow), regRow a = some r ∧ Awake s ∧ ownBits a ≠ 0xFFFFFFFF#32 ∧ pairUp s.toDev p = true ∧ nbit r.owners p = true ∧ canOff a = none ∧ a ∉ [ACQ_STATUS, EXE_CTRL, EXE_FEED] ∧ (a < PISTE_BANK ∨ PISTE_BANK + 0x2000 ≤ a) ∧ (a < SAF_SIN_CFG ∨ SAF_SIN_CFG + 0x80 ≤ a) ∧ ACQ_UMAP ≤ a ∧ a < ACQ_UMAP + 0xFE00 ∧ umapWordBad (nbit (a - ACQ_UMAP) 2) (regMerge r (rd s.toDev a) (v &&& ~~~ownBits a) ||| (set &&& w32 r.w1c)) = false ∧ umapActive s.toDev ((a - ACQ_UMAP) / 8) = true) ∧
    (∃ (s : State) (p : Nat) (a : Nat) (v : U32) (set : U32) (r : RegRow), regRow a = some r ∧ Awake s ∧ ownBits a ≠ 0xFFFFFFFF#32 ∧ pairUp s.toDev p = true ∧ nbit r.owners p = true ∧ canOff a = none ∧ a ∉ [ACQ_STATUS, EXE_CTRL, EXE_FEED] ∧ (a < PISTE_BANK ∨ PISTE_BANK + 0x2000 ≤ a) ∧ (a < SAF_SIN_CFG ∨ SAF_SIN_CFG + 0x80 ≤ a) ∧ (a < ACQ_UMAP ∨ ACQ_UMAP + 0xFE00 ≤ a) ∧ (RING_BASE ≤ a → a < 0x40022000 → a % 0x100 = 0 → ringOn s.toDev ((a - RING_BASE) / 0x100) = true → bitOf (regMerge r (rd s.toDev a) (v &&& ~~~ownBits a) ||| (set &&& w32 r.w1c)) 0 = true)) ∧
    (∃ (s : State) (p : Nat) (a : Nat) (v : U32) (set : U32) (r : RegRow), regRow a = some r ∧ Awake s ∧ ownBits a ≠ 0xFFFFFFFF#32 ∧ pairUp s.toDev p = true ∧ nbit r.owners p = true ∧ canOff a = none ∧ a ∉ [ACQ_STATUS, EXE_CTRL, EXE_FEED] ∧ (a < PISTE_BANK ∨ PISTE_BANK + 0x2000 ≤ a) ∧ (a < SAF_SIN_CFG ∨ SAF_SIN_CFG + 0x80 ≤ a) ∧ ACQ_UMAP ≤ a ∧ umapWordBad (nbit (a - ACQ_UMAP) 2) (regMerge r (rd s.toDev a) (v &&& ~~~ownBits a) ||| (set &&& w32 r.w1c)) = false ∧ umapActive s.toDev ((a - ACQ_UMAP) / 8) = false ∧ (RING_BASE ≤ a → a < 0x40022000 → a % 0x100 = 0 → ringOn s.toDev ((a - RING_BASE) / 0x100) = true → bitOf (regMerge r (rd s.toDev a) (v &&& ~~~ownBits a) ||| (set &&& w32 r.w1c)) 0 = true)) ∧
    (∃ (s : State) (p : Nat) (a : Nat) (v : U32) (set : U32) (r : RegRow), regRow a = some r ∧ Awake s ∧ ownBits a ≠ 0xFFFFFFFF#32 ∧ pairUp s.toDev p = true ∧ nbit r.owners p = true ∧ canOff a = none ∧ a ∉ [ACQ_STATUS, EXE_CTRL, EXE_FEED] ∧ (a < PISTE_BANK ∨ PISTE_BANK + 0x2000 ≤ a) ∧ (a < SAF_SIN_CFG ∨ SAF_SIN_CFG + 0x80 ≤ a) ∧ RING_BASE ≤ a ∧ a < 0x40022000 ∧ a % 0x100 = 0 ∧ ringOn s.toDev ((a - RING_BASE) / 0x100) = true ∧ bitOf (regMerge r (rd s.toDev a) (v &&& ~~~ownBits a) ||| (set &&& w32 r.w1c)) 0 = true) ∧
    (∃ (s : State) (p : Nat) (a : Nat) (r : RegRow), regRow a = some r ∧ Awake s ∧ (pairUp s.toDev p = false ∨ ownBits a = 0xFFFFFFFF#32)) ∧
    (∃ (s : State) (p : Nat) (a : Nat) (r : RegRow), regRow a = some r ∧ Awake s ∧ pairUp s.toDev p = true ∧ (getPair s.toDev p).recov = .run ∧ readBarred p a = true) ∧
    (∃ (s : State) (p : Nat) (a : Nat) (r : RegRow), regRow a = some r ∧ Awake s ∧ p < 4 ∧ pairUp s.toDev p = true ∧ (getPair s.toDev p).recov = .run ∧ readBarred p a = false ∧ readActs a = false ∧ a ≠ THM_DIE_PEAK) ∧
    (∃ (s : State) (p : Nat) (a : Nat) (r : RegRow), regRow a = some r ∧ Awake s ∧ (pairUp s.toDev p = false ∨ (getPair s.toDev p).recov ≠ .run)) ∧
    (∃ (s : State) (n : Nat) (o : Nat), Awake s ∧ n < 8 ∧ o < 0x7C80 ∧ o % 4 = 0 ∧ regRow (0x30000000 + n * 0x10000 + o) = none ∧ pairUp s.toDev 3 = true ∧ (0x1000 ≤ o ∨ (o / 0x800 ≠ rdF s.toDev (canReg n 0x20) 0 1 ∧ rdB s.toDev (canReg n 0x20) 1 = false))) ∧
    (∃ (s : State) (n : Nat) (o : Nat), Awake s ∧ n < 8 ∧ o < 0x7C80 ∧ o % 4 = 0 ∧ regRow (0x30000000 + n * 0x10000 + o) = none ∧ pairUp s.toDev 3 = true ∧ o < 0x1000 ∧ o / 0x800 ≠ rdF s.toDev (canReg n 0x20) 0 1 ∧ rdB s.toDev (canReg n 0x20) 1 = false) ∧
    (∃ (s : State) (n : Nat) (o : Nat) (q : Nat), Awake s ∧ n < 8 ∧ o < 0x7C80 ∧ o % 4 = 0 ∧ regRow (0x30000000 + n * 0x10000 + o) = none ∧ q ≠ 3 ∧ pairUp s.toDev q = true ∧ (getPair s.toDev q).recov = .run) :=
  ⟨⟨up, 0, EST_CTRL, _, rfl, by decide +kernel⟩,
   ⟨up, 1, ACQ_UMAP, 0x2FFFF, 0, _, rfl, by decide +kernel⟩,
   ⟨ring1, 1, ACQ_UMAP, 0, 0, _, rfl, by decide +kernel⟩,
   ⟨up, 1, EST_CTRL, 0xFFFFFFFF, 0, _, rfl, by decide +kernel⟩,
   ⟨up, 1, ACQ_UMAP + 0xFDFC, 0, 0, _, rfl, by decide +kernel⟩,
   ⟨ring1, 1, RING_BASE, 1, 0, _, rfl, by decide +kernel⟩,
   ⟨up, 0, HP_CMD_WP, _, rfl, by decide +kernel⟩,
   ⟨up, 0, (canReg 0 0x18), _, rfl, by decide +kernel⟩,
   ⟨up, 3, TB_CTRL, _, rfl, by decide +kernel⟩,
   ⟨retrySt, 1, TB_CTRL, _, rfl, by decide +kernel⟩,
   ⟨up, 7, 0x7C7C, by decide +kernel⟩,
   ⟨up, 0, 0xFFC, by decide +kernel⟩,
   ⟨up, 0, 0, 2, by decide +kernel⟩⟩

theorem wit_LossBelowLock :
    (∃ (s : State) (c : HostCmd) (x : Txn), admitted s.toDev OP_CONFIG_COMMIT c ∧ s.host.txn = some x ∧ Awake s ∧ x.owner = c.sess ∧ s.host.commit = none ∧ within s.toDev s.host.commitAt 1000 = false ∧ txnVal s.toDev x 4102 ≤ txnVal s.toDev x 4103) :=
  ⟨txnBad, c0, _, admitted_of (by decide +kernel), rfl, by decide +kernel⟩

theorem wit_PolicyInStandbyOnly :
    (∃ (s : State) (c : HostCmd) (x : Txn), admitted s.toDev OP_CONFIG_COMMIT c ∧ s.host.txn = some x ∧ Awake s ∧ x.owner = c.sess ∧ s.host.commit = none ∧ within s.toDev s.host.commitAt 1000 = false ∧ s.dev ≠ DevState.standby ∧ txnVal s.toDev x 36865 ≠ parC s.toDev 36865) :=
  ⟨txnSvc, c0, _, admitted_of (by decide +kernel), rfl, by decide +kernel⟩

theorem wit_MasterLoadSpacing :
    (∃ (s : State) (c : HostCmd), admitted s.toDev OP_MASTER_TABLE_LOAD c ∧ Awake s ∧ 2 ≤ c.payload.length ∧ fld (pw c 0) 3 28 = 0 ∧ pwN c 1 % 4 = 0 ∧ pwN c 1 + 4 * (c.payload.length - 2) ≤ 65536 ∧ s.pwr.loadWait = none ∧ (∀ (e : Nat × Nat), s.pwr.load = some e → e = (fld (pw c 0) 0 3, c.sess)) ∧ bitOf (pw c 0) 31 = true ∧ s.pwr.masterAt ≠ 0 ∧ s.uptimeMs + 1 < s.pwr.masterAt + 10000) :=
  ⟨sesMaster, cLast, admitted_of (by decide +kernel), by decide +kernel⟩

theorem wit_ParametersChangeByTransaction :
    (∃ (c : Instr) (s : State) (t : State), exec c s = Host.Outcome.next t ∧ t.parCfg ≠ s.parCfg) :=
  ⟨(.resetNChange false), cfgSt, _, rfl, by decide +kernel⟩

theorem wit_SafePins :
    (∃ (c : Instr) (s : State) (t : State), exec c s = Host.Outcome.next t ∧ (latched t.toDev = true ∨ asleep t.toDev = true)) ∧
    (∃ (c : Instr) (s : State) (t : State) (n : Nat), exec c s = Host.Outcome.next t ∧ n < 8 ∧ (rdB t.toDev SAF_SEO_HOLD n = true ∨ rdB t.toDev SAF_SEO_HOLD (8 + n) = true ∨ rdB t.toDev SAF_SEO_HOLD (16 + n) = true)) ∧
    (∃ (c : Instr) (s : State) (t : State), exec c s = Host.Outcome.next t ∧ t.dev ≠ DevState.hibernate ∧ (latched t.toDev = true ∨ t.dev = DevState.off ∨ t.dev = DevState.boot)) ∧
    (∃ (c : Instr) (s : State) (t : State), exec c s = Host.Outcome.next t ∧ t.dev = DevState.hibernate) :=
  ⟨⟨(.canTxbPutWrite 1 0 0 0), up, _, rfl, by decide +kernel⟩,
   ⟨(.canTxbPutWrite 1 0 0 0), holdSeo, _, 7, rfl, by decide +kernel⟩,
   ⟨(.canTxbPutWrite 1 0 0 0), up, _, rfl, by decide +kernel⟩,
   ⟨(.canTxbPutWrite 1 0 0 0), hib0, _, rfl, by decide +kernel⟩⟩

theorem wit_CanonInvariant : ∃ s t : State, Canon s.toDev ∧ s.pins = pinsOf s.toDev ∧ step s = .next t ∧ s.pending ≠ [] :=
  ⟨{ offSt with pending := [.vaonPowerOn true] }, _, ⟨by decide +kernel, by decide +kernel, by decide +kernel⟩, by decide +kernel, rfl, by decide⟩

/-- The second PCS controller, 3, still owes the copy of the frame with ALIVE 0 that controller 0 brings. -/
def copySt : State := on (fun d => { d with parNow := [(0x5082, 3)], lim := { d.lim with ctl := [(3, { pend := [(0, 0)] })] } })
theorem wit_PcsRows_copy : ∃ (s : State) (n : Nat) (data : List U8), Awake s ∧ pcsRules s.toDev = true ∧ isPcs s.toDev n = true ∧ data.length = 16 ∧
    (data.getD 1 0).toNat < 16 ∧ data.getD 10 0 = 0 ∧ data.getD 11 0 = 0 ∧ (getCtl s.toDev n).fb ≠ some (data.getD 2 0).toNat ∧
    copyTaken s.toDev n (data.getD 2 0).toNat = true := ⟨copySt, 0, List.replicate 16 0, by decide +kernel⟩

/-! ## WellFormed -/

theorem test_wf_refuses_1 : ([
    .timebaseEvaluation false (2 ^ 32) 0 0 0, .timebaseEvaluation false 0 (2 ^ 31) 0 0, .timebaseEvaluation false 0 (-(2 ^ 31) - 1) 0 0,
    .timebaseEvaluation false 0 0 65536 0, .timebaseEvaluation false 0 0 0 65536, .gateStart 256, .gateDeadline 256, .pisteDone 4 0, .pisteDone 0 256,
    .ringFrameTransmit 32, .trainLaunch [(40, 0, 0, 0, false)], .segmentReceived 32 false ⟨[], []⟩ false, .segmentReceived 0 false ⟨[], List.replicate 129 0⟩ false, .segmentReceived 0 false ⟨List.replicate 17 0, []⟩ false,
    .respReceived 32 [], .respReceived 0 (List.replicate 2049 0), .ringCmdTimeout 32, .cmdEchoCheck 32 [], .cmdEchoCheck 0 (List.replicate 2049 0),
    .triggerArrivalCheck 32 false, .trainReturnTimeout 32 false, .stubEndsSet 32, .pongReceived 32 false 0, .pongReceived 0 false 128, .enumAckReceived 32 0 0 0 0 0,
    .enumAckReceived 0 0 (2 ^ 32) 0 0 0, .enumAckReceived 0 0 0 (2 ^ 64) 0 0, .enumAckReceived 0 0 0 0 65536 0, .enumAckReceived 0 0 0 0 0 65536,
    .assignAckTimeout 32 false 0, .closeProbeArrived 32 0, .ringEnumerateRequest 32, .stringDataLostTimeout 128, .acqScrApply 4 0, .focComparatorTrip 16 false,
    .focTripClear 4 0 0, .focComparatorTest 16 false, .protectedSramStore 0x1FFFFFFF, .protectedSramStore 0x22000000, .estGo 4 0 0, .estGo 0 8 0, .estGo 0 0 256,
    .estimatorPassComplete (2 ^ 32) [], .estimatorPassComplete 0 [(65536, 8, 0)], .estimatorPassComplete 0 [(0, 7, 0)], .estimatorPassComplete 0 [(0, 0x50, 0)],
    .estimatorPassComplete 0 [(0, 8, 256)], .estCurJob 4 0, .estCurJob 0 128, .laneTestRequest 4, .estLaneFenceWrite 4 0, .estWtDescWrite 4 0 0 0 0,
    .estWtDescWrite 0 128 0 0 0, .estWtDescWrite 0 0 2 0 0, .estWtDescWrite 0 0 0 2 0, .quietWindowComplete 128, .unexcitedTimeout 128, .capLearnArmTimeout 128,
    .pcsFeedbackReceived 8 false [], .pcsFeedbackReceived 0 false (List.replicate 65 0), .pcsHeartbeatReceived 8 []] : List Instr).all (fun i => !i.wf) = true := by decide +kernel

theorem test_wf_refuses_2 : ([
    .pcsHeartbeatReceived 0 (List.replicate 65 0), .pcsBusSilentTimeout 8, .thermalDwellExpiry 128 false, .thermalHoldExpiry 128, .dieTemperatureUpdate [],
    .dieTemperatureUpdate (32768 :: List.replicate 7 0), .dieSensorExclusion 8, .contactorPoll 128, .contactorFbTimeout 128 0, .contactorFbTimeout 0 8, .poleGapExpiry 128,
    .joinWaitTimeout 128, .prechargeDurationTimeout 128, .fbkInputChange 16 false, .busContactorFbTimeout 16, .safetyTick [(40, 0)], .sinChannelChange 16 false false,
    .sinDiscrepancyTimeout 16, .tpoPulse 4, .tpoPulseEnd 4 [] [], .tpoPulseEnd 0 [32] [], .tpoPulseEnd 0 [] [32], .sswDwellExpiry 128 false,
    .directionSettleExpiry 128 false, .seoReadbackMismatch 8 false false, .seoTestPulse 8, .seoTestPulseEnd 8 false false, .safWdogWrite 4 0, .safWdogWrite 0 (2 ^ 32),
    .safCtrlSafe 4 0, .safCtrlSafe 0 65536, .safSeoReqWrite 4 0, .safSeoReqWrite 0 (2 ^ 32), .safResetWrite 4 0, .safRestartWrite 4 0,
    .compareWindowClose 4 [] [] false [] (List.replicate 97 0), .compareWindowClose 0 (List.replicate 513 { pc := 0 }) [] false [] (List.replicate 97 0),
    .compareWindowClose 0 [] (List.replicate 513 { pc := 0 }) false [] (List.replicate 97 0), .compareWindowClose 0 [] [] false [] [], .recoveryVote 4 [] [] [] ⟨false, List.replicate 97 0⟩,
    .recoveryVote 0 (List.replicate 513 { pc := 0 }) [] [] ⟨false, List.replicate 97 0⟩, .recoveryVote 0 [] (List.replicate 513 { pc := 0 }) [] ⟨false, List.replicate 97 0⟩,
    .recoveryVote 0 [] [] (List.replicate 513 { pc := 0 }) ⟨false, List.replicate 97 0⟩, .retryCompare 4 [] [] ⟨false, List.replicate 97 0⟩, .retryCompare 0 (List.replicate 513 { pc := 0 }) [] ⟨false, List.replicate 97 0⟩,
    .retryCompare 0 [] (List.replicate 513 { pc := 0 }) ⟨false, List.replicate 97 0⟩, .recoveryVote 0 [] [] [] ⟨false, []⟩, .retryCompare 0 [] [] ⟨false, []⟩, .recoveryTimeout 4, .coreSelftestComplete 9 false, .spareTestRequest 4, .pairHeartbeatTimeout 4,
    .exeRestartWrite 4 0, .pairRestartTimeout 4, .debugHalt 9, .eccUncorrectableRead 6 0x20000000, .eccUncorrectableRead 0 0, .eccUncorrectableRead 0 0x22000000,
    .eccUncorrectableRead 0 0x10400000, .qspiWrite 0 ⟨[0], 0⟩, .qspiQuadIoWrite 0 ⟨[0], 0⟩, .clusterCommandFragment 2 0 []] : List Instr).all (fun i => !i.wf) = true := by decide +kernel

theorem test_wf_refuses_3 : ([
    .clusterCommandFragment 0 (2 ^ 48) [], .reassemblyTimeout (2 ^ 48) 0 0, .reassemblyTimeout 0 16 0, .reassemblyTimeout 0 0 65536, .commandTimeout 8 0,
    .commandTimeout 0 65536, .pendingInterim 8 0, .pendingInterim 0 65536, .sessionExpiry 8, .sessionHoldExpiry 8, .authDeadlineExpiry 8, .authLockoutExpiry 4,
    .helloReceived 2 [], .phaseSyncReceived 2 0 ⟨0, []⟩, .phaseSyncReceived 0 16384 ⟨0, []⟩, .delayReqReceived 2 0 0 0 0 0, .delayReqReceived 0 16384 0 0 0 0,
    .delayReqReceived 0 0 65536 0 0 0, .delayRespReceived 65536 0 0 0 0 0, .reduceContributionReceived 16384 [], .reduceResultReceived 16384 [],
    .clusterFrameArrival 2 ⟨0, 0, 0⟩ 0 0 [] false 0 false, .clusterFrameArrival 0 ⟨2 ^ 48, 0, 0⟩ 0 0 [] false 0 false, .clusterFrameArrival 0 ⟨0, 2 ^ 48, 0⟩ 0 0 [] false 0 false, .clusterPortDown 2, .phyPoll 4, .canAttemptStart 8 0, .canTransmitComplete 8 [], .canTransmitComplete 0 [4096], .canBusError 0 { kind := 1, tx := true, edges := [4096] },
    .canFrameReceived 8 { dlc := 0, id := 0 } 0, .canFrameReceived 0 { dlc := 16, id := 0 } 0, .canFrameReceived 0 { dlc := 0, id := 2048 } 0,
    .canFrameReceived 0 { dlc := 0, id := 2 ^ 29, xtd := true } 0, .canFrameReceived 0 { dlc := 0, id := 0, data := List.replicate 65 0 } 0,
    .canFrameReceived 0 { dlc := 0, id := 0, rtr := true, fdf := true } 0, .canBusError 8 { kind := 1, tx := false }, .canBusError 0 { kind := 0, tx := false },
    .canBusError 0 { kind := 7, tx := false }, .canRecoveryComplete 8, .canTxbPutWrite 4 0 0 0, .canTxbPutWrite 0 8 0 0, .canTxbPutWrite 0 0 3 0, .canTxbPutWrite 0 0 0 32,
    .canTxCancelWrite 4 0 0 false, .canTxCancelWrite 0 8 0 false, .canTxResumeWrite 4 0 0, .canTxResumeWrite 0 8 0, .canTxevAckWrite 4 0 0, .canTxevAckWrite 0 8 0,
    .canTxevAckWrite 0 0 128, .canRxfAckWrite 4 0 0 0, .canRxfAckWrite 0 8 0 0, .canRxfAckWrite 0 0 2 0, .canRxfAckWrite 0 0 0 128, .canFltSwapReq 4 0, .canFltSwapReq 0 8,
    .canFilterSwap 8, .canCtrlRecover 4 0, .canCtrlRecover 0 8, .canObjSend 4 0 0 0, .canObjSend 0 8 0 0, .canObjSend 0 0 2 0, .canRamUncorrectable 8 0] : List Instr).all (fun i => !i.wf) = true := by decide +kernel

theorem test_wf_refuses_4 : ([
    .canRamUncorrectable 0 65536, .cntLoRead 4 0, .cntLoRead 0 2048, .cntLoWrite 4 0 0, .cntLoWrite 0 2048 0, .cntHiWrite 4 0 0, .cntHiWrite 0 2048 0, .vitReqWrite 4,
    .bwWindowEnd 16 0, .bwWindowEnd 0 (2 ^ 32), .bwCfgWrite 4 0 0, .bwCfgWrite 0 16 0, .bootStart 4 0, .bootStart 0 512, .bootWatchdogExpiry 4 0, .bootWatchdogExpiry 0 512,
    .retGoWrite 4 0, .pwrCtrlHibReq 4, .pwrCtrlRestart 4 0 0, .pwrCtrlRestart 0 4 0, .pwrCtrlRestart 0 0 512, .wakeSourceFired 16 0 0, .wakeSourceFired 0 4 0,
    .wakeSourceFired 0 0 512, .trialRollbackRestart 4 0, .trialRollbackRestart 0 512, .registerWrite 4 EST_CTRL ⟨0, 0⟩, .registerWrite 0 1 ⟨0, 0⟩, .registerWrite 0 PISTE_DONE ⟨0, 0⟩,
    .readClearRegister 4 ⟨0, 0, 0⟩, .readClearRegister 0 ⟨EST_CTRL, 0, 512⟩, .readClearRegister 0 ⟨1, 0, 0⟩, .pingTimeout 32 false, .busoffRecoveryStart 8, .canIntegrationComplete 8, .activationRestart 4 0,
    .activationRestart 0 512] : List Instr).all (fun i => !i.wf) = true := by decide +kernel

/-- The rows of host commands. -/
def hostRows : List (HostCmd → Instr) := [
    .identify, .statusGet, .serviceEnter, .serviceLeave, .configBegin, .paramSet, .paramGet, .configCommit, .configAbort, .timebaseGet, .timebaseAlign, .pisteRead,
    .pisteWrite, .ringStatus, .ringEnumerate, .ringLeave, .nodeRead, .unitMapSet, .unitMapGet, .historyRead, .stringSampleRead, .directRead, .balClear, .catalogueRead,
    .stringEstRead, .capacityWrite, .masterTableLoad, .limitsRead, .thermalRead, .sensorRead, .stringConnect, .stringDisconnect, .stringLock, .stringUnlock,
    .stringWeldRelease, .stringRead, .safetyReset, .sinReset, .safetyRead, .execRead, .coreUnfence, .debugSet, .sessionOpen, .sessionAuth, .sessionClose, .sessionPing,
    .cmdCancel, .tagQuery, .noticeSubscribe, .keyProvision, .clusterRead, .canTx, .canRxRead, .canStatus, .canRecover, .logRead, .counterRead, .vitrineTake, .dumpRead,
    .fwStageBegin, .fwStageData, .fwStageVerify, .fwActivate, .fwInfo, .hibernate, .retainedSave]

/-- A command outside the packet's fields, for each check of `HostCmd.wf`: session, queue, tag, length, transport (R364, R369). -/
theorem test_wf_refuses_host : hostRows.all (fun row => [{ cm [] with sess := 8 }, { cm [] with queue := 16 }, { cm [] with tag := 65536 },
    cm (List.replicate 4097 0), { cm [] with port := 3 }].all (fun c => !(row c).wf)) = true := by decide +kernel
theorem test_wf_admits : hostRows.all (fun row => (row (cm [])).wf) = true := by decide +kernel

/-! ## Worked figures of the spec -/

/-- 03 R74: the CRC-16 of the nine characters. -/
theorem test_crc16_check_value : crc16 (ascii "123456789") = 0x29B1 := by decide +kernel
/-- 11, the window of R338 that begins with addi x5, x0, 7 at 0x1234. -/
theorem test_signature_of_addi : signature [{ pc := 0x1234, wr := [(1, 5, 7)] }] = 0xFB72EFFAFFFFFFE2#64 := by decide +kernel
/-- 11 R338: a write to x0 is no register write; a store gives two words. -/
theorem test_signature_words : retiredWords { pc := 0x1234, wr := [(1, 0, 7)] } = [0x048D000000000000#64] ∧
    retiredWords { pc := 0x1234, st := some (0x3, 0x20000010, 0xFFFF5678) } = [0x048D430020000010#64, 0x048D500000005678#64] := by decide +kernel
/-- 02, word 2 of gates 4 and 2 of the worked cycle. -/
theorem test_gate_words :
    (gateEn 0xA4004001, gateClass 0xA4004001, gatePair 0xA4004001, gateDiv 0xA4004001, gateAction 0xA4004001) = (true, 2, 1, 0, 0x4001) ∧
    (gateEn 0x96003002, gateClass 0x96003002, gatePair 0x96003002, gateDiv 0x96003002, gatePhase 0x96003002, gateAction 0x96003002) = (true, 1, 1, 4, 0, 0x3002) := by
  decide +kernel
/-- Gate 4 of the worked cycle still open at its deadline. -/
def missSt : State := on (fun d => wr (wr (wr { d with tb := { d.tb with running := true, cyc := 0x12345670 }, piste := { d.piste with open_ := [{ idx := 4, deadline := 0xE0000000, w2 := 0xA4004001, arg := 0, cyc := 0x12345670, local_ := 0x98A40 }] } }
  (PISTE_BANK + 4 * 16) 0xB3333333) (PISTE_BANK + 4 * 16 + 4) 0xE0000000) (PISTE_BANK + 4 * 16 + 8) 0xA4004001)
/-- 02, the missed gate of the worked cycle: EV_GATE_MISS_ESTIMATE with argument 0x4001_0004, angle 0xE000_0000, pair 1. -/
theorem test_gate_miss : (match exec (.gateDeadline 4) missSt with
    | .next t => (Tbl.get [] t.log.posts 1).any (fun p => p.code == Ev.GATE_MISS_ESTIMATE && p.arg == 0x40010004 && p.cyc == 0x12345670 && p.angle == 0xE0000000 && p.pair == 1)
    | _ => false) = true := by decide +kernel

/-- Slot 5 holds a snapshot with TAG 0xD; string 77 is screened at 3.6500 V. -/
def cellSt : Dev := { wr (wr (wr up0 (ACQ_HIST_SLOT + 5 * 16 + 4) 0xD) (ACQ_SCR_EN + 8) 0x2000) (ACQ_SCR_ACT + 77 * 4) (w32 (36500 * 65536)) with acq := { up0.acq with actB := [(77, ~~~(w32 (36500 * 65536)))] } }
/-- 04, the worked entry: cell 40,123 of string 77 in slot 5, with its bytes and the two words of its screen event. -/
theorem test_worked_history_entry :
    let t := storeCell cellSt 5 77 40123 (cellEntry cellSt 5 36512 0x61 0xC8 4 true false false false 0)
    cellHist 5 40123 = 0x20ACE5D8 ∧ Memory.bytes t.mem 0x20ACE5D8 8 = [0x00, 0x00, 0x8D, 0x48, 0xC8, 0x61, 0xA0, 0x8E] ∧
    rd t ACQ_SCR_EVT = 0xB04D9CBB ∧ rd t (ACQ_SCR_EVT + 4) = 0x8EA00000 := by decide +kernel

/-- What the impedance step takes: 50 Hz, set 0, the defaults of the floor, the filter and the rejection. -/
def wEnv : CellEnv := { lam := 0, snap := 0, th := fofRat 1000000 (2 * 50000000), om := omegaOf 50000000, single := true, tag := 0xD, cur := none, sOk := true, sFly := false, pre := 0, pim := 0, unexc := false, anchor := false, fallback := false, tver := 0, set := 0, temp := 0, tc2 := 0, sv := 0, sq := 0, gate := 0, qn := 0, ibal := 0, floor := 2000, alpha := 3, rej := 50 }
/-- 05, the worked impedance: L 20 nH, string phasor -6.44 + j3.14 A, 50 Hz, τ_ct 1.5 ms. -/
theorem test_worked_impedance :
    let s := { up0 with mem := Memory.writeBytes [] (setAddr 0 + 6) [20, 0] }
    let r := impStep s { wEnv with pre := -644, pim := 314 } { recOf (List.replicate 88 0) with inp := 0x8EA061C8480D0000, flags := 0x100 } 0x3AC49BA6
    r.zmag = 251 ∧ r.zph = 0xFB1E ∧ r.flags = 0 ∧ ffix r.rct 0 = 0 ∧ ffix (fmul r.rct 0x4CBEBC20) 0 = 6018 ∧ ffix (fmul r.rohm 0x4CBEBC20) 0 = 21764 := by decide +kernel

/-- 06, the worked learning: the string's new CAP_S and its SOH_C. -/
theorem test_worked_capacity : learnStr 500 968400000 1000800 0 = (984600, 0, false) ∧ soh100 984600 1008000 = 9768 ∧ soh100 1003725 1008000 = 9958 := by
  decide +kernel

/-- String 77 CLOSED, with the worked fuse. -/
def peakSt : Dev := { up0 with strs := [(77, { st := .sClosed })], parNow := [(0x500A, 2000000)] }
/-- 07, the worked peak at 400 A: 10.00 s to the conductor budget, 15.75 s to the fuse's, in units of 10 ms. -/
theorem test_worked_peak_conductor :
    (timeLeft peakSt 77 1 4000).map (fun t => (t + 5000) / 10000) = some 1000 ∧ (timeLeft peakSt 77 2 4000).map (fun t => (t + 5000) / 10000) = some 1575 := by
  decide +kernel

/-- 09 and 13, the worked pre-charge: E_p of 1,372.8 V at the default τ and 50.0 Ω, and the wait of 336 s for a second attempt. -/
theorem test_worked_precharge : predicted up0 27456 = 3769159 ∧ budgetWait up0 3769200 3769200 = 336 := by decide +kernel

/-- The next number is 0x3A1F7. -/
def logN : Dev := { up0 with log := { up0.log with next := 0x3A1F7 } }
/-- 16, the worked record: the SRAM bytes of number 0x3A1F7. -/
theorem test_worked_log_record :
    let t := assignRecord logN { code := 0x3003, arg := 0xB04D9CBB, cyc := 0x12345670, angle := 0x8E38E38E, sess := 0xF, pair := 0 }
    Memory.bytes t.mem 0x21643EE0 0x16 = [0xF7, 0xA1, 3, 0, 0, 0, 0, 0, 0x70, 0x56, 0x34, 0x12, 0, 0, 3, 0x30, 0x8E, 0xE3, 0x38, 0x8E, 4, 0x0F] ∧
    leNat (Memory.bytes t.mem 0x21643EF8 8) = 0xB04D9CBB ∧ t.log.next = 0x3A1F8 := by decide +kernel

/-! ## Steps -/

/-- An empty queue idles. Log 5. -/
theorem test_idle : step up = .next up := rfl
/-- The front command leaves the queue. -/
theorem test_front_leaves : (match step { up with pending := [.safetyTick [], .identify c0] } with
    | .next t => t.pending == [.identify c0] && t.uptimeMs == up.uptimeMs + 1 | _ => false) = true := by decide +kernel

end Sys2Proof.Tests
end

section
/-!
PROOFS. A host command that P2 admits runs its body on the device as it begins, and a CONFIG_COMMIT
that fails a cross-rule is answered with the parameter that the rule names (02 R51, 12 R385).
-/
namespace Sys2Proof.Machine

/-! ## A command as it begins -/

theorem begun_only (s : Dev) (op : Nat) (c : HostCmd) : Only [.host, .actor] s (begun s op c) :=
  Only.then (beginCmd_only _ _ _) rfl (Only.upd_actor rfl (Only.refl _ _))

@[simp] theorem begun_parCfg (s : Dev) (op : Nat) (c : HostCmd) : (begun s op c).parCfg = s.parCfg :=
  begun_only s op c .parCfg (by decide)

@[simp] theorem begun_uptimeMs (s : Dev) (op : Nat) (c : HostCmd) : (begun s op c).uptimeMs = s.uptimeMs :=
  begun_only s op c .uptimeMs (by decide)

/-- Of the host's record, a beginning changes the commands in flight and the places in the queues alone (12 R369, R370). -/
theorem begun_host (s : Dev) (op : Nat) (c : HostCmd) :
    ∃ fl pl, (begun s op c).host = { s.host with flight := fl, places := pl } := by
  unfold begun beginCmd
  split
  · exact ⟨_, _, rfl⟩
  · dsimp only
    split
    · exact ⟨_, _, rfl⟩
    · exact ⟨_, _, rfl⟩

@[simp] theorem begun_txn (s : Dev) (op : Nat) (c : HostCmd) : (begun s op c).host.txn = s.host.txn := by
  obtain ⟨fl, pl, e⟩ := begun_host s op c
  rw [e]

@[simp] theorem begun_commit (s : Dev) (op : Nat) (c : HostCmd) : (begun s op c).host.commit = s.host.commit := by
  obtain ⟨fl, pl, e⟩ := begun_host s op c
  rw [e]

@[simp] theorem begun_commitAt (s : Dev) (op : Nat) (c : HostCmd) : (begun s op c).host.commitAt = s.host.commitAt := by
  obtain ⟨fl, pl, e⟩ := begun_host s op c
  rw [e]

/-- An admitted command passes every check of `serve`, so its own effect follows its beginning. -/
theorem serve_admitted {s : Dev} {op : Nat} {c : HostCmd} (h : admitted s op c) (body : Dev → Dev) :
    serve s op c body = ended (body (begun s op c)) := by
  obtain ⟨hup, hbegun, hurgent, r, hrow, hcheck⟩ := h
  unfold begun at hcheck
  simp only [serve, hup, hbegun, hurgent, hrow, hcheck]
  rfl

/-! ## The cross-rules -/

theorem firstFail_cons_true (id : Nat) (l : List (Bool × Nat)) : firstFail ((true, id) :: l) = some id := rfl

/-- R51 stands first among the cross-rules, so its failure is the one that a commit names: `timebase.loss.amp_pct` (0x1007). -/
theorem crossFail_of_lock_le_loss (s : Dev) {v : Nat → Nat} (old : Nat → Nat) (ids : List Nat) (h : v 0x1006 ≤ v 0x1007) :
    crossFail s v old ids = some 0x1007 := by
  simp only [crossFail, crossBasic, List.cons_append, ge_iff_le, h, decide_true, firstFail_cons_true]

/-! ## CONFIG_COMMIT -/

theorem txnVal_congr {s t : Dev} (h : t.parCfg = s.parCfg) (x : Txn) : txnVal t x = txnVal s x := by
  funext id
  simp only [txnVal, parC, h]

@[simp] theorem within_begun (s : Dev) (op : Nat) (c : HostCmd) (m ms : Nat) : within (begun s op c) m ms = within s m ms := by
  simp only [within, begun_uptimeMs]

/-- The commit is judged: its session owns the transaction `x`, and no commit is under way or within the last second (12 R385). -/
structure CommitJudged (s : Dev) (c : HostCmd) (x : Txn) : Prop where
  txn : s.host.txn = some x
  owner : x.owner = c.sess
  idle : s.host.commit = none
  spaced : within s s.host.commitAt 1000 = false

theorem CommitJudged.begun {s : Dev} {c : HostCmd} {x : Txn} (h : CommitJudged s c x) (op : Nat) :
    CommitJudged (begun s op c) c x :=
  ⟨by simpa using h.txn, h.owner, by simpa using h.idle, by simpa using h.spaced⟩

/-- A judged commit that fails a cross-rule is refused with the parameter that the rule names. -/
theorem configCommitBody_of_crossFail {s : Dev} {c : HostCmd} {x : Txn} {id : Nat} (h : CommitJudged s c x)
    (hf : crossFail s (txnVal s x) (parC s) (x.vals.map (·.1)) = some id) :
    configCommitBody c s = finish s OP_CONFIG_COMMIT c ST_BAD_PARAM [w32 id] := by
  obtain ⟨htxn, howner, hidle, hspaced⟩ := h
  simp [configCommitBody, htxn, howner, hidle, hspaced, hf]

/-- An admitted and judged commit that fails a cross-rule as it begins is answered ST_BAD_PARAM at once and changes no parameter. -/
theorem configCommit_completes_badParam {s : State} {c : HostCmd} {x : Txn} {id : Nat} (hawake : Awake s)
    (hadm : admitted s.toDev OP_CONFIG_COMMIT c) (hj : CommitJudged s.toDev c x)
    (hf : crossFail (begun s.toDev OP_CONFIG_COMMIT c) (txnVal s.toDev x) (parC (begun s.toDev OP_CONFIG_COMMIT c)) (x.vals.map (·.1)) = some id) :
    Completes (.configCommit c) s (fun t =>
      t = replied s.toDev OP_CONFIG_COMMIT c ST_BAD_PARAM [w32 id] ∧ t.parCfg = s.parCfg ∧ t.parNow = s.parNow) := by
  have hbody := configCommitBody_of_crossFail (hj.begun OP_CONFIG_COMMIT)
    (by rw [txnVal_congr (begun_parCfg _ _ _)]; exact hf)
  have hreply : configCommit c s.toDev = replied s.toDev OP_CONFIG_COMMIT c ST_BAD_PARAM [w32 id] := by
    unfold configCommit replied
    rw [serve_admitted hadm, hbody]
  have hframe := configCommit_only c s.toDev
  exact completes_live (f := configCommit c) rfl hawake
    ⟨hreply, hframe .parCfg (by decide), hframe .parNow (by decide)⟩

theorem Completes.imp {c : Instr} {s : State} {P Q : Dev → Prop} (h : Completes c s P) (k : ∀ t, P t → Q t) : Completes c s Q := by
  obtain ⟨t, he, hpending, hpins, hP⟩ := h
  exact ⟨t, he, hpending, hpins, k _ hP⟩

/-- Settles O51: R51 is the first cross-rule, so a judged commit that breaks it is refused with parameter 0x1007. -/
theorem lossBelowLock : Obligations.LossBelowLock := by
  intro s c x hawake hadm htxn howner hidle hspaced hle
  have hf := crossFail_of_lock_le_loss (begun s.toDev OP_CONFIG_COMMIT c) (parC (begun s.toDev OP_CONFIG_COMMIT c)) (x.vals.map (·.1)) hle
  refine (configCommit_completes_badParam hawake hadm ⟨htxn, howner, hidle, hspaced⟩ hf).imp ?_
  rintro t ⟨hreply, hcfg, hnow⟩
  exact ⟨⟨0x1007, hreply⟩, hcfg, hnow⟩

end Sys2Proof.Machine
end

section
/-!
PROOFS. A rule that fails, wherever it stands among the cross-rules, refuses the commit; a staged change of a parameter marked
"in STANDBY only" is such a rule outside STANDBY (11 R361, 12 R385).
-/
namespace Sys2Proof.Machine

/-- A list that holds a failing rule has a first failing rule, perhaps an earlier one. -/
theorem exists_firstFail_of_mem {l : List (Bool × Nat)} {id : Nat} (h : (true, id) ∈ l) : ∃ id', firstFail l = some id' := by
  have hfound : (l.find? (fun e => e.1)).isSome := List.find?_isSome.mpr ⟨_, h, rfl⟩
  obtain ⟨e, he⟩ := Option.isSome_iff_exists.mp hfound
  exact ⟨e.2, by simp [firstFail, he]⟩

/-- Outside STANDBY, a staged parameter that is marked "in STANDBY only" and changes fails its rule. -/
theorem mem_crossStandby {s : Dev} {v old : Nat → Nat} {ids : List Nat} {id : Nat} {r : Params.ParamRow} (hdev : s.dev ≠ .standby)
    (hid : id ∈ ids) (hrow : Params.paramRow id = some r) (hr : r.standby = true) (hchange : v id ≠ old id) :
    (true, id) ∈ crossStandby s v old ids :=
  List.mem_map.mpr ⟨id, hid, by simp [hdev, hchange, hrow, hr]⟩

theorem exists_crossFail_of_mem_crossStandby {s : Dev} {v old : Nat → Nat} {ids : List Nat} {id : Nat}
    (h : (true, id) ∈ crossStandby s v old ids) : ∃ id', crossFail s v old ids = some id' :=
  exists_firstFail_of_mem (id := id) (by simp only [List.mem_append, h, true_or, or_true])

/-- A transaction changes only the parameters that it stages. -/
theorem mem_vals_of_txnVal_ne {s : Dev} {x : Txn} {id : Nat} (h : txnVal s x id ≠ parC s id) : id ∈ x.vals.map (·.1) := by
  unfold txnVal at h
  split at h
  case h_1 e hfind =>
    have hkey : e.1 = id := by simpa using List.find?_some hfind
    exact List.mem_map.mpr ⟨e, List.mem_of_find?_eq_some hfind, hkey⟩
  case h_2 => exact absurd rfl h

/-- `exe.policy` is a parameter of the catalogue, marked "in STANDBY only" (11 R361). -/
theorem exePolicy_standby : ∃ r, Params.paramRow 0x9001 = some r ∧ r.standby = true := ⟨_, rfl, rfl⟩

/-- Settles O52: outside STANDBY the staged change of `exe.policy` fails a cross-rule, so the commit is refused with the parameter
of the first rule that fails. -/
theorem policyInStandbyOnly : Obligations.PolicyInStandbyOnly := by
  intro s c x hawake hadm htxn howner hidle hspaced hdev hchange
  obtain ⟨r, hrow, hr⟩ := exePolicy_standby
  have hdev' : (begun s.toDev OP_CONFIG_COMMIT c).dev ≠ .standby := by
    rw [begun_only s.toDev OP_CONFIG_COMMIT c .dev (by decide)]
    exact hdev
  have hchange' : txnVal s.toDev x 0x9001 ≠ parC (begun s.toDev OP_CONFIG_COMMIT c) 0x9001 := by
    simpa only [parC, begun_parCfg] using hchange
  obtain ⟨id, hf⟩ := exists_crossFail_of_mem_crossStandby (mem_crossStandby hdev' (mem_vals_of_txnVal_ne hchange) hrow hr hchange')
  refine (configCommit_completes_badParam hawake hadm ⟨htxn, howner, hidle, hspaced⟩ hf).imp ?_
  rintro t ⟨hreply, hcfg, hnow⟩
  exact ⟨⟨id, hreply⟩, hcfg, hnow⟩

end Sys2Proof.Machine
end

section
/-!
PROOFS. A read of a counter's halves: what it returns and latches for the pair that reads, what enters that pair's input log, and
that a pair in recovery reads nothing (11 R335, R336, 16 R489).
-/
namespace Sys2Proof.Machine

/-! ## The pairs, and an input that enters the log of one -/

@[simp] theorem getPair_setPair_same (s : Dev) (p : Nat) (v : Pair) : getPair (setPair s p v) p = v := by
  unfold getPair setPair
  repeat' split
  all_goals grind

/-- Pairs 3 and above are one, so the two pairs are to be among the four. -/
theorem getPair_setPair_ne (s : Dev) {p q : Nat} (v : Pair) (hp : p < 4) (hq : q < 4) (hne : q ≠ p) :
    getPair (setPair s p v) q = getPair s q := by
  unfold getPair setPair
  repeat' split
  all_goals grind

theorem getPair_congr {s t : Dev} (h : t.exe = s.exe) (p : Nat) : getPair t p = getPair s p := by
  simp only [getPair, h]

theorem pairUp_congr {s t : Dev} (h : t.exe = s.exe) (p : Nat) : pairUp t p = pairUp s p := by
  simp only [pairUp, getPair_congr h]

/-- From `s` to `t` one input entered the log of pair `p`, and every other pair is as it was. -/
def InputLogged (s t : Dev) (p idx : Nat) (v : U32) : Prop :=
  (getPair t p).inLog = ((getPair s p).inLog ++ [(idx, v)]).take 1024 ∧ (∀ q, q < 4 → q ≠ p → getPair t q = getPair s q)

@[simp] theorem logInput_readVal (s : Dev) (p idx : Nat) (v : U32) : (logInput s p idx v).readVal = s.readVal :=
  logInput_only s p idx v .readVal (by decide)

@[simp] theorem logInput_cnt (s : Dev) (p idx : Nat) (v : U32) : (logInput s p idx v).cnt = s.cnt :=
  logInput_only s p idx v .cnt (by decide)

/-- A read that changes no pair logs the value that it returns. -/
theorem logInput_inputLogged {s u : Dev} {p : Nat} (hp : p < 4) (he : u.exe = s.exe) (idx : Nat) :
    InputLogged s (logInput u p idx u.readVal) p idx (logInput u p idx u.readVal).readVal := by
  rw [logInput_readVal]
  unfold InputLogged logInput
  refine ⟨?_, fun q hq hne => ?_⟩
  · simp only [getPair_setPair_same, getPair_congr he]
  · rw [getPair_setPair_ne u _ hp hq hne, getPair_congr he]

/-- A pair that runs logs an input under a free index of its window (Log 120). -/
theorem logFree_of_pairUp {s : Dev} {p : Nat} (h : pairUp s p = true) (v : U32) :
    logFree s p v = logInput (takeNat s 512).2 p (takeNat s 512).1 v := by
  simp only [logFree, h, if_true]

theorem takeNat_lt (s : Dev) {n : Nat} (h : 0 < n) : (takeNat s n).1 < n := Nat.mod_lt _ h

/-! ## The word that CNTn_LO latches -/

theorem counterVal_div_lt (s : Dev) (n : Nat) : counterVal s n / 2 ^ 32 < 2 ^ 16 := by
  have hlo : rdN s (CNT_VAL + n * 8) < 2 ^ 32 := (rd s (CNT_VAL + n * 8)).isLt
  unfold counterVal
  omega

/-- A half of 16 bits and a flag at bit 31 do not meet in the word. -/
theorem toNat_latchWord {h : Nat} (hh : h < 2 ^ 16) (b : Bool) : (w32 (h + b2n b * 2 ^ 31)).toNat = h + b2n b * 2 ^ 31 := by
  have hb : b2n b ≤ 1 := by cases b <;> decide
  unfold w32
  rw [BitVec.toNat_ofNat]
  omega

theorem fld_latchWord {h : Nat} (hh : h < 2 ^ 16) (b : Bool) : fld (w32 (h + b2n b * 2 ^ 31)) 0 16 = h := by
  unfold fld
  rw [toNat_latchWord hh]
  omega

theorem bitOf_latchWord {h : Nat} (hh : h < 2 ^ 16) (b : Bool) : bitOf (w32 (h + b2n b * 2 ^ 31)) 31 = b := by
  unfold bitOf fld
  rw [toNat_latchWord hh]
  cases b <;> simp [b2n] <;> omega

/-- From `s` to `t` pair `p` read CNTn_LO: the low half is returned, the other half and the flag are in the latch of `p`, and every other
latch is as it was (16 R489). -/
def LatchesCounter (s t : Dev) (p n : Nat) : Prop :=
  t.readVal = w32 (counterVal s n) ∧ fld (Tbl.get 0 t.cnt.latch p) 0 16 = counterVal s n / 2 ^ 32 ∧
    bitOf (Tbl.get 0 t.cnt.latch p) 31 = counterOvf s n ∧ (∀ q, q ≠ p → Tbl.get 0 t.cnt.latch q = Tbl.get 0 s.cnt.latch q)

theorem cntTake_latchesCounter (s : Dev) (p n : Nat) : LatchesCounter s (cntTake p n s) p n := by
  unfold LatchesCounter cntTake
  refine ⟨rfl, ?_, ?_, fun q hq => Tbl.get_set_ne 0 0 _ _ hq⟩
  · rw [Tbl.get_set_same, fld_latchWord (counterVal_div_lt s n)]
  · rw [Tbl.get_set_same, bitOf_latchWord (counterVal_div_lt s n)]

theorem LatchesCounter.congr {s t u : Dev} {p n : Nat} (h : LatchesCounter s t p n) (hc : u.cnt = t.cnt) (hr : u.readVal = t.readVal) :
    LatchesCounter s u p n := by
  simpa only [LatchesCounter, hc, hr] using h

/-! ## CNT_LO_READ -/

@[simp] theorem cntTake_exe (p n : Nat) (s : Dev) : (cntTake p n s).exe = s.exe := cntTake_only p n s .exe (by decide)

theorem cntTake_readVal (p n : Nat) (s : Dev) : (cntTake p n s).readVal = w32 (counterVal s n) := by
  unfold cntTake
  rfl

theorem cntLoRead_of_run {s : Dev} {p : Nat} (n : Nat) (hup : pairUp s p = true) (hrun : (getPair s p).recov = .run) :
    cntLoRead p n s = logFree (cntTake p n s) p (cntTake p n s).readVal := by
  rw [cntTake_readVal]
  simp [cntLoRead, hup, hrun]

/-- A pair that runs latches the counter and logs the word it read under a free index. -/
theorem exists_cntLoRead_eq_logInput {s : Dev} {p : Nat} (n : Nat) (hup : pairUp s p = true) (hrun : (getPair s p).recov = .run) :
    ∃ idx u, idx < 512 ∧ u.exe = s.exe ∧ u.cnt = (cntTake p n s).cnt ∧ u.readVal = (cntTake p n s).readVal ∧
      cntLoRead p n s = logInput u p idx u.readVal := by
  have hup' : pairUp (cntTake p n s) p = true := by rw [pairUp_congr (cntTake_exe p n s), hup]
  have hread := cntLoRead_of_run n hup hrun
  rw [logFree_of_pairUp hup'] at hread
  exact ⟨_, _, takeNat_lt _ (by decide), (takeNat_exe _ _).trans (cntTake_exe p n s), takeNat_cnt _ _, takeNat_readVal _ _, hread⟩

theorem cntLoRead_of_recovery {s : Dev} {p : Nat} (n : Nat) (h : (getPair s p).recov ≠ .run) : cntLoRead p n s = s := by
  simp [cntLoRead, h]

/-! ## The counter bank as registers -/

/-- `a` is the address of a word of the counter bank: CNTn_LO or CNTn_HI of one of 2,048 counters (16 R501). -/
structure InCounterBank (a : Nat) : Prop where
  first : 0x400D8000 ≤ a
  last : a < 0x400DC000
  aligned : a % 4 = 0

theorem inCounterBank_lo {n : Nat} (hn : n < 2048) : InCounterBank (CNT_VAL + n * 8) := by
  unfold CNT_VAL
  constructor <;> omega

theorem inCounterBank_hi {n : Nat} (hn : n < 2048) : InCounterBank (CNT_VAL + n * 8 + 4) := by
  unfold CNT_VAL
  constructor <;> omega

theorem RegRow.holds_iff (r : RegRow) (a : Nat) :
    r.holds a = true ↔ r.first ≤ a ∧ (a - r.first) % r.stride = 0 ∧ (a - r.first) / r.stride < r.count := by
  simp only [RegRow.holds, Bool.and_eq_true, decide_eq_true_eq, and_assoc]

theorem InCounterBank.exists_regRow {a : Nat} (h : InCounterBank a) : ∃ r, regRow a = some r := by
  obtain ⟨hfirst, hlast, haligned⟩ := h
  have hrows : regRowsAt a = regsCnt := by
    unfold regRowsAt
    iterate 9 rw [if_neg (by omega)]
    rw [if_pos (by omega)]
  have hheld : RegRow.holds (rwRow 0x400D8000 4096 4 0 0xFFFFFFFF 0 0 4) a = true :=
    (RegRow.holds_iff _ _).mpr ⟨hfirst, show (a - 0x400D8000) % 4 = 0 by omega, show (a - 0x400D8000) / 4 < 4096 by omega⟩
  rw [regRow, hrows, ← Option.isSome_iff_exists, List.find?_isSome]
  exact ⟨_, by simp [regsCnt], hheld⟩

theorem InCounterBank.not_readBarred {a : Nat} (h : InCounterBank a) (p : Nat) : readBarred p a = false := by
  obtain ⟨hfirst, _, _⟩ := h
  have hcan : canOff a = none := if_neg (by omega)
  have hram : ¬ a < 0x30080000 := by omega
  simp [readBarred, hcan, hram]

theorem InCounterBank.readActs_eq_true {a : Nat} (h : InCounterBank a) : readActs a = true := by
  obtain ⟨hfirst, hlast, _⟩ := h
  simp [readActs, hfirst, hlast]

/-- A pair that runs and reads the counter bank logs what the read returns. -/
theorem readClearRegister_counter {s : Dev} {p a : Nat} (set : U32) (idx : Nat) (hup : pairUp s p = true)
    (hrun : (getPair s p).recov = .run) (h : InCounterBank a) :
    readClearRegister p ⟨a, set, idx⟩ s = logInput (readEffect p a s) p idx (readEffect p a s).readVal := by
  obtain ⟨r, hr⟩ := h.exists_regRow
  simp [readClearRegister, hup, hrun, h.not_readBarred, hr, readTake, h.readActs_eq_true]

/-- No other register whose read acts lies in the counter bank. -/
theorem InCounterBank.readEffect_eq {a : Nat} (h : InCounterBank a) (p : Nat) (s : Dev) :
    readEffect p a s = if a % 8 = 0 then cntTake p ((a - CNT_VAL) / 8) s else { s with readVal := Tbl.get 0 s.cnt.latch p } := by
  obtain ⟨hfirst, _, _⟩ := h
  have hangle : a ≠ TB_ANGLE := by unfold TB_ANGLE; omega
  have hevent : a ≠ ACQ_SCR_EVT + 12 := by unfold ACQ_SCR_EVT; omega
  have hlink : a ≠ CL_TS_LO := by unfold CL_TS_LO; omega
  simp only [readEffect, if_neg hangle, if_neg hevent, if_neg hlink]

theorem readEffect_cntLo (p : Nat) {n : Nat} (hn : n < 2048) (s : Dev) : readEffect p (CNT_VAL + n * 8) s = cntTake p n s := by
  have hindex : (CNT_VAL + n * 8 - CNT_VAL) / 8 = n := by omega
  rw [(inCounterBank_lo hn).readEffect_eq, if_pos (by unfold CNT_VAL; omega), hindex]

theorem readEffect_cntHi (p : Nat) {n : Nat} (hn : n < 2048) (s : Dev) :
    readEffect p (CNT_VAL + n * 8 + 4) s = { s with readVal := Tbl.get 0 s.cnt.latch p } := by
  rw [(inCounterBank_hi hn).readEffect_eq, if_neg (by unfold CNT_VAL; omega)]

theorem readClearRegister_of_recovery {s : Dev} {p : Nat} (x : RegRead) (h : (getPair s p).recov ≠ .run) :
    readClearRegister p x s = s := by
  simp [readClearRegister, h]

/-! ## The reads complete -/

theorem cntLoRead_completes {s : State} {p : Nat} (n : Nat) (hawake : Awake s) (hp : p < 4) (hup : pairUp s.toDev p = true)
    (hrun : (getPair s.toDev p).recov = .run) :
    Completes (.cntLoRead p n) s (fun t => LatchesCounter s.toDev t p n ∧ (∃ idx, idx < 512 ∧ InputLogged s.toDev t p idx t.readVal) ∧
      Only [.exe, .cnt, .freeCtr, .readVal] s.toDev t) := by
  obtain ⟨idx, u, hidx, hexe, hcnt, hval, hread⟩ := exists_cntLoRead_eq_logInput n hup hrun
  refine completes_live (f := cntLoRead p n) rfl hawake ⟨?_, ⟨idx, hidx, ?_⟩, cntLoRead_only p n s.toDev⟩
  · exact (cntTake_latchesCounter s.toDev p n).congr (by simp [hread, hcnt]) (by simp [hread, hval])
  · simpa only [hread] using logInput_inputLogged hp hexe idx

theorem readCntHi_completes {s : State} {p n : Nat} (set : U32) (idx : Nat) (hawake : Awake s) (hp : p < 4) (hn : n < 2048)
    (hup : pairUp s.toDev p = true) (hrun : (getPair s.toDev p).recov = .run) :
    Completes (.readClearRegister p ⟨CNT_VAL + n * 8 + 4, set, idx⟩) s (fun t => t.readVal = Tbl.get 0 s.cnt.latch p ∧
      InputLogged s.toDev t p idx t.readVal ∧ Only [.exe, .readVal] s.toDev t) := by
  refine completes_live (f := readClearRegister p ⟨CNT_VAL + n * 8 + 4, set, idx⟩) rfl hawake ?_
  rw [readClearRegister_counter set idx hup hrun (inCounterBank_hi hn), readEffect_cntHi p hn]
  exact ⟨logInput_readVal _ _ _ _, logInput_inputLogged hp rfl idx, Only.then (logInput_only _ p idx _) rfl (Only.upd_readVal rfl (Only.refl _ _))⟩

theorem readCntLo_completes {s : State} {p n : Nat} (set : U32) (idx : Nat) (hawake : Awake s) (hp : p < 4) (hn : n < 2048)
    (hup : pairUp s.toDev p = true) (hrun : (getPair s.toDev p).recov = .run) :
    Completes (.readClearRegister p ⟨CNT_VAL + n * 8, set, idx⟩) s (fun t => LatchesCounter s.toDev t p n ∧
      InputLogged s.toDev t p idx t.readVal ∧ Only [.cnt, .exe, .readVal] s.toDev t) := by
  refine completes_live (f := readClearRegister p ⟨CNT_VAL + n * 8, set, idx⟩) rfl hawake ?_
  rw [readClearRegister_counter set idx hup hrun (inCounterBank_lo hn), readEffect_cntLo p hn]
  exact ⟨(cntTake_latchesCounter s.toDev p n).congr (logInput_cnt _ _ _ _) (logInput_readVal _ _ _ _),
    logInput_inputLogged hp (cntTake_exe p n s.toDev) idx,
    Only.then (logInput_only _ p idx _) rfl ((cntTake_only p n s.toDev).mono rfl)⟩

/-- Settles O43: the row and the register read of CNTn_LO both take the counter for the pair that reads, CNTn_HI returns that pair's
latch, and each logs what it returned; in recovery none of them touches the device. -/
theorem counterReadLatches : Obligations.CounterReadLatches := by
  intro s p n hawake hp hn hup
  refine ⟨fun hrun => ?_, fun hrun set idx => ?_, fun hrec => ?_⟩
  · refine (cntLoRead_completes n hawake hp hup hrun).imp ?_
    rintro t ⟨hlatch, ⟨idx, hidx, hlog, hothers⟩, honly⟩
    exact ⟨hlatch, ⟨idx, hidx, hlog⟩, hothers, honly⟩
  · exact ⟨readCntHi_completes set idx hawake hp hn hup hrun, readCntLo_completes set idx hawake hp hn hup hrun⟩
  · exact ⟨completes_live (f := cntLoRead p n) rfl hawake (cntLoRead_of_recovery n hrec),
      fun a set idx => completes_live (f := readClearRegister p ⟨a, set, idx⟩) rfl hawake (readClearRegister_of_recovery _ hrec)⟩

end Sys2Proof.Machine
end

section
/-!
PROOFS. A MASTER_TABLE_LOAD that would write the master set within 10 s of the previous write is answered ST_BUSY (13 R410, 17 R534).
-/
namespace Sys2Proof.Machine

@[simp] theorem begun_pwr (s : Dev) (op : Nat) (c : HostCmd) : (begun s op c).pwr = s.pwr :=
  begun_only s op c .pwr (by decide)

@[simp] theorem length_wordsToBytes (l : List U32) : (wordsToBytes l).length = 4 * l.length := by
  induction l with
  | nil => rfl
  | cons w l ih =>
    rw [wordsToBytes] at ih
    rw [wordsToBytes, List.flatMap_cons, List.length_append, leBytes_length, ih, List.length_cons]
    omega

theorem within_iff (s : Dev) {m ms : Nat} (hms : 0 < ms) : within s m ms = true ↔ m ≠ 0 ∧ s.uptimeMs + 1 < m + ms := by
  simp only [within, Bool.and_eq_true, bne_iff_ne, decide_eq_true_eq]
  omega

/-- The load meets the checks of its form and of its session: no reserved bit, an aligned chunk inside the 65,536 bytes of a set,
no set that waits for P1, and no load open but its own (13 R410). -/
structure LoadWellFormed (s : Dev) (c : HostCmd) : Prop where
  words : 2 ≤ c.payload.length
  reserved : fld (pw c 0) 3 28 = 0
  aligned : pwN c 1 % 4 = 0
  inSet : pwN c 1 + 4 * (c.payload.length - 2) ≤ 65536
  noWait : s.pwr.loadWait = none
  own : ∀ e, s.pwr.load = some e → e = (fld (pw c 0) 0 3, c.sess)

theorem LoadWellFormed.begun {s : Dev} {c : HostCmd} (h : LoadWellFormed s c) (op : Nat) : LoadWellFormed (begun s op c) c :=
  ⟨h.words, h.reserved, h.aligned, h.inSet, by simpa using h.noWait, by simpa using h.own⟩

/-- A well-formed load with LAST is refused, before it stages anything, while the previous write is less than 10 s old. -/
theorem masterTableLoadBody_of_recent {s : Dev} {c : HostCmd} (h : LoadWellFormed s c) (hlast : bitOf (pw c 0) 31 = true)
    (hrecent : within s s.pwr.masterAt 10000 = true) :
    masterTableLoadBody c s = answer s OP_MASTER_TABLE_LOAD c ST_BUSY := by
  obtain ⟨hwords, hreserved, haligned, hinSet, hnoWait, hown⟩ := h
  have hlong : ¬ c.payload.length < 2 := Nat.not_lt.mpr hwords
  have hform : ¬ (fld (pw c 0) 3 28 ≠ 0 ∨ pwN c 1 % 4 ≠ 0) := fun h => h.elim (· hreserved) (· haligned)
  have hfits : ¬ pwN c 1 + (wordsToBytes (c.payload.drop 2)).length > 65536 := by
    rw [length_wordsToBytes, List.length_drop]
    exact Nat.not_lt.mpr hinSet
  have hspacing : (bitOf (pw c 0) 31 && within s s.pwr.masterAt 10000) = true := by rw [hlast, hrecent, Bool.and_self]
  dsimp only [masterTableLoadBody]
  rw [if_neg hlong, if_neg hform, if_neg hfits, if_neg, if_pos hspacing]
  rw [hnoWait]
  cases hload : s.pwr.load with
  | none => exact Bool.false_ne_true
  | some e =>
    rw [hown e hload]
    simp only [Option.isSome_none, Bool.false_or, bne_self_eq_false, Bool.false_eq_true, not_false_eq_true]

/-- Settles O53: the load is well-formed as it begins, so the spacing of R534 is the first check that fails, and its only effect is the
answer. -/
theorem masterLoadSpacing : Obligations.MasterLoadSpacing := by
  intro s c hawake hadm hwords hreserved haligned hinSet hnoWait hown hlast hwritten hrecent
  have hform : LoadWellFormed s.toDev c := ⟨hwords, hreserved, haligned, hinSet, hnoWait, hown⟩
  have hwithin : within s.toDev s.pwr.masterAt 10000 = true := (within_iff _ (by decide)).mpr ⟨hwritten, hrecent⟩
  have hbody := masterTableLoadBody_of_recent (hform.begun OP_MASTER_TABLE_LOAD) hlast (by simpa using hwithin)
  refine completes_live (f := masterTableLoad c) rfl hawake ?_
  unfold masterTableLoad replied
  rw [serve_admitted hadm, hbody, answer]

end Sys2Proof.Machine
end
